-- ==== Sys2Proof/Word.lean ====
section
/-! DEFINITION. Word.lean: the machine word of the register window (R7) and the byte of its memories. -/

namespace Sys2Proof

/-- A 32-bit register or tile word (R7, R124). -/
abbrev Word := BitVec 32

/-- A byte of memory or of a message. -/
abbrev Byte := BitVec 8

end Sys2Proof
end

