-- ==== Sys2Proof/Syntax.lean ====
section
/-! DEFINITION. Syntax.lean: the commands of the block and what their operands are made of. -/

namespace Sys2Proof

/-- An Announce as IEEE 1588 carries it (R251): the data set that the best master comparison uses, the sender's port
identity, the time properties kept (R246), and whether it uses no option outside R249. -/
structure AnnounceMsg where
  prio1 : Nat
  cls : Nat
  accuracy : Nat
  variance : Nat
  prio2 : Nat
  gmId : Nat
  steps : Nat
  srcId : Nat
  srcPort : Nat
  utcOffset : Nat
  utcValid : Bool
  leap59 : Bool
  leap61 : Bool
  profile : Bool
  deriving DecidableEq, Repr

/-- A PTP message the module sends, under the options of R249: its sequenceId, its logMessageInterval where it has one, and
what it carries. -/
inductive PtpMsg
  | sync (seq : Nat) (logInterval : Int)
  | followUp (seq origin : Nat) (logInterval : Int)
  | delayReq (seq : Nat)
  | delayResp (seq reqId reqPort rx : Nat) (corr logInterval : Int)
  | announce (seq : Nat) (logInterval : Int) (a : AnnounceMsg)
  deriving DecidableEq, Repr

namespace Machine

/-- Who holds a schedule entry: nobody, the pattern, a tile, a host, or a SARM not yet committed. -/
inductive SchedOwner
  | free | pattern | tile (t : Nat) | host | reserved (t : Nat)
  deriving DecidableEq, Repr

/-- A schedule entry beside its record words: its owner and the next occurrence (in A of R248). -/
structure SchedSt where
  owner : SchedOwner
  next : Nat
  deriving DecidableEq, Repr

/-- What a channel was last sent (R175, R176): `fadeMs`, `curve` and `start` are those of its last change, `flags` the FLAGS of
the command itself. -/
structure Sent where
  level : Nat
  cct : Nat
  phase : Nat
  fadeMs : Nat
  curve : Nat
  start : Nat
  flags : Nat
  at_ : Int
  deriving DecidableEq, Repr

/-- A channel beside its registers: light-ahead expiry (TN ns), override deadline (TCXO cycle), daylight integrator and the
thousandths its rise has left over (R182), instants of the last report, lux and verified report, last temperature and its
instant, the derating latch, measured CCT and its instant, what was last sent, the level last planned, whether its offset is
still to be sent, and the last STRETCH. An instant that a mirror set brought may lie before this member's own start. -/
structure Chan where
  laExp : Nat
  ovrEnd : Option Nat
  dlI : Nat
  dlRem : Nat
  repAt : Option Int
  luxAt : Option Int
  verAt : Option Int
  temp : Option Int
  tempAt : Int
  hot : Bool
  cctMeas : Option Nat
  cctAt : Int
  sent : Option Sent
  planned : Nat
  phaseDue : Bool
  stretchAt : Option Int
  deriving DecidableEq, Repr

/-- A presence or bay source as OFE keeps it (R218 to R221, R234, R235): P, TC and TA (low 32 bits of A; none before the
first), the rate bucket and when it was last counted, stuck and lost marks, whether an event has passed step 1, bay state (0
FREE, 1 OCCUPIED, 2 UNKNOWN), and the TCXO cycles at which P last rose, an event was last taken, and an event last passed
step 1 (before the first one, the start of R235's count). -/
structure Sensor where
  p : Bool
  tc : Option Nat
  ta : Option Nat
  tokens : Nat
  tokAt : Int
  stuck : Bool
  lost : Bool
  heard : Bool
  bay : Nat
  roseAt : Int
  takenAt : Int
  passedAt : Int
  deriving DecidableEq, Repr

/-- A track (R222), with the band of its last move (R226). -/
structure Track where
  live : Bool
  node : Nat
  prev : Nat
  tLast : Nat
  vq : Nat
  cls : Nat
  hits : Nat
  serial : Nat
  band : Nat
  deriving DecidableEq, Repr

/-- A freshness mark (R311): source UNIT, class, AIRTIME48, header bytes and MIC bytes of the frame that set it. -/
structure Mark where
  unit : Nat
  cls : Nat
  stamp : Nat
  hdr : List Nat
  mic : List Nat
  deriving DecidableEq, Repr

/-- A seam message (R453, R454): sender's UID, role, epoch, the counter of its first frame, health report, the running SERIAL, the
send time of a RENEW it carries and of the RENEW its vote answers, whether the mirror set of a hand-over is applied (R458), whether
the sender is in hem (R459), whether it holds its slices suspended (R460), whether its RELEASE returns the lease (R470), the MICs of
its frames, 16 bytes each, and the sender's link-layer address. -/
structure SeamBeat where
  uid : Nat
  role : Nat
  epoch : Nat
  counter : Nat
  health : Nat
  serial : Nat
  renew : Option Nat
  vote : Option Nat
  applied : Bool
  hem : Bool
  held : Bool
  back : Bool
  mic : List Nat
  mac : Nat
  deriving DecidableEq, Repr

/-- A LEASE_WITNESS message (R489) with the MOD it came from. -/
structure WitMsg where
  op : Nat
  mod : Nat
  member : Nat
  role : Nat
  voteFor : Nat
  uid : Nat
  epoch : Nat
  time : Nat
  health : Nat
  remain : Nat
  seq : Nat
  deriving DecidableEq, Repr

/-- One chip of a circuit (R360, R363): its number, the sum of E / T in 2^−48 W and the cycles in it, whether it is
invalid, and each member's reference power in 0.1 W and NO_REF mark. -/
structure Chip where
  q : Nat
  sum : Int
  n : Nat
  bad : Bool
  refs : List Nat
  noRef : List Bool
  deriving DecidableEq, Repr

/-- The correlator of one circuit (R360 to R366): chips, the window's Gram matrix, products by lag, power sum and chip
weight in 2^−48, its used periods, the lag, for each lag the run of periods in which it scored higher than the locked one, and
each member's NO_REF of the last period, and the last period used. -/
structure AttCirc where
  chips : List Chip
  gram : List (List Int)
  prod : List (List Int)
  yy : Int
  weight : Int
  periods : Nat
  lag : Nat
  locked : Bool
  runs : List Nat
  noRef : List Bool
  last : Nat
  due : Bool
  deriving DecidableEq, Repr

/-- What a witness holds of one pair (R451): the pair's MOD, the member voted for with the receipt instant, the
highest epoch granted, a held ACQUIRE, and each member's last HEALTH (UID, instant, word). -/
structure WitRec where
  mod : Nat
  votedFor : Option (Nat × Int)
  epoch : Nat
  held : Option WitMsg
  health : List (Nat × Int × Nat)
  deriving DecidableEq, Repr

/-- What one mirror set carries beside its bolt and whether it is full, whether all of its frames came, whether it is sent
for a hand-over, and whether it is sent between bolt boundaries for an armed switch (R441, R455, R456, R458). `has` names
the blocks carried: 0 CE, 1 OFE, 2 Loom, 3 AIR, 4 attribution, 5 host settings, 6 witness records, 7 the armed pattern
switch. Register words by address; channels, sensors, tracks, the next SERIAL, running tile timers (tile, timer, ms left),
schedule entries, source marks, the last stamp and each node's CFG_SEQ; E_cum, the correlators and the spans that spoil
chips; the container and its bolt; settings words; witness records. Instants are ages in TCXO cycles, and ends are times
left. -/
structure MirrorSet where
  bolt : Nat
  full : Bool
  intact : Bool
  handover : Bool
  extra : Bool
  has : List Nat
  words : List (Nat × Nat)
  chans : List (Nat × Chan)
  sensors : List (Nat × Sensor)
  tracks : List (Nat × Track)
  serialNext : Nat
  timers : List (Nat × Nat × Nat)
  sched : List (Nat × SchedSt)
  marks : List Mark
  stamp : Nat
  cfgSeq : List (Nat × Nat)
  ecum : List (Nat × Nat)
  circs : List (Nat × AttCirc)
  spans : List (Nat × Nat)
  moves : List (Nat × Nat × Nat)
  staged : Option (List Nat × Nat)
  settings : List (Nat × Nat)
  wit : List WitRec
  deriving DecidableEq, Repr

/-- What the 28 converters gave over one line cycle (R328, R332): its length in ns, the fractions in 1/1,024 of the first
and last sample that lie inside it, the decimated raw samples by channel, and the channels with a sample beyond the
clipping limit of R329, one bit each. -/
structure MetCycle where
  ns : Nat
  wFirst : Nat
  wLast : Nat
  samples : List (List Int)
  clip : Nat
  deriving DecidableEq, Repr

/-- The record of MRAM that holds a word (R500, R331, R417, R523, R580, R346): an uncorrectable error makes it invalid. A key is
named by its row of R527 (0 identity, 1 certificate chain, 2 anchor, 3 pattern key as world · 4 + slot, 4 node-image key, 5 pair
key, 6 node key) and its index or UNIT. -/
inductive MramRec
  | other | slotWord | imgFloor | patFloor | patWord | cal
  | key (kind i : Nat)
  | settings (gen : Nat)
  | bb (seq : Nat)
  | log (entry : Nat)
  | save (slot : Nat)
  | bitmap (area : Nat)
  deriving DecidableEq, Repr

/-- A bus access (R7, R9): address, width in bits, data, whether it is non-secure, the initiator code of R570, what the
check bits of a memory's words show as they are read (R402: 0 clean, 1 a correctable error, 2 an uncorrectable one), and the
record that a word of MRAM holds. -/
structure BusAcc where
  addr : Nat
  width : Nat
  data : Nat
  ns : Bool
  init : Nat
  found : Nat
  mramRec : MramRec
  deriving DecidableEq, Repr

/-- A Sync with its Follow_Up (R257): ingress port, sender, domainNumber, whether it keeps to the profile of R249 and has
twoStepFlag 1, preciseOriginTimestamp in TN, the receive TS32 of its item, correctionField in ns, and the ms since the
item entered Q13. -/
structure SyncPair where
  port : Nat
  srcId : Nat
  srcPort : Nat
  domain : Nat
  profile : Bool
  t1 : Nat
  rx : Nat
  corr : Int
  queuedMs : Nat
  deriving DecidableEq, Repr

/-- A Delay_Resp (R257): ingress port, sender, domainNumber, whether it keeps to the profile of R249, the request it answers,
receiveTimestamp in TN, correctionField in ns, and logMinDelayReqInterval. -/
structure DelayResp where
  port : Nat
  srcId : Nat
  srcPort : Nat
  domain : Nat
  profile : Bool
  seq : Nat
  reqId : Nat
  reqPort : Nat
  t4 : Nat
  corr : Int
  logMin : Int
  deriving DecidableEq, Repr

/-- A Delay_Req received on a port: sequenceId, sender, domainNumber, whether it keeps to the profile of R249, receive TS32,
correctionField in ns, ms since its item entered Q13. -/
structure DelayReq where
  port : Nat
  seq : Nat
  reqId : Nat
  reqPort : Nat
  domain : Nat
  profile : Bool
  rx : Nat
  corr : Int
  queuedMs : Nat
  deriving DecidableEq, Repr

/-- An R-APS message (R397): ingress ring port, request code (0 NR, 7 MS, 11 SF, 13 FS, 14 event), RB, DNF and BPR bits,
the sender's node ID, and the VLAN, MEL and RING_ID it came with. -/
structure Raps where
  port : Nat
  req : Nat
  rb : Bool
  dnf : Bool
  bpr : Nat
  node : Nat
  vid : Nat
  mel : Nat
  ring : Nat
  deriving DecidableEq, Repr

/-- A DTLS peer (R472 to R476): a host or a module, its certificate's world or MOD, its UID, its session number when it is a
host, whether it comes over X6, whether its certificate chain holds under a trust anchor, the IPv6 address it asks at, and
whether it offers what R473 supports. -/
structure Peer where
  host : Bool
  secure : Bool
  mod : Nat
  uid : Nat
  session : Nat
  x6 : Bool
  trusted : Bool
  addr : Nat
  options : Bool
  deriving DecidableEq, Repr

/-- What the sign's drivers measured over the frame that ends (R548, R552, R555): the NTC reading in °C, the headroom in
mV of each driven pixel (row · 64 + column), and the column current in µA of each checked pixel at the end of its on-time; one
that is not listed drew none. -/
structure SignMeas where
  temp : Int
  head : List (Nat × Nat)
  cur : List (Nat × Nat)
  deriving DecidableEq, Repr

/-- A sample of a digital input (R49, R50, R535): the voltage between the input and DI_COM and the one between DI_V24 and DI_COM,
in mV. -/
structure DiMeas where
  mv : Int
  ref : Int
  deriving DecidableEq, Repr

end Machine


/-- The commands of the block: one constructor for each row of spec/opcode_table.json, with the row's operands. -/
inductive Instr
  /-- COLD_START (R90). -/
  | coldStart
  /-- POWER_STOP (R40). -/
  | powerStop (high : Bool)
  /-- OVERVOLTAGE_RESTART (R40). -/
  | overvoltageRestart
  /-- INIT_ENGINE_DONE (R405). -/
  | initEngineDone
  /-- STARTUP_SELF_TEST (R563). -/
  | startupSelfTest (fails : Nat)
  /-- BOOT (R512). -/
  | boot
  /-- RUNTIME_HEARTBEAT_LOSS (R512). -/
  | runtimeHeartbeatLoss
  /-- RUNTIME_READY_TIMEOUT (R512). -/
  | runtimeReadyTimeout
  /-- PATTERN_LOAD (R112). -/
  | patternLoad
  /-- TIME_ACQ_WINDOW_CLOSE (R91). -/
  | timeAcqWindowClose
  /-- GATE_STOP (R75). -/
  | gateStop
  /-- ON_DEMAND_WAKE (R78). -/
  | onDemandWake
  /-- SCHEDULED_WAKE (R81). -/
  | scheduledWake (r : Nat) (late : Bool)
  /-- CORE_SLEEP (R85). -/
  | coreSleep (k : Nat)
  /-- CORE_WAKE (R86). -/
  | coreWake (k : Nat)
  /-- LFXO_STOP (R429). -/
  | lfxoStop
  /-- TCXO_FAIL (R89). -/
  | tcxoFail
  /-- FCLK_UNLOCK (R89). -/
  | fclkUnlock
  /-- CCLK_UNLOCK (R89). -/
  | cclkUnlock
  /-- CCLK_RELOCK (R89). -/
  | cclkRelock
  /-- ETH_UNLOCK (R89). -/
  | ethUnlock
  /-- ETH_RELOCK (R89). -/
  | ethRelock
  /-- BOLT_BOUNDARY (R28). -/
  | boltBoundary
  /-- TILE_RELOAD_UE (R419). -/
  | tileReloadUe
  /-- PATTERN_PIECE (R484). -/
  | patternPiece (assoc : Nat) (msg : List Nat)
  /-- PATTERN_ASSEMBLY_TIMEOUT (R484). -/
  | patternAssemblyTimeout
  /-- PATTERN_STAGE_DONE (R113). -/
  | patternStageDone
  /-- PATTERN_SWITCH (R115). -/
  | patternSwitch
  /-- HELD_EVENT_RELEASE (R115). -/
  | heldEventRelease
  /-- MODE_WRITE (R121). -/
  | modeWrite (v : Nat) (ns : Bool)
  /-- WORLD_LOCK (R34). -/
  | worldLock
  /-- REGISTER_WRITE (R8). -/
  | registerWrite (a : Machine.BusAcc)
  /-- COUNTER_READ_CLEAR (R8). -/
  | counterReadClear (a : Machine.BusAcc)
  /-- TILE_ACTIVATION (R135). -/
  | tileActivation (t : Nat)
  /-- NOP (R144). -/
  | tNop (t : Nat)
  /-- HALT (R139). -/
  | tHalt (t : Nat)
  /-- MOVI (R144). -/
  | tMovi (t : Nat)
  /-- MOVH (R144). -/
  | tMovh (t : Nat)
  /-- ADD (R144). -/
  | tAdd (t : Nat)
  /-- SUB (R144). -/
  | tSub (t : Nat)
  /-- ADDI (R144). -/
  | tAddi (t : Nat)
  /-- MUL (R144). -/
  | tMul (t : Nat)
  /-- MULH (R144). -/
  | tMulh (t : Nat)
  /-- MULHU (R144). -/
  | tMulhu (t : Nat)
  /-- AND (R144). -/
  | tAnd (t : Nat)
  /-- OR (R144). -/
  | tOr (t : Nat)
  /-- XOR (R144). -/
  | tXor (t : Nat)
  /-- ANDI (R144). -/
  | tAndi (t : Nat)
  /-- ORI (R144). -/
  | tOri (t : Nat)
  /-- XORI (R144). -/
  | tXori (t : Nat)
  /-- SHL (R144). -/
  | tShl (t : Nat)
  /-- SHR (R144). -/
  | tShr (t : Nat)
  /-- SAR (R144). -/
  | tSar (t : Nat)
  /-- SHLI (R144). -/
  | tShli (t : Nat)
  /-- SHRI (R144). -/
  | tShri (t : Nat)
  /-- SARI (R144). -/
  | tSari (t : Nat)
  /-- MIN (R144). -/
  | tMin (t : Nat)
  /-- MAX (R144). -/
  | tMax (t : Nat)
  /-- MINU (R144). -/
  | tMinu (t : Nat)
  /-- MAXU (R144). -/
  | tMaxu (t : Nat)
  /-- CLAMP (R144). -/
  | tClamp (t : Nat)
  /-- SEQ (R144). -/
  | tSeq (t : Nat)
  /-- SLT (R144). -/
  | tSlt (t : Nat)
  /-- SLTU (R144). -/
  | tSltu (t : Nat)
  /-- SLTI (R144). -/
  | tSlti (t : Nat)
  /-- BZ (R145). -/
  | tBz (t : Nat)
  /-- BNZ (R145). -/
  | tBnz (t : Nat)
  /-- JMP (R145). -/
  | tJmp (t : Nat)
  /-- LD (R144). -/
  | tLd (t : Nat)
  /-- ST (R144). -/
  | tSt (t : Nat)
  /-- CERD (R149). -/
  | tCerd (t : Nat)
  /-- CEWR (R150). -/
  | tCewr (t : Nat)
  /-- EMIT (R138). -/
  | tEmit (t : Nat)
  /-- TIME (R146). -/
  | tTime (t : Nat)
  /-- SARM (R158). -/
  | tSarm (t : Nat)
  /-- SCAN (R159). -/
  | tScan (t : Nat)
  /-- TSET (R152). -/
  | tTset (t : Nat)
  /-- SEL (R144). -/
  | tSel (t : Nat)
  /-- ILLEGAL (R142). -/
  | tIllegal (t : Nat)
  /-- PC_RANGE (R145). -/
  | tPcRange (t : Nat)
  /-- EVENT_DELIVERY (R130). -/
  | eventDelivery
  /-- TILE_TIMER (R151). -/
  | tileTimer (t : Nat) (i : Nat)
  /-- SCHEDULE_FIRE (R154). -/
  | scheduleFire
  /-- SCHED_ARM (R158). -/
  | schedArm (e : Nat)
  /-- SCHED_CANCEL (R158). -/
  | schedCancel (e : Nat)
  /-- TILE_RESET (R127). -/
  | tileReset (t : Nat)
  /-- TILE_ENABLE (R141). -/
  | tileEnable (t : Nat) (v : Bool)
  /-- TILE_CODE_WRITE (R145). -/
  | tileCodeWrite (t : Nat) (w : Nat) (v : Nat)
  /-- LIGHT_AHEAD (R179). -/
  | lightAhead
  /-- LEVEL_EVENT (R177). -/
  | levelEvent
  /-- OVERRIDE (R180). -/
  | override
  /-- CHANNEL_REPORT (R194). -/
  | channelReport
  /-- HOST_LEVEL_EVENT (R177). -/
  | hostLevelEvent
  /-- HOST_OVERRIDE (R180). -/
  | hostOverride
  /-- LVL_TGT_WRITE (R166). -/
  | lvlTgtWrite (n : Nat) (v : Nat)
  /-- SAFE_LVL_WRITE (R210). -/
  | safeLvlWrite (n : Nat) (v : Nat)
  /-- COMPOSITION (R166). -/
  | composition
  /-- LA_EXPIRY (R179). -/
  | laExpiry (n : Nat)
  /-- OVERRIDE_TIMEOUT (R180). -/
  | overrideTimeout (n : Nat)
  /-- CHANNEL_REFRESH (R176). -/
  | channelRefresh (n : Nat)
  /-- STRETCH (R197). -/
  | stretch (n : Nat)
  /-- REPORT_STALE (R182). -/
  | reportStale (n : Nat)
  /-- VERIFY_EXPIRED (R196). -/
  | verifyExpired (n : Nat)
  /-- PRESENCE (R217). -/
  | presence
  /-- BAY (R234). -/
  | bay
  /-- LA_ZONE (R214). -/
  | laZone
  /-- DROP_TRACKS (R214). -/
  | dropTracks
  /-- REFRESH_COUNTS (R214). -/
  | refreshCounts
  /-- CLEAR_STUCK (R214). -/
  | clearStuck
  /-- PRESENCE_HOLD_EXPIRY (R220). -/
  | presenceHoldExpiry (i : Nat)
  /-- SENSOR_STUCK (R221). -/
  | sensorStuck (i : Nat)
  /-- TRACK_DROP (R227). -/
  | trackDrop (k : Nat)
  /-- SYNC_FOLLOW_UP (R264). -/
  | syncFollowUp (m : Machine.SyncPair)
  /-- DELAY_RESP (R257). -/
  | delayResp (m : Machine.DelayResp)
  /-- ANNOUNCE (R251). -/
  | announce (port : Nat) (domain : Nat) (a : AnnounceMsg)
  /-- SYNC_TIMEOUT (R263). -/
  | syncTimeout
  /-- HOLDOVER_EXPIRY (R263). -/
  | holdoverExpiry
  /-- SYNC_SEND (R249). -/
  | syncSend (port : Nat)
  /-- DELAY_REQ_SEND (R249). -/
  | delayReqSend
  /-- TIME_STEP (R265). -/
  | timeStep
  /-- TIME_CAP (R265). -/
  | timeCap
  /-- TX_TIMESTAMP (R259). -/
  | txTimestamp (port : Nat) (mtype : Nat) (seq : Nat)
  /-- TXQ_POP (R259). -/
  | txqPop (port : Nat)
  /-- TXQ_ENTRY_STALE (R261). -/
  | txqEntryStale (port : Nat)
  /-- CORR_AUTO_CAPTURE (R267). -/
  | corrAutoCapture
  /-- CORR_CAP (R267). -/
  | corrCap
  /-- CORR_SAVE (R268). -/
  | corrSave
  /-- TICK_CHECK (R428). -/
  | tickCheck
  /-- ADJ_CMD_GO (R427). -/
  | adjCmdGo
  /-- TICK_DELTA (R427). -/
  | tickDelta
  /-- TICK_LO_READ (R425). -/
  | tickLoRead
  /-- ALARM_FIRE (R430). -/
  | alarmFire
  /-- PERIODIC_WAKE (R433). -/
  | periodicWake
  /-- LEAP_APPLY (R426). -/
  | leapApply
  /-- DOMAIN_RESET (R436). -/
  | domainReset
  /-- DOMAIN_RESET_RELEASE (R436). -/
  | domainResetRelease
  /-- CELL_TEST (R45). -/
  | cellTest (mv : Nat)
  /-- CELL_TEST_CMD (R438). -/
  | cellTestCmd (mv : Nat)
  /-- COVER_OPEN (R439). -/
  | coverOpen
  /-- BEACON_STITCH (R298). -/
  | beaconStitch (r : Nat) (dbm : Int)
  /-- ANCHOR_STITCH (R298). -/
  | anchorStitch (dbm : Int)
  /-- DOWN_STITCH_WAKE_POINT (R307). -/
  | downStitchWakePoint (r : Nat)
  /-- DOWN_STITCH (R294). -/
  | downStitch (r : Nat) (st : Nat) (dbm : Int)
  /-- FRAME_RECEIVED (R310). -/
  | frameReceived (r : Nat) (rssi : Nat) (age : Nat) (psdu : List Nat)
  /-- COMMAND_DESCRIPTOR (R317). -/
  | commandDescriptor
  /-- TRANSMIT_BUILD (R315). -/
  | transmitBuild
  /-- EMERG_FRAME_REBUILD (R316). -/
  | emergFrameRebuild
  /-- KEY_WRITE (R308). -/
  | keyWrite (i : Nat) (w : Nat) (v : Nat)
  /-- KEY_ARM (R309). -/
  | keyArm (next : Nat)
  /-- KEY_GRACE_END (R309). -/
  | keyGraceEnd
  /-- HOP_QUERY (R289). -/
  | hopQuery (r : Nat) (st : Nat)
  /-- HOP_RESULT (R289). -/
  | hopResult
  /-- LINE_CYCLE_END (R332). -/
  | lineCycleEnd (cy : Machine.MetCycle)
  /-- NO_ZC_TIMEOUT (R333). -/
  | noZcTimeout (cy : Machine.MetCycle)
  /-- METER_LATCH (R339). -/
  | meterLatch
  /-- METER_SAVE (R346). -/
  | meterSave
  /-- LATCH_SEQ_READ (R340). -/
  | latchSeqRead
  /-- CAL_MODE (R331). -/
  | calMode
  /-- CAL_COMMIT (R331). -/
  | calCommit
  /-- CAL_REVERT (R331). -/
  | calRevert
  /-- CAL_TIMEOUT (R331). -/
  | calTimeout
  /-- HARNESS_CHANGE (R55). -/
  | harnessChange (h : Nat) (present : Bool)
  /-- CODE_PERIOD_END (R364). -/
  | codePeriodEnd
  /-- ATTRIBUTION_SOLVE (R365). -/
  | attributionSolve (c : Nat)
  /-- ENQUEUE (R383). -/
  | enqueue (q : Nat) (bytes : List Nat) (mismatch : Bool)
  /-- DEQUEUE (R378). -/
  | dequeue (q : Nat) (mismatch : Bool)
  /-- POOL_AUDIT_DONE (R389). -/
  | poolAuditDone
  /-- Q_POP (R390). -/
  | qPop (q : Nat) (mismatch : Bool)
  /-- ALLOC (R390). -/
  | alloc (q : Nat) (mismatch : Bool)
  /-- PUSH_COMMIT (R390). -/
  | pushCommit (q : Nat) (mismatch : Bool)
  /-- PUSH_ABORT (R390). -/
  | pushAbort (q : Nat) (mismatch : Bool)
  /-- Q_REL (R390). -/
  | qRel (q : Nat) (first : Nat) (mismatch : Bool)
  /-- FLUSH (R387). -/
  | flush (q : Nat) (mismatch : Bool)
  /-- SWAP (R381). -/
  | swap (q : Nat) (mismatch : Bool)
  /-- DROP_FILL (R382). -/
  | dropFill (q : Nat) (mismatch : Bool)
  /-- QUEUE_TIMEOUT (R386). -/
  | queueTimeout (q : Nat)
  /-- Q_LIM_WRITE (R384). -/
  | qLimWrite (q : Nat) (v : Nat)
  /-- Q_CFG_WRITE (R386). -/
  | qCfgWrite (q : Nat) (v : Nat)
  /-- SW_FRAME_RECEIVE (R392). -/
  | swFrameReceive (port : Nat) (frame : List Nat) (fcsOk : Bool)
  /-- CPU_FRAME_TRANSMIT (R396). -/
  | cpuFrameTransmit (port : Nat)
  /-- LINK_LOSS (R400). -/
  | linkLoss (port : Nat)
  /-- HOLDOFF_EXPIRY (R400). -/
  | holdoffExpiry (port : Nat)
  /-- LINK_UP (R62). -/
  | linkUp (port : Nat) (fibre : Bool)
  /-- SFP_INSERT (R64). -/
  | sfpInsert (port : Nat) (high : Bool)
  /-- SFP_REMOVE (R64). -/
  | sfpRemove (port : Nat)
  /-- RAPS_RECEIVED (R397). -/
  | rapsReceived (m : Machine.Raps)
  /-- FORCED_SWITCH (R397). -/
  | forcedSwitch (port : Nat)
  /-- MANUAL_SWITCH (R397). -/
  | manualSwitch (port : Nat)
  /-- CLEAR (R397). -/
  | clear
  /-- WTR_EXPIRY (R397). -/
  | wtrExpiry
  /-- WTB_EXPIRY (R397). -/
  | wtbExpiry
  /-- GUARD_EXPIRY (R397). -/
  | guardExpiry
  /-- FDB_FLUSH (R392). -/
  | fdbFlush
  /-- FDB_AGEING (R392). -/
  | fdbAgeing (mac : Nat)
  /-- SCRUB_READ (R409): what the words read show, one of them, or the eight of a line of LPDDR4X (R402). -/
  | scrubRead (m : Nat) (found : List Nat) (user : Option Nat) (rec : Machine.MramRec)
  /-- CE_WRITE_BACK (R408). -/
  | ceWriteBack
  /-- BUCKET_LEAK (R411). -/
  | bucketLeak (m : Nat)
  /-- INJECT_ARM (R421). -/
  | injectArm (v : Nat)
  /-- DRAM_FILL_DONE (R406). -/
  | dramFillDone
  /-- IMAGE_PIECE (R507). -/
  | imagePiece (assoc : Nat) (msg : List Nat)
  /-- VERIFY (R509). -/
  | verify
  /-- VERIFY_DONE (R509). -/
  | verifyDone
  /-- ACTIVATE (R516). -/
  | activate
  /-- ACTIVATION_PREPARE (R518). -/
  | activationPrepare
  /-- IMAGE_ACTIVATION (R517). -/
  | imageActivation
  /-- RUNTIME_READY (R518). -/
  | runtimeReady (recBad : Bool)
  /-- CONFIRM (R520). -/
  | confirm
  /-- AUTO_CONFIRM (R520). -/
  | autoConfirm
  /-- REJECT (R521). -/
  | reject
  /-- CONFIRM_WINDOW_END (R521). -/
  | confirmWindowEnd
  /-- ABORT (R505). -/
  | abort (k : Nat)
  /-- PAT_FLOOR (R522). -/
  | patFloor
  /-- RECOVERY (R514). -/
  | recovery
  /-- IDENTITY_KEYGEN (R528). -/
  | identityKeygen
  /-- CSR (R529). -/
  | csr (x6 : Bool) (secure : Bool)
  /-- CERT (R529). -/
  | cert (x6 : Bool) (secure : Bool)
  /-- ANCHOR (R529). -/
  | anchor (x6 : Bool) (secure : Bool)
  /-- PAT_KEY (R529). -/
  | patKey (x6 : Bool) (secure : Bool)
  /-- NIMG_KEY (R529). -/
  | nimgKey (x6 : Bool) (secure : Bool)
  /-- PAIR_KEY (R529). -/
  | pairKey (x6 : Bool) (secure : Bool)
  /-- NODE_KEY (R530). -/
  | nodeKey (x6 : Bool) (secure : Bool)
  /-- CLOSE (R529). -/
  | close (x6 : Bool) (secure : Bool)
  /-- FLOORS (R529). -/
  | floors (x6 : Bool) (secure : Bool)
  /-- NC_START (R531). -/
  | ncStart
  /-- NC_STOP (R531). -/
  | ncStop
  /-- NC_ACT_ARM (R533). -/
  | ncActArm (v : Nat)
  /-- HANDOVER (R458). -/
  | handover
  /-- HANDOVER_STOP_BUILD (R458). -/
  | handoverStopBuild
  /-- HANDOVER_RELEASE (R458). -/
  | handoverRelease
  /-- LEASE_RENEW_SEND (R445). -/
  | leaseRenewSend
  /-- LEASE_EXPIRY (R446). -/
  | leaseExpiry
  /-- VOTE_BINDING_END (R444). -/
  | voteBindingEnd
  /-- VOTE_HOLDOFF_END (R449). -/
  | voteHoldoffEnd
  /-- ACQUIRE_SEND (R460). -/
  | acquireSend
  /-- GRANT (R447). -/
  | grant (m : Machine.WitMsg)
  /-- REFUSE (R451). -/
  | refuse (m : Machine.WitMsg)
  /-- RENEW (R451). -/
  | renew (m : Machine.WitMsg)
  /-- ACQUIRE (R451). -/
  | acquire (m : Machine.WitMsg)
  /-- RELEASE (R452). -/
  | release (m : Machine.WitMsg) (h : Option Machine.SeamBeat)
  /-- HEALTH (R452). -/
  | health (m : Machine.WitMsg)
  /-- WITNESS_HELD_GRANT (R451). -/
  | witnessHeldGrant (mod : Nat)
  /-- WITNESS_QUIET_END (R451). -/
  | witnessQuietEnd
  /-- HEARTBEAT_SEND (R454). -/
  | heartbeatSend
  /-- HEARTBEAT (R454). -/
  | heartbeat (h : Machine.SeamBeat)
  /-- PEER_LOST (R454). -/
  | peerLost
  /-- SEAM_LINK_DOWN (R454). -/
  | seamLinkDown
  /-- MIRROR (R456). -/
  | mirror (h : Machine.SeamBeat) (m : Machine.MirrorSet)
  /-- TAKEOVER_CHECK (R470). -/
  | takeoverCheck
  /-- LAPSE_OUTPUT_TIMEOUT (R465). -/
  | lapseOutputTimeout
  /-- DTLS_HANDSHAKE (R472). -/
  | dtlsHandshake (p : Machine.Peer)
  /-- NEIGHBOR_ADVERTISEMENT (R22). -/
  | neighborAdvertisement (port : Nat) (addr : Nat) (mac : Nat)
  /-- ASSOCIATION_IDLE (R473). -/
  | associationIdle (assoc : Nat)
  /-- SHALAN_ANSWER (R479). -/
  | shalanAnswer (assoc : Nat) (msg : List Nat)
  /-- SHALAN_RESEND (R479). -/
  | shalanResend (assoc : Nat) (seq : Nat)
  /-- REG_READ (R482). -/
  | regRead (assoc : Nat) (msg : List Nat)
  /-- REG_WRITE (R483). -/
  | regWrite (assoc : Nat) (msg : List Nat)
  /-- SCHEDULE_ARM (R486). -/
  | scheduleArm (assoc : Nat) (msg : List Nat)
  /-- SCHEDULE_CANCEL (R486). -/
  | scheduleCancel (assoc : Nat) (msg : List Nat)
  /-- SCHEDULE_READ (R486). -/
  | scheduleRead (assoc : Nat) (msg : List Nat)
  /-- REPORT (R491). -/
  | report (assoc : Nat) (msg : List Nat)
  /-- SUBSCRIBE (R492). -/
  | subscribe (assoc : Nat) (msg : List Nat)
  /-- METER_RECORD (R493). -/
  | meterRecord (assoc : Nat) (msg : List Nat)
  /-- EVENT (R487). -/
  | event (assoc : Nat) (msg : List Nat)
  /-- TIME_NOTE (R488). -/
  | timeNote (assoc : Nat) (msg : List Nat)
  /-- TIME_NOTE_SEND (R488). -/
  | timeNoteSend
  /-- BLACKBOX_READ (R490). -/
  | blackboxRead (assoc : Nat) (msg : List Nat)
  /-- CHAIN_REPORT_SEND (R496). -/
  | chainReportSend
  /-- CHAIN_RATE_WINDOW (R497). -/
  | chainRateWindow
  /-- DI_FILTERED_EDGE (R535). -/
  | diFilteredEdge (i : Nat) (m : List Machine.DiMeas)
  /-- DI_TIMEOUT (R541). -/
  | diTimeout (i : Nat)
  /-- DI_SUPPLY (R536). -/
  | diSupply
  /-- RELAY (R542). -/
  | relay
  /-- HOST_RELAY_WRITE (R542). -/
  | hostRelayWrite (v : Nat)
  /-- RELAY_HOLD_END (R544). -/
  | relayHoldEnd (k : Nat)
  /-- RELAY_COIL (R545). -/
  | relayCoil (k : Nat) (current : Bool)
  /-- SIGN_FRAME_START (R550). -/
  | signFrameStart (m : Machine.SignMeas)
  /-- ROW_STRETCH (R556). -/
  | rowStretch (cur : List (Nat × Nat))
  /-- SIGN_POWER_CHECK (R553). -/
  | signPowerCheck (p : Nat) (amb : Int)
  /-- COLOUR_SENSOR_READ (R554). -/
  | colourSensorRead (v : Option (List Nat))
  /-- PIXELS (R549). -/
  | pixels
  /-- FILL (R549). -/
  | fill
  /-- SIGN_COMMIT (R550). -/
  | signCommit
  /-- SIGN_CMD_COMMIT (R550). -/
  | signCmdCommit
  /-- CLEAR_OPEN (R557). -/
  | clearOpen
  /-- RETRY (R560). -/
  | retry
  /-- SIGN_PORT (R560). -/
  | signPort
  /-- SIGN_PORT_RETRY (R560). -/
  | signPortRetry (ok : Bool)
  /-- SLICE_START (R565). -/
  | sliceStart (k : Nat)
  /-- SLICE_COMPLETE (R567). -/
  | sliceComplete (k : Nat) (aborted : Bool) (ok : Bool)
  /-- ERR_ACK (R574). -/
  | errAck
  /-- ERR_STUCK (R574). -/
  | errStuck
  /-- HEM_REQ (R577). -/
  | hemReq
  /-- RESTART (R577). -/
  | restart
  /-- LOCKSTEP (R571). -/
  | lockstep
  /-- HELD_CLEAR (R575). -/
  | heldClear (v : Nat) (secure : Bool)
  /-- BB_RECORD_WRITE (R582). -/
  | bbRecordWrite
  /-- BB_SEL (R583). -/
  | bbSel (v : Nat)
  /-- CHAL (R585). -/
  | chal
  /-- UNLOCK (R585). -/
  | unlock
  /-- WIT_LOST (R570). -/
  | witLost
  /-- ANNOUNCE_SEND (R250). -/
  | announceSend (port : Nat)
  /-- DELAY_REQ (R249). -/
  | delayReq (m : Machine.DelayReq)
  /-- LFXO_RUNNING (R89). -/
  | lfxoRunning
  /-- FIELD_SUPPLY_RESTORED (R48). -/
  | fieldSupplyRestored
  /-- HEALTH_SEND (R452). -/
  | healthSend
  /-- COVER_CLOSE (R439). -/
  | coverClose
  deriving DecidableEq, Repr

end Sys2Proof
end

