-- ==== Sys2Proof/Decode.lean ====
section
/-! DEFINITION. Decode.lean: the words of the commands. The command table gives no row any bits: a command comes from outside the
block, not from a memory word. -/

namespace Sys2Proof

/-- The command that a word spells by the table's bits: none, since no row of the table has bits. -/
def decodeTableWord (_nbits _w : Nat) : Option Instr := none

end Sys2Proof
end

