-- ==== Sys2Proof/Config.lean ====
section
/-! DEFINITION. Config.lean: the values the spec leaves open. Each is an opaque constant: nothing can evaluate it or
prove a value of it, so a statement about the machine holds for every value it may have. -/

namespace Sys2Proof.Config

/-- Free choice number `k` of the machine, used where the spec leaves open which of several permitted things is taken
(which free cell, which free entry). `State.body.picks` counts the choices made. -/
opaque pick : Nat → Nat

/-- Free word number `k`: a value the spec does not state (a random challenge word, an undefined result). -/
opaque word : Nat → BitVec 32

/-- A free natural number that depends on what the spec leaves open, by a tag and the operands. -/
opaque value : Nat → List Nat → Nat

/-- The interpolating filter of R330: a delay in 1/1,024 sample applied to the samples of a cycle (last), of which those of the
cycle before (first) are still in the filter. -/
opaque delayed : Int → List Int → List Int → List Int

/-- The digital integrator of R329 with its high-pass corner in 0.1 Hz, normalised as the rule says: from what the filter holds
and a cycle's samples, what it holds then and the samples it gives. -/
opaque integrated : Nat → List Int → List Int → List Int × List Int

/-- The quarter-period delay of R335 applied to a voltage's samples of a cycle (last), of which those of the cycle before
(first) are still in the filter, for a cycle length in ns. -/
opaque quarter : Nat → List Int → List Int → List Int

end Sys2Proof.Config
end

