-- ==== Sys2Proof/Machine/Sparse.lean ====
section
/-! DEFINITION. Machine/Sparse.lean: sparse tables held as sorted lists of (key, value) in one canonical form: keys
strictly rising, and no entry equal to what an unlisted key reads as. Registers, memories and every per-index table of
the machine are held so. -/

namespace Sys2Proof.Machine

/-- What key `k` reads as: its entry, or the default `d k`. -/
def tabGet {α : Type} (d : Nat → α) : List (Nat × α) → Nat → α
  | [], k => d k
  | (k', v) :: t, k => if k' = k then v else tabGet d t k

/-- Puts an entry into a sorted list, before the first key that is not below it. -/
def tabIns {α : Type} (k : Nat) (v : α) : List (Nat × α) → List (Nat × α)
  | [] => [(k, v)]
  | (k', v') :: t => if k' < k then (k', v') :: tabIns k v t else (k, v) :: (k', v') :: t

/-- Removes every entry of key `k`. -/
def tabDel {α : Type} (k : Nat) : List (Nat × α) → List (Nat × α)
  | [] => []
  | (k', v') :: t => if k' = k then tabDel k t else (k', v') :: tabDel k t

/-- Sets key `k` to `v`; setting the default removes the entry. -/
def tabSet {α : Type} [DecidableEq α] (d : Nat → α) (l : List (Nat × α)) (k : Nat) (v : α) : List (Nat × α) :=
  if v = d k then tabDel k l else tabIns k v (tabDel k l)

/-- The canonical form of a table. -/
def tabWf {α : Type} [DecidableEq α] (d : Nat → α) : List (Nat × α) → Bool
  | [] => true
  | [(k, v)] => decide (v ≠ d k)
  | (k, v) :: (k', v') :: t => decide (v ≠ d k) && decide (k < k') && tabWf d ((k', v') :: t)

end Sys2Proof.Machine
end

