-- ==== Sys2Proof/Machine/RegMap.lean ====
section
/-! DEFINITION. Machine/RegMap.lean: the register window of R6 to R12, written out from the register tables of
spec/: one named field constant for each field of each table (BLOCK.REGISTER.FIELD), and one row for each register with
its offset, its index strides and its fields (access code, world, reset value, Expert mark). -/

namespace Sys2Proof.Machine

/-- The access codes of R8. -/
inductive Acc | rw | ro | w1c | w1s | wo | rs
  deriving DecidableEq, Repr

/-- The World column of R9: secure only, both worlds, or assigned by the world map. -/
inductive Wd | s | ns | map
  deriving DecidableEq, Repr

/-- A field of the register window: the address of its register at indices 0, the strides of its two indices, its
lowest bit and its width. -/
structure Fld where
  addr : Nat
  s1 : Nat
  s2 : Nat
  lo : Nat
  w : Nat
  deriving DecidableEq, Repr

/-- The address of a field's register at the given indices. -/
def Fld.at (f : Fld) (i j : Nat) : Nat := f.addr + f.s1 * i + f.s2 * j

/-- One field of a register row. `fn` is the function of R118 whose Expert field it is, or 8. -/
structure FieldRow where
  lo : Nat
  w : Nat
  acc : Acc
  world : Wd
  reset : Nat
  fn : Nat
  deriving DecidableEq, Repr

/-- One register (or array of registers) of a block. -/
structure RegRow where
  off : Nat
  s1 : Nat
  n1 : Nat
  s2 : Nat
  n2 : Nat
  fields : List FieldRow
  deriving DecidableEq, Repr

/-! ### SYS, base 0x40000000 -/

abbrev SYS.ID.word : Fld := ⟨0x40000000, 0x0, 0x0, 0, 32⟩
abbrev SYS.ID.FAMILY : Fld := ⟨0x40000000, 0x0, 0x0, 16, 16⟩
abbrev SYS.ID.PART : Fld := ⟨0x40000000, 0x0, 0x0, 0, 16⟩
abbrev SYS.REV.word : Fld := ⟨0x40000004, 0x0, 0x0, 0, 32⟩
abbrev SYS.REV.REV : Fld := ⟨0x40000004, 0x0, 0x0, 0, 8⟩
abbrev SYS.WORLD_BLK.word : Fld := ⟨0x40000010, 0x0, 0x0, 0, 32⟩
abbrev SYS.WORLD_BLK.FIXED_HI : Fld := ⟨0x40000010, 0x0, 0x0, 11, 4⟩
abbrev SYS.WORLD_BLK.GIO : Fld := ⟨0x40000010, 0x0, 0x0, 10, 1⟩
abbrev SYS.WORLD_BLK.FIXED_MET : Fld := ⟨0x40000010, 0x0, 0x0, 9, 1⟩
abbrev SYS.WORLD_BLK.OFE : Fld := ⟨0x40000010, 0x0, 0x0, 8, 1⟩
abbrev SYS.WORLD_BLK.CE : Fld := ⟨0x40000010, 0x0, 0x0, 7, 1⟩
abbrev SYS.WORLD_BLK.LOOM_CTL : Fld := ⟨0x40000010, 0x0, 0x0, 6, 1⟩
abbrev SYS.WORLD_BLK.FIXED_LO : Fld := ⟨0x40000010, 0x0, 0x0, 0, 6⟩
abbrev SYS.WORLD_TILE_LO.word : Fld := ⟨0x40000014, 0x0, 0x0, 0, 32⟩
abbrev SYS.WORLD_TILE_LO.TILE : Fld := ⟨0x40000014, 0x0, 0x0, 0, 32⟩
abbrev SYS.WORLD_TILE_HI.word : Fld := ⟨0x40000018, 0x0, 0x0, 0, 32⟩
abbrev SYS.WORLD_TILE_HI.TILE : Fld := ⟨0x40000018, 0x0, 0x0, 0, 32⟩
abbrev SYS.WORLD_LOCK.word : Fld := ⟨0x4000001C, 0x0, 0x0, 0, 32⟩
abbrev SYS.WORLD_LOCK.LOCK : Fld := ⟨0x4000001C, 0x0, 0x0, 0, 1⟩
abbrev SYS.WORLD_RGN_BASE.word : Fld := ⟨0x40000100, 0x8, 0x0, 0, 32⟩
abbrev SYS.WORLD_RGN_BASE.BASE : Fld := ⟨0x40000100, 0x8, 0x0, 12, 20⟩
abbrev SYS.WORLD_RGN_BASE.EN : Fld := ⟨0x40000100, 0x8, 0x0, 0, 1⟩
abbrev SYS.WORLD_RGN_TOP.word : Fld := ⟨0x40000104, 0x8, 0x0, 0, 32⟩
abbrev SYS.WORLD_RGN_TOP.TOP : Fld := ⟨0x40000104, 0x8, 0x0, 12, 20⟩
abbrev SYS.WORLD_RGN_TOP.NS : Fld := ⟨0x40000104, 0x8, 0x0, 0, 1⟩
abbrev SYS.CLK_STAT.word : Fld := ⟨0x40000020, 0x0, 0x0, 0, 32⟩
abbrev SYS.CLK_STAT.GATED : Fld := ⟨0x40000020, 0x0, 0x0, 5, 1⟩
abbrev SYS.CLK_STAT.ETH_LOCK : Fld := ⟨0x40000020, 0x0, 0x0, 4, 1⟩
abbrev SYS.CLK_STAT.CCLK_LOCK : Fld := ⟨0x40000020, 0x0, 0x0, 3, 1⟩
abbrev SYS.CLK_STAT.FCLK_LOCK : Fld := ⟨0x40000020, 0x0, 0x0, 2, 1⟩
abbrev SYS.CLK_STAT.TCXO_OK : Fld := ⟨0x40000020, 0x0, 0x0, 1, 1⟩
abbrev SYS.CLK_STAT.LFXO_OK : Fld := ⟨0x40000020, 0x0, 0x0, 0, 1⟩
abbrev SYS.CLK_FAULT.word : Fld := ⟨0x40000024, 0x0, 0x0, 0, 32⟩
abbrev SYS.CLK_FAULT.WAKE_SLIP : Fld := ⟨0x40000024, 0x0, 0x0, 5, 1⟩
abbrev SYS.CLK_FAULT.ETH_UNLOCK : Fld := ⟨0x40000024, 0x0, 0x0, 4, 1⟩
abbrev SYS.CLK_FAULT.CCLK_UNLOCK : Fld := ⟨0x40000024, 0x0, 0x0, 3, 1⟩
abbrev SYS.CLK_FAULT.FCLK_UNLOCK : Fld := ⟨0x40000024, 0x0, 0x0, 2, 1⟩
abbrev SYS.CLK_FAULT.TCXO_FAIL : Fld := ⟨0x40000024, 0x0, 0x0, 1, 1⟩
abbrev SYS.CLK_FAULT.LFXO_STOP : Fld := ⟨0x40000024, 0x0, 0x0, 0, 1⟩
abbrev SYS.GATE_CTL.word : Fld := ⟨0x40000028, 0x0, 0x0, 0, 32⟩
abbrev SYS.GATE_CTL.GATE_EN : Fld := ⟨0x40000028, 0x0, 0x0, 0, 1⟩
abbrev SYS.WAKE_CNT.word : Fld := ⟨0x4000002C, 0x0, 0x0, 0, 32⟩
abbrev SYS.WAKE_CNT.COUNT : Fld := ⟨0x4000002C, 0x0, 0x0, 0, 32⟩
abbrev SYS.WAKE_LATE.word : Fld := ⟨0x40000030, 0x0, 0x0, 0, 32⟩
abbrev SYS.WAKE_LATE.COUNT : Fld := ⟨0x40000030, 0x0, 0x0, 0, 16⟩
abbrev SYS.MODE.word : Fld := ⟨0x40000040, 0x0, 0x0, 0, 32⟩
abbrev SYS.MODE.EXPERT : Fld := ⟨0x40000040, 0x0, 0x0, 0, 8⟩
abbrev SYS.MODE_ERR.word : Fld := ⟨0x40000044, 0x0, 0x0, 0, 32⟩
abbrev SYS.MODE_ERR.FUNC : Fld := ⟨0x40000044, 0x0, 0x0, 0, 8⟩
abbrev SYS.PAT_SERIAL.word : Fld := ⟨0x40000048, 0x0, 0x0, 0, 32⟩
abbrev SYS.PAT_SERIAL.SERIAL : Fld := ⟨0x40000048, 0x0, 0x0, 0, 32⟩

/-- Register rows of SYS, part 0. -/
def sysRows0 : List RegRow := [
  -- SYS.ID
  ⟨0x0, 0x0, 1, 0x0, 1, [⟨16, 16, .ro, .ns, 19283, 8⟩, ⟨0, 16, .ro, .ns, 1298, 8⟩]⟩,
  -- SYS.REV
  ⟨0x4, 0x0, 1, 0x0, 1, [⟨0, 8, .ro, .ns, 66, 8⟩]⟩,
  -- SYS.WORLD_BLK
  ⟨0x10, 0x0, 1, 0x0, 1, [⟨11, 4, .ro, .s, 15, 8⟩, ⟨10, 1, .rw, .s, 1, 8⟩, ⟨9, 1, .ro, .s, 1, 8⟩, ⟨8, 1, .rw, .s, 1, 8⟩, ⟨7, 1, .rw, .s, 1, 8⟩, ⟨6, 1, .ro, .s, 1, 8⟩, ⟨0, 6, .ro, .s, 63, 8⟩]⟩,
  -- SYS.WORLD_TILE_LO
  ⟨0x14, 0x0, 1, 0x0, 1, [⟨0, 32, .rw, .s, 4294967295, 8⟩]⟩,
  -- SYS.WORLD_TILE_HI
  ⟨0x18, 0x0, 1, 0x0, 1, [⟨0, 32, .rw, .s, 4294967295, 8⟩]⟩,
  -- SYS.WORLD_LOCK
  ⟨0x1C, 0x0, 1, 0x0, 1, [⟨0, 1, .w1s, .s, 0, 8⟩]⟩,
  -- SYS.WORLD_RGN_BASE
  ⟨0x100, 0x8, 64, 0x0, 1, [⟨12, 20, .rw, .s, 0, 8⟩, ⟨0, 1, .rw, .s, 0, 8⟩]⟩,
  -- SYS.WORLD_RGN_TOP
  ⟨0x104, 0x8, 64, 0x0, 1, [⟨12, 20, .rw, .s, 0, 8⟩, ⟨0, 1, .rw, .s, 0, 8⟩]⟩,
  -- SYS.CLK_STAT
  ⟨0x20, 0x0, 1, 0x0, 1, [⟨5, 1, .ro, .s, 0, 8⟩, ⟨4, 1, .ro, .s, 0, 8⟩, ⟨3, 1, .ro, .s, 0, 8⟩, ⟨2, 1, .ro, .s, 1, 8⟩, ⟨1, 1, .ro, .s, 1, 8⟩, ⟨0, 1, .ro, .s, 1, 8⟩]⟩,
  -- SYS.CLK_FAULT
  ⟨0x24, 0x0, 1, 0x0, 1, [⟨5, 1, .w1c, .s, 0, 8⟩, ⟨4, 1, .w1c, .s, 0, 8⟩, ⟨3, 1, .w1c, .s, 0, 8⟩, ⟨2, 1, .w1c, .s, 0, 8⟩, ⟨1, 1, .w1c, .s, 0, 8⟩, ⟨0, 1, .w1c, .s, 0, 8⟩]⟩,
  -- SYS.GATE_CTL
  ⟨0x28, 0x0, 1, 0x0, 1, [⟨0, 1, .rw, .s, 0, 8⟩]⟩,
  -- SYS.WAKE_CNT
  ⟨0x2C, 0x0, 1, 0x0, 1, [⟨0, 32, .ro, .s, 0, 8⟩]⟩]

/-- Register rows of SYS, part 1. -/
def sysRows1 : List RegRow := [
  -- SYS.WAKE_LATE
  ⟨0x30, 0x0, 1, 0x0, 1, [⟨0, 16, .rs, .s, 0, 8⟩]⟩,
  -- SYS.MODE
  ⟨0x40, 0x0, 1, 0x0, 1, [⟨0, 8, .rw, .map, 0, 8⟩]⟩,
  -- SYS.MODE_ERR
  ⟨0x44, 0x0, 1, 0x0, 1, [⟨0, 8, .w1c, .map, 0, 8⟩]⟩,
  -- SYS.PAT_SERIAL
  ⟨0x48, 0x0, 1, 0x0, 1, [⟨0, 32, .ro, .ns, 0, 8⟩]⟩]

/-! ### AON, base 0x40100000 -/

abbrev AON.STAT.word : Fld := ⟨0x40100000, 0x0, 0x0, 0, 32⟩
abbrev AON.STAT.PWAKE : Fld := ⟨0x40100000, 0x0, 0x0, 5, 1⟩
abbrev AON.STAT.ADJ_PEND : Fld := ⟨0x40100000, 0x0, 0x0, 4, 1⟩
abbrev AON.STAT.MAIN : Fld := ⟨0x40100000, 0x0, 0x0, 3, 1⟩
abbrev AON.STAT.RET_LOST : Fld := ⟨0x40100000, 0x0, 0x0, 2, 1⟩
abbrev AON.STAT.LFXO_RUN : Fld := ⟨0x40100000, 0x0, 0x0, 1, 1⟩
abbrev AON.STAT.OSF : Fld := ⟨0x40100000, 0x0, 0x0, 0, 1⟩
abbrev AON.TICK_LO.word : Fld := ⟨0x40100004, 0x0, 0x0, 0, 32⟩
abbrev AON.TICK_LO.TICK : Fld := ⟨0x40100004, 0x0, 0x0, 0, 32⟩
abbrev AON.TICK_HI.word : Fld := ⟨0x40100008, 0x0, 0x0, 0, 32⟩
abbrev AON.TICK_HI.TICK : Fld := ⟨0x40100008, 0x0, 0x0, 0, 16⟩
abbrev AON.RAW_LO.word : Fld := ⟨0x4010000C, 0x0, 0x0, 0, 32⟩
abbrev AON.RAW_LO.RAW : Fld := ⟨0x4010000C, 0x0, 0x0, 0, 32⟩
abbrev AON.RAW_HI.word : Fld := ⟨0x40100010, 0x0, 0x0, 0, 32⟩
abbrev AON.RAW_HI.RAW : Fld := ⟨0x40100010, 0x0, 0x0, 0, 16⟩
abbrev AON.ADJ_LO.word : Fld := ⟨0x40100014, 0x0, 0x0, 0, 32⟩
abbrev AON.ADJ_LO.DELTA : Fld := ⟨0x40100014, 0x0, 0x0, 0, 32⟩
abbrev AON.ADJ_HI.word : Fld := ⟨0x40100018, 0x0, 0x0, 0, 32⟩
abbrev AON.ADJ_HI.DELTA : Fld := ⟨0x40100018, 0x0, 0x0, 0, 16⟩
abbrev AON.ADJ_CMD.word : Fld := ⟨0x4010001C, 0x0, 0x0, 0, 32⟩
abbrev AON.ADJ_CMD.GO : Fld := ⟨0x4010001C, 0x0, 0x0, 0, 1⟩
abbrev AON.ADJ_STAT.word : Fld := ⟨0x40100020, 0x0, 0x0, 0, 32⟩
abbrev AON.ADJ_STAT.REJ : Fld := ⟨0x40100020, 0x0, 0x0, 16, 1⟩
abbrev AON.ADJ_STAT.COUNT : Fld := ⟨0x40100020, 0x0, 0x0, 0, 16⟩
abbrev AON.UTC_OFS.word : Fld := ⟨0x40100024, 0x0, 0x0, 0, 32⟩
abbrev AON.UTC_OFS.LEAP : Fld := ⟨0x40100024, 0x0, 0x0, 16, 2⟩
abbrev AON.UTC_OFS.OFS : Fld := ⟨0x40100024, 0x0, 0x0, 0, 16⟩
abbrev AON.PWAKE.word : Fld := ⟨0x40100028, 0x0, 0x0, 0, 32⟩
abbrev AON.PWAKE.PER_S : Fld := ⟨0x40100028, 0x0, 0x0, 0, 16⟩
abbrev AON.ALM_LO.word : Fld := ⟨0x40100040, 0x10, 0x0, 0, 32⟩
abbrev AON.ALM_LO.VALUE : Fld := ⟨0x40100040, 0x10, 0x0, 0, 32⟩
abbrev AON.ALM_HI.word : Fld := ⟨0x40100044, 0x10, 0x0, 0, 32⟩
abbrev AON.ALM_HI.VALUE : Fld := ⟨0x40100044, 0x10, 0x0, 0, 16⟩
abbrev AON.ALM_CTL.word : Fld := ⟨0x40100048, 0x10, 0x0, 0, 32⟩
abbrev AON.ALM_CTL.WR_REJ : Fld := ⟨0x40100048, 0x10, 0x0, 11, 1⟩
abbrev AON.ALM_CTL.OFF : Fld := ⟨0x40100048, 0x10, 0x0, 10, 1⟩
abbrev AON.ALM_CTL.LATE : Fld := ⟨0x40100048, 0x10, 0x0, 9, 1⟩
abbrev AON.ALM_CTL.FIRED : Fld := ⟨0x40100048, 0x10, 0x0, 8, 1⟩
abbrev AON.ALM_CTL.ARM : Fld := ⟨0x40100048, 0x10, 0x0, 0, 1⟩
abbrev AON.CELL.word : Fld := ⟨0x40100080, 0x0, 0x0, 0, 32⟩
abbrev AON.CELL.TEST : Fld := ⟨0x40100080, 0x0, 0x0, 18, 1⟩
abbrev AON.CELL.ABSENT : Fld := ⟨0x40100080, 0x0, 0x0, 17, 1⟩
abbrev AON.CELL.LOW : Fld := ⟨0x40100080, 0x0, 0x0, 16, 1⟩
abbrev AON.CELL.MV : Fld := ⟨0x40100080, 0x0, 0x0, 0, 12⟩
abbrev AON.RET_TAG.word : Fld := ⟨0x40100084, 0x0, 0x0, 0, 32⟩
abbrev AON.RET_TAG.TAG : Fld := ⟨0x40100084, 0x0, 0x0, 0, 32⟩
abbrev AON.MON.word : Fld := ⟨0x40100088, 0x0, 0x0, 0, 32⟩
abbrev AON.MON.RET_MV : Fld := ⟨0x40100088, 0x0, 0x0, 0, 12⟩
abbrev AON.TAMPER.word : Fld := ⟨0x40100090, 0x0, 0x0, 0, 32⟩
abbrev AON.TAMPER.LATCH : Fld := ⟨0x40100090, 0x0, 0x0, 1, 1⟩
abbrev AON.TAMPER.OPEN : Fld := ⟨0x40100090, 0x0, 0x0, 0, 1⟩
abbrev AON.TAMPER_T_LO.word : Fld := ⟨0x40100094, 0x0, 0x0, 0, 32⟩
abbrev AON.TAMPER_T_LO.TICK : Fld := ⟨0x40100094, 0x0, 0x0, 0, 32⟩
abbrev AON.TAMPER_T_HI.word : Fld := ⟨0x40100098, 0x0, 0x0, 0, 32⟩
abbrev AON.TAMPER_T_HI.TICK : Fld := ⟨0x40100098, 0x0, 0x0, 0, 16⟩

/-- Register rows of AON, part 0. -/
def aonRows0 : List RegRow := [
  -- AON.STAT
  ⟨0x0, 0x0, 1, 0x0, 1, [⟨5, 1, .w1c, .s, 0, 8⟩, ⟨4, 1, .ro, .s, 0, 8⟩, ⟨3, 1, .ro, .s, 0, 8⟩, ⟨2, 1, .w1c, .s, 0, 8⟩, ⟨1, 1, .ro, .s, 1, 8⟩, ⟨0, 1, .w1c, .s, 1, 8⟩]⟩,
  -- AON.TICK_LO
  ⟨0x4, 0x0, 1, 0x0, 1, [⟨0, 32, .rs, .s, 0, 8⟩]⟩,
  -- AON.TICK_HI
  ⟨0x8, 0x0, 1, 0x0, 1, [⟨0, 16, .ro, .s, 0, 8⟩]⟩,
  -- AON.RAW_LO
  ⟨0xC, 0x0, 1, 0x0, 1, [⟨0, 32, .ro, .s, 0, 8⟩]⟩,
  -- AON.RAW_HI
  ⟨0x10, 0x0, 1, 0x0, 1, [⟨0, 16, .ro, .s, 0, 8⟩]⟩,
  -- AON.ADJ_LO
  ⟨0x14, 0x0, 1, 0x0, 1, [⟨0, 32, .rw, .s, 0, 8⟩]⟩,
  -- AON.ADJ_HI
  ⟨0x18, 0x0, 1, 0x0, 1, [⟨0, 16, .rw, .s, 0, 8⟩]⟩,
  -- AON.ADJ_CMD
  ⟨0x1C, 0x0, 1, 0x0, 1, [⟨0, 1, .w1s, .s, 0, 8⟩]⟩,
  -- AON.ADJ_STAT
  ⟨0x20, 0x0, 1, 0x0, 1, [⟨16, 1, .w1c, .s, 0, 8⟩, ⟨0, 16, .ro, .s, 0, 8⟩]⟩,
  -- AON.UTC_OFS
  ⟨0x24, 0x0, 1, 0x0, 1, [⟨16, 2, .rw, .s, 0, 8⟩, ⟨0, 16, .rw, .s, 0, 8⟩]⟩,
  -- AON.PWAKE
  ⟨0x28, 0x0, 1, 0x0, 1, [⟨0, 16, .rw, .s, 0, 8⟩]⟩,
  -- AON.ALM_LO
  ⟨0x40, 0x10, 4, 0x0, 1, [⟨0, 32, .rw, .s, 0, 8⟩]⟩]

/-- Register rows of AON, part 1. -/
def aonRows1 : List RegRow := [
  -- AON.ALM_HI
  ⟨0x44, 0x10, 4, 0x0, 1, [⟨0, 16, .rw, .s, 0, 8⟩]⟩,
  -- AON.ALM_CTL
  ⟨0x48, 0x10, 4, 0x0, 1, [⟨11, 1, .w1c, .s, 0, 8⟩, ⟨10, 1, .w1c, .s, 0, 8⟩, ⟨9, 1, .w1c, .s, 0, 8⟩, ⟨8, 1, .w1c, .s, 0, 8⟩, ⟨0, 1, .rw, .s, 0, 8⟩]⟩,
  -- AON.CELL
  ⟨0x80, 0x0, 1, 0x0, 1, [⟨18, 1, .w1s, .s, 0, 8⟩, ⟨17, 1, .ro, .s, 0, 8⟩, ⟨16, 1, .ro, .s, 0, 8⟩, ⟨0, 12, .ro, .s, 0, 8⟩]⟩,
  -- AON.RET_TAG
  ⟨0x84, 0x0, 1, 0x0, 1, [⟨0, 32, .rw, .s, 0, 8⟩]⟩,
  -- AON.MON
  ⟨0x88, 0x0, 1, 0x0, 1, [⟨0, 12, .ro, .s, 0, 8⟩]⟩,
  -- AON.TAMPER
  ⟨0x90, 0x0, 1, 0x0, 1, [⟨1, 1, .w1c, .s, 0, 8⟩, ⟨0, 1, .ro, .s, 0, 8⟩]⟩,
  -- AON.TAMPER_T_LO
  ⟨0x94, 0x0, 1, 0x0, 1, [⟨0, 32, .ro, .s, 0, 8⟩]⟩,
  -- AON.TAMPER_T_HI
  ⟨0x98, 0x0, 1, 0x0, 1, [⟨0, 16, .ro, .s, 0, 8⟩]⟩]

/-! ### TB, base 0x40200000 -/

abbrev TB.CTL.word : Fld := ⟨0x40200000, 0x0, 0x0, 0, 32⟩
abbrev TB.CTL.LOG_DREQ : Fld := ⟨0x40200000, 0x0, 0x0, 28, 4⟩
abbrev TB.CTL.LOG_SYNC : Fld := ⟨0x40200000, 0x0, 0x0, 24, 4⟩
abbrev TB.CTL.PORT_EN : Fld := ⟨0x40200000, 0x0, 0x0, 16, 3⟩
abbrev TB.CTL.DOMAIN : Fld := ⟨0x40200000, 0x0, 0x0, 8, 8⟩
abbrev TB.CTL.BC : Fld := ⟨0x40200000, 0x0, 0x0, 1, 1⟩
abbrev TB.CTL.RUN : Fld := ⟨0x40200000, 0x0, 0x0, 0, 1⟩
abbrev TB.STAT.word : Fld := ⟨0x40200004, 0x0, 0x0, 0, 32⟩
abbrev TB.STAT.NOMINAL : Fld := ⟨0x40200004, 0x0, 0x0, 7, 3⟩
abbrev TB.STAT.SLAVE_PORT : Fld := ⟨0x40200004, 0x0, 0x0, 5, 2⟩
abbrev TB.STAT.RTCV : Fld := ⟨0x40200004, 0x0, 0x0, 4, 1⟩
abbrev TB.STAT.NTV : Fld := ⟨0x40200004, 0x0, 0x0, 3, 1⟩
abbrev TB.STAT.STATE : Fld := ⟨0x40200004, 0x0, 0x0, 0, 3⟩
abbrev TB.LIMITS.word : Fld := ⟨0x40200008, 0x0, 0x0, 0, 32⟩
abbrev TB.LIMITS.SEED_MIN : Fld := ⟨0x40200008, 0x0, 0x0, 16, 16⟩
abbrev TB.LIMITS.HOLD_MIN : Fld := ⟨0x40200008, 0x0, 0x0, 0, 16⟩
abbrev TB.STEPS.word : Fld := ⟨0x4020000C, 0x0, 0x0, 0, 32⟩
abbrev TB.STEPS.COUNT : Fld := ⟨0x4020000C, 0x0, 0x0, 0, 16⟩
abbrev TB.TIME_CAP.word : Fld := ⟨0x40200010, 0x0, 0x0, 0, 32⟩
abbrev TB.TIME_CAP.NS : Fld := ⟨0x40200010, 0x0, 0x0, 0, 32⟩
abbrev TB.TIME_SEC_LO.word : Fld := ⟨0x40200014, 0x0, 0x0, 0, 32⟩
abbrev TB.TIME_SEC_LO.SEC_LO : Fld := ⟨0x40200014, 0x0, 0x0, 0, 32⟩
abbrev TB.TIME_SEC_HI.word : Fld := ⟨0x40200018, 0x0, 0x0, 0, 32⟩
abbrev TB.TIME_SEC_HI.SEC_HI : Fld := ⟨0x40200018, 0x0, 0x0, 0, 16⟩
abbrev TB.TIME_FRAC.word : Fld := ⟨0x4020001C, 0x0, 0x0, 0, 32⟩
abbrev TB.TIME_FRAC.FRAC : Fld := ⟨0x4020001C, 0x0, 0x0, 0, 16⟩
abbrev TB.TS32.word : Fld := ⟨0x40200020, 0x0, 0x0, 0, 32⟩
abbrev TB.TS32.TS32 : Fld := ⟨0x40200020, 0x0, 0x0, 0, 32⟩
abbrev TB.ADJ_FREQ.word : Fld := ⟨0x40200024, 0x0, 0x0, 0, 32⟩
abbrev TB.ADJ_FREQ.ADJ : Fld := ⟨0x40200024, 0x0, 0x0, 0, 32⟩
abbrev TB.STEP_SEC.word : Fld := ⟨0x40200028, 0x0, 0x0, 0, 32⟩
abbrev TB.STEP_SEC.SEC : Fld := ⟨0x40200028, 0x0, 0x0, 0, 32⟩
abbrev TB.STEP_NS.word : Fld := ⟨0x4020002C, 0x0, 0x0, 0, 32⟩
abbrev TB.STEP_NS.NS : Fld := ⟨0x4020002C, 0x0, 0x0, 0, 32⟩
abbrev TB.STEP_CMD.word : Fld := ⟨0x40200030, 0x0, 0x0, 0, 32⟩
abbrev TB.STEP_CMD.GO : Fld := ⟨0x40200030, 0x0, 0x0, 0, 1⟩
abbrev TB.SERVO.word : Fld := ⟨0x40200034, 0x0, 0x0, 0, 32⟩
abbrev TB.SERVO.KI : Fld := ⟨0x40200034, 0x0, 0x0, 16, 16⟩
abbrev TB.SERVO.KP : Fld := ⟨0x40200034, 0x0, 0x0, 0, 16⟩
abbrev TB.STEP_LIM.word : Fld := ⟨0x40200038, 0x0, 0x0, 0, 32⟩
abbrev TB.STEP_LIM.SLEW_PPM : Fld := ⟨0x40200038, 0x0, 0x0, 16, 16⟩
abbrev TB.STEP_LIM.STEP_US : Fld := ⟨0x40200038, 0x0, 0x0, 0, 16⟩
abbrev TB.PWM.word : Fld := ⟨0x40200040, 0x0, 0x0, 0, 32⟩
abbrev TB.PWM.PERIOD_IDX : Fld := ⟨0x40200040, 0x0, 0x0, 16, 15⟩
abbrev TB.PWM.F_SEL : Fld := ⟨0x40200040, 0x0, 0x0, 0, 3⟩
abbrev TB.CORR_CTL.word : Fld := ⟨0x40200050, 0x0, 0x0, 0, 32⟩
abbrev TB.CORR_CTL.VALID : Fld := ⟨0x40200050, 0x0, 0x0, 2, 1⟩
abbrev TB.CORR_CTL.AUTO : Fld := ⟨0x40200050, 0x0, 0x0, 1, 1⟩
abbrev TB.CORR_CTL.CAP : Fld := ⟨0x40200050, 0x0, 0x0, 0, 1⟩
abbrev TB.CORR_TICK_LO.word : Fld := ⟨0x40200054, 0x0, 0x0, 0, 32⟩
abbrev TB.CORR_TICK_LO.TICK : Fld := ⟨0x40200054, 0x0, 0x0, 0, 32⟩
abbrev TB.CORR_TICK_HI.word : Fld := ⟨0x40200058, 0x0, 0x0, 0, 32⟩
abbrev TB.CORR_TICK_HI.TICK : Fld := ⟨0x40200058, 0x0, 0x0, 0, 16⟩
abbrev TB.CORR_SEC_LO.word : Fld := ⟨0x4020005C, 0x0, 0x0, 0, 32⟩
abbrev TB.CORR_SEC_LO.SEC : Fld := ⟨0x4020005C, 0x0, 0x0, 0, 32⟩
abbrev TB.CORR_SEC_HI.word : Fld := ⟨0x40200060, 0x0, 0x0, 0, 32⟩
abbrev TB.CORR_SEC_HI.SEC : Fld := ⟨0x40200060, 0x0, 0x0, 0, 16⟩
abbrev TB.CORR_NS.word : Fld := ⟨0x40200064, 0x0, 0x0, 0, 32⟩
abbrev TB.CORR_NS.NS : Fld := ⟨0x40200064, 0x0, 0x0, 0, 32⟩
abbrev TB.RTC_RATE.word : Fld := ⟨0x40200068, 0x0, 0x0, 0, 32⟩
abbrev TB.RTC_RATE.RATE : Fld := ⟨0x40200068, 0x0, 0x0, 0, 32⟩
abbrev TB.ING_LAT.word : Fld := ⟨0x40200100, 0x20, 0x0, 0, 32⟩
abbrev TB.ING_LAT.PS : Fld := ⟨0x40200100, 0x20, 0x0, 0, 32⟩
abbrev TB.EGR_LAT.word : Fld := ⟨0x40200104, 0x20, 0x0, 0, 32⟩
abbrev TB.EGR_LAT.PS : Fld := ⟨0x40200104, 0x20, 0x0, 0, 32⟩
abbrev TB.ASYM.word : Fld := ⟨0x40200108, 0x20, 0x0, 0, 32⟩
abbrev TB.ASYM.PS : Fld := ⟨0x40200108, 0x20, 0x0, 0, 32⟩
abbrev TB.TXQ_POP.word : Fld := ⟨0x4020010C, 0x20, 0x0, 0, 32⟩
abbrev TB.TXQ_POP.VALID : Fld := ⟨0x4020010C, 0x20, 0x0, 31, 1⟩
abbrev TB.TXQ_POP.ID : Fld := ⟨0x4020010C, 0x20, 0x0, 0, 16⟩
abbrev TB.TXQ_TS.word : Fld := ⟨0x40200110, 0x20, 0x0, 0, 32⟩
abbrev TB.TXQ_TS.TS32 : Fld := ⟨0x40200110, 0x20, 0x0, 0, 32⟩
abbrev TB.TXQ_STAT.word : Fld := ⟨0x40200114, 0x20, 0x0, 0, 32⟩
abbrev TB.TXQ_STAT.DROPPED : Fld := ⟨0x40200114, 0x20, 0x0, 16, 16⟩
abbrev TB.TXQ_STAT.FLUSHED : Fld := ⟨0x40200114, 0x20, 0x0, 10, 1⟩
abbrev TB.TXQ_STAT.STALE : Fld := ⟨0x40200114, 0x20, 0x0, 9, 1⟩
abbrev TB.TXQ_STAT.OVF : Fld := ⟨0x40200114, 0x20, 0x0, 8, 1⟩
abbrev TB.TXQ_STAT.COUNT : Fld := ⟨0x40200114, 0x20, 0x0, 0, 4⟩

/-- Register rows of TB, part 0. -/
def tbRows0 : List RegRow := [
  -- TB.CTL
  ⟨0x0, 0x0, 1, 0x0, 1, [⟨28, 4, .rw, .s, 13, 2⟩, ⟨24, 4, .rw, .s, 13, 2⟩, ⟨16, 3, .rw, .s, 7, 8⟩, ⟨8, 8, .rw, .s, 0, 8⟩, ⟨1, 1, .rw, .s, 1, 8⟩, ⟨0, 1, .rw, .s, 0, 8⟩]⟩,
  -- TB.STAT
  ⟨0x4, 0x0, 1, 0x0, 1, [⟨7, 3, .ro, .s, 0, 8⟩, ⟨5, 2, .ro, .s, 3, 8⟩, ⟨4, 1, .ro, .s, 0, 8⟩, ⟨3, 1, .ro, .s, 0, 8⟩, ⟨0, 3, .ro, .s, 0, 8⟩]⟩,
  -- TB.LIMITS
  ⟨0x8, 0x0, 1, 0x0, 1, [⟨16, 16, .rw, .s, 60, 2⟩, ⟨0, 16, .rw, .s, 1440, 2⟩]⟩,
  -- TB.STEPS
  ⟨0xC, 0x0, 1, 0x0, 1, [⟨0, 16, .rs, .s, 0, 8⟩]⟩,
  -- TB.TIME_CAP
  ⟨0x10, 0x0, 1, 0x0, 1, [⟨0, 32, .rs, .s, 0, 8⟩]⟩,
  -- TB.TIME_SEC_LO
  ⟨0x14, 0x0, 1, 0x0, 1, [⟨0, 32, .ro, .s, 0, 8⟩]⟩,
  -- TB.TIME_SEC_HI
  ⟨0x18, 0x0, 1, 0x0, 1, [⟨0, 16, .ro, .s, 0, 8⟩]⟩,
  -- TB.TIME_FRAC
  ⟨0x1C, 0x0, 1, 0x0, 1, [⟨0, 16, .ro, .s, 0, 8⟩]⟩,
  -- TB.TS32
  ⟨0x20, 0x0, 1, 0x0, 1, [⟨0, 32, .ro, .s, 0, 8⟩]⟩,
  -- TB.ADJ_FREQ
  ⟨0x24, 0x0, 1, 0x0, 1, [⟨0, 32, .rw, .s, 0, 8⟩]⟩,
  -- TB.STEP_SEC
  ⟨0x28, 0x0, 1, 0x0, 1, [⟨0, 32, .rw, .s, 0, 8⟩]⟩,
  -- TB.STEP_NS
  ⟨0x2C, 0x0, 1, 0x0, 1, [⟨0, 32, .rw, .s, 0, 8⟩]⟩]

/-- Register rows of TB, part 1. -/
def tbRows1 : List RegRow := [
  -- TB.STEP_CMD
  ⟨0x30, 0x0, 1, 0x0, 1, [⟨0, 1, .w1s, .s, 0, 8⟩]⟩,
  -- TB.SERVO
  ⟨0x34, 0x0, 1, 0x0, 1, [⟨16, 16, .rw, .s, 19661, 2⟩, ⟨0, 16, .rw, .s, 45875, 2⟩]⟩,
  -- TB.STEP_LIM
  ⟨0x38, 0x0, 1, 0x0, 1, [⟨16, 16, .rw, .s, 100, 2⟩, ⟨0, 16, .rw, .s, 100, 2⟩]⟩,
  -- TB.PWM
  ⟨0x40, 0x0, 1, 0x0, 1, [⟨16, 15, .ro, .s, 0, 8⟩, ⟨0, 3, .ro, .s, 1, 8⟩]⟩,
  -- TB.CORR_CTL
  ⟨0x50, 0x0, 1, 0x0, 1, [⟨2, 1, .ro, .s, 0, 8⟩, ⟨1, 1, .rw, .s, 1, 8⟩, ⟨0, 1, .w1s, .s, 0, 8⟩]⟩,
  -- TB.CORR_TICK_LO
  ⟨0x54, 0x0, 1, 0x0, 1, [⟨0, 32, .ro, .s, 0, 8⟩]⟩,
  -- TB.CORR_TICK_HI
  ⟨0x58, 0x0, 1, 0x0, 1, [⟨0, 16, .ro, .s, 0, 8⟩]⟩,
  -- TB.CORR_SEC_LO
  ⟨0x5C, 0x0, 1, 0x0, 1, [⟨0, 32, .ro, .s, 0, 8⟩]⟩,
  -- TB.CORR_SEC_HI
  ⟨0x60, 0x0, 1, 0x0, 1, [⟨0, 16, .ro, .s, 0, 8⟩]⟩,
  -- TB.CORR_NS
  ⟨0x64, 0x0, 1, 0x0, 1, [⟨0, 32, .ro, .s, 0, 8⟩]⟩,
  -- TB.RTC_RATE
  ⟨0x68, 0x0, 1, 0x0, 1, [⟨0, 32, .rw, .s, 0, 2⟩]⟩,
  -- TB.ING_LAT
  ⟨0x100, 0x20, 3, 0x0, 1, [⟨0, 32, .rw, .s, 0, 2⟩]⟩]

/-- Register rows of TB, part 2. -/
def tbRows2 : List RegRow := [
  -- TB.EGR_LAT
  ⟨0x104, 0x20, 3, 0x0, 1, [⟨0, 32, .rw, .s, 0, 2⟩]⟩,
  -- TB.ASYM
  ⟨0x108, 0x20, 3, 0x0, 1, [⟨0, 32, .rw, .s, 0, 8⟩]⟩,
  -- TB.TXQ_POP
  ⟨0x10C, 0x20, 3, 0x0, 1, [⟨31, 1, .rs, .s, 0, 8⟩, ⟨0, 16, .rs, .s, 0, 8⟩]⟩,
  -- TB.TXQ_TS
  ⟨0x110, 0x20, 3, 0x0, 1, [⟨0, 32, .ro, .s, 0, 8⟩]⟩,
  -- TB.TXQ_STAT
  ⟨0x114, 0x20, 3, 0x0, 1, [⟨16, 16, .ro, .s, 0, 8⟩, ⟨10, 1, .w1c, .s, 0, 8⟩, ⟨9, 1, .w1c, .s, 0, 8⟩, ⟨8, 1, .w1c, .s, 0, 8⟩, ⟨0, 4, .ro, .s, 0, 8⟩]⟩]

/-! ### AIR, base 0x40300000 -/

abbrev AIR.CTL.word : Fld := ⟨0x40300000, 0x0, 0x0, 0, 32⟩
abbrev AIR.CTL.RUN : Fld := ⟨0x40300000, 0x0, 0x0, 0, 1⟩
abbrev AIR.STAT.word : Fld := ⟨0x40300004, 0x0, 0x0, 0, 32⟩
abbrev AIR.STAT.GRACE : Fld := ⟨0x40300004, 0x0, 0x0, 11, 1⟩
abbrev AIR.STAT.SW_ARMED : Fld := ⟨0x40300004, 0x0, 0x0, 10, 1⟩
abbrev AIR.STAT.KEYIDX_TX : Fld := ⟨0x40300004, 0x0, 0x0, 8, 2⟩
abbrev AIR.STAT.RADIO_ON : Fld := ⟨0x40300004, 0x0, 0x0, 0, 5⟩
abbrev AIR.BOLT.word : Fld := ⟨0x40300008, 0x0, 0x0, 0, 32⟩
abbrev AIR.BOLT.BOLT : Fld := ⟨0x40300008, 0x0, 0x0, 0, 32⟩
abbrev AIR.PROFILE.word : Fld := ⟨0x4030000C, 0x0, 0x0, 0, 32⟩
abbrev AIR.PROFILE.MAX_PSDU_24 : Fld := ⟨0x4030000C, 0x0, 0x0, 24, 8⟩
abbrev AIR.PROFILE.MAX_PSDU : Fld := ⟨0x4030000C, 0x0, 0x0, 16, 8⟩
abbrev AIR.PROFILE.FRESH_W_QS : Fld := ⟨0x4030000C, 0x0, 0x0, 8, 8⟩
abbrev AIR.PROFILE.STITCH : Fld := ⟨0x4030000C, 0x0, 0x0, 4, 2⟩
abbrev AIR.PROFILE.PHY : Fld := ⟨0x4030000C, 0x0, 0x0, 0, 3⟩
abbrev AIR.EPOCH.word : Fld := ⟨0x40300010, 0x0, 0x0, 0, 32⟩
abbrev AIR.EPOCH.AHEAD : Fld := ⟨0x40300010, 0x0, 0x0, 16, 14⟩
abbrev AIR.EPOCH.EPOCH : Fld := ⟨0x40300010, 0x0, 0x0, 0, 14⟩
abbrev AIR.TUNE.word : Fld := ⟨0x40300014, 0x0, 0x0, 0, 32⟩
abbrev AIR.TUNE.IMG_PCT : Fld := ⟨0x40300014, 0x0, 0x0, 16, 8⟩
abbrev AIR.TUNE.CCA_DBM : Fld := ⟨0x40300014, 0x0, 0x0, 8, 8⟩
abbrev AIR.TUNE.TXP_BACKOFF : Fld := ⟨0x40300014, 0x0, 0x0, 0, 8⟩
abbrev AIR.KEY_CTL.word : Fld := ⟨0x40300020, 0x0, 0x0, 0, 32⟩
abbrev AIR.KEY_CTL.GRACE_BOLTS : Fld := ⟨0x40300020, 0x0, 0x0, 16, 16⟩
abbrev AIR.KEY_CTL.LOADED : Fld := ⟨0x40300020, 0x0, 0x0, 0, 4⟩
abbrev AIR.KEY_SW.word : Fld := ⟨0x40300024, 0x0, 0x0, 0, 32⟩
abbrev AIR.KEY_SW.BOLT : Fld := ⟨0x40300024, 0x0, 0x0, 0, 32⟩
abbrev AIR.KEY_ARM.word : Fld := ⟨0x40300028, 0x0, 0x0, 0, 32⟩
abbrev AIR.KEY_ARM.ARM : Fld := ⟨0x40300028, 0x0, 0x0, 2, 1⟩
abbrev AIR.KEY_ARM.NEXT : Fld := ⟨0x40300028, 0x0, 0x0, 0, 2⟩
abbrev AIR.HOP_BOLT.word : Fld := ⟨0x40300030, 0x0, 0x0, 0, 32⟩
abbrev AIR.HOP_BOLT.BOLT : Fld := ⟨0x40300030, 0x0, 0x0, 0, 32⟩
abbrev AIR.HOP_ARG.word : Fld := ⟨0x40300034, 0x0, 0x0, 0, 32⟩
abbrev AIR.HOP_ARG.RADIO : Fld := ⟨0x40300034, 0x0, 0x0, 8, 3⟩
abbrev AIR.HOP_ARG.STITCH : Fld := ⟨0x40300034, 0x0, 0x0, 0, 8⟩
abbrev AIR.HOP_RES.word : Fld := ⟨0x40300038, 0x0, 0x0, 0, 32⟩
abbrev AIR.HOP_RES.DONE : Fld := ⟨0x40300038, 0x0, 0x0, 31, 1⟩
abbrev AIR.HOP_RES.CHANNEL : Fld := ⟨0x40300038, 0x0, 0x0, 0, 7⟩
abbrev AIR.TXP.word : Fld := ⟨0x40300040, 0x4, 0x0, 0, 32⟩
abbrev AIR.TXP.DBM : Fld := ⟨0x40300040, 0x4, 0x0, 0, 8⟩
abbrev AIR.RXC_A.word : Fld := ⟨0x40300060, 0x0, 0x0, 0, 32⟩
abbrev AIR.RXC_A.FORMAT : Fld := ⟨0x40300060, 0x0, 0x0, 16, 16⟩
abbrev AIR.RXC_A.ADDR : Fld := ⟨0x40300060, 0x0, 0x0, 0, 16⟩
abbrev AIR.RXC_B.word : Fld := ⟨0x40300064, 0x0, 0x0, 0, 32⟩
abbrev AIR.RXC_B.KEY : Fld := ⟨0x40300064, 0x0, 0x0, 16, 16⟩
abbrev AIR.RXC_B.MIC : Fld := ⟨0x40300064, 0x0, 0x0, 0, 16⟩
abbrev AIR.RXC_C.word : Fld := ⟨0x40300068, 0x0, 0x0, 0, 32⟩
abbrev AIR.RXC_C.STALE : Fld := ⟨0x40300068, 0x0, 0x0, 16, 16⟩
abbrev AIR.RXC_C.EPOCH : Fld := ⟨0x40300068, 0x0, 0x0, 0, 16⟩
abbrev AIR.RXC_D.word : Fld := ⟨0x4030006C, 0x0, 0x0, 0, 32⟩
abbrev AIR.RXC_D.REPLAY : Fld := ⟨0x4030006C, 0x0, 0x0, 16, 16⟩
abbrev AIR.RXC_D.DUPLICATE : Fld := ⟨0x4030006C, 0x0, 0x0, 0, 16⟩
abbrev AIR.RXC_E.word : Fld := ⟨0x40300070, 0x0, 0x0, 0, 32⟩
abbrev AIR.RXC_E.BAD_RECORD : Fld := ⟨0x40300070, 0x0, 0x0, 16, 16⟩
abbrev AIR.RXC_E.RANGE : Fld := ⟨0x40300070, 0x0, 0x0, 0, 16⟩
abbrev AIR.TXC.word : Fld := ⟨0x40300080, 0x4, 0x0, 0, 32⟩
abbrev AIR.TXC.DEFER_LBT : Fld := ⟨0x40300080, 0x4, 0x0, 16, 16⟩
abbrev AIR.TXC.DEFER_DWELL : Fld := ⟨0x40300080, 0x4, 0x0, 0, 16⟩
abbrev AIR.TXD.word : Fld := ⟨0x40300098, 0x0, 0x0, 0, 32⟩
abbrev AIR.TXD.FLUSHED : Fld := ⟨0x40300098, 0x0, 0x0, 0, 16⟩
abbrev AIR.KEY_W.word : Fld := ⟨0x40300100, 0x10, 0x4, 0, 32⟩
abbrev AIR.KEY_W.KEY : Fld := ⟨0x40300100, 0x10, 0x4, 0, 32⟩
abbrev AIR.DWELL.word : Fld := ⟨0x40300400, 0x4, 0x0, 0, 32⟩
abbrev AIR.DWELL.US : Fld := ⟨0x40300400, 0x4, 0x0, 0, 32⟩
abbrev AIR.SUBB.word : Fld := ⟨0x40300600, 0x4, 0x0, 0, 32⟩
abbrev AIR.SUBB.US : Fld := ⟨0x40300600, 0x4, 0x0, 0, 32⟩
abbrev AIR.DW24.word : Fld := ⟨0x40300A00, 0x4, 0x0, 0, 32⟩
abbrev AIR.DW24.US : Fld := ⟨0x40300A00, 0x4, 0x0, 0, 32⟩
abbrev AIR.LINK.word : Fld := ⟨0x40310000, 0x4, 0x0, 0, 32⟩
abbrev AIR.LINK.HEARD_S : Fld := ⟨0x40310000, 0x4, 0x0, 16, 16⟩
abbrev AIR.LINK.RSSI : Fld := ⟨0x40310000, 0x4, 0x0, 8, 8⟩
abbrev AIR.LINK.MISSED : Fld := ⟨0x40310000, 0x4, 0x0, 0, 8⟩
abbrev AIR.NODE_CFG.word : Fld := ⟨0x40320000, 0x4, 0x0, 0, 32⟩
abbrev AIR.NODE_CFG.FW_VERSION : Fld := ⟨0x40320000, 0x4, 0x0, 16, 16⟩
abbrev AIR.NODE_CFG.CFG_SEQ : Fld := ⟨0x40320000, 0x4, 0x0, 0, 16⟩

/-- Register rows of AIR, part 0. -/
def airRows0 : List RegRow := [
  -- AIR.CTL
  ⟨0x0, 0x0, 1, 0x0, 1, [⟨0, 1, .rw, .s, 0, 8⟩]⟩,
  -- AIR.STAT
  ⟨0x4, 0x0, 1, 0x0, 1, [⟨11, 1, .ro, .s, 0, 8⟩, ⟨10, 1, .ro, .s, 0, 8⟩, ⟨8, 2, .ro, .s, 0, 8⟩, ⟨0, 5, .ro, .s, 0, 8⟩]⟩,
  -- AIR.BOLT
  ⟨0x8, 0x0, 1, 0x0, 1, [⟨0, 32, .ro, .s, 0, 8⟩]⟩,
  -- AIR.PROFILE
  ⟨0xC, 0x0, 1, 0x0, 1, [⟨24, 8, .ro, .s, 0, 8⟩, ⟨16, 8, .ro, .s, 0, 8⟩, ⟨8, 8, .ro, .s, 8, 8⟩, ⟨4, 2, .ro, .s, 1, 8⟩, ⟨0, 3, .ro, .s, 2, 8⟩]⟩,
  -- AIR.EPOCH
  ⟨0x10, 0x0, 1, 0x0, 1, [⟨16, 14, .ro, .s, 0, 8⟩, ⟨0, 14, .ro, .s, 0, 8⟩]⟩,
  -- AIR.TUNE
  ⟨0x14, 0x0, 1, 0x0, 1, [⟨16, 8, .rw, .s, 25, 3⟩, ⟨8, 8, .rw, .s, 171, 3⟩, ⟨0, 8, .rw, .s, 0, 3⟩]⟩,
  -- AIR.KEY_CTL
  ⟨0x20, 0x0, 1, 0x0, 1, [⟨16, 16, .rw, .s, 64, 3⟩, ⟨0, 4, .ro, .s, 0, 8⟩]⟩,
  -- AIR.KEY_SW
  ⟨0x24, 0x0, 1, 0x0, 1, [⟨0, 32, .rw, .s, 0, 8⟩]⟩,
  -- AIR.KEY_ARM
  ⟨0x28, 0x0, 1, 0x0, 1, [⟨2, 1, .w1s, .s, 0, 8⟩, ⟨0, 2, .rw, .s, 0, 8⟩]⟩,
  -- AIR.HOP_BOLT
  ⟨0x30, 0x0, 1, 0x0, 1, [⟨0, 32, .rw, .s, 0, 8⟩]⟩,
  -- AIR.HOP_ARG
  ⟨0x34, 0x0, 1, 0x0, 1, [⟨8, 3, .rw, .s, 0, 8⟩, ⟨0, 8, .rw, .s, 0, 8⟩]⟩,
  -- AIR.HOP_RES
  ⟨0x38, 0x0, 1, 0x0, 1, [⟨31, 1, .ro, .s, 0, 8⟩, ⟨0, 7, .ro, .s, 0, 8⟩]⟩]

/-- Register rows of AIR, part 1. -/
def airRows1 : List RegRow := [
  -- AIR.TXP
  ⟨0x40, 0x4, 5, 0x0, 1, [⟨0, 8, .ro, .s, 0, 8⟩]⟩,
  -- AIR.RXC_A
  ⟨0x60, 0x0, 1, 0x0, 1, [⟨16, 16, .rs, .s, 0, 8⟩, ⟨0, 16, .rs, .s, 0, 8⟩]⟩,
  -- AIR.RXC_B
  ⟨0x64, 0x0, 1, 0x0, 1, [⟨16, 16, .rs, .s, 0, 8⟩, ⟨0, 16, .rs, .s, 0, 8⟩]⟩,
  -- AIR.RXC_C
  ⟨0x68, 0x0, 1, 0x0, 1, [⟨16, 16, .rs, .s, 0, 8⟩, ⟨0, 16, .rs, .s, 0, 8⟩]⟩,
  -- AIR.RXC_D
  ⟨0x6C, 0x0, 1, 0x0, 1, [⟨16, 16, .rs, .s, 0, 8⟩, ⟨0, 16, .rs, .s, 0, 8⟩]⟩,
  -- AIR.RXC_E
  ⟨0x70, 0x0, 1, 0x0, 1, [⟨16, 16, .rs, .s, 0, 8⟩, ⟨0, 16, .rs, .s, 0, 8⟩]⟩,
  -- AIR.TXC
  ⟨0x80, 0x4, 5, 0x0, 1, [⟨16, 16, .rs, .s, 0, 8⟩, ⟨0, 16, .rs, .s, 0, 8⟩]⟩,
  -- AIR.TXD
  ⟨0x98, 0x0, 1, 0x0, 1, [⟨0, 16, .rs, .s, 0, 8⟩]⟩,
  -- AIR.KEY_W
  ⟨0x100, 0x10, 4, 0x4, 4, [⟨0, 32, .wo, .s, 0, 8⟩]⟩,
  -- AIR.DWELL
  ⟨0x400, 0x4, 128, 0x0, 1, [⟨0, 32, .ro, .s, 0, 8⟩]⟩,
  -- AIR.SUBB
  ⟨0x600, 0x4, 256, 0x0, 1, [⟨0, 32, .ro, .s, 0, 8⟩]⟩,
  -- AIR.DW24
  ⟨0xA00, 0x4, 16, 0x0, 1, [⟨0, 32, .ro, .s, 0, 8⟩]⟩]

/-- Register rows of AIR, part 2. -/
def airRows2 : List RegRow := [
  -- AIR.LINK
  ⟨0x10000, 0x4, 4096, 0x0, 1, [⟨16, 16, .ro, .s, 65535, 8⟩, ⟨8, 8, .ro, .s, 0, 8⟩, ⟨0, 8, .ro, .s, 0, 8⟩]⟩,
  -- AIR.NODE_CFG
  ⟨0x20000, 0x4, 4096, 0x0, 1, [⟨16, 16, .ro, .s, 0, 8⟩, ⟨0, 16, .ro, .s, 0, 8⟩]⟩]

/-! ### SW, base 0x40400000 -/

abbrev SW.CTL.word : Fld := ⟨0x40400000, 0x0, 0x0, 0, 32⟩
abbrev SW.CTL.MEDIA_B : Fld := ⟨0x40400000, 0x0, 0x0, 6, 2⟩
abbrev SW.CTL.MEDIA_A : Fld := ⟨0x40400000, 0x0, 0x0, 4, 2⟩
abbrev SW.CTL.PORT_EN : Fld := ⟨0x40400000, 0x0, 0x0, 0, 3⟩
abbrev SW.PORT_STAT.word : Fld := ⟨0x40400010, 0x4, 0x0, 0, 32⟩
abbrev SW.PORT_STAT.SFP_PWR : Fld := ⟨0x40400010, 0x4, 0x0, 5, 1⟩
abbrev SW.PORT_STAT.SFP : Fld := ⟨0x40400010, 0x4, 0x0, 4, 1⟩
abbrev SW.PORT_STAT.BLOCKED : Fld := ⟨0x40400010, 0x4, 0x0, 3, 1⟩
abbrev SW.PORT_STAT.LPI : Fld := ⟨0x40400010, 0x4, 0x0, 2, 1⟩
abbrev SW.PORT_STAT.FIBRE : Fld := ⟨0x40400010, 0x4, 0x0, 1, 1⟩
abbrev SW.PORT_STAT.LINK : Fld := ⟨0x40400010, 0x4, 0x0, 0, 1⟩
abbrev SW.ERPS_CTL.word : Fld := ⟨0x40400020, 0x0, 0x0, 0, 32⟩
abbrev SW.ERPS_CTL.RAPS_VID : Fld := ⟨0x40400020, 0x0, 0x0, 20, 12⟩
abbrev SW.ERPS_CTL.MEL : Fld := ⟨0x40400020, 0x0, 0x0, 16, 3⟩
abbrev SW.ERPS_CTL.RING_ID : Fld := ⟨0x40400020, 0x0, 0x0, 8, 8⟩
abbrev SW.ERPS_CTL.REVERTIVE : Fld := ⟨0x40400020, 0x0, 0x0, 3, 1⟩
abbrev SW.ERPS_CTL.RPL_PORT : Fld := ⟨0x40400020, 0x0, 0x0, 2, 1⟩
abbrev SW.ERPS_CTL.OWNER : Fld := ⟨0x40400020, 0x0, 0x0, 1, 1⟩
abbrev SW.ERPS_CTL.EN : Fld := ⟨0x40400020, 0x0, 0x0, 0, 1⟩
abbrev SW.ERPS_TMR.word : Fld := ⟨0x40400024, 0x0, 0x0, 0, 32⟩
abbrev SW.ERPS_TMR.WTR_MIN : Fld := ⟨0x40400024, 0x0, 0x0, 24, 8⟩
abbrev SW.ERPS_TMR.GUARD : Fld := ⟨0x40400024, 0x0, 0x0, 16, 8⟩
abbrev SW.ERPS_TMR.HOLDOFF : Fld := ⟨0x40400024, 0x0, 0x0, 8, 8⟩
abbrev SW.ERPS_CMD.word : Fld := ⟨0x40400028, 0x0, 0x0, 0, 32⟩
abbrev SW.ERPS_CMD.PORT : Fld := ⟨0x40400028, 0x0, 0x0, 2, 1⟩
abbrev SW.ERPS_CMD.OP : Fld := ⟨0x40400028, 0x0, 0x0, 0, 2⟩
abbrev SW.ERPS_STAT.word : Fld := ⟨0x4040002C, 0x0, 0x0, 0, 32⟩
abbrev SW.ERPS_STAT.CHANGES : Fld := ⟨0x4040002C, 0x0, 0x0, 16, 16⟩
abbrev SW.ERPS_STAT.WTB : Fld := ⟨0x4040002C, 0x0, 0x0, 4, 1⟩
abbrev SW.ERPS_STAT.WTR : Fld := ⟨0x4040002C, 0x0, 0x0, 3, 1⟩
abbrev SW.ERPS_STAT.STATE : Fld := ⟨0x4040002C, 0x0, 0x0, 0, 3⟩
abbrev SW.FDB.word : Fld := ⟨0x40400030, 0x0, 0x0, 0, 32⟩
abbrev SW.FDB.AGE_S : Fld := ⟨0x40400030, 0x0, 0x0, 16, 16⟩
abbrev SW.FDB.ENTRIES : Fld := ⟨0x40400030, 0x0, 0x0, 0, 13⟩
abbrev SW.FDB_FLUSH.word : Fld := ⟨0x40400034, 0x0, 0x0, 0, 32⟩
abbrev SW.FDB_FLUSH.GO : Fld := ⟨0x40400034, 0x0, 0x0, 0, 1⟩
abbrev SW.DROP.word : Fld := ⟨0x40400040, 0x8, 0x0, 0, 32⟩
abbrev SW.DROP.BUF : Fld := ⟨0x40400040, 0x8, 0x0, 16, 16⟩
abbrev SW.DROP.ERR : Fld := ⟨0x40400040, 0x8, 0x0, 0, 16⟩
abbrev SW.DROP2.word : Fld := ⟨0x40400044, 0x8, 0x0, 0, 32⟩
abbrev SW.DROP2.QUEUE : Fld := ⟨0x40400044, 0x8, 0x0, 0, 16⟩
abbrev SW.MAC_LO.word : Fld := ⟨0x40400060, 0x0, 0x0, 0, 32⟩
abbrev SW.MAC_LO.MAC : Fld := ⟨0x40400060, 0x0, 0x0, 0, 32⟩
abbrev SW.MAC_HI.word : Fld := ⟨0x40400064, 0x0, 0x0, 0, 32⟩
abbrev SW.MAC_HI.MAC : Fld := ⟨0x40400064, 0x0, 0x0, 0, 16⟩

/-- Register rows of SW, part 0. -/
def swRows0 : List RegRow := [
  -- SW.CTL
  ⟨0x0, 0x0, 1, 0x0, 1, [⟨6, 2, .rw, .s, 2, 8⟩, ⟨4, 2, .rw, .s, 2, 8⟩, ⟨0, 3, .rw, .s, 0, 8⟩]⟩,
  -- SW.PORT_STAT
  ⟨0x10, 0x4, 3, 0x0, 1, [⟨5, 1, .ro, .s, 0, 8⟩, ⟨4, 1, .ro, .s, 0, 8⟩, ⟨3, 1, .ro, .s, 0, 8⟩, ⟨2, 1, .ro, .s, 0, 8⟩, ⟨1, 1, .ro, .s, 0, 8⟩, ⟨0, 1, .ro, .s, 0, 8⟩]⟩,
  -- SW.ERPS_CTL
  ⟨0x20, 0x0, 1, 0x0, 1, [⟨20, 12, .rw, .s, 4094, 8⟩, ⟨16, 3, .rw, .s, 7, 8⟩, ⟨8, 8, .rw, .s, 1, 8⟩, ⟨3, 1, .rw, .s, 1, 8⟩, ⟨2, 1, .rw, .s, 1, 8⟩, ⟨1, 1, .rw, .s, 0, 8⟩, ⟨0, 1, .rw, .s, 0, 8⟩]⟩,
  -- SW.ERPS_TMR
  ⟨0x24, 0x0, 1, 0x0, 1, [⟨24, 8, .rw, .s, 5, 8⟩, ⟨16, 8, .rw, .s, 50, 8⟩, ⟨8, 8, .rw, .s, 0, 8⟩]⟩,
  -- SW.ERPS_CMD
  ⟨0x28, 0x0, 1, 0x0, 1, [⟨2, 1, .wo, .s, 0, 8⟩, ⟨0, 2, .wo, .s, 0, 8⟩]⟩,
  -- SW.ERPS_STAT
  ⟨0x2C, 0x0, 1, 0x0, 1, [⟨16, 16, .rs, .s, 0, 8⟩, ⟨4, 1, .ro, .s, 0, 8⟩, ⟨3, 1, .ro, .s, 0, 8⟩, ⟨0, 3, .ro, .s, 0, 8⟩]⟩,
  -- SW.FDB
  ⟨0x30, 0x0, 1, 0x0, 1, [⟨16, 16, .rw, .s, 300, 8⟩, ⟨0, 13, .ro, .s, 0, 8⟩]⟩,
  -- SW.FDB_FLUSH
  ⟨0x34, 0x0, 1, 0x0, 1, [⟨0, 1, .w1s, .s, 0, 8⟩]⟩,
  -- SW.DROP
  ⟨0x40, 0x8, 4, 0x0, 1, [⟨16, 16, .rs, .s, 0, 8⟩, ⟨0, 16, .rs, .s, 0, 8⟩]⟩,
  -- SW.DROP2
  ⟨0x44, 0x8, 4, 0x0, 1, [⟨0, 16, .rs, .s, 0, 8⟩]⟩,
  -- SW.MAC_LO
  ⟨0x60, 0x0, 1, 0x0, 1, [⟨0, 32, .ro, .s, 0, 8⟩]⟩,
  -- SW.MAC_HI
  ⟨0x64, 0x0, 1, 0x0, 1, [⟨0, 16, .ro, .s, 0, 8⟩]⟩]

/-! ### QM, base 0x40500000 -/

abbrev QM.POOL.word : Fld := ⟨0x40500004, 0x0, 0x0, 0, 32⟩
abbrev QM.POOL.RES_SUM : Fld := ⟨0x40500004, 0x0, 0x0, 16, 15⟩
abbrev QM.POOL.FREE : Fld := ⟨0x40500004, 0x0, 0x0, 0, 15⟩
abbrev QM.PTR_ERR.word : Fld := ⟨0x40500008, 0x0, 0x0, 0, 32⟩
abbrev QM.PTR_ERR.COUNT : Fld := ⟨0x40500008, 0x0, 0x0, 16, 16⟩
abbrev QM.PTR_ERR.AUDIT : Fld := ⟨0x40500008, 0x0, 0x0, 5, 1⟩
abbrev QM.PTR_ERR.QUEUE : Fld := ⟨0x40500008, 0x0, 0x0, 0, 5⟩
abbrev QM.TO.word : Fld := ⟨0x4050000C, 0x0, 0x0, 0, 32⟩
abbrev QM.TO.FIRED : Fld := ⟨0x4050000C, 0x0, 0x0, 0, 32⟩
abbrev QM.Q_CFG.word : Fld := ⟨0x40500100, 0x20, 0x0, 0, 32⟩
abbrev QM.Q_CFG.TIMEOUT : Fld := ⟨0x40500100, 0x20, 0x0, 16, 16⟩
abbrev QM.Q_CFG.BANK_CELLS : Fld := ⟨0x40500100, 0x20, 0x0, 8, 7⟩
abbrev QM.Q_CFG.ORG : Fld := ⟨0x40500100, 0x20, 0x0, 0, 1⟩
abbrev QM.Q_LIM.word : Fld := ⟨0x40500104, 0x20, 0x0, 0, 32⟩
abbrev QM.Q_LIM.RESERVE : Fld := ⟨0x40500104, 0x20, 0x0, 16, 16⟩
abbrev QM.Q_LIM.QUOTA : Fld := ⟨0x40500104, 0x20, 0x0, 0, 16⟩
abbrev QM.Q_STAT.word : Fld := ⟨0x40500108, 0x20, 0x0, 0, 32⟩
abbrev QM.Q_STAT.ITEMS : Fld := ⟨0x40500108, 0x20, 0x0, 16, 16⟩
abbrev QM.Q_STAT.USED : Fld := ⟨0x40500108, 0x20, 0x0, 0, 15⟩
abbrev QM.Q_FLAG.word : Fld := ⟨0x4050010C, 0x20, 0x0, 0, 32⟩
abbrev QM.Q_FLAG.BANK : Fld := ⟨0x4050010C, 0x20, 0x0, 4, 1⟩
abbrev QM.Q_FLAG.PTR_RESET : Fld := ⟨0x4050010C, 0x20, 0x0, 3, 1⟩
abbrev QM.Q_FLAG.FLUSHED : Fld := ⟨0x4050010C, 0x20, 0x0, 2, 1⟩
abbrev QM.Q_FLAG.TIMEOUT : Fld := ⟨0x4050010C, 0x20, 0x0, 1, 1⟩
abbrev QM.Q_FLAG.FULL : Fld := ⟨0x4050010C, 0x20, 0x0, 0, 1⟩
abbrev QM.Q_CMD.word : Fld := ⟨0x40500110, 0x20, 0x0, 0, 32⟩
abbrev QM.Q_CMD.DROP_FILL : Fld := ⟨0x40500110, 0x20, 0x0, 2, 1⟩
abbrev QM.Q_CMD.SWAP : Fld := ⟨0x40500110, 0x20, 0x0, 1, 1⟩
abbrev QM.Q_CMD.FLUSH : Fld := ⟨0x40500110, 0x20, 0x0, 0, 1⟩
abbrev QM.Q_POP.word : Fld := ⟨0x40500114, 0x20, 0x0, 0, 32⟩
abbrev QM.Q_POP.VALID : Fld := ⟨0x40500114, 0x20, 0x0, 31, 1⟩
abbrev QM.Q_POP.CELLS : Fld := ⟨0x40500114, 0x20, 0x0, 16, 5⟩
abbrev QM.Q_POP.FIRST : Fld := ⟨0x40500114, 0x20, 0x0, 0, 14⟩
abbrev QM.Q_REL.word : Fld := ⟨0x40500118, 0x20, 0x0, 0, 32⟩
abbrev QM.Q_REL.FIRST : Fld := ⟨0x40500118, 0x20, 0x0, 0, 14⟩
abbrev QM.Q_CNT.word : Fld := ⟨0x4050011C, 0x20, 0x0, 0, 32⟩
abbrev QM.Q_CNT.REFUSED : Fld := ⟨0x4050011C, 0x20, 0x0, 16, 16⟩
abbrev QM.Q_CNT.FLUSHES : Fld := ⟨0x4050011C, 0x20, 0x0, 0, 16⟩
abbrev QM.ALLOC.word : Fld := ⟨0x40500500, 0x8, 0x0, 0, 32⟩
abbrev QM.ALLOC.VALID : Fld := ⟨0x40500500, 0x8, 0x0, 31, 1⟩
abbrev QM.ALLOC.CELL : Fld := ⟨0x40500500, 0x8, 0x0, 0, 14⟩
abbrev QM.PUSH.word : Fld := ⟨0x40500504, 0x8, 0x0, 0, 32⟩
abbrev QM.PUSH.ABORT : Fld := ⟨0x40500504, 0x8, 0x0, 1, 1⟩
abbrev QM.PUSH.COMMIT : Fld := ⟨0x40500504, 0x8, 0x0, 0, 1⟩
abbrev QM.LINK.word : Fld := ⟨0x40510000, 0x4, 0x0, 0, 32⟩
abbrev QM.LINK.VALID : Fld := ⟨0x40510000, 0x4, 0x0, 31, 1⟩
abbrev QM.LINK.OWNER : Fld := ⟨0x40510000, 0x4, 0x0, 24, 5⟩
abbrev QM.LINK.LAST : Fld := ⟨0x40510000, 0x4, 0x0, 22, 1⟩
abbrev QM.LINK.NEXT : Fld := ⟨0x40510000, 0x4, 0x0, 0, 14⟩

/-- Register rows of QM, part 0. -/
def qmRows0 : List RegRow := [
  -- QM.POOL
  ⟨0x4, 0x0, 1, 0x0, 1, [⟨16, 15, .ro, .s, 0, 8⟩, ⟨0, 15, .ro, .s, 16384, 8⟩]⟩,
  -- QM.PTR_ERR
  ⟨0x8, 0x0, 1, 0x0, 1, [⟨16, 16, .ro, .s, 0, 8⟩, ⟨5, 1, .ro, .s, 0, 8⟩, ⟨0, 5, .ro, .s, 0, 8⟩]⟩,
  -- QM.TO
  ⟨0xC, 0x0, 1, 0x0, 1, [⟨0, 32, .w1c, .s, 0, 8⟩]⟩,
  -- QM.Q_CFG
  ⟨0x100, 0x20, 32, 0x0, 1, [⟨16, 16, .rw, .s, 0, 8⟩, ⟨8, 7, .rw, .s, 0, 8⟩, ⟨0, 1, .ro, .s, 0, 8⟩]⟩,
  -- QM.Q_LIM
  ⟨0x104, 0x20, 32, 0x0, 1, [⟨16, 16, .rw, .s, 0, 8⟩, ⟨0, 16, .rw, .s, 0, 8⟩]⟩,
  -- QM.Q_STAT
  ⟨0x108, 0x20, 32, 0x0, 1, [⟨16, 16, .ro, .s, 0, 8⟩, ⟨0, 15, .ro, .s, 0, 8⟩]⟩,
  -- QM.Q_FLAG
  ⟨0x10C, 0x20, 32, 0x0, 1, [⟨4, 1, .ro, .s, 0, 8⟩, ⟨3, 1, .w1c, .s, 0, 8⟩, ⟨2, 1, .w1c, .s, 0, 8⟩, ⟨1, 1, .w1c, .s, 0, 8⟩, ⟨0, 1, .ro, .s, 0, 8⟩]⟩,
  -- QM.Q_CMD
  ⟨0x110, 0x20, 32, 0x0, 1, [⟨2, 1, .w1s, .s, 0, 8⟩, ⟨1, 1, .w1s, .s, 0, 8⟩, ⟨0, 1, .w1s, .s, 0, 8⟩]⟩,
  -- QM.Q_POP
  ⟨0x114, 0x20, 32, 0x0, 1, [⟨31, 1, .rs, .s, 0, 8⟩, ⟨16, 5, .rs, .s, 0, 8⟩, ⟨0, 14, .rs, .s, 0, 8⟩]⟩,
  -- QM.Q_REL
  ⟨0x118, 0x20, 32, 0x0, 1, [⟨0, 14, .wo, .s, 0, 8⟩]⟩,
  -- QM.Q_CNT
  ⟨0x11C, 0x20, 32, 0x0, 1, [⟨16, 16, .rs, .s, 0, 8⟩, ⟨0, 16, .rs, .s, 0, 8⟩]⟩,
  -- QM.ALLOC
  ⟨0x500, 0x8, 32, 0x0, 1, [⟨31, 1, .rs, .s, 0, 8⟩, ⟨0, 14, .rs, .s, 0, 8⟩]⟩]

/-- Register rows of QM, part 1. -/
def qmRows1 : List RegRow := [
  -- QM.PUSH
  ⟨0x504, 0x8, 32, 0x0, 1, [⟨1, 1, .wo, .s, 0, 8⟩, ⟨0, 1, .wo, .s, 0, 8⟩]⟩,
  -- QM.LINK
  ⟨0x10000, 0x4, 16384, 0x0, 1, [⟨31, 1, .ro, .s, 0, 8⟩, ⟨24, 5, .ro, .s, 0, 8⟩, ⟨22, 1, .ro, .s, 0, 8⟩, ⟨0, 14, .ro, .s, 0, 8⟩]⟩]

/-! ### LOOM, base 0x40600000 -/

abbrev LOOM.CTL.word : Fld := ⟨0x40600000, 0x0, 0x0, 0, 32⟩
abbrev LOOM.CTL.RUN : Fld := ⟨0x40600000, 0x0, 0x0, 0, 1⟩
abbrev LOOM.STAT.word : Fld := ⟨0x40600004, 0x0, 0x0, 0, 32⟩
abbrev LOOM.STAT.HELD : Fld := ⟨0x40600004, 0x0, 0x0, 1, 1⟩
abbrev LOOM.STAT.IDLE : Fld := ⟨0x40600004, 0x0, 0x0, 0, 1⟩
abbrev LOOM.XBAR_DROP.word : Fld := ⟨0x40600008, 0x0, 0x0, 0, 32⟩
abbrev LOOM.XBAR_DROP.COUNT : Fld := ⟨0x40600008, 0x0, 0x0, 0, 16⟩
abbrev LOOM.WORLD_DROP.word : Fld := ⟨0x4060000C, 0x0, 0x0, 0, 32⟩
abbrev LOOM.WORLD_DROP.COUNT : Fld := ⟨0x4060000C, 0x0, 0x0, 0, 16⟩
abbrev LOOM.FAULT_SUM_LO.word : Fld := ⟨0x40600010, 0x0, 0x0, 0, 32⟩
abbrev LOOM.FAULT_SUM_LO.TILE : Fld := ⟨0x40600010, 0x0, 0x0, 0, 32⟩
abbrev LOOM.FAULT_SUM_HI.word : Fld := ⟨0x40600014, 0x0, 0x0, 0, 32⟩
abbrev LOOM.FAULT_SUM_HI.TILE : Fld := ⟨0x40600014, 0x0, 0x0, 0, 32⟩
abbrev LOOM.SCHED_CNT.word : Fld := ⟨0x40600020, 0x0, 0x0, 0, 32⟩
abbrev LOOM.SCHED_CNT.PATTERN : Fld := ⟨0x40600020, 0x0, 0x0, 16, 11⟩
abbrev LOOM.SCHED_CNT.USED : Fld := ⟨0x40600020, 0x0, 0x0, 0, 11⟩
abbrev LOOM.SCHED_STAT.word : Fld := ⟨0x40600024, 0x0, 0x0, 0, 32⟩
abbrev LOOM.SCHED_STAT.EXPIRED : Fld := ⟨0x40600024, 0x0, 0x0, 16, 16⟩
abbrev LOOM.SCHED_STAT.LATE : Fld := ⟨0x40600024, 0x0, 0x0, 0, 16⟩
abbrev LOOM.SCHED_CMD.word : Fld := ⟨0x40600028, 0x0, 0x0, 0, 32⟩
abbrev LOOM.SCHED_CMD.OP : Fld := ⟨0x40600028, 0x0, 0x0, 16, 2⟩
abbrev LOOM.SCHED_CMD.INDEX : Fld := ⟨0x40600028, 0x0, 0x0, 0, 10⟩
abbrev LOOM.SCHED_RES.word : Fld := ⟨0x4060002C, 0x0, 0x0, 0, 32⟩
abbrev LOOM.SCHED_RES.RESULT : Fld := ⟨0x4060002C, 0x0, 0x0, 0, 2⟩
abbrev LOOM.SCHED_W.word : Fld := ⟨0x40610000, 0x20, 0x4, 0, 32⟩
abbrev LOOM.SCHED_W.WORD : Fld := ⟨0x40610000, 0x20, 0x4, 0, 32⟩
abbrev LOOM.TILE_CTL.word : Fld := ⟨0x40640000, 0x200, 0x0, 0, 32⟩
abbrev LOOM.TILE_CTL.CODE_WORDS : Fld := ⟨0x40640000, 0x200, 0x0, 16, 11⟩
abbrev LOOM.TILE_CTL.RESET : Fld := ⟨0x40640000, 0x200, 0x0, 8, 1⟩
abbrev LOOM.TILE_CTL.ENABLE : Fld := ⟨0x40640000, 0x200, 0x0, 0, 1⟩
abbrev LOOM.TILE_STAT.word : Fld := ⟨0x40640004, 0x200, 0x0, 0, 32⟩
abbrev LOOM.TILE_STAT.CONSEC : Fld := ⟨0x40640004, 0x200, 0x0, 24, 8⟩
abbrev LOOM.TILE_STAT.FIFO : Fld := ⟨0x40640004, 0x200, 0x0, 16, 5⟩
abbrev LOOM.TILE_STAT.CAUSE : Fld := ⟨0x40640004, 0x200, 0x0, 8, 4⟩
abbrev LOOM.TILE_STAT.WR_REJ : Fld := ⟨0x40640004, 0x200, 0x0, 3, 1⟩
abbrev LOOM.TILE_STAT.OFF : Fld := ⟨0x40640004, 0x200, 0x0, 2, 1⟩
abbrev LOOM.TILE_STAT.FAULT : Fld := ⟨0x40640004, 0x200, 0x0, 1, 1⟩
abbrev LOOM.TILE_STAT.BUSY : Fld := ⟨0x40640004, 0x200, 0x0, 0, 1⟩
abbrev LOOM.TILE_FPC.word : Fld := ⟨0x40640008, 0x200, 0x0, 0, 32⟩
abbrev LOOM.TILE_FPC.PC : Fld := ⟨0x40640008, 0x200, 0x0, 0, 10⟩
abbrev LOOM.TILE_ACT.word : Fld := ⟨0x4064000C, 0x200, 0x0, 0, 32⟩
abbrev LOOM.TILE_ACT.COUNT : Fld := ⟨0x4064000C, 0x200, 0x0, 0, 32⟩
abbrev LOOM.TILE_DROP.word : Fld := ⟨0x40640010, 0x200, 0x0, 0, 32⟩
abbrev LOOM.TILE_DROP.UNBOUND : Fld := ⟨0x40640010, 0x200, 0x0, 16, 16⟩
abbrev LOOM.TILE_DROP.INGRESS : Fld := ⟨0x40640010, 0x200, 0x0, 0, 16⟩
abbrev LOOM.TILE_TMR.word : Fld := ⟨0x40640020, 0x200, 0x4, 0, 32⟩
abbrev LOOM.TILE_TMR.REMAIN_MS : Fld := ⟨0x40640020, 0x200, 0x4, 0, 24⟩
abbrev LOOM.TILE_G.word : Fld := ⟨0x40640100, 0x200, 0x4, 0, 32⟩
abbrev LOOM.TILE_G.VALUE : Fld := ⟨0x40640100, 0x200, 0x4, 0, 32⟩
abbrev LOOM.CODE.word : Fld := ⟨0x40680000, 0x2000, 0x4, 0, 32⟩
abbrev LOOM.CODE.WORD : Fld := ⟨0x40680000, 0x2000, 0x4, 0, 32⟩
abbrev LOOM.DATA.word : Fld := ⟨0x40681000, 0x2000, 0x4, 0, 32⟩
abbrev LOOM.DATA.WORD : Fld := ⟨0x40681000, 0x2000, 0x4, 0, 32⟩

/-- Register rows of LOOM, part 0. -/
def loomRows0 : List RegRow := [
  -- LOOM.CTL
  ⟨0x0, 0x0, 1, 0x0, 1, [⟨0, 1, .rw, .s, 0, 8⟩]⟩,
  -- LOOM.STAT
  ⟨0x4, 0x0, 1, 0x0, 1, [⟨1, 1, .ro, .s, 0, 8⟩, ⟨0, 1, .ro, .s, 1, 8⟩]⟩,
  -- LOOM.XBAR_DROP
  ⟨0x8, 0x0, 1, 0x0, 1, [⟨0, 16, .rs, .s, 0, 8⟩]⟩,
  -- LOOM.WORLD_DROP
  ⟨0xC, 0x0, 1, 0x0, 1, [⟨0, 16, .rs, .s, 0, 8⟩]⟩,
  -- LOOM.FAULT_SUM_LO
  ⟨0x10, 0x0, 1, 0x0, 1, [⟨0, 32, .w1c, .s, 0, 8⟩]⟩,
  -- LOOM.FAULT_SUM_HI
  ⟨0x14, 0x0, 1, 0x0, 1, [⟨0, 32, .w1c, .s, 0, 8⟩]⟩,
  -- LOOM.SCHED_CNT
  ⟨0x20, 0x0, 1, 0x0, 1, [⟨16, 11, .ro, .s, 0, 8⟩, ⟨0, 11, .ro, .s, 0, 8⟩]⟩,
  -- LOOM.SCHED_STAT
  ⟨0x24, 0x0, 1, 0x0, 1, [⟨16, 16, .rs, .s, 0, 8⟩, ⟨0, 16, .rs, .s, 0, 8⟩]⟩,
  -- LOOM.SCHED_CMD
  ⟨0x28, 0x0, 1, 0x0, 1, [⟨16, 2, .wo, .s, 0, 8⟩, ⟨0, 10, .wo, .s, 0, 8⟩]⟩,
  -- LOOM.SCHED_RES
  ⟨0x2C, 0x0, 1, 0x0, 1, [⟨0, 2, .ro, .s, 0, 8⟩]⟩,
  -- LOOM.SCHED_W
  ⟨0x10000, 0x20, 1024, 0x4, 8, [⟨0, 32, .rw, .s, 0, 8⟩]⟩,
  -- LOOM.TILE_CTL
  ⟨0x40000, 0x200, 64, 0x0, 1, [⟨16, 11, .ro, .map, 0, 8⟩, ⟨8, 1, .w1s, .map, 0, 8⟩, ⟨0, 1, .rw, .map, 0, 8⟩]⟩]

/-- Register rows of LOOM, part 1. -/
def loomRows1 : List RegRow := [
  -- LOOM.TILE_STAT
  ⟨0x40004, 0x200, 64, 0x0, 1, [⟨24, 8, .ro, .map, 0, 8⟩, ⟨16, 5, .ro, .map, 0, 8⟩, ⟨8, 4, .ro, .map, 0, 8⟩, ⟨3, 1, .w1c, .map, 0, 8⟩, ⟨2, 1, .w1c, .map, 0, 8⟩, ⟨1, 1, .w1c, .map, 0, 8⟩, ⟨0, 1, .ro, .map, 0, 8⟩]⟩,
  -- LOOM.TILE_FPC
  ⟨0x40008, 0x200, 64, 0x0, 1, [⟨0, 10, .ro, .map, 0, 8⟩]⟩,
  -- LOOM.TILE_ACT
  ⟨0x4000C, 0x200, 64, 0x0, 1, [⟨0, 32, .ro, .map, 0, 8⟩]⟩,
  -- LOOM.TILE_DROP
  ⟨0x40010, 0x200, 64, 0x0, 1, [⟨16, 16, .rs, .map, 0, 8⟩, ⟨0, 16, .rs, .map, 0, 8⟩]⟩,
  -- LOOM.TILE_TMR
  ⟨0x40020, 0x200, 64, 0x4, 4, [⟨0, 24, .ro, .map, 0, 8⟩]⟩,
  -- LOOM.TILE_G
  ⟨0x40100, 0x200, 64, 0x4, 64, [⟨0, 32, .rw, .map, 0, 8⟩]⟩,
  -- LOOM.CODE
  ⟨0x80000, 0x2000, 64, 0x4, 1024, [⟨0, 32, .rw, .map, 0, 8⟩]⟩,
  -- LOOM.DATA
  ⟨0x81000, 0x2000, 64, 0x4, 1024, [⟨0, 32, .rw, .map, 0, 8⟩]⟩]

/-! ### CE, base 0x40700000 -/

abbrev CE.CTL.word : Fld := ⟨0x40700000, 0x0, 0x0, 0, 32⟩
abbrev CE.CTL.RUN : Fld := ⟨0x40700000, 0x0, 0x0, 0, 1⟩
abbrev CE.STAT.word : Fld := ⟨0x40700004, 0x0, 0x0, 0, 32⟩
abbrev CE.STAT.SHORT_SCOPE : Fld := ⟨0x40700004, 0x0, 0x0, 16, 8⟩
abbrev CE.STAT.EMERG_DI : Fld := ⟨0x40700004, 0x0, 0x0, 8, 8⟩
abbrev CE.STAT.BUDGET_SHORT : Fld := ⟨0x40700004, 0x0, 0x0, 2, 1⟩
abbrev CE.STAT.HEM : Fld := ⟨0x40700004, 0x0, 0x0, 1, 1⟩
abbrev CE.STAT.EMERG_ACTIVE : Fld := ⟨0x40700004, 0x0, 0x0, 0, 1⟩
abbrev CE.LOOP.word : Fld := ⟨0x40700010, 0x0, 0x0, 0, 32⟩
abbrev CE.LOOP.DL_KI : Fld := ⟨0x40700010, 0x0, 0x0, 16, 16⟩
abbrev CE.LOOP.DL_KP : Fld := ⟨0x40700010, 0x0, 0x0, 0, 16⟩
abbrev CE.LOOP2.word : Fld := ⟨0x40700014, 0x0, 0x0, 0, 32⟩
abbrev CE.LOOP2.STALE_S : Fld := ⟨0x40700014, 0x0, 0x0, 16, 16⟩
abbrev CE.LOOP2.DL_MIN : Fld := ⟨0x40700014, 0x0, 0x0, 0, 16⟩
abbrev CE.TIMING.word : Fld := ⟨0x40700018, 0x0, 0x0, 0, 32⟩
abbrev CE.TIMING.REFRESH_S : Fld := ⟨0x40700018, 0x0, 0x0, 16, 16⟩
abbrev CE.TIMING.LA_PRESET : Fld := ⟨0x40700018, 0x0, 0x0, 8, 4⟩
abbrev CE.TIMING.FADE_LEAD : Fld := ⟨0x40700018, 0x0, 0x0, 0, 8⟩
abbrev CE.DIAG_CTL.word : Fld := ⟨0x4070001C, 0x0, 0x0, 0, 32⟩
abbrev CE.DIAG_CTL.VERIFY_MAX : Fld := ⟨0x4070001C, 0x0, 0x0, 16, 16⟩
abbrev CE.DIAG_CTL.STRETCH_MIN : Fld := ⟨0x4070001C, 0x0, 0x0, 0, 8⟩
abbrev CE.SEG_CAP.word : Fld := ⟨0x40700020, 0x0, 0x0, 0, 32⟩
abbrev CE.SEG_CAP.CAP_W : Fld := ⟨0x40700020, 0x0, 0x0, 0, 32⟩
abbrev CE.RAMP.word : Fld := ⟨0x40700024, 0x0, 0x0, 0, 32⟩
abbrev CE.RAMP.RAMP_PCT : Fld := ⟨0x40700024, 0x0, 0x0, 0, 8⟩
abbrev CE.SEG_ST.word : Fld := ⟨0x40700028, 0x0, 0x0, 0, 32⟩
abbrev CE.SEG_ST.FACTOR : Fld := ⟨0x40700028, 0x0, 0x0, 0, 17⟩
abbrev CE.COUNT.word : Fld := ⟨0x4070002C, 0x0, 0x0, 0, 32⟩
abbrev CE.COUNT.BAD_EVENT : Fld := ⟨0x4070002C, 0x0, 0x0, 16, 16⟩
abbrev CE.COUNT.RANGE : Fld := ⟨0x4070002C, 0x0, 0x0, 0, 16⟩
abbrev CE.HOST_LO.word : Fld := ⟨0x40700030, 0x0, 0x0, 0, 32⟩
abbrev CE.HOST_LO.PAYLOAD : Fld := ⟨0x40700030, 0x0, 0x0, 0, 32⟩
abbrev CE.HOST_HI.word : Fld := ⟨0x40700034, 0x0, 0x0, 0, 32⟩
abbrev CE.HOST_HI.PAYLOAD : Fld := ⟨0x40700034, 0x0, 0x0, 0, 32⟩
abbrev CE.HOST_CMD.word : Fld := ⟨0x40700038, 0x0, 0x0, 0, 32⟩
abbrev CE.HOST_CMD.PORT : Fld := ⟨0x40700038, 0x0, 0x0, 0, 2⟩
abbrev CE.LVL_TGT.word : Fld := ⟨0x40700100, 0x10, 0x0, 0, 32⟩
abbrev CE.LVL_TGT.RULE_PRESET : Fld := ⟨0x40700100, 0x10, 0x0, 16, 4⟩
abbrev CE.LVL_TGT.RULE_LVL : Fld := ⟨0x40700100, 0x10, 0x0, 0, 16⟩
abbrev CE.CCT_FLR.word : Fld := ⟨0x40700104, 0x10, 0x0, 0, 32⟩
abbrev CE.CCT_FLR.RULE_FLOOR : Fld := ⟨0x40700104, 0x10, 0x0, 16, 16⟩
abbrev CE.CCT_FLR.RULE_CCT : Fld := ⟨0x40700104, 0x10, 0x0, 0, 16⟩
abbrev CE.OUT.word : Fld := ⟨0x40700108, 0x10, 0x0, 0, 32⟩
abbrev CE.OUT.LA_LVL : Fld := ⟨0x40700108, 0x10, 0x0, 16, 16⟩
abbrev CE.OUT.LVL_OUT : Fld := ⟨0x40700108, 0x10, 0x0, 0, 16⟩
abbrev CE.CH_STAT.word : Fld := ⟨0x4070010C, 0x10, 0x0, 0, 32⟩
abbrev CE.CH_STAT.PHASE : Fld := ⟨0x4070010C, 0x10, 0x0, 16, 8⟩
abbrev CE.CH_STAT.OVR : Fld := ⟨0x4070010C, 0x10, 0x0, 11, 1⟩
abbrev CE.CH_STAT.SRC : Fld := ⟨0x4070010C, 0x10, 0x0, 8, 3⟩
abbrev CE.CH_STAT.DIAG : Fld := ⟨0x4070010C, 0x10, 0x0, 0, 8⟩
abbrev CE.REP_A.word : Fld := ⟨0x40702100, 0x10, 0x0, 0, 32⟩
abbrev CE.REP_A.LUX : Fld := ⟨0x40702100, 0x10, 0x0, 0, 18⟩
abbrev CE.REP_B.word : Fld := ⟨0x40702104, 0x10, 0x0, 0, 32⟩
abbrev CE.REP_B.TEMP_C : Fld := ⟨0x40702104, 0x10, 0x0, 16, 9⟩
abbrev CE.REP_B.POWER_DW : Fld := ⟨0x40702104, 0x10, 0x0, 0, 15⟩
abbrev CE.VERIFY.word : Fld := ⟨0x40702108, 0x10, 0x0, 0, 32⟩
abbrev CE.VERIFY.VERIFY_AGE_S : Fld := ⟨0x40702108, 0x10, 0x0, 0, 32⟩
abbrev CE.OVR.word : Fld := ⟨0x4070210C, 0x10, 0x0, 0, 32⟩
abbrev CE.OVR.REMAIN_MIN : Fld := ⟨0x4070210C, 0x10, 0x0, 16, 16⟩
abbrev CE.OVR.OVERRIDE_LVL : Fld := ⟨0x4070210C, 0x10, 0x0, 0, 16⟩
abbrev CE.DL.word : Fld := ⟨0x40704100, 0x10, 0x0, 0, 32⟩
abbrev CE.DL.DL_FACTOR : Fld := ⟨0x40704100, 0x10, 0x0, 0, 17⟩
abbrev CE.DERATE.word : Fld := ⟨0x40704104, 0x10, 0x0, 0, 32⟩
abbrev CE.DERATE.FACTOR : Fld := ⟨0x40704104, 0x10, 0x0, 0, 17⟩
abbrev CE.BUDGET.word : Fld := ⟨0x40704108, 0x10, 0x0, 0, 32⟩
abbrev CE.BUDGET.FACTOR : Fld := ⟨0x40704108, 0x10, 0x0, 0, 17⟩
abbrev CE.COLOUR.word : Fld := ⟨0x4070410C, 0x10, 0x0, 0, 32⟩
abbrev CE.COLOUR.TRIM : Fld := ⟨0x4070410C, 0x10, 0x0, 16, 16⟩
abbrev CE.COLOUR.CCT_OUT : Fld := ⟨0x4070410C, 0x10, 0x0, 0, 16⟩
abbrev CE.CURVE_A.word : Fld := ⟨0x40706100, 0x10, 0x0, 0, 32⟩
abbrev CE.CURVE_A.P25 : Fld := ⟨0x40706100, 0x10, 0x0, 16, 16⟩
abbrev CE.CURVE_A.P0 : Fld := ⟨0x40706100, 0x10, 0x0, 0, 16⟩
abbrev CE.CURVE_B.word : Fld := ⟨0x40706104, 0x10, 0x0, 0, 32⟩
abbrev CE.CURVE_B.P75 : Fld := ⟨0x40706104, 0x10, 0x0, 16, 16⟩
abbrev CE.CURVE_B.P50 : Fld := ⟨0x40706104, 0x10, 0x0, 0, 16⟩
abbrev CE.CURVE_C.word : Fld := ⟨0x40706108, 0x10, 0x0, 0, 32⟩
abbrev CE.CURVE_C.CF : Fld := ⟨0x40706108, 0x10, 0x0, 16, 16⟩
abbrev CE.CURVE_C.P100 : Fld := ⟨0x40706108, 0x10, 0x0, 0, 16⟩
abbrev CE.NODE_CAP.word : Fld := ⟨0x4070610C, 0x10, 0x0, 0, 32⟩
abbrev CE.NODE_CAP.MIN_ON_NS : Fld := ⟨0x4070610C, 0x10, 0x0, 16, 16⟩
abbrev CE.NODE_CAP.SENSE : Fld := ⟨0x4070610C, 0x10, 0x0, 5, 5⟩
abbrev CE.NODE_CAP.PWM_BITS : Fld := ⟨0x4070610C, 0x10, 0x0, 0, 5⟩
abbrev CE.SAFE.word : Fld := ⟨0x40708100, 0x10, 0x0, 0, 32⟩
abbrev CE.SAFE.HEM_LVL : Fld := ⟨0x40708100, 0x10, 0x0, 16, 16⟩
abbrev CE.SAFE.EMERG_LVL : Fld := ⟨0x40708100, 0x10, 0x0, 0, 16⟩
abbrev CE.SAFE_CFG.word : Fld := ⟨0x40708104, 0x10, 0x0, 0, 32⟩
abbrev CE.SAFE_CFG.EMERGENCY : Fld := ⟨0x40708104, 0x10, 0x0, 24, 1⟩
abbrev CE.SAFE_CFG.CIRCUIT : Fld := ⟨0x40708104, 0x10, 0x0, 16, 5⟩
abbrev CE.SAFE_CFG.FEED_GRP : Fld := ⟨0x40708104, 0x10, 0x0, 8, 6⟩
abbrev CE.SAFE_CFG.HOME_TRX : Fld := ⟨0x40708104, 0x10, 0x0, 0, 2⟩
abbrev CE.ZONE_CAP.word : Fld := ⟨0x4070A100, 0x8, 0x0, 0, 32⟩
abbrev CE.ZONE_CAP.CAP_W : Fld := ⟨0x4070A100, 0x8, 0x0, 0, 32⟩
abbrev CE.ZONE_ST.word : Fld := ⟨0x4070A104, 0x8, 0x0, 0, 32⟩
abbrev CE.ZONE_ST.SHORT : Fld := ⟨0x4070A104, 0x8, 0x0, 31, 1⟩
abbrev CE.ZONE_ST.FACTOR : Fld := ⟨0x4070A104, 0x8, 0x0, 0, 17⟩

/-- Register rows of CE, part 0. -/
def ceRows0 : List RegRow := [
  -- CE.CTL
  ⟨0x0, 0x0, 1, 0x0, 1, [⟨0, 1, .rw, .s, 0, 8⟩]⟩,
  -- CE.STAT
  ⟨0x4, 0x0, 1, 0x0, 1, [⟨16, 8, .ro, .map, 0, 8⟩, ⟨8, 8, .ro, .s, 0, 8⟩, ⟨2, 1, .w1c, .map, 0, 8⟩, ⟨1, 1, .ro, .s, 0, 8⟩, ⟨0, 1, .ro, .s, 0, 8⟩]⟩,
  -- CE.LOOP
  ⟨0x10, 0x0, 1, 0x0, 1, [⟨16, 16, .rw, .map, 1024, 0⟩, ⟨0, 16, .rw, .map, 4096, 0⟩]⟩,
  -- CE.LOOP2
  ⟨0x14, 0x0, 1, 0x0, 1, [⟨16, 16, .rw, .map, 180, 0⟩, ⟨0, 16, .rw, .map, 0, 0⟩]⟩,
  -- CE.TIMING
  ⟨0x18, 0x0, 1, 0x0, 1, [⟨16, 16, .rw, .map, 60, 0⟩, ⟨8, 4, .rw, .map, 1, 0⟩, ⟨0, 8, .rw, .map, 2, 0⟩]⟩,
  -- CE.DIAG_CTL
  ⟨0x1C, 0x0, 1, 0x0, 1, [⟨16, 16, .rw, .map, 60, 0⟩, ⟨0, 8, .rw, .map, 15, 0⟩]⟩,
  -- CE.SEG_CAP
  ⟨0x20, 0x0, 1, 0x0, 1, [⟨0, 32, .rw, .map, 0, 8⟩]⟩,
  -- CE.RAMP
  ⟨0x24, 0x0, 1, 0x0, 1, [⟨0, 8, .rw, .map, 5, 0⟩]⟩,
  -- CE.SEG_ST
  ⟨0x28, 0x0, 1, 0x0, 1, [⟨0, 17, .ro, .map, 65536, 8⟩]⟩,
  -- CE.COUNT
  ⟨0x2C, 0x0, 1, 0x0, 1, [⟨16, 16, .rs, .map, 0, 8⟩, ⟨0, 16, .rs, .map, 0, 8⟩]⟩,
  -- CE.HOST_LO
  ⟨0x30, 0x0, 1, 0x0, 1, [⟨0, 32, .wo, .map, 0, 8⟩]⟩,
  -- CE.HOST_HI
  ⟨0x34, 0x0, 1, 0x0, 1, [⟨0, 32, .wo, .map, 0, 8⟩]⟩]

/-- Register rows of CE, part 1. -/
def ceRows1 : List RegRow := [
  -- CE.HOST_CMD
  ⟨0x38, 0x0, 1, 0x0, 1, [⟨0, 2, .wo, .map, 0, 8⟩]⟩,
  -- CE.LVL_TGT
  ⟨0x100, 0x10, 512, 0x0, 1, [⟨16, 4, .rw, .map, 2, 8⟩, ⟨0, 16, .rw, .map, 0, 8⟩]⟩,
  -- CE.CCT_FLR
  ⟨0x104, 0x10, 512, 0x0, 1, [⟨16, 16, .rw, .map, 0, 8⟩, ⟨0, 16, .rw, .map, 0, 8⟩]⟩,
  -- CE.OUT
  ⟨0x108, 0x10, 512, 0x0, 1, [⟨16, 16, .ro, .map, 0, 8⟩, ⟨0, 16, .ro, .map, 0, 8⟩]⟩,
  -- CE.CH_STAT
  ⟨0x10C, 0x10, 512, 0x0, 1, [⟨16, 8, .ro, .map, 0, 8⟩, ⟨11, 1, .ro, .map, 0, 8⟩, ⟨8, 3, .ro, .map, 0, 8⟩, ⟨0, 8, .ro, .map, 16, 8⟩]⟩,
  -- CE.REP_A
  ⟨0x2100, 0x10, 512, 0x0, 1, [⟨0, 18, .ro, .map, 0, 8⟩]⟩,
  -- CE.REP_B
  ⟨0x2104, 0x10, 512, 0x0, 1, [⟨16, 9, .ro, .map, 0, 8⟩, ⟨0, 15, .ro, .map, 0, 8⟩]⟩,
  -- CE.VERIFY
  ⟨0x2108, 0x10, 512, 0x0, 1, [⟨0, 32, .ro, .map, 4294967295, 8⟩]⟩,
  -- CE.OVR
  ⟨0x210C, 0x10, 512, 0x0, 1, [⟨16, 16, .ro, .map, 0, 8⟩, ⟨0, 16, .ro, .map, 0, 8⟩]⟩,
  -- CE.DL
  ⟨0x4100, 0x10, 512, 0x0, 1, [⟨0, 17, .ro, .map, 65536, 8⟩]⟩,
  -- CE.DERATE
  ⟨0x4104, 0x10, 512, 0x0, 1, [⟨0, 17, .ro, .map, 65536, 8⟩]⟩,
  -- CE.BUDGET
  ⟨0x4108, 0x10, 512, 0x0, 1, [⟨0, 17, .ro, .map, 65536, 8⟩]⟩]

/-- Register rows of CE, part 2. -/
def ceRows2 : List RegRow := [
  -- CE.COLOUR
  ⟨0x410C, 0x10, 512, 0x0, 1, [⟨16, 16, .ro, .map, 0, 8⟩, ⟨0, 16, .ro, .map, 0, 8⟩]⟩,
  -- CE.CURVE_A
  ⟨0x6100, 0x10, 512, 0x0, 1, [⟨16, 16, .rw, .map, 0, 0⟩, ⟨0, 16, .rw, .map, 0, 0⟩]⟩,
  -- CE.CURVE_B
  ⟨0x6104, 0x10, 512, 0x0, 1, [⟨16, 16, .rw, .map, 0, 0⟩, ⟨0, 16, .rw, .map, 0, 0⟩]⟩,
  -- CE.CURVE_C
  ⟨0x6108, 0x10, 512, 0x0, 1, [⟨16, 16, .ro, .map, 16384, 8⟩, ⟨0, 16, .rw, .map, 0, 0⟩]⟩,
  -- CE.NODE_CAP
  ⟨0x610C, 0x10, 512, 0x0, 1, [⟨16, 16, .ro, .map, 0, 8⟩, ⟨5, 5, .ro, .map, 0, 8⟩, ⟨0, 5, .ro, .map, 0, 8⟩]⟩,
  -- CE.SAFE
  ⟨0x8100, 0x10, 512, 0x0, 1, [⟨16, 16, .rw, .s, 65535, 8⟩, ⟨0, 16, .rw, .s, 65535, 8⟩]⟩,
  -- CE.SAFE_CFG
  ⟨0x8104, 0x10, 512, 0x0, 1, [⟨24, 1, .ro, .s, 1, 8⟩, ⟨16, 5, .ro, .s, 0, 8⟩, ⟨8, 6, .ro, .s, 0, 8⟩, ⟨0, 2, .ro, .s, 0, 8⟩]⟩,
  -- CE.ZONE_CAP
  ⟨0xA100, 0x8, 64, 0x0, 1, [⟨0, 32, .rw, .map, 0, 8⟩]⟩,
  -- CE.ZONE_ST
  ⟨0xA104, 0x8, 64, 0x0, 1, [⟨31, 1, .ro, .map, 0, 8⟩, ⟨0, 17, .ro, .map, 65536, 8⟩]⟩]

/-! ### OFE, base 0x40800000 -/

abbrev OFE.CTL.word : Fld := ⟨0x40800000, 0x0, 0x0, 0, 32⟩
abbrev OFE.CTL.LA_EN : Fld := ⟨0x40800000, 0x0, 0x0, 1, 1⟩
abbrev OFE.CTL.RUN : Fld := ⟨0x40800000, 0x0, 0x0, 0, 1⟩
abbrev OFE.STAT.word : Fld := ⟨0x40800004, 0x0, 0x0, 0, 32⟩
abbrev OFE.STAT.FIFO : Fld := ⟨0x40800004, 0x0, 0x0, 16, 7⟩
abbrev OFE.STAT.TRACKS : Fld := ⟨0x40800004, 0x0, 0x0, 0, 9⟩
abbrev OFE.FILT.word : Fld := ⟨0x40800008, 0x0, 0x0, 0, 32⟩
abbrev OFE.FILT.T_STUCK_S : Fld := ⟨0x40800008, 0x0, 0x0, 16, 16⟩
abbrev OFE.FILT.MIN_CONF : Fld := ⟨0x40800008, 0x0, 0x0, 12, 4⟩
abbrev OFE.FILT.DEBOUNCE : Fld := ⟨0x40800008, 0x0, 0x0, 0, 8⟩
abbrev OFE.TRK.word : Fld := ⟨0x4080000C, 0x0, 0x0, 0, 32⟩
abbrev OFE.TRK.PRES_HOLD_S : Fld := ⟨0x4080000C, 0x0, 0x0, 24, 8⟩
abbrev OFE.TRK.V_BIRTH : Fld := ⟨0x4080000C, 0x0, 0x0, 16, 8⟩
abbrev OFE.TRK.T_ASSOC : Fld := ⟨0x4080000C, 0x0, 0x0, 8, 8⟩
abbrev OFE.TRK.T_DROP_S : Fld := ⟨0x4080000C, 0x0, 0x0, 0, 8⟩
abbrev OFE.PRED.word : Fld := ⟨0x40800010, 0x0, 0x0, 0, 32⟩
abbrev OFE.PRED.V_FLOOR : Fld := ⟨0x40800010, 0x0, 0x0, 16, 8⟩
abbrev OFE.PRED.STEPS : Fld := ⟨0x40800010, 0x0, 0x0, 8, 6⟩
abbrev OFE.PRED.HORIZON_S : Fld := ⟨0x40800010, 0x0, 0x0, 0, 5⟩
abbrev OFE.CLS_LVL_A.word : Fld := ⟨0x40800014, 0x0, 0x0, 0, 32⟩
abbrev OFE.CLS_LVL_A.SLOW : Fld := ⟨0x40800014, 0x0, 0x0, 16, 16⟩
abbrev OFE.CLS_LVL_A.PED : Fld := ⟨0x40800014, 0x0, 0x0, 0, 16⟩
abbrev OFE.CLS_LVL_B.word : Fld := ⟨0x40800018, 0x0, 0x0, 0, 32⟩
abbrev OFE.CLS_LVL_B.VEH : Fld := ⟨0x40800018, 0x0, 0x0, 0, 16⟩
abbrev OFE.DWELL.word : Fld := ⟨0x4080001C, 0x0, 0x0, 0, 32⟩
abbrev OFE.DWELL.DW_VEH : Fld := ⟨0x4080001C, 0x0, 0x0, 16, 8⟩
abbrev OFE.DWELL.DW_SLOW : Fld := ⟨0x4080001C, 0x0, 0x0, 8, 8⟩
abbrev OFE.DWELL.DW_PED : Fld := ⟨0x4080001C, 0x0, 0x0, 0, 8⟩
abbrev OFE.LA_ZONE_LO.word : Fld := ⟨0x40800020, 0x0, 0x0, 0, 32⟩
abbrev OFE.LA_ZONE_LO.EN : Fld := ⟨0x40800020, 0x0, 0x0, 0, 32⟩
abbrev OFE.LA_ZONE_HI.word : Fld := ⟨0x40800024, 0x0, 0x0, 0, 32⟩
abbrev OFE.LA_ZONE_HI.EN : Fld := ⟨0x40800024, 0x0, 0x0, 0, 32⟩
abbrev OFE.COUNT_A.word : Fld := ⟨0x40800030, 0x0, 0x0, 0, 32⟩
abbrev OFE.COUNT_A.RATE : Fld := ⟨0x40800030, 0x0, 0x0, 16, 16⟩
abbrev OFE.COUNT_A.RANGE : Fld := ⟨0x40800030, 0x0, 0x0, 0, 16⟩
abbrev OFE.COUNT_B.word : Fld := ⟨0x40800034, 0x0, 0x0, 0, 32⟩
abbrev OFE.COUNT_B.TRACK_FULL : Fld := ⟨0x40800034, 0x0, 0x0, 16, 16⟩
abbrev OFE.COUNT_B.CONF : Fld := ⟨0x40800034, 0x0, 0x0, 0, 16⟩
abbrev OFE.COUNT_C.word : Fld := ⟨0x40800038, 0x0, 0x0, 0, 32⟩
abbrev OFE.COUNT_C.Q30_DROP : Fld := ⟨0x40800038, 0x0, 0x0, 16, 16⟩
abbrev OFE.COUNT_C.BAD_EVENT : Fld := ⟨0x40800038, 0x0, 0x0, 0, 16⟩
abbrev OFE.COUNT_D.word : Fld := ⟨0x4080003C, 0x0, 0x0, 0, 32⟩
abbrev OFE.COUNT_D.OVERFLOW : Fld := ⟨0x4080003C, 0x0, 0x0, 16, 16⟩
abbrev OFE.COUNT_D.STUCK : Fld := ⟨0x4080003C, 0x0, 0x0, 0, 16⟩
abbrev OFE.HOST_CTL.word : Fld := ⟨0x40800040, 0x0, 0x0, 0, 32⟩
abbrev OFE.HOST_CTL.PAYLOAD : Fld := ⟨0x40800040, 0x0, 0x0, 0, 32⟩
abbrev OFE.STUCK_W.word : Fld := ⟨0x40800100, 0x4, 0x0, 0, 32⟩
abbrev OFE.STUCK_W.STUCK : Fld := ⟨0x40800100, 0x4, 0x0, 0, 32⟩
abbrev OFE.TRK_A.word : Fld := ⟨0x40801000, 0x10, 0x0, 0, 32⟩
abbrev OFE.TRK_A.LIVE : Fld := ⟨0x40801000, 0x10, 0x0, 31, 1⟩
abbrev OFE.TRK_A.CLASS : Fld := ⟨0x40801000, 0x10, 0x0, 28, 2⟩
abbrev OFE.TRK_A.PREV : Fld := ⟨0x40801000, 0x10, 0x0, 16, 9⟩
abbrev OFE.TRK_A.NODE : Fld := ⟨0x40801000, 0x10, 0x0, 0, 9⟩
abbrev OFE.TRK_B.word : Fld := ⟨0x40801004, 0x10, 0x0, 0, 32⟩
abbrev OFE.TRK_B.SERIAL : Fld := ⟨0x40801004, 0x10, 0x0, 16, 16⟩
abbrev OFE.TRK_B.HITS : Fld := ⟨0x40801004, 0x10, 0x0, 8, 8⟩
abbrev OFE.TRK_B.V_DMS : Fld := ⟨0x40801004, 0x10, 0x0, 0, 8⟩
abbrev OFE.TRK_C.word : Fld := ⟨0x40801008, 0x10, 0x0, 0, 32⟩
abbrev OFE.TRK_C.T_LAST : Fld := ⟨0x40801008, 0x10, 0x0, 0, 32⟩
abbrev OFE.ZN_A.word : Fld := ⟨0x40802000, 0x8, 0x0, 0, 32⟩
abbrev OFE.ZN_A.OCC : Fld := ⟨0x40802000, 0x8, 0x0, 16, 12⟩
abbrev OFE.ZN_A.FREE : Fld := ⟨0x40802000, 0x8, 0x0, 0, 12⟩
abbrev OFE.ZN_B.word : Fld := ⟨0x40802004, 0x8, 0x0, 0, 32⟩
abbrev OFE.ZN_B.BAY : Fld := ⟨0x40802004, 0x8, 0x0, 17, 1⟩
abbrev OFE.ZN_B.PRES : Fld := ⟨0x40802004, 0x8, 0x0, 16, 1⟩
abbrev OFE.ZN_B.UNKNOWN : Fld := ⟨0x40802004, 0x8, 0x0, 0, 12⟩
abbrev OFE.SENSOR.word : Fld := ⟨0x40803000, 0x4, 0x0, 0, 32⟩
abbrev OFE.SENSOR.HEARD_S : Fld := ⟨0x40803000, 0x4, 0x0, 16, 16⟩
abbrev OFE.SENSOR.LOST : Fld := ⟨0x40803000, 0x4, 0x0, 4, 1⟩
abbrev OFE.SENSOR.STUCK : Fld := ⟨0x40803000, 0x4, 0x0, 3, 1⟩
abbrev OFE.SENSOR.P : Fld := ⟨0x40803000, 0x4, 0x0, 2, 1⟩
abbrev OFE.SENSOR.BAY_STATE : Fld := ⟨0x40803000, 0x4, 0x0, 0, 2⟩

/-- Register rows of OFE, part 0. -/
def ofeRows0 : List RegRow := [
  -- OFE.CTL
  ⟨0x0, 0x0, 1, 0x0, 1, [⟨1, 1, .rw, .map, 1, 8⟩, ⟨0, 1, .rw, .s, 0, 8⟩]⟩,
  -- OFE.STAT
  ⟨0x4, 0x0, 1, 0x0, 1, [⟨16, 7, .ro, .map, 0, 8⟩, ⟨0, 9, .ro, .map, 0, 8⟩]⟩,
  -- OFE.FILT
  ⟨0x8, 0x0, 1, 0x0, 1, [⟨16, 16, .ro, .map, 1200, 8⟩, ⟨12, 4, .ro, .map, 4, 8⟩, ⟨0, 8, .ro, .map, 3, 8⟩]⟩,
  -- OFE.TRK
  ⟨0xC, 0x0, 1, 0x0, 1, [⟨24, 8, .rw, .map, 30, 1⟩, ⟨16, 8, .rw, .map, 14, 1⟩, ⟨8, 8, .rw, .map, 80, 1⟩, ⟨0, 8, .rw, .map, 10, 1⟩]⟩,
  -- OFE.PRED
  ⟨0x10, 0x0, 1, 0x0, 1, [⟨16, 8, .rw, .map, 5, 1⟩, ⟨8, 6, .rw, .map, 32, 1⟩, ⟨0, 5, .rw, .map, 8, 1⟩]⟩,
  -- OFE.CLS_LVL_A
  ⟨0x14, 0x0, 1, 0x0, 1, [⟨16, 16, .rw, .map, 58982, 8⟩, ⟨0, 16, .rw, .map, 52428, 8⟩]⟩,
  -- OFE.CLS_LVL_B
  ⟨0x18, 0x0, 1, 0x0, 1, [⟨0, 16, .rw, .map, 65535, 8⟩]⟩,
  -- OFE.DWELL
  ⟨0x1C, 0x0, 1, 0x0, 1, [⟨16, 8, .rw, .map, 20, 8⟩, ⟨8, 8, .rw, .map, 30, 8⟩, ⟨0, 8, .rw, .map, 50, 8⟩]⟩,
  -- OFE.LA_ZONE_LO
  ⟨0x20, 0x0, 1, 0x0, 1, [⟨0, 32, .rw, .map, 4294967295, 8⟩]⟩,
  -- OFE.LA_ZONE_HI
  ⟨0x24, 0x0, 1, 0x0, 1, [⟨0, 32, .rw, .map, 4294967295, 8⟩]⟩,
  -- OFE.COUNT_A
  ⟨0x30, 0x0, 1, 0x0, 1, [⟨16, 16, .rs, .map, 0, 8⟩, ⟨0, 16, .rs, .map, 0, 8⟩]⟩,
  -- OFE.COUNT_B
  ⟨0x34, 0x0, 1, 0x0, 1, [⟨16, 16, .rs, .map, 0, 8⟩, ⟨0, 16, .rs, .map, 0, 8⟩]⟩]

/-- Register rows of OFE, part 1. -/
def ofeRows1 : List RegRow := [
  -- OFE.COUNT_C
  ⟨0x38, 0x0, 1, 0x0, 1, [⟨16, 16, .rs, .map, 0, 8⟩, ⟨0, 16, .rs, .map, 0, 8⟩]⟩,
  -- OFE.COUNT_D
  ⟨0x3C, 0x0, 1, 0x0, 1, [⟨16, 16, .rs, .map, 0, 8⟩, ⟨0, 16, .rs, .map, 0, 8⟩]⟩,
  -- OFE.HOST_CTL
  ⟨0x40, 0x0, 1, 0x0, 1, [⟨0, 32, .wo, .map, 0, 8⟩]⟩,
  -- OFE.STUCK_W
  ⟨0x100, 0x4, 80, 0x0, 1, [⟨0, 32, .ro, .map, 0, 8⟩]⟩,
  -- OFE.TRK_A
  ⟨0x1000, 0x10, 256, 0x0, 1, [⟨31, 1, .ro, .map, 0, 8⟩, ⟨28, 2, .ro, .map, 0, 8⟩, ⟨16, 9, .ro, .map, 511, 8⟩, ⟨0, 9, .ro, .map, 0, 8⟩]⟩,
  -- OFE.TRK_B
  ⟨0x1004, 0x10, 256, 0x0, 1, [⟨16, 16, .ro, .map, 0, 8⟩, ⟨8, 8, .ro, .map, 0, 8⟩, ⟨0, 8, .ro, .map, 0, 8⟩]⟩,
  -- OFE.TRK_C
  ⟨0x1008, 0x10, 256, 0x0, 1, [⟨0, 32, .ro, .map, 0, 8⟩]⟩,
  -- OFE.ZN_A
  ⟨0x2000, 0x8, 64, 0x0, 1, [⟨16, 12, .ro, .map, 0, 8⟩, ⟨0, 12, .ro, .map, 0, 8⟩]⟩,
  -- OFE.ZN_B
  ⟨0x2004, 0x8, 64, 0x0, 1, [⟨17, 1, .ro, .map, 0, 8⟩, ⟨16, 1, .ro, .map, 0, 8⟩, ⟨0, 12, .ro, .map, 0, 8⟩]⟩,
  -- OFE.SENSOR
  ⟨0x3000, 0x4, 2048, 0x0, 1, [⟨16, 16, .ro, .map, 65535, 8⟩, ⟨4, 1, .ro, .map, 0, 8⟩, ⟨3, 1, .ro, .map, 0, 8⟩, ⟨2, 1, .ro, .map, 0, 8⟩, ⟨0, 2, .ro, .map, 2, 8⟩]⟩]

/-! ### MET, base 0x40900000 -/

abbrev MET.CTL.word : Fld := ⟨0x40900000, 0x0, 0x0, 0, 32⟩
abbrev MET.CTL.RUN : Fld := ⟨0x40900000, 0x0, 0x0, 0, 1⟩
abbrev MET.STAT.word : Fld := ⟨0x40900004, 0x0, 0x0, 0, 32⟩
abbrev MET.STAT.CAL_DEFAULT : Fld := ⟨0x40900004, 0x0, 0x0, 9, 1⟩
abbrev MET.STAT.SAVE_BAD : Fld := ⟨0x40900004, 0x0, 0x0, 8, 1⟩
abbrev MET.STAT.NE_ALARM : Fld := ⟨0x40900004, 0x0, 0x0, 7, 1⟩
abbrev MET.STAT.HDET_B : Fld := ⟨0x40900004, 0x0, 0x0, 6, 1⟩
abbrev MET.STAT.HDET_A : Fld := ⟨0x40900004, 0x0, 0x0, 5, 1⟩
abbrev MET.STAT.VPRES : Fld := ⟨0x40900004, 0x0, 0x0, 2, 3⟩
abbrev MET.STAT.REF : Fld := ⟨0x40900004, 0x0, 0x0, 0, 2⟩
abbrev MET.CFG.word : Fld := ⟨0x40900008, 0x0, 0x0, 0, 32⟩
abbrev MET.CFG.LATCH_N : Fld := ⟨0x40900008, 0x0, 0x0, 16, 11⟩
abbrev MET.CFG.UNIT : Fld := ⟨0x40900008, 0x0, 0x0, 8, 2⟩
abbrev MET.CFG.LINE_HZ : Fld := ⟨0x40900008, 0x0, 0x0, 0, 8⟩
abbrev MET.SAVE.word : Fld := ⟨0x4090000C, 0x0, 0x0, 0, 32⟩
abbrev MET.SAVE.SAVE_S : Fld := ⟨0x4090000C, 0x0, 0x0, 0, 16⟩
abbrev MET.TUNE.word : Fld := ⟨0x40900010, 0x0, 0x0, 0, 32⟩
abbrev MET.TUNE.HPF_DHZ : Fld := ⟨0x40900010, 0x0, 0x0, 24, 8⟩
abbrev MET.TUNE.VPRES_PCT : Fld := ⟨0x40900010, 0x0, 0x0, 16, 8⟩
abbrev MET.TUNE.CREEP_PPM : Fld := ⟨0x40900010, 0x0, 0x0, 0, 16⟩
abbrev MET.FREQ.word : Fld := ⟨0x40900014, 0x0, 0x0, 0, 32⟩
abbrev MET.FREQ.FREQ : Fld := ⟨0x40900014, 0x0, 0x0, 0, 16⟩
abbrev MET.CYCLE.word : Fld := ⟨0x40900018, 0x0, 0x0, 0, 32⟩
abbrev MET.CYCLE.COUNT : Fld := ⟨0x40900018, 0x0, 0x0, 0, 32⟩
abbrev MET.LATCH_SEQ.word : Fld := ⟨0x4090001C, 0x0, 0x0, 0, 32⟩
abbrev MET.LATCH_SEQ.SEQ : Fld := ⟨0x4090001C, 0x0, 0x0, 0, 32⟩
abbrev MET.SAVE_SEQ.word : Fld := ⟨0x40900020, 0x0, 0x0, 0, 32⟩
abbrev MET.SAVE_SEQ.SEQ : Fld := ⟨0x40900020, 0x0, 0x0, 0, 32⟩
abbrev MET.DROP.word : Fld := ⟨0x40900024, 0x0, 0x0, 0, 32⟩
abbrev MET.DROP.COUNT : Fld := ⟨0x40900024, 0x0, 0x0, 0, 16⟩
abbrev MET.CAL_CMD.word : Fld := ⟨0x40900030, 0x0, 0x0, 0, 32⟩
abbrev MET.CAL_CMD.REVERT : Fld := ⟨0x40900030, 0x0, 0x0, 3, 1⟩
abbrev MET.CAL_CMD.COMMIT : Fld := ⟨0x40900030, 0x0, 0x0, 2, 1⟩
abbrev MET.CAL_CMD.MODE : Fld := ⟨0x40900030, 0x0, 0x0, 0, 1⟩
abbrev MET.CAL_COUNT.word : Fld := ⟨0x40900034, 0x0, 0x0, 0, 32⟩
abbrev MET.CAL_COUNT.COUNT : Fld := ⟨0x40900034, 0x0, 0x0, 0, 32⟩
abbrev MET.VRMS.word : Fld := ⟨0x40900100, 0x4, 0x0, 0, 32⟩
abbrev MET.VRMS.VRMS : Fld := ⟨0x40900100, 0x4, 0x0, 0, 16⟩
abbrev MET.CAL_GAIN.word : Fld := ⟨0x40900200, 0x10, 0x0, 0, 32⟩
abbrev MET.CAL_GAIN.INV : Fld := ⟨0x40900200, 0x10, 0x0, 24, 1⟩
abbrev MET.CAL_GAIN.GAIN : Fld := ⟨0x40900200, 0x10, 0x0, 0, 24⟩
abbrev MET.CAL_OFF.word : Fld := ⟨0x40900204, 0x10, 0x0, 0, 32⟩
abbrev MET.CAL_OFF.OFF : Fld := ⟨0x40900204, 0x10, 0x0, 0, 24⟩
abbrev MET.CAL_DLY.word : Fld := ⟨0x40900208, 0x10, 0x0, 0, 32⟩
abbrev MET.CAL_DLY.DLY : Fld := ⟨0x40900208, 0x10, 0x0, 0, 12⟩
abbrev MET.CAL_DC.word : Fld := ⟨0x4090020C, 0x10, 0x0, 0, 32⟩
abbrev MET.CAL_DC.DC : Fld := ⟨0x4090020C, 0x10, 0x0, 0, 24⟩
abbrev MET.IRMS.word : Fld := ⟨0x40901038, 0x40, 0x0, 0, 32⟩
abbrev MET.IRMS.MA : Fld := ⟨0x40901038, 0x40, 0x0, 0, 32⟩
abbrev MET.PF.word : Fld := ⟨0x4090103C, 0x40, 0x0, 0, 32⟩
abbrev MET.PF.PF : Fld := ⟨0x4090103C, 0x40, 0x0, 16, 16⟩
abbrev MET.PF.ABSENT : Fld := ⟨0x4090103C, 0x40, 0x0, 3, 1⟩
abbrev MET.PF.NO_ZC : Fld := ⟨0x4090103C, 0x40, 0x0, 2, 1⟩
abbrev MET.PF.CLIP : Fld := ⟨0x4090103C, 0x40, 0x0, 1, 1⟩
abbrev MET.PF.CREEP : Fld := ⟨0x4090103C, 0x40, 0x0, 0, 1⟩
abbrev MET.ATT_CTL.word : Fld := ⟨0x40908000, 0x0, 0x0, 0, 32⟩
abbrev MET.ATT_CTL.DEPTH : Fld := ⟨0x40908000, 0x0, 0x0, 8, 8⟩
abbrev MET.ATT_CTL.RUN : Fld := ⟨0x40908000, 0x0, 0x0, 0, 1⟩
abbrev MET.ATT_TUNE.word : Fld := ⟨0x40908004, 0x0, 0x0, 0, 32⟩
abbrev MET.ATT_TUNE.SIGMA_MAX : Fld := ⟨0x40908004, 0x0, 0x0, 24, 8⟩
abbrev MET.ATT_TUNE.Z_MIN : Fld := ⟨0x40908004, 0x0, 0x0, 16, 8⟩
abbrev MET.ATT_TUNE.MIN_PER : Fld := ⟨0x40908004, 0x0, 0x0, 8, 8⟩
abbrev MET.ATT_TUNE.WIN : Fld := ⟨0x40908004, 0x0, 0x0, 0, 8⟩
abbrev MET.ATT_TUNE2.word : Fld := ⟨0x40908008, 0x0, 0x0, 0, 32⟩
abbrev MET.ATT_TUNE2.RESID_PCT : Fld := ⟨0x40908008, 0x0, 0x0, 16, 8⟩
abbrev MET.ATT_TUNE2.VALID_MIN : Fld := ⟨0x40908008, 0x0, 0x0, 0, 11⟩
abbrev MET.ATT_PERIOD.word : Fld := ⟨0x4090800C, 0x0, 0x0, 0, 32⟩
abbrev MET.ATT_PERIOD.P : Fld := ⟨0x4090800C, 0x0, 0x0, 0, 32⟩
abbrev MET.ATT_DROP.word : Fld := ⟨0x40908010, 0x0, 0x0, 0, 32⟩
abbrev MET.ATT_DROP.COUNT : Fld := ⟨0x40908010, 0x0, 0x0, 0, 16⟩
abbrev MET.ATT_CIRC.word : Fld := ⟨0x40908100, 0x10, 0x0, 0, 32⟩
abbrev MET.ATT_CIRC.PERIODS : Fld := ⟨0x40908100, 0x10, 0x0, 16, 8⟩
abbrev MET.ATT_CIRC.LAG : Fld := ⟨0x40908100, 0x10, 0x0, 12, 4⟩
abbrev MET.ATT_CIRC.LOCKED : Fld := ⟨0x40908100, 0x10, 0x0, 11, 1⟩
abbrev MET.ATT_CIRC.RESID_HIGH : Fld := ⟨0x40908100, 0x10, 0x0, 10, 1⟩
abbrev MET.ATT_CIRC.MEMBERS : Fld := ⟨0x40908100, 0x10, 0x0, 0, 8⟩
abbrev MET.ATT_VALID.word : Fld := ⟨0x40908104, 0x10, 0x0, 0, 32⟩
abbrev MET.ATT_VALID.SIGMA_H : Fld := ⟨0x40908104, 0x10, 0x0, 16, 16⟩
abbrev MET.ATT_VALID.CHIPS : Fld := ⟨0x40908104, 0x10, 0x0, 0, 11⟩
abbrev MET.ATT_RESID.word : Fld := ⟨0x40908108, 0x10, 0x0, 0, 32⟩
abbrev MET.ATT_RESID.R : Fld := ⟨0x40908108, 0x10, 0x0, 0, 32⟩
abbrev MET.ATT_UNATTR.word : Fld := ⟨0x4090810C, 0x10, 0x0, 0, 32⟩
abbrev MET.ATT_UNATTR.WH : Fld := ⟨0x4090810C, 0x10, 0x0, 0, 32⟩
abbrev MET.ATT_CH.word : Fld := ⟨0x40909000, 0x10, 0x0, 0, 32⟩
abbrev MET.ATT_CH.CF_EST : Fld := ⟨0x40909000, 0x10, 0x0, 16, 16⟩
abbrev MET.ATT_CH.SIGMA : Fld := ⟨0x40909000, 0x10, 0x0, 0, 16⟩
abbrev MET.ATT_CH2.word : Fld := ⟨0x40909004, 0x10, 0x0, 0, 32⟩
abbrev MET.ATT_CH2.CODE : Fld := ⟨0x40909004, 0x10, 0x0, 16, 11⟩
abbrev MET.ATT_CH2.Z : Fld := ⟨0x40909004, 0x10, 0x0, 8, 8⟩
abbrev MET.ATT_CH2.STATUS : Fld := ⟨0x40909004, 0x10, 0x0, 0, 8⟩
abbrev MET.ATT_E_LO.word : Fld := ⟨0x40909008, 0x10, 0x0, 0, 32⟩
abbrev MET.ATT_E_LO.E_CUM : Fld := ⟨0x40909008, 0x10, 0x0, 0, 32⟩
abbrev MET.ATT_E_HI.word : Fld := ⟨0x4090900C, 0x10, 0x0, 0, 32⟩
abbrev MET.ATT_E_HI.E_CUM : Fld := ⟨0x4090900C, 0x10, 0x0, 0, 32⟩
abbrev MET.IMP.word : Fld := ⟨0x40901000, 0x40, 0x0, 0, 32⟩
abbrev MET.IMP.READING : Fld := ⟨0x40901000, 0x40, 0x0, 0, 32⟩
abbrev MET.IMP_W.word : Fld := ⟨0x40901004, 0x40, 0x0, 0, 32⟩
abbrev MET.IMP_W.WRAP : Fld := ⟨0x40901004, 0x40, 0x0, 0, 8⟩
abbrev MET.EXP.word : Fld := ⟨0x40901008, 0x40, 0x0, 0, 32⟩
abbrev MET.EXP.READING : Fld := ⟨0x40901008, 0x40, 0x0, 0, 32⟩
abbrev MET.EXP_W.word : Fld := ⟨0x4090100C, 0x40, 0x0, 0, 32⟩
abbrev MET.EXP_W.WRAP : Fld := ⟨0x4090100C, 0x40, 0x0, 0, 8⟩
abbrev MET.APP.word : Fld := ⟨0x40901030, 0x40, 0x0, 0, 32⟩
abbrev MET.APP.READING : Fld := ⟨0x40901030, 0x40, 0x0, 0, 32⟩
abbrev MET.APP_W.word : Fld := ⟨0x40901034, 0x40, 0x0, 0, 32⟩
abbrev MET.APP_W.WRAP : Fld := ⟨0x40901034, 0x40, 0x0, 0, 8⟩
abbrev MET.QR.word : Fld := ⟨0x40901010, 0x40, 0x8, 0, 32⟩
abbrev MET.QR.READING : Fld := ⟨0x40901010, 0x40, 0x8, 0, 32⟩
abbrev MET.QR_W.word : Fld := ⟨0x40901014, 0x40, 0x8, 0, 32⟩
abbrev MET.QR_W.WRAP : Fld := ⟨0x40901014, 0x40, 0x8, 0, 8⟩

/-- Register rows of MET, part 0. -/
def metRows0 : List RegRow := [
  -- MET.CTL
  ⟨0x0, 0x0, 1, 0x0, 1, [⟨0, 1, .rw, .s, 0, 8⟩]⟩,
  -- MET.STAT
  ⟨0x4, 0x0, 1, 0x0, 1, [⟨9, 1, .ro, .s, 0, 8⟩, ⟨8, 1, .w1c, .s, 0, 8⟩, ⟨7, 1, .ro, .s, 0, 8⟩, ⟨6, 1, .ro, .s, 0, 8⟩, ⟨5, 1, .ro, .s, 0, 8⟩, ⟨2, 3, .ro, .s, 0, 8⟩, ⟨0, 2, .ro, .s, 3, 8⟩]⟩,
  -- MET.CFG
  ⟨0x8, 0x0, 1, 0x0, 1, [⟨16, 11, .ro, .s, 50, 8⟩, ⟨8, 2, .ro, .s, 0, 8⟩, ⟨0, 8, .ro, .s, 0, 8⟩]⟩,
  -- MET.SAVE
  ⟨0xC, 0x0, 1, 0x0, 1, [⟨0, 16, .ro, .s, 60, 8⟩]⟩,
  -- MET.TUNE
  ⟨0x10, 0x0, 1, 0x0, 1, [⟨24, 8, .rw, .s, 5, 4⟩, ⟨16, 8, .rw, .s, 10, 4⟩, ⟨0, 16, .rw, .s, 1000, 4⟩]⟩,
  -- MET.FREQ
  ⟨0x14, 0x0, 1, 0x0, 1, [⟨0, 16, .ro, .s, 0, 8⟩]⟩,
  -- MET.CYCLE
  ⟨0x18, 0x0, 1, 0x0, 1, [⟨0, 32, .ro, .s, 0, 8⟩]⟩,
  -- MET.LATCH_SEQ
  ⟨0x1C, 0x0, 1, 0x0, 1, [⟨0, 32, .rs, .s, 0, 8⟩]⟩,
  -- MET.SAVE_SEQ
  ⟨0x20, 0x0, 1, 0x0, 1, [⟨0, 32, .ro, .s, 0, 8⟩]⟩,
  -- MET.DROP
  ⟨0x24, 0x0, 1, 0x0, 1, [⟨0, 16, .rs, .s, 0, 8⟩]⟩,
  -- MET.CAL_CMD
  ⟨0x30, 0x0, 1, 0x0, 1, [⟨3, 1, .w1s, .s, 0, 8⟩, ⟨2, 1, .w1s, .s, 0, 8⟩, ⟨0, 1, .w1s, .s, 0, 8⟩]⟩,
  -- MET.CAL_COUNT
  ⟨0x34, 0x0, 1, 0x0, 1, [⟨0, 32, .ro, .s, 0, 8⟩]⟩]

/-- Register rows of MET, part 1. -/
def metRows1 : List RegRow := [
  -- MET.VRMS
  ⟨0x100, 0x4, 4, 0x0, 1, [⟨0, 16, .ro, .s, 0, 8⟩]⟩,
  -- MET.CAL_GAIN
  ⟨0x200, 0x10, 28, 0x0, 1, [⟨24, 1, .rw, .s, 0, 8⟩, ⟨0, 24, .rw, .s, 0, 8⟩]⟩,
  -- MET.CAL_OFF
  ⟨0x204, 0x10, 28, 0x0, 1, [⟨0, 24, .rw, .s, 0, 8⟩]⟩,
  -- MET.CAL_DLY
  ⟨0x208, 0x10, 28, 0x0, 1, [⟨0, 12, .rw, .s, 0, 8⟩]⟩,
  -- MET.CAL_DC
  ⟨0x20C, 0x10, 28, 0x0, 1, [⟨0, 24, .ro, .s, 0, 8⟩]⟩,
  -- MET.IRMS
  ⟨0x1038, 0x40, 24, 0x0, 1, [⟨0, 32, .ro, .s, 0, 8⟩]⟩,
  -- MET.PF
  ⟨0x103C, 0x40, 24, 0x0, 1, [⟨16, 16, .ro, .s, 0, 8⟩, ⟨3, 1, .ro, .s, 0, 8⟩, ⟨2, 1, .ro, .s, 0, 8⟩, ⟨1, 1, .ro, .s, 0, 8⟩, ⟨0, 1, .ro, .s, 0, 8⟩]⟩,
  -- MET.ATT_CTL
  ⟨0x8000, 0x0, 1, 0x0, 1, [⟨8, 8, .ro, .s, 50, 8⟩, ⟨0, 1, .rw, .s, 0, 8⟩]⟩,
  -- MET.ATT_TUNE
  ⟨0x8004, 0x0, 1, 0x0, 1, [⟨24, 8, .rw, .s, 50, 5⟩, ⟨16, 8, .rw, .s, 6, 5⟩, ⟨8, 8, .rw, .s, 8, 5⟩, ⟨0, 8, .rw, .s, 64, 5⟩]⟩,
  -- MET.ATT_TUNE2
  ⟨0x8008, 0x0, 1, 0x0, 1, [⟨16, 8, .rw, .s, 10, 5⟩, ⟨0, 11, .rw, .s, 768, 5⟩]⟩,
  -- MET.ATT_PERIOD
  ⟨0x800C, 0x0, 1, 0x0, 1, [⟨0, 32, .ro, .s, 0, 8⟩]⟩,
  -- MET.ATT_DROP
  ⟨0x8010, 0x0, 1, 0x0, 1, [⟨0, 16, .rs, .s, 0, 8⟩]⟩]

/-- Register rows of MET, part 2. -/
def metRows2 : List RegRow := [
  -- MET.ATT_CIRC
  ⟨0x8100, 0x10, 24, 0x0, 1, [⟨16, 8, .ro, .s, 0, 8⟩, ⟨12, 4, .ro, .s, 0, 8⟩, ⟨11, 1, .ro, .s, 0, 8⟩, ⟨10, 1, .w1c, .s, 0, 8⟩, ⟨0, 8, .ro, .s, 0, 8⟩]⟩,
  -- MET.ATT_VALID
  ⟨0x8104, 0x10, 24, 0x0, 1, [⟨16, 16, .ro, .s, 0, 8⟩, ⟨0, 11, .ro, .s, 0, 8⟩]⟩,
  -- MET.ATT_RESID
  ⟨0x8108, 0x10, 24, 0x0, 1, [⟨0, 32, .ro, .s, 0, 8⟩]⟩,
  -- MET.ATT_UNATTR
  ⟨0x810C, 0x10, 24, 0x0, 1, [⟨0, 32, .ro, .s, 0, 8⟩]⟩,
  -- MET.ATT_CH
  ⟨0x9000, 0x10, 512, 0x0, 1, [⟨16, 16, .ro, .s, 16384, 8⟩, ⟨0, 16, .ro, .s, 65535, 8⟩]⟩,
  -- MET.ATT_CH2
  ⟨0x9004, 0x10, 512, 0x0, 1, [⟨16, 11, .ro, .s, 2047, 8⟩, ⟨8, 8, .ro, .s, 0, 8⟩, ⟨0, 8, .ro, .s, 0, 8⟩]⟩,
  -- MET.ATT_E_LO
  ⟨0x9008, 0x10, 512, 0x0, 1, [⟨0, 32, .ro, .s, 0, 8⟩]⟩,
  -- MET.ATT_E_HI
  ⟨0x900C, 0x10, 512, 0x0, 1, [⟨0, 32, .ro, .s, 0, 8⟩]⟩,
  -- MET.IMP
  ⟨0x1000, 0x40, 24, 0x0, 1, [⟨0, 32, .ro, .s, 0, 8⟩]⟩,
  -- MET.IMP_W
  ⟨0x1004, 0x40, 24, 0x0, 1, [⟨0, 8, .ro, .s, 0, 8⟩]⟩,
  -- MET.EXP
  ⟨0x1008, 0x40, 24, 0x0, 1, [⟨0, 32, .ro, .s, 0, 8⟩]⟩,
  -- MET.EXP_W
  ⟨0x100C, 0x40, 24, 0x0, 1, [⟨0, 8, .ro, .s, 0, 8⟩]⟩]

/-- Register rows of MET, part 3. -/
def metRows3 : List RegRow := [
  -- MET.APP
  ⟨0x1030, 0x40, 24, 0x0, 1, [⟨0, 32, .ro, .s, 0, 8⟩]⟩,
  -- MET.APP_W
  ⟨0x1034, 0x40, 24, 0x0, 1, [⟨0, 8, .ro, .s, 0, 8⟩]⟩,
  -- MET.QR
  ⟨0x1010, 0x40, 24, 0x8, 4, [⟨0, 32, .ro, .s, 0, 8⟩]⟩,
  -- MET.QR_W
  ⟨0x1014, 0x40, 24, 0x8, 4, [⟨0, 8, .ro, .s, 0, 8⟩]⟩]

/-! ### GIO, base 0x40A00000 -/

abbrev GIO.CTL.word : Fld := ⟨0x40A00000, 0x0, 0x0, 0, 32⟩
abbrev GIO.CTL.SIGN_EN : Fld := ⟨0x40A00000, 0x0, 0x0, 1, 1⟩
abbrev GIO.CTL.RUN : Fld := ⟨0x40A00000, 0x0, 0x0, 0, 1⟩
abbrev GIO.DI_STAT.word : Fld := ⟨0x40A00004, 0x0, 0x0, 0, 32⟩
abbrev GIO.DI_STAT.SINK_SOLO : Fld := ⟨0x40A00004, 0x0, 0x0, 26, 1⟩
abbrev GIO.DI_STAT.TWIN_MODE : Fld := ⟨0x40A00004, 0x0, 0x0, 25, 1⟩
abbrev GIO.DI_STAT.V24_FAULT : Fld := ⟨0x40A00004, 0x0, 0x0, 24, 1⟩
abbrev GIO.DI_STAT.STATE : Fld := ⟨0x40A00004, 0x0, 0x0, 0, 24⟩
abbrev GIO.DI_FAULT.word : Fld := ⟨0x40A00008, 0x0, 0x0, 0, 32⟩
abbrev GIO.DI_FAULT.TIMEOUT : Fld := ⟨0x40A00008, 0x0, 0x0, 8, 8⟩
abbrev GIO.DI_FAULT.FAULT : Fld := ⟨0x40A00008, 0x0, 0x0, 0, 8⟩
abbrev GIO.EMERG.word : Fld := ⟨0x40A0000C, 0x0, 0x0, 0, 32⟩
abbrev GIO.EMERG.ACTIVE : Fld := ⟨0x40A0000C, 0x0, 0x0, 8, 1⟩
abbrev GIO.EMERG.CONTRIB : Fld := ⟨0x40A0000C, 0x0, 0x0, 0, 8⟩
abbrev GIO.COUNT.word : Fld := ⟨0x40A00010, 0x0, 0x0, 0, 32⟩
abbrev GIO.COUNT.BAD_EVENT : Fld := ⟨0x40A00010, 0x0, 0x0, 0, 16⟩
abbrev GIO.DI_CFG.word : Fld := ⟨0x40A00100, 0x10, 0x0, 0, 32⟩
abbrev GIO.DI_CFG.FILTER_MS : Fld := ⟨0x40A00100, 0x10, 0x0, 16, 8⟩
abbrev GIO.DI_CFG.THREAD : Fld := ⟨0x40A00100, 0x10, 0x0, 8, 8⟩
abbrev GIO.DI_CFG.FUNC : Fld := ⟨0x40A00100, 0x10, 0x0, 2, 2⟩
abbrev GIO.DI_CFG.MODE : Fld := ⟨0x40A00100, 0x10, 0x0, 0, 2⟩
abbrev GIO.DI_TMO.word : Fld := ⟨0x40A00104, 0x10, 0x0, 0, 32⟩
abbrev GIO.DI_TMO.ELAPSED_S : Fld := ⟨0x40A00104, 0x10, 0x0, 16, 16⟩
abbrev GIO.DI_TMO.TIMEOUT_S : Fld := ⟨0x40A00104, 0x10, 0x0, 0, 16⟩
abbrev GIO.DI_OVR.word : Fld := ⟨0x40A00108, 0x10, 0x0, 0, 32⟩
abbrev GIO.DI_OVR.SCOPE : Fld := ⟨0x40A00108, 0x10, 0x0, 28, 2⟩
abbrev GIO.DI_OVR.TARGET : Fld := ⟨0x40A00108, 0x10, 0x0, 16, 12⟩
abbrev GIO.DI_OVR.LEVEL : Fld := ⟨0x40A00108, 0x10, 0x0, 0, 16⟩
abbrev GIO.DI_OVP.word : Fld := ⟨0x40A0010C, 0x10, 0x0, 0, 32⟩
abbrev GIO.DI_OVP.PRESET_REL : Fld := ⟨0x40A0010C, 0x10, 0x0, 4, 4⟩
abbrev GIO.DI_OVP.PRESET_SET : Fld := ⟨0x40A0010C, 0x10, 0x0, 0, 4⟩
abbrev GIO.REL_CTL.word : Fld := ⟨0x40A00200, 0x0, 0x0, 0, 32⟩
abbrev GIO.REL_CTL.HOST : Fld := ⟨0x40A00200, 0x0, 0x0, 0, 4⟩
abbrev GIO.REL_STAT.word : Fld := ⟨0x40A00204, 0x0, 0x0, 0, 32⟩
abbrev GIO.REL_STAT.HELD : Fld := ⟨0x40A00204, 0x0, 0x0, 8, 4⟩
abbrev GIO.REL_STAT.COIL_FAULT : Fld := ⟨0x40A00204, 0x0, 0x0, 4, 4⟩
abbrev GIO.REL_STAT.STATE : Fld := ⟨0x40A00204, 0x0, 0x0, 0, 4⟩
abbrev GIO.REL_CFG.word : Fld := ⟨0x40A00210, 0x4, 0x0, 0, 32⟩
abbrev GIO.REL_CFG.HEM_POS : Fld := ⟨0x40A00210, 0x4, 0x0, 10, 1⟩
abbrev GIO.REL_CFG.SOURCE : Fld := ⟨0x40A00210, 0x4, 0x0, 8, 2⟩
abbrev GIO.REL_CFG.THREAD : Fld := ⟨0x40A00210, 0x4, 0x0, 0, 8⟩
abbrev GIO.SIGN_CFG.word : Fld := ⟨0x40A00300, 0x0, 0x0, 0, 32⟩
abbrev GIO.SIGN_CFG.FIELD_CNT : Fld := ⟨0x40A00300, 0x0, 0x0, 24, 8⟩
abbrev GIO.SIGN_CFG.BLANK : Fld := ⟨0x40A00300, 0x0, 0x0, 16, 1⟩
abbrev GIO.SIGN_CFG.COLS : Fld := ⟨0x40A00300, 0x0, 0x0, 8, 8⟩
abbrev GIO.SIGN_CFG.ROWS : Fld := ⟨0x40A00300, 0x0, 0x0, 0, 8⟩
abbrev GIO.SIGN_DRV.word : Fld := ⟨0x40A00304, 0x0, 0x0, 0, 32⟩
abbrev GIO.SIGN_DRV.KNEE_C : Fld := ⟨0x40A00304, 0x0, 0x0, 24, 8⟩
abbrev GIO.SIGN_DRV.DIM_PCT : Fld := ⟨0x40A00304, 0x0, 0x0, 16, 8⟩
abbrev GIO.SIGN_DRV.I_COL_MA : Fld := ⟨0x40A00304, 0x0, 0x0, 0, 8⟩
abbrev GIO.SIGN_SUP.word : Fld := ⟨0x40A00308, 0x0, 0x0, 0, 32⟩
abbrev GIO.SIGN_SUP.VMARGIN_CV : Fld := ⟨0x40A00308, 0x0, 0x0, 8, 8⟩
abbrev GIO.SIGN_SUP.VPRE_CV : Fld := ⟨0x40A00308, 0x0, 0x0, 0, 8⟩
abbrev GIO.SIGN_PWR.word : Fld := ⟨0x40A0030C, 0x0, 0x0, 0, 32⟩
abbrev GIO.SIGN_PWR.P_DW : Fld := ⟨0x40A0030C, 0x0, 0x0, 16, 16⟩
abbrev GIO.SIGN_PWR.CAP_DW : Fld := ⟨0x40A0030C, 0x0, 0x0, 0, 16⟩
abbrev GIO.SIGN_STAT.word : Fld := ⟨0x40A00310, 0x0, 0x0, 0, 32⟩
abbrev GIO.SIGN_STAT.TEMP_C : Fld := ⟨0x40A00310, 0x0, 0x0, 23, 9⟩
abbrev GIO.SIGN_STAT.DARK : Fld := ⟨0x40A00310, 0x0, 0x0, 6, 1⟩
abbrev GIO.SIGN_STAT.NTC_FAULT : Fld := ⟨0x40A00310, 0x0, 0x0, 5, 1⟩
abbrev GIO.SIGN_STAT.SENSOR_LOST : Fld := ⟨0x40A00310, 0x0, 0x0, 4, 1⟩
abbrev GIO.SIGN_STAT.COMPLIANCE : Fld := ⟨0x40A00310, 0x0, 0x0, 3, 1⟩
abbrev GIO.SIGN_STAT.THERMAL : Fld := ⟨0x40A00310, 0x0, 0x0, 2, 1⟩
abbrev GIO.SIGN_STAT.PORT_FAULT : Fld := ⟨0x40A00310, 0x0, 0x0, 1, 1⟩
abbrev GIO.SIGN_STAT.WHOLE_BLANK : Fld := ⟨0x40A00310, 0x0, 0x0, 0, 1⟩
abbrev GIO.SIGN_FACT.word : Fld := ⟨0x40A00314, 0x0, 0x0, 0, 32⟩
abbrev GIO.SIGN_FACT.G : Fld := ⟨0x40A00314, 0x0, 0x0, 0, 17⟩
abbrev GIO.SIGN_CMD.word : Fld := ⟨0x40A00318, 0x0, 0x0, 0, 32⟩
abbrev GIO.SIGN_CMD.RETRY : Fld := ⟨0x40A00318, 0x0, 0x0, 2, 1⟩
abbrev GIO.SIGN_CMD.CLEAR_OPEN : Fld := ⟨0x40A00318, 0x0, 0x0, 1, 1⟩
abbrev GIO.SIGN_CMD.COMMIT : Fld := ⟨0x40A00318, 0x0, 0x0, 0, 1⟩
abbrev GIO.SIGN_BLANK.word : Fld := ⟨0x40A0031C, 0x0, 0x0, 0, 32⟩
abbrev GIO.SIGN_BLANK.FIELD : Fld := ⟨0x40A0031C, 0x0, 0x0, 0, 32⟩
abbrev GIO.I2C_CFG.word : Fld := ⟨0x40A00320, 0x0, 0x0, 0, 32⟩
abbrev GIO.I2C_CFG.FAST : Fld := ⟨0x40A00320, 0x0, 0x0, 8, 1⟩
abbrev GIO.I2C_CFG.ADDR : Fld := ⟨0x40A00320, 0x0, 0x0, 0, 7⟩
abbrev GIO.SIGN_TRIM.word : Fld := ⟨0x40A00324, 0x0, 0x0, 0, 32⟩
abbrev GIO.SIGN_TRIM.TRIM : Fld := ⟨0x40A00324, 0x0, 0x0, 0, 24⟩
abbrev GIO.SIGN_CTGT.word : Fld := ⟨0x40A00328, 0x0, 0x0, 0, 32⟩
abbrev GIO.SIGN_CTGT.TGT : Fld := ⟨0x40A00328, 0x0, 0x0, 0, 24⟩
abbrev GIO.SIGN_CLS.word : Fld := ⟨0x40A00330, 0x4, 0x0, 0, 32⟩
abbrev GIO.SIGN_CLS.CLS : Fld := ⟨0x40A00330, 0x4, 0x0, 0, 32⟩
abbrev GIO.SIGN_VROW.word : Fld := ⟨0x40A00380, 0x4, 0x0, 0, 32⟩
abbrev GIO.SIGN_VROW.MV : Fld := ⟨0x40A00380, 0x4, 0x0, 0, 16⟩
abbrev GIO.FIELD_AGE.word : Fld := ⟨0x40A00400, 0x4, 0x0, 0, 32⟩
abbrev GIO.FIELD_AGE.AGE_S : Fld := ⟨0x40A00400, 0x4, 0x0, 0, 32⟩
abbrev GIO.FB_BACK.word : Fld := ⟨0x40A01000, 0x40, 0x4, 0, 32⟩
abbrev GIO.FB_BACK.PIX : Fld := ⟨0x40A01000, 0x40, 0x4, 0, 32⟩
abbrev GIO.FB_FRONT.word : Fld := ⟨0x40A01400, 0x40, 0x4, 0, 32⟩
abbrev GIO.FB_FRONT.PIX : Fld := ⟨0x40A01400, 0x40, 0x4, 0, 32⟩
abbrev GIO.PIX_OPEN.word : Fld := ⟨0x40A01800, 0x8, 0x4, 0, 32⟩
abbrev GIO.PIX_OPEN.OPEN : Fld := ⟨0x40A01800, 0x8, 0x4, 0, 32⟩

/-- Register rows of GIO, part 0. -/
def gioRows0 : List RegRow := [
  -- GIO.CTL
  ⟨0x0, 0x0, 1, 0x0, 1, [⟨1, 1, .rw, .map, 1, 8⟩, ⟨0, 1, .rw, .s, 0, 8⟩]⟩,
  -- GIO.DI_STAT
  ⟨0x4, 0x0, 1, 0x0, 1, [⟨26, 1, .ro, .s, 0, 8⟩, ⟨25, 1, .ro, .s, 0, 8⟩, ⟨24, 1, .ro, .s, 0, 8⟩, ⟨0, 24, .ro, .s, 0, 8⟩]⟩,
  -- GIO.DI_FAULT
  ⟨0x8, 0x0, 1, 0x0, 1, [⟨8, 8, .w1c, .s, 0, 8⟩, ⟨0, 8, .w1c, .s, 0, 8⟩]⟩,
  -- GIO.EMERG
  ⟨0xC, 0x0, 1, 0x0, 1, [⟨8, 1, .ro, .s, 0, 8⟩, ⟨0, 8, .ro, .s, 0, 8⟩]⟩,
  -- GIO.COUNT
  ⟨0x10, 0x0, 1, 0x0, 1, [⟨0, 16, .rs, .map, 0, 8⟩]⟩,
  -- GIO.DI_CFG
  ⟨0x100, 0x10, 8, 0x0, 1, [⟨16, 8, .ro, .s, 10, 8⟩, ⟨8, 8, .ro, .s, 0, 8⟩, ⟨2, 2, .ro, .s, 0, 8⟩, ⟨0, 2, .ro, .s, 0, 8⟩]⟩,
  -- GIO.DI_TMO
  ⟨0x104, 0x10, 8, 0x0, 1, [⟨16, 16, .ro, .s, 0, 8⟩, ⟨0, 16, .ro, .s, 0, 8⟩]⟩,
  -- GIO.DI_OVR
  ⟨0x108, 0x10, 8, 0x0, 1, [⟨28, 2, .rw, .map, 2, 8⟩, ⟨16, 12, .rw, .map, 0, 8⟩, ⟨0, 16, .rw, .map, 65535, 8⟩]⟩,
  -- GIO.DI_OVP
  ⟨0x10C, 0x10, 8, 0x0, 1, [⟨4, 4, .rw, .map, 2, 8⟩, ⟨0, 4, .rw, .map, 0, 8⟩]⟩,
  -- GIO.REL_CTL
  ⟨0x200, 0x0, 1, 0x0, 1, [⟨0, 4, .rw, .map, 0, 8⟩]⟩,
  -- GIO.REL_STAT
  ⟨0x204, 0x0, 1, 0x0, 1, [⟨8, 4, .ro, .s, 0, 8⟩, ⟨4, 4, .w1c, .s, 0, 8⟩, ⟨0, 4, .ro, .s, 0, 8⟩]⟩,
  -- GIO.REL_CFG
  ⟨0x210, 0x4, 4, 0x0, 1, [⟨10, 1, .ro, .s, 0, 8⟩, ⟨8, 2, .ro, .s, 0, 8⟩, ⟨0, 8, .ro, .s, 0, 8⟩]⟩]

/-- Register rows of GIO, part 1. -/
def gioRows1 : List RegRow := [
  -- GIO.SIGN_CFG
  ⟨0x300, 0x0, 1, 0x0, 1, [⟨24, 8, .ro, .map, 0, 8⟩, ⟨16, 1, .ro, .map, 0, 8⟩, ⟨8, 8, .ro, .map, 0, 8⟩, ⟨0, 8, .ro, .map, 0, 8⟩]⟩,
  -- GIO.SIGN_DRV
  ⟨0x304, 0x0, 1, 0x0, 1, [⟨24, 8, .ro, .map, 0, 8⟩, ⟨16, 8, .rw, .map, 0, 8⟩, ⟨0, 8, .ro, .map, 0, 8⟩]⟩,
  -- GIO.SIGN_SUP
  ⟨0x308, 0x0, 1, 0x0, 1, [⟨8, 8, .rw, .map, 10, 6⟩, ⟨0, 8, .rw, .map, 150, 6⟩]⟩,
  -- GIO.SIGN_PWR
  ⟨0x30C, 0x0, 1, 0x0, 1, [⟨16, 16, .ro, .map, 0, 8⟩, ⟨0, 16, .rw, .map, 120, 6⟩]⟩,
  -- GIO.SIGN_STAT
  ⟨0x310, 0x0, 1, 0x0, 1, [⟨23, 9, .ro, .map, 0, 8⟩, ⟨6, 1, .ro, .map, 1, 8⟩, ⟨5, 1, .ro, .map, 0, 8⟩, ⟨4, 1, .ro, .map, 0, 8⟩, ⟨3, 1, .w1c, .map, 0, 8⟩, ⟨2, 1, .ro, .map, 0, 8⟩, ⟨1, 1, .ro, .map, 0, 8⟩, ⟨0, 1, .ro, .map, 0, 8⟩]⟩,
  -- GIO.SIGN_FACT
  ⟨0x314, 0x0, 1, 0x0, 1, [⟨0, 17, .ro, .map, 0, 8⟩]⟩,
  -- GIO.SIGN_CMD
  ⟨0x318, 0x0, 1, 0x0, 1, [⟨2, 1, .w1s, .map, 0, 8⟩, ⟨1, 1, .w1s, .map, 0, 8⟩, ⟨0, 1, .w1s, .map, 0, 8⟩]⟩,
  -- GIO.SIGN_BLANK
  ⟨0x31C, 0x0, 1, 0x0, 1, [⟨0, 32, .ro, .map, 0, 8⟩]⟩,
  -- GIO.I2C_CFG
  ⟨0x320, 0x0, 1, 0x0, 1, [⟨8, 1, .rw, .map, 0, 8⟩, ⟨0, 7, .rw, .map, 41, 6⟩]⟩,
  -- GIO.SIGN_TRIM
  ⟨0x324, 0x0, 1, 0x0, 1, [⟨0, 24, .ro, .map, 4210752, 8⟩]⟩,
  -- GIO.SIGN_CTGT
  ⟨0x328, 0x0, 1, 0x0, 1, [⟨0, 24, .rw, .map, 0, 6⟩]⟩,
  -- GIO.SIGN_CLS
  ⟨0x330, 0x4, 4, 0x0, 1, [⟨0, 32, .rw, .map, 4294967295, 6⟩]⟩]

/-- Register rows of GIO, part 2. -/
def gioRows2 : List RegRow := [
  -- GIO.SIGN_VROW
  ⟨0x380, 0x4, 16, 0x0, 1, [⟨0, 16, .ro, .map, 2800, 8⟩]⟩,
  -- GIO.FIELD_AGE
  ⟨0x400, 0x4, 32, 0x0, 1, [⟨0, 32, .ro, .map, 4294967295, 8⟩]⟩,
  -- GIO.FB_BACK
  ⟨0x1000, 0x40, 16, 0x4, 16, [⟨0, 32, .rw, .map, 0, 8⟩]⟩,
  -- GIO.FB_FRONT
  ⟨0x1400, 0x40, 16, 0x4, 16, [⟨0, 32, .ro, .map, 0, 8⟩]⟩,
  -- GIO.PIX_OPEN
  ⟨0x1800, 0x8, 16, 0x4, 2, [⟨0, 32, .ro, .map, 0, 8⟩]⟩]

/-! ### MEMI, base 0x40B00000 -/

abbrev MEMI.STAT.word : Fld := ⟨0x40B00000, 0x0, 0x0, 0, 32⟩
abbrev MEMI.STAT.SELFTEST_FAIL : Fld := ⟨0x40B00000, 0x0, 0x0, 3, 1⟩
abbrev MEMI.STAT.DRAM_DONE : Fld := ⟨0x40B00000, 0x0, 0x0, 2, 1⟩
abbrev MEMI.STAT.REMAP_FULL : Fld := ⟨0x40B00000, 0x0, 0x0, 1, 1⟩
abbrev MEMI.STAT.INIT_DONE : Fld := ⟨0x40B00000, 0x0, 0x0, 0, 1⟩
abbrev MEMI.DRAM_FILL.word : Fld := ⟨0x40B00004, 0x0, 0x0, 0, 32⟩
abbrev MEMI.DRAM_FILL.PAGES : Fld := ⟨0x40B00004, 0x0, 0x0, 0, 20⟩
abbrev MEMI.INJ_ADDR.word : Fld := ⟨0x40B00010, 0x0, 0x0, 0, 32⟩
abbrev MEMI.INJ_ADDR.ADDR : Fld := ⟨0x40B00010, 0x0, 0x0, 3, 29⟩
abbrev MEMI.INJ_CTL.word : Fld := ⟨0x40B00014, 0x0, 0x0, 0, 32⟩
abbrev MEMI.INJ_CTL.ARM : Fld := ⟨0x40B00014, 0x0, 0x0, 16, 1⟩
abbrev MEMI.INJ_CTL.FLIP : Fld := ⟨0x40B00014, 0x0, 0x0, 0, 8⟩
abbrev MEMI.UE_ADDR.word : Fld := ⟨0x40B00018, 0x0, 0x0, 0, 32⟩
abbrev MEMI.UE_ADDR.ADDR : Fld := ⟨0x40B00018, 0x0, 0x0, 0, 32⟩
abbrev MEMI.UE_INFO.word : Fld := ⟨0x40B0001C, 0x0, 0x0, 0, 32⟩
abbrev MEMI.UE_INFO.COUNT : Fld := ⟨0x40B0001C, 0x0, 0x0, 16, 16⟩
abbrev MEMI.UE_INFO.SCRUB : Fld := ⟨0x40B0001C, 0x0, 0x0, 3, 1⟩
abbrev MEMI.UE_INFO.MEM : Fld := ⟨0x40B0001C, 0x0, 0x0, 0, 3⟩
abbrev MEMI.SCRUB.word : Fld := ⟨0x40B00100, 0x20, 0x0, 0, 32⟩
abbrev MEMI.SCRUB.EN : Fld := ⟨0x40B00100, 0x20, 0x0, 16, 1⟩
abbrev MEMI.SCRUB.PER_US : Fld := ⟨0x40B00100, 0x20, 0x0, 0, 16⟩
abbrev MEMI.PASS.word : Fld := ⟨0x40B00104, 0x20, 0x0, 0, 32⟩
abbrev MEMI.PASS.COUNT : Fld := ⟨0x40B00104, 0x20, 0x0, 0, 32⟩
abbrev MEMI.BUCKET.word : Fld := ⟨0x40B00108, 0x20, 0x0, 0, 32⟩
abbrev MEMI.BUCKET.THRESH : Fld := ⟨0x40B00108, 0x20, 0x0, 16, 8⟩
abbrev MEMI.BUCKET.LEAK_S : Fld := ⟨0x40B00108, 0x20, 0x0, 0, 12⟩
abbrev MEMI.CE_CNT.word : Fld := ⟨0x40B0010C, 0x20, 0x0, 0, 32⟩
abbrev MEMI.CE_CNT.HARD : Fld := ⟨0x40B0010C, 0x20, 0x0, 24, 8⟩
abbrev MEMI.CE_CNT.UNTRACKED : Fld := ⟨0x40B0010C, 0x20, 0x0, 16, 8⟩
abbrev MEMI.CE_CNT.CORR : Fld := ⟨0x40B0010C, 0x20, 0x0, 0, 16⟩
abbrev MEMI.LEVEL.word : Fld := ⟨0x40B00110, 0x20, 0x0, 0, 32⟩
abbrev MEMI.LEVEL.OVF : Fld := ⟨0x40B00110, 0x20, 0x0, 8, 1⟩
abbrev MEMI.LEVEL.LEVEL : Fld := ⟨0x40B00110, 0x20, 0x0, 0, 8⟩
abbrev MEMI.LAST_CE.word : Fld := ⟨0x40B00114, 0x20, 0x0, 0, 32⟩
abbrev MEMI.LAST_CE.ADDR : Fld := ⟨0x40B00114, 0x20, 0x0, 0, 32⟩
abbrev MEMI.REMAP.word : Fld := ⟨0x40B00200, 0x4, 0x0, 0, 32⟩
abbrev MEMI.REMAP.VALID : Fld := ⟨0x40B00200, 0x4, 0x0, 31, 1⟩
abbrev MEMI.REMAP.WORD : Fld := ⟨0x40B00200, 0x4, 0x0, 0, 17⟩
abbrev MEMI.SPARE.word : Fld := ⟨0x40B00300, 0x4, 0x0, 0, 32⟩
abbrev MEMI.SPARE.FUSE : Fld := ⟨0x40B00300, 0x4, 0x0, 16, 7⟩
abbrev MEMI.SPARE.LOG : Fld := ⟨0x40B00300, 0x4, 0x0, 8, 7⟩
abbrev MEMI.SPARE.FULL : Fld := ⟨0x40B00300, 0x4, 0x0, 7, 1⟩
abbrev MEMI.SPARE.PENDING : Fld := ⟨0x40B00300, 0x4, 0x0, 0, 7⟩
abbrev MEMI.LOG_STAT.word : Fld := ⟨0x40B00320, 0x0, 0x0, 0, 32⟩
abbrev MEMI.LOG_STAT.BAD : Fld := ⟨0x40B00320, 0x0, 0x0, 16, 10⟩
abbrev MEMI.LOG_STAT.USED : Fld := ⟨0x40B00320, 0x0, 0x0, 0, 10⟩

/-- Register rows of MEMI, part 0. -/
def memiRows0 : List RegRow := [
  -- MEMI.STAT
  ⟨0x0, 0x0, 1, 0x0, 1, [⟨3, 1, .ro, .s, 0, 8⟩, ⟨2, 1, .ro, .s, 0, 8⟩, ⟨1, 1, .ro, .s, 0, 8⟩, ⟨0, 1, .ro, .s, 1, 8⟩]⟩,
  -- MEMI.DRAM_FILL
  ⟨0x4, 0x0, 1, 0x0, 1, [⟨0, 20, .ro, .s, 0, 8⟩]⟩,
  -- MEMI.INJ_ADDR
  ⟨0x10, 0x0, 1, 0x0, 1, [⟨3, 29, .rw, .s, 0, 8⟩]⟩,
  -- MEMI.INJ_CTL
  ⟨0x14, 0x0, 1, 0x0, 1, [⟨16, 1, .w1s, .s, 0, 8⟩, ⟨0, 8, .rw, .s, 0, 8⟩]⟩,
  -- MEMI.UE_ADDR
  ⟨0x18, 0x0, 1, 0x0, 1, [⟨0, 32, .ro, .s, 0, 8⟩]⟩,
  -- MEMI.UE_INFO
  ⟨0x1C, 0x0, 1, 0x0, 1, [⟨16, 16, .ro, .s, 0, 8⟩, ⟨3, 1, .ro, .s, 0, 8⟩, ⟨0, 3, .ro, .s, 0, 8⟩]⟩,
  -- MEMI.SCRUB
  ⟨0x100, 0x20, 6, 0x0, 1, [⟨16, 1, .rw, .s, 1, 8⟩, ⟨0, 16, .rw, .s, 0, 8⟩]⟩,
  -- MEMI.PASS
  ⟨0x104, 0x20, 6, 0x0, 1, [⟨0, 32, .ro, .s, 0, 8⟩]⟩,
  -- MEMI.BUCKET
  ⟨0x108, 0x20, 6, 0x0, 1, [⟨16, 8, .rw, .s, 16, 8⟩, ⟨0, 12, .rw, .s, 60, 8⟩]⟩,
  -- MEMI.CE_CNT
  ⟨0x10C, 0x20, 6, 0x0, 1, [⟨24, 8, .rs, .s, 0, 8⟩, ⟨16, 8, .rs, .s, 0, 8⟩, ⟨0, 16, .rs, .s, 0, 8⟩]⟩,
  -- MEMI.LEVEL
  ⟨0x110, 0x20, 6, 0x0, 1, [⟨8, 1, .w1c, .s, 0, 8⟩, ⟨0, 8, .ro, .s, 0, 8⟩]⟩,
  -- MEMI.LAST_CE
  ⟨0x114, 0x20, 6, 0x0, 1, [⟨0, 32, .ro, .s, 0, 8⟩]⟩]

/-- Register rows of MEMI, part 1. -/
def memiRows1 : List RegRow := [
  -- MEMI.REMAP
  ⟨0x200, 0x4, 32, 0x0, 1, [⟨31, 1, .ro, .s, 0, 8⟩, ⟨0, 17, .ro, .s, 0, 8⟩]⟩,
  -- MEMI.SPARE
  ⟨0x300, 0x4, 8, 0x0, 1, [⟨16, 7, .ro, .s, 0, 8⟩, ⟨8, 7, .ro, .s, 0, 8⟩, ⟨7, 1, .ro, .s, 0, 8⟩, ⟨0, 7, .ro, .s, 0, 8⟩]⟩,
  -- MEMI.LOG_STAT
  ⟨0x320, 0x0, 1, 0x0, 1, [⟨16, 10, .ro, .s, 0, 8⟩, ⟨0, 10, .ro, .s, 0, 8⟩]⟩]

/-! ### UPD, base 0x40C00000 -/

abbrev UPD.STAT.word : Fld := ⟨0x40C00000, 0x0, 0x0, 0, 32⟩
abbrev UPD.STAT.RECOVERY : Fld := ⟨0x40C00000, 0x0, 0x0, 19, 1⟩
abbrev UPD.STAT.SET_DEFAULTED : Fld := ⟨0x40C00000, 0x0, 0x0, 18, 1⟩
abbrev UPD.STAT.SLOTWORD_BAD : Fld := ⟨0x40C00000, 0x0, 0x0, 17, 1⟩
abbrev UPD.STAT.FELL_BACK : Fld := ⟨0x40C00000, 0x0, 0x0, 16, 1⟩
abbrev UPD.STAT.PAT_PENDING : Fld := ⟨0x40C00000, 0x0, 0x0, 11, 1⟩
abbrev UPD.STAT.PAT_SLOT : Fld := ⟨0x40C00000, 0x0, 0x0, 10, 1⟩
abbrev UPD.STAT.ENROL : Fld := ⟨0x40C00000, 0x0, 0x0, 8, 2⟩
abbrev UPD.STAT.TRIALS : Fld := ⟨0x40C00000, 0x0, 0x0, 4, 4⟩
abbrev UPD.STAT.STATE : Fld := ⟨0x40C00000, 0x0, 0x0, 2, 2⟩
abbrev UPD.STAT.ACTIVE : Fld := ⟨0x40C00000, 0x0, 0x0, 0, 1⟩
abbrev UPD.CMD.word : Fld := ⟨0x40C00004, 0x0, 0x0, 0, 32⟩
abbrev UPD.CMD.STG : Fld := ⟨0x40C00004, 0x0, 0x0, 8, 3⟩
abbrev UPD.CMD.RECOVERY : Fld := ⟨0x40C00004, 0x0, 0x0, 6, 1⟩
abbrev UPD.CMD.PAT_FLOOR : Fld := ⟨0x40C00004, 0x0, 0x0, 5, 1⟩
abbrev UPD.CMD.ABORT : Fld := ⟨0x40C00004, 0x0, 0x0, 4, 1⟩
abbrev UPD.CMD.REJECT : Fld := ⟨0x40C00004, 0x0, 0x0, 3, 1⟩
abbrev UPD.CMD.CONFIRM : Fld := ⟨0x40C00004, 0x0, 0x0, 2, 1⟩
abbrev UPD.CMD.ACTIVATE : Fld := ⟨0x40C00004, 0x0, 0x0, 1, 1⟩
abbrev UPD.CMD.VERIFY : Fld := ⟨0x40C00004, 0x0, 0x0, 0, 1⟩
abbrev UPD.CMD_RES.word : Fld := ⟨0x40C00008, 0x0, 0x0, 0, 32⟩
abbrev UPD.CMD_RES.CODE : Fld := ⟨0x40C00008, 0x0, 0x0, 0, 8⟩
abbrev UPD.CONF.word : Fld := ⟨0x40C0000C, 0x0, 0x0, 0, 32⟩
abbrev UPD.CONF.AUTO : Fld := ⟨0x40C0000C, 0x0, 0x0, 16, 1⟩
abbrev UPD.CONF.WIN_MIN : Fld := ⟨0x40C0000C, 0x0, 0x0, 0, 16⟩
abbrev UPD.IMG_FLOOR.word : Fld := ⟨0x40C00010, 0x0, 0x0, 0, 32⟩
abbrev UPD.IMG_FLOOR.FLOOR : Fld := ⟨0x40C00010, 0x0, 0x0, 0, 32⟩
abbrev UPD.PAT_FLOOR.word : Fld := ⟨0x40C00014, 0x0, 0x0, 0, 32⟩
abbrev UPD.PAT_FLOOR.FLOOR : Fld := ⟨0x40C00014, 0x0, 0x0, 0, 32⟩
abbrev UPD.SLOT_ID.word : Fld := ⟨0x40C00020, 0x8, 0x0, 0, 32⟩
abbrev UPD.SLOT_ID.IMAGE_ID : Fld := ⟨0x40C00020, 0x8, 0x0, 0, 32⟩
abbrev UPD.SLOT_VER.word : Fld := ⟨0x40C00024, 0x8, 0x0, 0, 32⟩
abbrev UPD.SLOT_VER.VERSION : Fld := ⟨0x40C00024, 0x8, 0x0, 0, 32⟩
abbrev UPD.SLOT_WORD_LO.word : Fld := ⟨0x40C00030, 0x0, 0x0, 0, 32⟩
abbrev UPD.SLOT_WORD_LO.WORD : Fld := ⟨0x40C00030, 0x0, 0x0, 0, 32⟩
abbrev UPD.SLOT_WORD_HI.word : Fld := ⟨0x40C00034, 0x0, 0x0, 0, 32⟩
abbrev UPD.SLOT_WORD_HI.WORD : Fld := ⟨0x40C00034, 0x0, 0x0, 0, 32⟩
abbrev UPD.PAT_STAT.word : Fld := ⟨0x40C00040, 0x0, 0x0, 0, 32⟩
abbrev UPD.PAT_STAT.PARTIAL : Fld := ⟨0x40C00040, 0x0, 0x0, 16, 1⟩
abbrev UPD.PAT_STAT.SECT : Fld := ⟨0x40C00040, 0x0, 0x0, 8, 8⟩
abbrev UPD.PAT_STAT.CODE : Fld := ⟨0x40C00040, 0x0, 0x0, 0, 8⟩
abbrev UPD.PAT_OFS.word : Fld := ⟨0x40C00044, 0x0, 0x0, 0, 32⟩
abbrev UPD.PAT_OFS.OFFSET : Fld := ⟨0x40C00044, 0x0, 0x0, 0, 20⟩
abbrev UPD.ACT_STAT.word : Fld := ⟨0x40C00048, 0x0, 0x0, 0, 32⟩
abbrev UPD.ACT_STAT.HO_LOST : Fld := ⟨0x40C00048, 0x0, 0x0, 5, 1⟩
abbrev UPD.ACT_STAT.RESTART : Fld := ⟨0x40C00048, 0x0, 0x0, 4, 1⟩
abbrev UPD.ACT_STAT.PHASE : Fld := ⟨0x40C00048, 0x0, 0x0, 0, 4⟩
abbrev UPD.ACT_BOLT.word : Fld := ⟨0x40C0004C, 0x0, 0x0, 0, 32⟩
abbrev UPD.ACT_BOLT.BOLT : Fld := ⟨0x40C0004C, 0x0, 0x0, 0, 32⟩
abbrev UPD.CHAIN.word : Fld := ⟨0x40C00050, 0x0, 0x0, 0, 32⟩
abbrev UPD.CHAIN.EN : Fld := ⟨0x40C00050, 0x0, 0x0, 16, 1⟩
abbrev UPD.CHAIN.NEXT : Fld := ⟨0x40C00050, 0x0, 0x0, 0, 16⟩
abbrev UPD.ENR_CMD.word : Fld := ⟨0x40C00060, 0x0, 0x0, 0, 32⟩
abbrev UPD.ENR_CMD.TYPE : Fld := ⟨0x40C00060, 0x0, 0x0, 0, 4⟩
abbrev UPD.ENR_LEN.word : Fld := ⟨0x40C00064, 0x0, 0x0, 0, 32⟩
abbrev UPD.ENR_LEN.LEN : Fld := ⟨0x40C00064, 0x0, 0x0, 0, 13⟩
abbrev UPD.ENR_STAT.word : Fld := ⟨0x40C00068, 0x0, 0x0, 0, 32⟩
abbrev UPD.ENR_STAT.BUSY : Fld := ⟨0x40C00068, 0x0, 0x0, 8, 1⟩
abbrev UPD.ENR_STAT.RESULT : Fld := ⟨0x40C00068, 0x0, 0x0, 0, 8⟩
abbrev UPD.NC_CTL.word : Fld := ⟨0x40C00070, 0x0, 0x0, 0, 32⟩
abbrev UPD.NC_CTL.STG : Fld := ⟨0x40C00070, 0x0, 0x0, 16, 3⟩
abbrev UPD.NC_CTL.GROUP : Fld := ⟨0x40C00070, 0x0, 0x0, 8, 8⟩
abbrev UPD.NC_CTL.ALL : Fld := ⟨0x40C00070, 0x0, 0x0, 3, 1⟩
abbrev UPD.NC_CTL.SENSORS : Fld := ⟨0x40C00070, 0x0, 0x0, 2, 1⟩
abbrev UPD.NC_CTL.STOP : Fld := ⟨0x40C00070, 0x0, 0x0, 1, 1⟩
abbrev UPD.NC_CTL.START : Fld := ⟨0x40C00070, 0x0, 0x0, 0, 1⟩
abbrev UPD.NC_ACT_LO.word : Fld := ⟨0x40C00074, 0x0, 0x0, 0, 32⟩
abbrev UPD.NC_ACT_LO.ACT_TIME : Fld := ⟨0x40C00074, 0x0, 0x0, 0, 32⟩
abbrev UPD.NC_ACT_HI.word : Fld := ⟨0x40C00078, 0x0, 0x0, 0, 32⟩
abbrev UPD.NC_ACT_HI.ACT_TIME : Fld := ⟨0x40C00078, 0x0, 0x0, 0, 16⟩
abbrev UPD.NC_STAT.word : Fld := ⟨0x40C0007C, 0x0, 0x0, 0, 32⟩
abbrev UPD.NC_STAT.PIECE_LEN : Fld := ⟨0x40C0007C, 0x0, 0x0, 16, 8⟩
abbrev UPD.NC_STAT.STATE : Fld := ⟨0x40C0007C, 0x0, 0x0, 0, 2⟩
abbrev UPD.NC_CNT_A.word : Fld := ⟨0x40C00080, 0x0, 0x0, 0, 32⟩
abbrev UPD.NC_CNT_A.COMPLETE : Fld := ⟨0x40C00080, 0x0, 0x0, 16, 16⟩
abbrev UPD.NC_CNT_A.TARGETS : Fld := ⟨0x40C00080, 0x0, 0x0, 0, 16⟩
abbrev UPD.NC_CNT_B.word : Fld := ⟨0x40C00084, 0x0, 0x0, 0, 32⟩
abbrev UPD.NC_CNT_B.FAILED : Fld := ⟨0x40C00084, 0x0, 0x0, 16, 16⟩
abbrev UPD.NC_CNT_B.ACTIVATED : Fld := ⟨0x40C00084, 0x0, 0x0, 0, 16⟩
abbrev UPD.STG_ID.word : Fld := ⟨0x40C00100, 0x10, 0x0, 0, 32⟩
abbrev UPD.STG_ID.IMAGE_ID : Fld := ⟨0x40C00100, 0x10, 0x0, 0, 32⟩
abbrev UPD.STG_STAT.word : Fld := ⟨0x40C00104, 0x10, 0x0, 0, 32⟩
abbrev UPD.STG_STAT.KIND : Fld := ⟨0x40C00104, 0x10, 0x0, 3, 1⟩
abbrev UPD.STG_STAT.VERIFIED : Fld := ⟨0x40C00104, 0x10, 0x0, 2, 1⟩
abbrev UPD.STG_STAT.STATE : Fld := ⟨0x40C00104, 0x10, 0x0, 0, 2⟩
abbrev UPD.STG_HAVE.word : Fld := ⟨0x40C00108, 0x10, 0x0, 0, 32⟩
abbrev UPD.STG_HAVE.CNT : Fld := ⟨0x40C00108, 0x10, 0x0, 16, 16⟩
abbrev UPD.STG_HAVE.HAVE : Fld := ⟨0x40C00108, 0x10, 0x0, 0, 16⟩
abbrev UPD.STG_MISS.word : Fld := ⟨0x40C0010C, 0x10, 0x0, 0, 32⟩
abbrev UPD.STG_MISS.FIRST_MISSING : Fld := ⟨0x40C0010C, 0x10, 0x0, 0, 16⟩
abbrev UPD.ENR_BUF.word : Fld := ⟨0x40C01000, 0x4, 0x0, 0, 32⟩
abbrev UPD.ENR_BUF.DATA : Fld := ⟨0x40C01000, 0x4, 0x0, 0, 32⟩

/-- Register rows of UPD, part 0. -/
def updRows0 : List RegRow := [
  -- UPD.STAT
  ⟨0x0, 0x0, 1, 0x0, 1, [⟨19, 1, .ro, .s, 0, 8⟩, ⟨18, 1, .w1c, .s, 0, 8⟩, ⟨17, 1, .w1c, .s, 0, 8⟩, ⟨16, 1, .w1c, .s, 0, 8⟩, ⟨11, 1, .ro, .s, 0, 8⟩, ⟨10, 1, .ro, .s, 0, 8⟩, ⟨8, 2, .ro, .s, 0, 8⟩, ⟨4, 4, .ro, .s, 0, 8⟩, ⟨2, 2, .ro, .s, 0, 8⟩, ⟨0, 1, .ro, .s, 0, 8⟩]⟩,
  -- UPD.CMD
  ⟨0x4, 0x0, 1, 0x0, 1, [⟨8, 3, .wo, .s, 0, 8⟩, ⟨6, 1, .w1s, .s, 0, 8⟩, ⟨5, 1, .w1s, .s, 0, 8⟩, ⟨4, 1, .w1s, .s, 0, 8⟩, ⟨3, 1, .w1s, .s, 0, 8⟩, ⟨2, 1, .w1s, .s, 0, 8⟩, ⟨1, 1, .w1s, .s, 0, 8⟩, ⟨0, 1, .w1s, .s, 0, 8⟩]⟩,
  -- UPD.CMD_RES
  ⟨0x8, 0x0, 1, 0x0, 1, [⟨0, 8, .ro, .s, 0, 8⟩]⟩,
  -- UPD.CONF
  ⟨0xC, 0x0, 1, 0x0, 1, [⟨16, 1, .rw, .s, 1, 8⟩, ⟨0, 16, .rw, .s, 10, 8⟩]⟩,
  -- UPD.IMG_FLOOR
  ⟨0x10, 0x0, 1, 0x0, 1, [⟨0, 32, .ro, .s, 0, 8⟩]⟩,
  -- UPD.PAT_FLOOR
  ⟨0x14, 0x0, 1, 0x0, 1, [⟨0, 32, .ro, .s, 0, 8⟩]⟩,
  -- UPD.SLOT_ID
  ⟨0x20, 0x8, 2, 0x0, 1, [⟨0, 32, .ro, .s, 0, 8⟩]⟩,
  -- UPD.SLOT_VER
  ⟨0x24, 0x8, 2, 0x0, 1, [⟨0, 32, .ro, .s, 0, 8⟩]⟩,
  -- UPD.SLOT_WORD_LO
  ⟨0x30, 0x0, 1, 0x0, 1, [⟨0, 32, .ro, .s, 0, 8⟩]⟩,
  -- UPD.SLOT_WORD_HI
  ⟨0x34, 0x0, 1, 0x0, 1, [⟨0, 32, .ro, .s, 0, 8⟩]⟩,
  -- UPD.PAT_STAT
  ⟨0x40, 0x0, 1, 0x0, 1, [⟨16, 1, .ro, .s, 0, 8⟩, ⟨8, 8, .ro, .s, 0, 8⟩, ⟨0, 8, .ro, .s, 0, 8⟩]⟩,
  -- UPD.PAT_OFS
  ⟨0x44, 0x0, 1, 0x0, 1, [⟨0, 20, .ro, .s, 0, 8⟩]⟩]

/-- Register rows of UPD, part 1. -/
def updRows1 : List RegRow := [
  -- UPD.ACT_STAT
  ⟨0x48, 0x0, 1, 0x0, 1, [⟨5, 1, .w1c, .s, 0, 8⟩, ⟨4, 1, .ro, .s, 0, 8⟩, ⟨0, 4, .ro, .s, 0, 8⟩]⟩,
  -- UPD.ACT_BOLT
  ⟨0x4C, 0x0, 1, 0x0, 1, [⟨0, 32, .ro, .s, 0, 8⟩]⟩,
  -- UPD.CHAIN
  ⟨0x50, 0x0, 1, 0x0, 1, [⟨16, 1, .rw, .s, 0, 8⟩, ⟨0, 16, .rw, .s, 65535, 8⟩]⟩,
  -- UPD.ENR_CMD
  ⟨0x60, 0x0, 1, 0x0, 1, [⟨0, 4, .wo, .s, 0, 8⟩]⟩,
  -- UPD.ENR_LEN
  ⟨0x64, 0x0, 1, 0x0, 1, [⟨0, 13, .rw, .s, 0, 8⟩]⟩,
  -- UPD.ENR_STAT
  ⟨0x68, 0x0, 1, 0x0, 1, [⟨8, 1, .ro, .s, 0, 8⟩, ⟨0, 8, .ro, .s, 0, 8⟩]⟩,
  -- UPD.NC_CTL
  ⟨0x70, 0x0, 1, 0x0, 1, [⟨16, 3, .rw, .s, 1, 8⟩, ⟨8, 8, .rw, .s, 0, 8⟩, ⟨3, 1, .rw, .s, 0, 8⟩, ⟨2, 1, .rw, .s, 0, 8⟩, ⟨1, 1, .w1s, .s, 0, 8⟩, ⟨0, 1, .w1s, .s, 0, 8⟩]⟩,
  -- UPD.NC_ACT_LO
  ⟨0x74, 0x0, 1, 0x0, 1, [⟨0, 32, .rw, .s, 0, 8⟩]⟩,
  -- UPD.NC_ACT_HI
  ⟨0x78, 0x0, 1, 0x0, 1, [⟨0, 16, .rw, .s, 0, 8⟩]⟩,
  -- UPD.NC_STAT
  ⟨0x7C, 0x0, 1, 0x0, 1, [⟨16, 8, .ro, .s, 0, 8⟩, ⟨0, 2, .ro, .s, 0, 8⟩]⟩,
  -- UPD.NC_CNT_A
  ⟨0x80, 0x0, 1, 0x0, 1, [⟨16, 16, .ro, .s, 0, 8⟩, ⟨0, 16, .ro, .s, 0, 8⟩]⟩,
  -- UPD.NC_CNT_B
  ⟨0x84, 0x0, 1, 0x0, 1, [⟨16, 16, .ro, .s, 0, 8⟩, ⟨0, 16, .ro, .s, 0, 8⟩]⟩]

/-- Register rows of UPD, part 2. -/
def updRows2 : List RegRow := [
  -- UPD.STG_ID
  ⟨0x100, 0x10, 5, 0x0, 1, [⟨0, 32, .ro, .s, 0, 8⟩]⟩,
  -- UPD.STG_STAT
  ⟨0x104, 0x10, 5, 0x0, 1, [⟨3, 1, .ro, .s, 0, 8⟩, ⟨2, 1, .ro, .s, 0, 8⟩, ⟨0, 2, .ro, .s, 0, 8⟩]⟩,
  -- UPD.STG_HAVE
  ⟨0x108, 0x10, 5, 0x0, 1, [⟨16, 16, .ro, .s, 0, 8⟩, ⟨0, 16, .ro, .s, 0, 8⟩]⟩,
  -- UPD.STG_MISS
  ⟨0x10C, 0x10, 5, 0x0, 1, [⟨0, 16, .ro, .s, 65535, 8⟩]⟩,
  -- UPD.ENR_BUF
  ⟨0x1000, 0x4, 1024, 0x0, 1, [⟨0, 32, .rw, .s, 0, 8⟩]⟩]

/-! ### SAFE, base 0x40D00000 -/

abbrev SAFE.CTL.word : Fld := ⟨0x40D00000, 0x0, 0x0, 0, 32⟩
abbrev SAFE.CTL.HEM_REQ : Fld := ⟨0x40D00000, 0x0, 0x0, 2, 1⟩
abbrev SAFE.CTL.RESTART : Fld := ⟨0x40D00000, 0x0, 0x0, 1, 1⟩
abbrev SAFE.CTL.RUN : Fld := ⟨0x40D00000, 0x0, 0x0, 0, 1⟩
abbrev SAFE.STAT.word : Fld := ⟨0x40D00004, 0x0, 0x0, 0, 32⟩
abbrev SAFE.STAT.SCAN_EN : Fld := ⟨0x40D00004, 0x0, 0x0, 6, 1⟩
abbrev SAFE.STAT.ZEROISED : Fld := ⟨0x40D00004, 0x0, 0x0, 5, 1⟩
abbrev SAFE.STAT.SLICES_SUSP : Fld := ⟨0x40D00004, 0x0, 0x0, 4, 1⟩
abbrev SAFE.STAT.LOCKOUT : Fld := ⟨0x40D00004, 0x0, 0x0, 3, 1⟩
abbrev SAFE.STAT.HEM_SILENT : Fld := ⟨0x40D00004, 0x0, 0x0, 2, 1⟩
abbrev SAFE.STAT.HEM : Fld := ⟨0x40D00004, 0x0, 0x0, 1, 1⟩
abbrev SAFE.STAT.ST_PASS : Fld := ⟨0x40D00004, 0x0, 0x0, 0, 1⟩
abbrev SAFE.ST_RES.word : Fld := ⟨0x40D00008, 0x0, 0x0, 0, 32⟩
abbrev SAFE.ST_RES.LAST_FAIL : Fld := ⟨0x40D00008, 0x0, 0x0, 8, 8⟩
abbrev SAFE.ST_RES.PASSED : Fld := ⟨0x40D00008, 0x0, 0x0, 0, 8⟩
abbrev SAFE.HEM_CAUSE.word : Fld := ⟨0x40D0000C, 0x0, 0x0, 0, 32⟩
abbrev SAFE.HEM_CAUSE.CODE : Fld := ⟨0x40D0000C, 0x0, 0x0, 0, 16⟩
abbrev SAFE.ERR.word : Fld := ⟨0x40D00010, 0x10, 0x0, 0, 32⟩
abbrev SAFE.ERR.VALID : Fld := ⟨0x40D00010, 0x10, 0x0, 31, 1⟩
abbrev SAFE.ERR.PREEMPTED : Fld := ⟨0x40D00010, 0x10, 0x0, 30, 1⟩
abbrev SAFE.ERR.NS : Fld := ⟨0x40D00010, 0x10, 0x0, 18, 1⟩
abbrev SAFE.ERR.SEV : Fld := ⟨0x40D00010, 0x10, 0x0, 16, 2⟩
abbrev SAFE.ERR.CODE : Fld := ⟨0x40D00010, 0x10, 0x0, 0, 16⟩
abbrev SAFE.ERR_ARG0.word : Fld := ⟨0x40D00014, 0x10, 0x0, 0, 32⟩
abbrev SAFE.ERR_ARG0.VALUE : Fld := ⟨0x40D00014, 0x10, 0x0, 0, 32⟩
abbrev SAFE.ERR_ARG1.word : Fld := ⟨0x40D00018, 0x10, 0x0, 0, 32⟩
abbrev SAFE.ERR_ARG1.VALUE : Fld := ⟨0x40D00018, 0x10, 0x0, 0, 32⟩
abbrev SAFE.ERR_SEQ.word : Fld := ⟨0x40D0001C, 0x10, 0x0, 0, 32⟩
abbrev SAFE.ERR_SEQ.VALUE : Fld := ⟨0x40D0001C, 0x10, 0x0, 0, 32⟩
abbrev SAFE.ERR_ACK.word : Fld := ⟨0x40D00030, 0x0, 0x0, 0, 32⟩
abbrev SAFE.ERR_ACK.ACK : Fld := ⟨0x40D00030, 0x0, 0x0, 0, 1⟩
abbrev SAFE.ERR_OVF.word : Fld := ⟨0x40D00034, 0x0, 0x0, 0, 32⟩
abbrev SAFE.ERR_OVF.COUNT : Fld := ⟨0x40D00034, 0x0, 0x0, 0, 16⟩
abbrev SAFE.ERR_CFG.word : Fld := ⟨0x40D00038, 0x0, 0x0, 0, 32⟩
abbrev SAFE.ERR_CFG.ACK_MS : Fld := ⟨0x40D00038, 0x0, 0x0, 0, 16⟩
abbrev SAFE.HELD.word : Fld := ⟨0x40D0003C, 0x0, 0x0, 0, 32⟩
abbrev SAFE.HELD.BLOCK : Fld := ⟨0x40D0003C, 0x0, 0x0, 0, 15⟩
abbrev SAFE.WORLD_CFG.word : Fld := ⟨0x40D00040, 0x0, 0x0, 0, 32⟩
abbrev SAFE.WORLD_CFG.MAX : Fld := ⟨0x40D00040, 0x0, 0x0, 0, 8⟩
abbrev SAFE.WORLD_CNT.word : Fld := ⟨0x40D00044, 0x0, 0x0, 0, 32⟩
abbrev SAFE.WORLD_CNT.COUNT : Fld := ⟨0x40D00044, 0x0, 0x0, 0, 32⟩
abbrev SAFE.WORLD_LAST.word : Fld := ⟨0x40D00048, 0x0, 0x0, 0, 32⟩
abbrev SAFE.WORLD_LAST.ADDR : Fld := ⟨0x40D00048, 0x0, 0x0, 0, 32⟩
abbrev SAFE.BB_SEQ.word : Fld := ⟨0x40D00050, 0x0, 0x0, 0, 32⟩
abbrev SAFE.BB_SEQ.SEQ : Fld := ⟨0x40D00050, 0x0, 0x0, 0, 32⟩
abbrev SAFE.BB_OLD.word : Fld := ⟨0x40D00054, 0x0, 0x0, 0, 32⟩
abbrev SAFE.BB_OLD.SEQ : Fld := ⟨0x40D00054, 0x0, 0x0, 0, 32⟩
abbrev SAFE.BB_LOST.word : Fld := ⟨0x40D00058, 0x0, 0x0, 0, 32⟩
abbrev SAFE.BB_LOST.COUNT : Fld := ⟨0x40D00058, 0x0, 0x0, 0, 16⟩
abbrev SAFE.BB_SEL.word : Fld := ⟨0x40D0005C, 0x0, 0x0, 0, 32⟩
abbrev SAFE.BB_SEL.SEQ : Fld := ⟨0x40D0005C, 0x0, 0x0, 0, 32⟩
abbrev SAFE.BB_W.word : Fld := ⟨0x40D00060, 0x4, 0x0, 0, 32⟩
abbrev SAFE.BB_W.WORD : Fld := ⟨0x40D00060, 0x4, 0x0, 0, 32⟩
abbrev SAFE.DBG_CMD.word : Fld := ⟨0x40D00080, 0x0, 0x0, 0, 32⟩
abbrev SAFE.DBG_CMD.UNLOCK : Fld := ⟨0x40D00080, 0x0, 0x0, 1, 1⟩
abbrev SAFE.DBG_CMD.CHAL : Fld := ⟨0x40D00080, 0x0, 0x0, 0, 1⟩
abbrev SAFE.DBG_STAT.word : Fld := ⟨0x40D00084, 0x0, 0x0, 0, 32⟩
abbrev SAFE.DBG_STAT.UNLOCKED : Fld := ⟨0x40D00084, 0x0, 0x0, 2, 1⟩
abbrev SAFE.DBG_STAT.FAILS : Fld := ⟨0x40D00084, 0x0, 0x0, 0, 2⟩
abbrev SAFE.DBG_CHAL.word : Fld := ⟨0x40D00100, 0x4, 0x0, 0, 32⟩
abbrev SAFE.DBG_CHAL.DATA : Fld := ⟨0x40D00100, 0x4, 0x0, 0, 32⟩
abbrev SAFE.DBG_RESP.word : Fld := ⟨0x40D00140, 0x4, 0x0, 0, 32⟩
abbrev SAFE.DBG_RESP.DATA : Fld := ⟨0x40D00140, 0x4, 0x0, 0, 32⟩
abbrev SAFE.SLICE.word : Fld := ⟨0x40D00200, 0x8, 0x0, 0, 32⟩
abbrev SAFE.SLICE.AGE_S : Fld := ⟨0x40D00200, 0x8, 0x0, 16, 16⟩
abbrev SAFE.SLICE.ABORTS : Fld := ⟨0x40D00200, 0x8, 0x0, 8, 8⟩
abbrev SAFE.SLICE.FAILED_ONCE : Fld := ⟨0x40D00200, 0x8, 0x0, 3, 1⟩
abbrev SAFE.SLICE.RUNNING : Fld := ⟨0x40D00200, 0x8, 0x0, 2, 1⟩
abbrev SAFE.SLICE.LAST : Fld := ⟨0x40D00200, 0x8, 0x0, 0, 2⟩
abbrev SAFE.SLICE_CNT.word : Fld := ⟨0x40D00204, 0x8, 0x0, 0, 32⟩
abbrev SAFE.SLICE_CNT.PASSES : Fld := ⟨0x40D00204, 0x8, 0x0, 0, 32⟩

/-- Register rows of SAFE, part 0. -/
def safeRows0 : List RegRow := [
  -- SAFE.CTL
  ⟨0x0, 0x0, 1, 0x0, 1, [⟨2, 1, .w1s, .s, 0, 8⟩, ⟨1, 1, .w1s, .s, 0, 8⟩, ⟨0, 1, .rw, .s, 0, 8⟩]⟩,
  -- SAFE.STAT
  ⟨0x4, 0x0, 1, 0x0, 1, [⟨6, 1, .ro, .s, 0, 8⟩, ⟨5, 1, .ro, .s, 0, 8⟩, ⟨4, 1, .ro, .s, 0, 8⟩, ⟨3, 1, .ro, .s, 0, 8⟩, ⟨2, 1, .ro, .s, 0, 8⟩, ⟨1, 1, .ro, .s, 0, 8⟩, ⟨0, 1, .ro, .s, 1, 8⟩]⟩,
  -- SAFE.ST_RES
  ⟨0x8, 0x0, 1, 0x0, 1, [⟨8, 8, .w1c, .s, 0, 8⟩, ⟨0, 8, .ro, .s, 255, 8⟩]⟩,
  -- SAFE.HEM_CAUSE
  ⟨0xC, 0x0, 1, 0x0, 1, [⟨0, 16, .ro, .s, 0, 8⟩]⟩,
  -- SAFE.ERR
  ⟨0x10, 0x10, 2, 0x0, 1, [⟨31, 1, .ro, .s, 0, 8⟩, ⟨30, 1, .ro, .s, 0, 8⟩, ⟨18, 1, .ro, .s, 0, 8⟩, ⟨16, 2, .ro, .s, 0, 8⟩, ⟨0, 16, .ro, .s, 0, 8⟩]⟩,
  -- SAFE.ERR_ARG0
  ⟨0x14, 0x10, 2, 0x0, 1, [⟨0, 32, .ro, .s, 0, 8⟩]⟩,
  -- SAFE.ERR_ARG1
  ⟨0x18, 0x10, 2, 0x0, 1, [⟨0, 32, .ro, .s, 0, 8⟩]⟩,
  -- SAFE.ERR_SEQ
  ⟨0x1C, 0x10, 2, 0x0, 1, [⟨0, 32, .ro, .s, 0, 8⟩]⟩,
  -- SAFE.ERR_ACK
  ⟨0x30, 0x0, 1, 0x0, 1, [⟨0, 1, .w1s, .s, 0, 8⟩]⟩,
  -- SAFE.ERR_OVF
  ⟨0x34, 0x0, 1, 0x0, 1, [⟨0, 16, .rs, .s, 0, 8⟩]⟩,
  -- SAFE.ERR_CFG
  ⟨0x38, 0x0, 1, 0x0, 1, [⟨0, 16, .rw, .s, 1000, 8⟩]⟩,
  -- SAFE.HELD
  ⟨0x3C, 0x0, 1, 0x0, 1, [⟨0, 15, .w1c, .s, 0, 8⟩]⟩]

/-- Register rows of SAFE, part 1. -/
def safeRows1 : List RegRow := [
  -- SAFE.WORLD_CFG
  ⟨0x40, 0x0, 1, 0x0, 1, [⟨0, 8, .rw, .s, 16, 8⟩]⟩,
  -- SAFE.WORLD_CNT
  ⟨0x44, 0x0, 1, 0x0, 1, [⟨0, 32, .rs, .s, 0, 8⟩]⟩,
  -- SAFE.WORLD_LAST
  ⟨0x48, 0x0, 1, 0x0, 1, [⟨0, 32, .ro, .s, 0, 8⟩]⟩,
  -- SAFE.BB_SEQ
  ⟨0x50, 0x0, 1, 0x0, 1, [⟨0, 32, .ro, .s, 0, 8⟩]⟩,
  -- SAFE.BB_OLD
  ⟨0x54, 0x0, 1, 0x0, 1, [⟨0, 32, .ro, .s, 0, 8⟩]⟩,
  -- SAFE.BB_LOST
  ⟨0x58, 0x0, 1, 0x0, 1, [⟨0, 16, .rs, .s, 0, 8⟩]⟩,
  -- SAFE.BB_SEL
  ⟨0x5C, 0x0, 1, 0x0, 1, [⟨0, 32, .rw, .s, 0, 8⟩]⟩,
  -- SAFE.BB_W
  ⟨0x60, 0x4, 8, 0x0, 1, [⟨0, 32, .ro, .s, 0, 8⟩]⟩,
  -- SAFE.DBG_CMD
  ⟨0x80, 0x0, 1, 0x0, 1, [⟨1, 1, .w1s, .s, 0, 8⟩, ⟨0, 1, .w1s, .s, 0, 8⟩]⟩,
  -- SAFE.DBG_STAT
  ⟨0x84, 0x0, 1, 0x0, 1, [⟨2, 1, .ro, .s, 0, 8⟩, ⟨0, 2, .ro, .s, 0, 8⟩]⟩,
  -- SAFE.DBG_CHAL
  ⟨0x100, 0x4, 12, 0x0, 1, [⟨0, 32, .ro, .s, 0, 8⟩]⟩,
  -- SAFE.DBG_RESP
  ⟨0x140, 0x4, 24, 0x0, 1, [⟨0, 32, .wo, .s, 0, 8⟩]⟩]

/-- Register rows of SAFE, part 2. -/
def safeRows2 : List RegRow := [
  -- SAFE.SLICE
  ⟨0x200, 0x8, 80, 0x0, 1, [⟨16, 16, .ro, .s, 65535, 8⟩, ⟨8, 8, .ro, .s, 0, 8⟩, ⟨3, 1, .ro, .s, 0, 8⟩, ⟨2, 1, .ro, .s, 0, 8⟩, ⟨0, 2, .ro, .s, 0, 8⟩]⟩,
  -- SAFE.SLICE_CNT
  ⟨0x204, 0x8, 80, 0x0, 1, [⟨0, 32, .ro, .s, 0, 8⟩]⟩]

/-! ### SEAM, base 0x40E00000 -/

abbrev SEAM.CTL.word : Fld := ⟨0x40E00000, 0x0, 0x0, 0, 32⟩
abbrev SEAM.CTL.HANDOVER : Fld := ⟨0x40E00000, 0x0, 0x0, 1, 1⟩
abbrev SEAM.CTL.RUN : Fld := ⟨0x40E00000, 0x0, 0x0, 0, 1⟩
abbrev SEAM.STAT.word : Fld := ⟨0x40E00004, 0x0, 0x0, 0, 32⟩
abbrev SEAM.STAT.HO_ARMED : Fld := ⟨0x40E00004, 0x0, 0x0, 7, 1⟩
abbrev SEAM.STAT.WIT_VOTE : Fld := ⟨0x40E00004, 0x0, 0x0, 6, 1⟩
abbrev SEAM.STAT.PEER_VOTE : Fld := ⟨0x40E00004, 0x0, 0x0, 5, 1⟩
abbrev SEAM.STAT.WIT_REACH : Fld := ⟨0x40E00004, 0x0, 0x0, 4, 1⟩
abbrev SEAM.STAT.SEAM_UP : Fld := ⟨0x40E00004, 0x0, 0x0, 3, 1⟩
abbrev SEAM.STAT.MEMBER : Fld := ⟨0x40E00004, 0x0, 0x0, 2, 1⟩
abbrev SEAM.STAT.ROLE : Fld := ⟨0x40E00004, 0x0, 0x0, 0, 2⟩
abbrev SEAM.EPOCH.word : Fld := ⟨0x40E00008, 0x0, 0x0, 0, 32⟩
abbrev SEAM.EPOCH.EPOCH : Fld := ⟨0x40E00008, 0x0, 0x0, 0, 32⟩
abbrev SEAM.LEASE.word : Fld := ⟨0x40E0000C, 0x0, 0x0, 0, 32⟩
abbrev SEAM.LEASE.REMAIN_MS : Fld := ⟨0x40E0000C, 0x0, 0x0, 16, 16⟩
abbrev SEAM.LEASE.PEER_MS : Fld := ⟨0x40E0000C, 0x0, 0x0, 0, 16⟩
abbrev SEAM.TIMING.word : Fld := ⟨0x40E00010, 0x0, 0x0, 0, 32⟩
abbrev SEAM.TIMING.T_G_MS : Fld := ⟨0x40E00010, 0x0, 0x0, 16, 16⟩
abbrev SEAM.TIMING.T_L_MS : Fld := ⟨0x40E00010, 0x0, 0x0, 0, 16⟩
abbrev SEAM.WITNESS.word : Fld := ⟨0x40E00014, 0x0, 0x0, 0, 32⟩
abbrev SEAM.WITNESS.ANS_MS : Fld := ⟨0x40E00014, 0x0, 0x0, 16, 16⟩
abbrev SEAM.WITNESS.WIT_MOD : Fld := ⟨0x40E00014, 0x0, 0x0, 0, 16⟩
abbrev SEAM.EVENT.word : Fld := ⟨0x40E00018, 0x0, 0x0, 0, 32⟩
abbrev SEAM.EVENT.HANDOVER_DONE : Fld := ⟨0x40E00018, 0x0, 0x0, 8, 1⟩
abbrev SEAM.EVENT.RETURNED : Fld := ⟨0x40E00018, 0x0, 0x0, 7, 1⟩
abbrev SEAM.EVENT.EPOCH_AHEAD : Fld := ⟨0x40E00018, 0x0, 0x0, 6, 1⟩
abbrev SEAM.EVENT.TAKEOVER_DEGRADED : Fld := ⟨0x40E00018, 0x0, 0x0, 5, 1⟩
abbrev SEAM.EVENT.TAKEOVER : Fld := ⟨0x40E00018, 0x0, 0x0, 4, 1⟩
abbrev SEAM.EVENT.LAPSED : Fld := ⟨0x40E00018, 0x0, 0x0, 3, 1⟩
abbrev SEAM.EVENT.WIT_LOST : Fld := ⟨0x40E00018, 0x0, 0x0, 2, 1⟩
abbrev SEAM.EVENT.PEER_LOST : Fld := ⟨0x40E00018, 0x0, 0x0, 1, 1⟩
abbrev SEAM.EVENT.SEAM_LOST : Fld := ⟨0x40E00018, 0x0, 0x0, 0, 1⟩
abbrev SEAM.HEALTH.word : Fld := ⟨0x40E00020, 0x0, 0x0, 0, 32⟩
abbrev SEAM.HEALTH.CHECK_AGE_S : Fld := ⟨0x40E00020, 0x0, 0x0, 16, 16⟩
abbrev SEAM.HEALTH.MIRROR_OK : Fld := ⟨0x40E00020, 0x0, 0x0, 5, 1⟩
abbrev SEAM.HEALTH.LOOP_OK : Fld := ⟨0x40E00020, 0x0, 0x0, 4, 1⟩
abbrev SEAM.HEALTH.MEM_OK : Fld := ⟨0x40E00020, 0x0, 0x0, 3, 1⟩
abbrev SEAM.HEALTH.SLICES_OK : Fld := ⟨0x40E00020, 0x0, 0x0, 2, 1⟩
abbrev SEAM.HEALTH.CLASS : Fld := ⟨0x40E00020, 0x0, 0x0, 0, 2⟩
abbrev SEAM.PEER_HEALTH.word : Fld := ⟨0x40E00024, 0x0, 0x0, 0, 32⟩
abbrev SEAM.PEER_HEALTH.CHECK_AGE_S : Fld := ⟨0x40E00024, 0x0, 0x0, 16, 16⟩
abbrev SEAM.PEER_HEALTH.MIRROR_OK : Fld := ⟨0x40E00024, 0x0, 0x0, 5, 1⟩
abbrev SEAM.PEER_HEALTH.LOOP_OK : Fld := ⟨0x40E00024, 0x0, 0x0, 4, 1⟩
abbrev SEAM.PEER_HEALTH.MEM_OK : Fld := ⟨0x40E00024, 0x0, 0x0, 3, 1⟩
abbrev SEAM.PEER_HEALTH.SLICES_OK : Fld := ⟨0x40E00024, 0x0, 0x0, 2, 1⟩
abbrev SEAM.PEER_HEALTH.CLASS : Fld := ⟨0x40E00024, 0x0, 0x0, 0, 2⟩
abbrev SEAM.MIRROR.word : Fld := ⟨0x40E00028, 0x0, 0x0, 0, 32⟩
abbrev SEAM.MIRROR.BOLT : Fld := ⟨0x40E00028, 0x0, 0x0, 0, 32⟩
abbrev SEAM.MIRROR_STAT.word : Fld := ⟨0x40E0002C, 0x0, 0x0, 0, 32⟩
abbrev SEAM.MIRROR_STAT.DROPPED : Fld := ⟨0x40E0002C, 0x0, 0x0, 16, 16⟩
abbrev SEAM.MIRROR_STAT.LAG : Fld := ⟨0x40E0002C, 0x0, 0x0, 0, 16⟩
abbrev SEAM.TAKEOVER.word : Fld := ⟨0x40E00030, 0x0, 0x0, 0, 32⟩
abbrev SEAM.TAKEOVER.HEARD : Fld := ⟨0x40E00030, 0x0, 0x0, 16, 16⟩
abbrev SEAM.TAKEOVER.EXPECTED : Fld := ⟨0x40E00030, 0x0, 0x0, 0, 16⟩
abbrev SEAM.COUNT.word : Fld := ⟨0x40E00034, 0x0, 0x0, 0, 32⟩
abbrev SEAM.COUNT.HANDOVERS : Fld := ⟨0x40E00034, 0x0, 0x0, 16, 16⟩
abbrev SEAM.COUNT.TAKEOVERS : Fld := ⟨0x40E00034, 0x0, 0x0, 0, 16⟩

/-- Register rows of SEAM, part 0. -/
def seamRows0 : List RegRow := [
  -- SEAM.CTL
  ⟨0x0, 0x0, 1, 0x0, 1, [⟨1, 1, .w1s, .s, 0, 8⟩, ⟨0, 1, .rw, .s, 0, 8⟩]⟩,
  -- SEAM.STAT
  ⟨0x4, 0x0, 1, 0x0, 1, [⟨7, 1, .ro, .s, 0, 8⟩, ⟨6, 1, .ro, .s, 0, 8⟩, ⟨5, 1, .ro, .s, 0, 8⟩, ⟨4, 1, .ro, .s, 0, 8⟩, ⟨3, 1, .ro, .s, 0, 8⟩, ⟨2, 1, .ro, .s, 0, 8⟩, ⟨0, 2, .ro, .s, 3, 8⟩]⟩,
  -- SEAM.EPOCH
  ⟨0x8, 0x0, 1, 0x0, 1, [⟨0, 32, .ro, .s, 0, 8⟩]⟩,
  -- SEAM.LEASE
  ⟨0xC, 0x0, 1, 0x0, 1, [⟨16, 16, .ro, .s, 0, 8⟩, ⟨0, 16, .ro, .s, 65535, 8⟩]⟩,
  -- SEAM.TIMING
  ⟨0x10, 0x0, 1, 0x0, 1, [⟨16, 16, .ro, .s, 250, 8⟩, ⟨0, 16, .ro, .s, 2000, 8⟩]⟩,
  -- SEAM.WITNESS
  ⟨0x14, 0x0, 1, 0x0, 1, [⟨16, 16, .ro, .s, 65535, 8⟩, ⟨0, 16, .ro, .s, 65535, 8⟩]⟩,
  -- SEAM.EVENT
  ⟨0x18, 0x0, 1, 0x0, 1, [⟨8, 1, .w1c, .s, 0, 8⟩, ⟨7, 1, .w1c, .s, 0, 8⟩, ⟨6, 1, .w1c, .s, 0, 8⟩, ⟨5, 1, .w1c, .s, 0, 8⟩, ⟨4, 1, .w1c, .s, 0, 8⟩, ⟨3, 1, .w1c, .s, 0, 8⟩, ⟨2, 1, .w1c, .s, 0, 8⟩, ⟨1, 1, .w1c, .s, 0, 8⟩, ⟨0, 1, .w1c, .s, 0, 8⟩]⟩,
  -- SEAM.HEALTH
  ⟨0x20, 0x0, 1, 0x0, 1, [⟨16, 16, .ro, .s, 65535, 8⟩, ⟨5, 1, .ro, .s, 0, 8⟩, ⟨4, 1, .ro, .s, 0, 8⟩, ⟨3, 1, .ro, .s, 0, 8⟩, ⟨2, 1, .ro, .s, 0, 8⟩, ⟨0, 2, .ro, .s, 2, 8⟩]⟩,
  -- SEAM.PEER_HEALTH
  ⟨0x24, 0x0, 1, 0x0, 1, [⟨16, 16, .ro, .s, 65535, 8⟩, ⟨5, 1, .ro, .s, 0, 8⟩, ⟨4, 1, .ro, .s, 0, 8⟩, ⟨3, 1, .ro, .s, 0, 8⟩, ⟨2, 1, .ro, .s, 0, 8⟩, ⟨0, 2, .ro, .s, 2, 8⟩]⟩,
  -- SEAM.MIRROR
  ⟨0x28, 0x0, 1, 0x0, 1, [⟨0, 32, .ro, .s, 0, 8⟩]⟩,
  -- SEAM.MIRROR_STAT
  ⟨0x2C, 0x0, 1, 0x0, 1, [⟨16, 16, .rs, .s, 0, 8⟩, ⟨0, 16, .ro, .s, 0, 8⟩]⟩,
  -- SEAM.TAKEOVER
  ⟨0x30, 0x0, 1, 0x0, 1, [⟨16, 16, .ro, .s, 0, 8⟩, ⟨0, 16, .ro, .s, 0, 8⟩]⟩]

/-- Register rows of SEAM, part 1. -/
def seamRows1 : List RegRow := [
  -- SEAM.COUNT
  ⟨0x34, 0x0, 1, 0x0, 1, [⟨16, 16, .ro, .s, 0, 8⟩, ⟨0, 16, .ro, .s, 0, 8⟩]⟩]

/-- The rows of block `k` (R6). -/
def blockRows : Nat → List RegRow
  | 0 => sysRows0 ++ sysRows1
  | 1 => aonRows0 ++ aonRows1
  | 2 => tbRows0 ++ tbRows1 ++ tbRows2
  | 3 => airRows0 ++ airRows1 ++ airRows2
  | 4 => swRows0
  | 5 => qmRows0 ++ qmRows1
  | 6 => loomRows0 ++ loomRows1
  | 7 => ceRows0 ++ ceRows1 ++ ceRows2
  | 8 => ofeRows0 ++ ofeRows1
  | 9 => metRows0 ++ metRows1 ++ metRows2 ++ metRows3
  | 10 => gioRows0 ++ gioRows1 ++ gioRows2
  | 11 => memiRows0 ++ memiRows1
  | 12 => updRows0 ++ updRows1 ++ updRows2
  | 13 => safeRows0 ++ safeRows1 ++ safeRows2
  | 14 => seamRows0 ++ seamRows1
  | _ => []

/-- Reset values that differ from index to index: the queue map of R379 and the scrub periods of R409. -/
def resetSpecial0 : List (Nat × Nat) := [(0x40500004, 208666624), (0x40500100, 2049), (0x40500104, 1048592), (0x40500120, 2049), (0x40500124, 1048592), (0x40500140, 2049), (0x40500144, 1048592), (0x40500160, 2049), (0x40500164, 1048592), (0x40500180, 2049), (0x40500184, 1048592), (0x405001A0, 6553600), (0x405001A4, 8389632), (0x405001C0, 6553600), (0x405001C4, 8389632), (0x405001E0, 6553600), (0x405001E4, 8389632), (0x40500200, 6553600), (0x40500204, 8389632), (0x40500220, 6553600), (0x40500224, 8389632), (0x40500244, 8389632), (0x40500264, 8389632), (0x40500284, 8389632)]
def resetSpecial1 : List (Nat × Nat) := [(0x405002A0, 655360), (0x405002A4, 16779264), (0x405002C0, 6553600), (0x405002C4, 16779264), (0x405002E0, 6553600), (0x405002E4, 16779264), (0x40500300, 65536000), (0x40500304, 2097664), (0x40500320, 65536000), (0x40500324, 2097664), (0x40500340, 65536000), (0x40500344, 2097664), (0x40500360, 65536000), (0x40500364, 2097664), (0x40500380, 65536000), (0x40500384, 2097664), (0x405003A0, 65536000), (0x405003A4, 2097664), (0x405003C0, 65536000), (0x405003C4, 2097664), (0x405003E0, 65536000), (0x405003E4, 2097664), (0x40500404, 4194816), (0x40500424, 4195328)]
def resetSpecial2 : List (Nat × Nat) := [(0x40500440, 6553600), (0x40500444, 4194816), (0x40500460, 65536000), (0x40500464, 16779264), (0x40500484, 16779264), (0x405004A0, 6553600), (0x405004A4, 16779264), (0x405004C0, 65536000), (0x405004C4, 4195328), (0x405004E4, 2097408), (0x40B00100, 1000), (0x40B00120, 1000), (0x40B00140, 100), (0x40B00160, 1000), (0x40B00180, 10000)]
def resetSpecial : List (Nat × Nat) := resetSpecial0 ++ resetSpecial1 ++ resetSpecial2

/-- Registers with fields whose home is MRAM, NOR, the fuse map or the factory record: (first address, stride, count, bits
of those fields). They stand through every reset (R12); the other bits take their reset values. -/
def persistentRows0 : List (Nat × Nat × Nat × Nat) := [(0x40900020, 0x0, 1, 0xFFFFFFFF), (0x40900034, 0x0, 1, 0xFFFFFFFF), (0x40400060, 0x0, 1, 0xFFFFFFFF), (0x40400064, 0x0, 1, 0xFFFFFFFF), (0x40B00200, 0x4, 32, 0xFFFFFFFF), (0x40B00300, 0x4, 8, 0x7F7F00), (0x40B00320, 0x0, 1, 0xFFFFFFFF)]
def persistentRows1 : List (Nat × Nat × Nat × Nat) := [(0x40E00008, 0x0, 1, 0xFFFFFFFF), (0x40C00000, 0x0, 1, 0xFFF), (0x40C00010, 0x0, 1, 0xFFFFFFFF), (0x40C00014, 0x0, 1, 0xFFFFFFFF), (0x40C00020, 0x8, 2, 0xFFFFFFFF), (0x40C00024, 0x8, 2, 0xFFFFFFFF), (0x40C00030, 0x0, 1, 0xFFFFFFFF), (0x40C00034, 0x0, 1, 0xFFFFFFFF), (0x40C00100, 0x10, 5, 0xFFFFFFFF), (0x40C00104, 0x10, 5, 0xB), (0x40C00108, 0x10, 5, 0xFFFFFFFF), (0x40D00008, 0x0, 1, 0xFF00), (0x40D00050, 0x0, 1, 0xFFFFFFFF), (0x40D00054, 0x0, 1, 0xFFFFFFFF)]
def persistentRows : List (Nat × Nat × Nat × Nat) := persistentRows0 ++ persistentRows1

/-- Whether offset `o` of a block is an element of row `r`. -/
def RegRow.covers (r : RegRow) (o : Nat) : Bool :=
  if o < r.off then false
  else
    let d := o - r.off
    if r.n1 = 1 then decide (d = 0)
    else if r.n2 = 1 then decide (d % r.s1 = 0) && decide (d / r.s1 < r.n1)
    else decide (d / r.s1 < r.n1) && decide (d % r.s1 % r.s2 = 0) && decide (d % r.s1 / r.s2 < r.n2)

/-- The row of the register at `a`, if a register stands there (R6, R7). -/
def rowAt (a : Nat) : Option RegRow :=
  if a < 0x40000000 ∨ a % 4 ≠ 0 then none
  else (blockRows ((a - 0x40000000) / 0x100000)).find? fun r => r.covers ((a - 0x40000000) % 0x100000)

/-- The reset word of the register at `a`: its fields' reset values in place (R12). CE.SAFE_CFG[n].HOME_TRX resets
to n mod 4. -/
def resetWord (a : Nat) : Nat :=
  tabGet (fun _ => 0) resetSpecial a +
  (if 0x40708104 ≤ a ∧ a < 0x4070A104 ∧ (a - 0x40708104) % 16 = 0 then
    ((a - 0x40708104) / 16 % 4) * 2 ^ CE.SAFE_CFG.HOME_TRX.lo else 0) +
  match rowAt a with
  | none => 0
  | some r => r.fields.foldl (fun n f => n + f.reset * 2 ^ f.lo) 0

/-- The bits of the register at `a` that keep their value through a reset (R12): the always-on domain and what MRAM
backs. -/
def keepMask (a : Nat) : Nat :=
  if 0x40100000 ≤ a ∧ a < 0x40200000 then 0xFFFFFFFF
  else match persistentRows.find? fun (b, s, n, _) =>
      decide (b ≤ a) && (if s = 0 then decide (a = b) else decide ((a - b) % s = 0) && decide ((a - b) / s < n)) with
    | some r => r.2.2.2
    | none => 0

/-- A register through a reset (R12): the bits that persist, and the reset value in the others. -/
def keptWord (a w : Nat) : Nat := Nat.land w (keepMask a) + Nat.land (resetWord a) (0xFFFFFFFF - keepMask a)

end Sys2Proof.Machine
end

