-- ==== Sys2Proof/Machine/State.lean ====
section
/-! DEFINITION. Machine/State.lean: everything the spec gives the module, as plain data. The register window is one
sparse table of words (`regs`); what stands beside the registers (FIFOs, tile activations, queues, tracks, timers, the
pattern, MRAM and flash contents, what left the module) has a structure of its own. -/

namespace Sys2Proof.Machine

/-- Faults: no command of this block stops the model, so there is none. Safe: no behaviour rests on one. -/
inductive Fault
  deriving DecidableEq, Repr

/-- Why a command has no meaning. `notModelled` names a row without one: raised by an arm of the dispatcher only. Safe:
the model says nothing of the command. -/
inductive Refusal
  | notModelled (mnemonic : String)
  deriving DecidableEq, Repr

/-- A crossbar event in flight (R128): payload, tag, thread, LATE and the source endpoint and port. -/
structure Ev where
  payload : Nat
  tag : Nat
  thread : Nat
  late : Bool
  src : Nat
  srcPort : Nat
  deriving DecidableEq, Repr

/-- An entry of a tile's ingress FIFO: an event on an input port, or a timer activation (R151). -/
inductive FifoItem
  | event (e : Ev) (port : Nat)
  | timer (n : Nat)
  deriving DecidableEq, Repr

/-- One buffered effect of an activation (R138), in issue order. -/
inductive TileOp
  | ceWrite (value target : Nat) (group : Bool) (field : Nat)
  | emit (payload port tag : Nat)
  | arm (entry : Nat)
  | cancel (entry : Nat)
  | timer (i ms : Nat)
  deriving DecidableEq, Repr

/-- The captured instant of TIME (R146): seconds, fraction, NTV and RTCV bits. -/
structure TimeCap where
  sec : Nat
  frac : Nat
  flags : Nat
  deriving DecidableEq, Repr

/-- A running activation: the next word, cycles spent, the thread of its event, its buffer and its time capture. -/
structure Act where
  pc : Nat
  spent : Nat
  thread : Nat
  buf : List TileOp
  cap : Option TimeCap
  deriving DecidableEq, Repr

/-- A rule tile beside its registers (R124): ingress FIFO, running activation, timer deadlines in TCXO cycles by timer
number, whether a drop was reported in this bolt (R133), and host data writes that wait for the activation's end. -/
structure Tile where
  fifo : List FifoItem
  act : Option Act
  timers : List (Nat × Nat)
  dropSeen : Bool
  writes : List (Nat × Nat)
  deriving DecidableEq, Repr

/-- The Loom beside its registers: tiles, schedule owners, and events in the crossbar (R128). -/
structure Loom where
  tiles : List (Nat × Tile)
  sched : List (Nat × SchedSt)
  xbar : List Ev
  deriving DecidableEq, Repr

/-- One section of a pattern: type code, tile instance and its bytes. -/
structure Sect where
  ty : Nat
  inst : Nat
  bytes : List Nat
  deriving DecidableEq, Repr

/-- A pattern's content: SERIAL, whether it is a partial, and its sections. -/
structure Pat where
  serial : Nat
  isPartial : Bool
  base : Nat
  sects : List Sect
  deriving DecidableEq, Repr

/-- A Shalan pattern assembly (R484): total length, pieces received (offset, bytes), session world, time last fed. -/
structure Assembly where
  assoc : Nat
  serial : Nat
  total : Nat
  pieces : List (Nat × List Nat)
  fedCyc : Nat
  deriving DecidableEq, Repr

/-- A validated pattern on its way to a switch (R113): the container, its content, and the bolt it is armed for. -/
structure Staged where
  container : List Nat
  pat : Pat
  restart : Bool
  armed : Option Nat
  deriving DecidableEq, Repr

/-- The pattern machinery: the pattern in force, an assembly, what is staged, functions that owe a Basic recompute, and those whose
mode was last set through SYS.MODE (R123). -/
structure PatState where
  run : Option Pat
  assembly : Option Assembly
  staged : Option Staged
  owe : Nat
  hostModes : Nat
  deriving DecidableEq, Repr

/-- Power states of R88, and the hold of R564 and the wait after an overvoltage stop of R40. -/
inductive Power
  | cell | cellOver | start | run | hem | recovery | held
  deriving DecidableEq, Repr

/-- Time on TCXO: cycles since TCXO started, and network time in units of 2^−40 ns (R247). -/
structure Clock where
  cyc : Nat
  net : Nat
  lateTimes : List Nat
  coreSleep : List (Nat × Bool)
  deriving DecidableEq, Repr

/-- A black-box record (R580) without its CRC, which is computed when its bytes are read. -/
structure BbRec where
  seq : Nat
  code : Nat
  b6 : Nat
  b7 : Nat
  time : Nat
  arg0 : Nat
  arg1 : Nat
  boot : Nat
  rep : Nat
  deriving DecidableEq, Repr

/-- SAFE beside its registers: records waiting for MRAM (R582), the count lost since the last BB_LOST error, instants of
world violations (R584), the slices' last-pass instants, the slices' last-start instants, since when SAFE runs, whether a
debug challenge is live, and the instant the error in SAFE.PRIMARY came. -/
structure Safe where
  bbQ : List BbRec
  bbLostDue : Nat
  worldHits : List Nat
  worldFaultAt : Option Nat
  sliceAt : List (Nat × Nat)
  startAt : List (Nat × Nat)
  runAt : Nat
  chalLive : Bool
  primaryAt : Nat
  deriving DecidableEq, Repr

/-- An item of a queue: its cells in link order and its length in bytes. -/
structure Item where
  cells : List Nat
  len : Nat
  deriving DecidableEq, Repr

/-- A hardware queue beside its registers (R376 to R390): committed items (the sending bank of a PINGPONG queue), the
filling bank's items, the cells of the item being written, items popped and not released, the running timer's start in
TCXO cycles, and whether an audit holds it. -/
structure Queue where
  items : List Item
  fill : List Item
  opened : List Nat
  popped : List Item
  timer : Option Nat
  audit : Bool
  deriving DecidableEq, Repr

/-- QM beside its registers: the queues, and queues whose pointer mismatch waits for a running audit (R389). -/
structure Qm where
  queues : List (Nat × Queue)
  waiting : List Nat
  deriving DecidableEq, Repr

/-- A learned address (R392): MAC, port, and the TCXO cycle it was last seen at. -/
structure FdbEntry where
  mac : Nat
  port : Nat
  seen : Nat
  deriving DecidableEq, Repr

/-- The ERPS engine beside its registers (R397): the start of the guard timer, ports held by a hold-off timer with its start,
the start of WTR or WTB, failed ports, the port of the operator command in force, and each ring port's last node ID and BPR
(port, node, BPR). -/
structure Erps where
  guard : Option Nat
  holdoff : List (Nat × Nat)
  wait : Nat
  failed : List Nat
  command : Option Nat
  pairs : List (Nat × Nat × Nat)
  deriving DecidableEq, Repr

/-- A frame that waits at an egress port (R393): the port, whether its class is the high one, whether it stands in the transit
buffer or came from the CPU, whether it asks for a timestamp, the instant it came, in 1/125 TCXO cycle, and its bytes. -/
structure Egress where
  port : Nat
  high : Bool
  transit : Bool
  stamp : Bool
  at_ : Nat
  frame : List Nat
  deriving DecidableEq, Repr

/-- SW beside its registers: the address table; the frames that wait at the ports; by port the transit bytes of the frame
last sent and the instant of its last byte, in 1/125 TCXO cycle; ERPS; and the ports that wait for ETHCLK to come up again,
with the medium each had (fibre: true) (R89), and whether its interrupt stands (R400). -/
structure Sw where
  fdb : List FdbEntry
  waiting : List Egress
  leaving : List (Nat × Nat × Nat)
  erps : Erps
  noLink : List (Nat × Bool)
  irq : Bool
  deriving DecidableEq, Repr

/-- A transmit-timestamp entry (R259): identifier, corrected TS32, and the TCXO cycle it entered at. -/
structure TxTs where
  id : Nat
  ts : Nat
  at_ : Nat
  deriving DecidableEq, Repr

/-- A foreign master heard on a port, with the instants of its Announces. -/
structure Foreign where
  port : Nat
  ann : AnnounceMsg
  times : List Nat
  deriving DecidableEq, Repr

/-- A Delay_Req sent and not answered (R257): its sequenceId, its transmit time when known, and the latest accepted Sync
before it (t1, t2, correction). -/
structure DelayEx where
  seq : Nat
  t3 : Option Nat
  sync : Option (Int × Int × Int)
  deriving DecidableEq, Repr

/-- TB and its servo beside the registers: servo integrator in ppb, mean path delay in ns, within-bound and
out-of-bound offset runs (R263), foreign masters, the followed data set, the acquisition window, the pending Delay_Req
exchange, the latest Sync figures, transmit-timestamp queues, correlations. -/
structure Tb where
  servoI : Int
  mpd : Option Int
  goodRun : Nat
  badRun : Nat
  foreign : List Foreign
  parent : Option AnnounceMsg
  window : Bool
  seqSync : Nat
  seqDelay : Nat
  seqAnn : Nat
  dreq : Option DelayEx
  lastSync : Option (Int × Int × Int)
  logMinDreq : Int
  txq : List (Nat × List TxTs)
  stepSec : Option Nat
  corrBase : Option (Nat × Nat)
  rates : List Int
  deriving DecidableEq, Repr

/-- A command record of CE (R299, R317): the absolute command a descriptor points at, and the pending phase entries of
a GROUP_COMMAND. -/
structure CmdRec where
  level : Nat
  cct : Nat
  fadeMs : Nat
  curve : Nat
  stretch : Bool
  start : Nat
  phase : Nat
  phases : List (Nat × Nat)
  deriving DecidableEq, Repr

/-- Why a composition was asked for: it decides fade, START and whether the threshold of R175 applies
(`ahead`: a light-ahead request, its ETA_MS and LEVEL, `laEnd`: a light-ahead entry expired, `safe`: emergency and hem, `release`: the end of an emergency). `refresh` and `stretch`
send again what stands and compose nothing. -/
inductive Why
  | rule
  | preset (p : Nat)
  | ahead (etaMs level : Nat)
  | laEnd
  | loop
  | safe
  | release
  | refresh
  | stretch
  deriving DecidableEq, Repr

/-- What a composition that has started makes of its inputs (R166, R167): level, source and CCT of a channel, the cause of the
change, and the fade in force (R171, R173). -/
structure Took where
  chan : Nat
  level : Nat
  src : Nat
  cct : Nat
  cause : Why
  fadeMs : Nat
  curve : Nat
  deriving DecidableEq, Repr

/-- A composition at CE: its channels, its cause, the group of a group write, and what it took for each channel for which it
has started. -/
structure Job where
  chans : List Nat
  why : Why
  group : Option Nat
  got : List Took
  deriving DecidableEq, Repr

/-- CE beside its registers: channels, waiting inputs (destination port and event), waiting compositions, and command
records in use. -/
structure Ce where
  chans : List (Nat × Chan)
  inbox : List (Nat × Ev)
  jobs : List Job
  recs : List (Nat × CmdRec)
  deriving DecidableEq, Repr

/-- A descriptor waiting at AIR (R315), with the radio it goes out on. -/
inductive Desc
  | ack (radio unit acked status : Nat)
  | emerg (radio : Nat)
  | release (radio : Nat)
  | cmd (radio target record : Nat) (group all : Bool) (ahead : Bool)
  | config (radio unit seq : Nat) (body : List Nat)
  | nodeKey (radio unit keyidx : Nat) (body : List Nat)
  | image (radio : Nat) (body : List Nat) (sensors : Bool)
  deriving DecidableEq, Repr

/-- Airtime sent (R294): bucket number, radio, channel, sub-band and microseconds. -/
structure Dwell where
  bucket : Nat
  radio : Nat
  chan : Nat
  subband : Nat
  us : Nat
  deriving DecidableEq, Repr

/-- AIR beside its registers: waiting descriptors, freshness marks, the last stamp used (R306), airtime sent, the key
before the last switch, the bolt its grace ends and the bolt of that switch, pending CONFIG bodies by UNIT, built emergency and release frames by
radio, whether RUN is to be cleared at the next stitch boundary (R578), radios whose coming stitch is lost to a late wake (R83), UNITs with frames waiting for a sleeping node, and the instants
UNITs were heard, COMMAND events waiting at its destination port, whether a hop query runs, image airtime of this bolt by
radio (R304), and the newly loaded key slot whose key the nodes are sent (R309), the CLASS of each UNIT's last CAPABILITY
(R300), by radio the start, plus 1, of the stitch its synthesiser was last started for (R81), the network time, in ns,
before which no stitch's wake is pending since the last step (R84), and the frames, with radio and item flags, that went back to AIR
for want of room behind an ACK (R314). -/
structure Air where
  cmdIn : List Ev
  descs : List Desc
  marks : List Mark
  lastStamp : Nat
  dwell : List Dwell
  prevKey : Option Nat
  graceEnd : Nat
  swBolt : Nat
  configs : List (Nat × List Nat)
  cfgSeq : List (Nat × Nat)
  resent : List (Nat × Nat)
  emergBuilt : List (Nat × List Nat)
  releaseBuilt : List (Nat × List Nat)
  stopAtStitch : Bool
  lateRadios : List Nat
  configDue : List Nat
  sleepers : List (Nat × Nat)
  heard : List (Nat × Option Int)
  hopBusy : Bool
  imgUs : List (Nat × Nat)
  keyDue : Option Nat
  classes : List (Nat × Nat)
  woken : List (Nat × Nat)
  wakeFrom : Nat
  back : List (Nat × List Nat × Nat)
  deriving DecidableEq, Repr

/-- OFE beside its registers: ingress FIFO (destination port and event), sensors by index, tracks, copies of the
light-ahead entries (level, expiry in TN ns), the next SERIAL, whether a drop was reported in this bolt, what was last
emitted of each zone, whether every zone is due, and bolts since every zone was last emitted. -/
structure Ofe where
  fifo : List (Nat × Ev)
  sensors : List (Nat × Sensor)
  tracks : List (Nat × Track)
  la : List (Nat × Nat × Nat)
  serialNext : Nat
  dropSeen : Bool
  zones : List (Nat × Nat × Nat × Nat × Nat)
  refresh : Bool
  bolts : Nat
  deriving DecidableEq, Repr

/-- The SUN-FSK PHY header as sent (R280): mode switch, FCS type, data whitening. -/
structure FskPhr where
  modeSwitch : Nat
  fcsType : Nat
  whitening : Nat
  deriving DecidableEq, Repr

/-- What leaves the module, in order: a Duvas frame on the air (radio, channel, a SUN-FSK PHR, PSDU), an Ethernet frame on a port, a
Shalan message on an association (a module's MOD, or 0x10000 and up for a host session), a PTP message in a domain on a port, and seam messages with their frames (R453). -/
inductive Emission
  | air (radio chan : Nat) (phr : Option FskPhr) (psdu : List Nat)
  | eth (port : Nat) (frame : List Nat)
  | shalan (assoc : Nat) (msg : List Nat)
  | ptp (port domain : Nat) (m : PtpMsg)
  | seam (h : SeamBeat) (frames : List (List Nat))
  | release (h : SeamBeat) (member : Nat) (frames : List (List Nat))
  | mirror (h : SeamBeat) (m : MirrorSet) (frames : List (List Nat))
  deriving DecidableEq, Repr
/-- A hand-over under way in the holder (R458): the bolt Tb starts, whether the full mirror set went out, whether the
standby confirmed it, and whether the lease goes back under R470. -/
structure HandOver where
  tb : Nat
  sentSet : Bool
  confirmed : Bool
  returning : Bool
  deriving DecidableEq, Repr

/-- A takeover under test (R468): the TN ns of its first transmitted stitch, the channels expected and those heard. -/
structure TakeTest where
  start : Nat
  expected : List Nat
  heard : List Nat
  deriving DecidableEq, Repr

/-- SEAM beside its registers (R440 to R470). Instants are TCXO cycles. `leaseEnd` ends the lease; `lastRenew` is the
last RENEW sent; `bound` is this member's own vote: member and end of its binding; `peerVote` and `witVote` are the
send instants last answered; `peerSeen` and `witSeen` the last valid seam message and witness answer; `witAlive` when
the witness last reported the twin; `startAt` when CTL.RUN was set (R449); `quiet` whether the hold-off of R449 runs;
`peer` the twin's last HEARTBEAT; `witEpoch` the highest epoch of a GRANT; `granted` whether an unused GRANT is held;
`learn` the epoch that must be exceeded before the lease is sought again (R448); `tx` and `rx` the frame counters;
`refusedMs` the time left of the last REFUSE; `lapsedAt` runs R465; `stopBuild` R458's stop of frame building;
`slicesHeld` and `peerHeld` R460, in this member and as the twin says; `mirSets` complete sets waiting for the bolt; `mirBolt` the
bolt of the last set that came; `needFull` R456; `sinceFull` bolts since a full set;
`named` whether a RELEASE named this member; `returned` and `gotBack` R470; `lastSet` the mirror set last sent; `wit` and `witQuiet` the witness's own; `airFrom` the TN ns of
the first stitch a new holder uses (R460); `witGood` when the witness last passed on a HEALTH of class GOOD (R470). -/
structure Seam where
  leaseEnd : Option Nat
  lastRenew : Option Nat
  bound : Option (Nat × Nat)
  peerVote : Option Nat
  witVote : Option Nat
  peerSeen : Option Nat
  witSeen : Option Nat
  witAlive : Option Nat
  startAt : Option Nat
  quiet : Bool
  peer : Option SeamBeat
  witEpoch : Nat
  granted : Bool
  learn : Option Nat
  tx : Nat
  rx : Nat
  refusedMs : Nat
  lapsedAt : Option Nat
  stopBuild : Bool
  slicesHeld : Bool
  peerHeld : Bool
  mirSets : List MirrorSet
  mirBolt : Option Nat
  needFull : Bool
  sinceFull : Nat
  hand : Option HandOver
  named : Bool
  test : Option TakeTest
  returned : Bool
  gotBack : Bool
  lastSet : Option MirrorSet
  wit : List WitRec
  witQuiet : Option Nat
  airFrom : Nat
  witGood : Option Nat
  deriving DecidableEq, Repr

/-- One latched set (R339, R340, R342): number, unit, accumulators by circuit · 7 + quantity in 2^−32 units, Irms in mA,
Vrms in 0.01 V, PF, flag bits by circuit, frequency, and E_cum and residuals of attribution. -/
structure Latch where
  seq : Nat
  time : Nat
  unit : Nat
  acc : List (Nat × Nat)
  irms : List (Nat × Nat)
  vrms : List (Nat × Nat)
  pf : List (Nat × Int)
  flags : List (Nat × Nat)
  freq : Nat
  ecum : List (Nat × Nat)
  resid : List (Nat × Int)
  deriving DecidableEq, Repr

/-- A save in one of the two MRAM slots (R346, R371). -/
structure MetSave where
  seq : Nat
  latchSeq : Nat
  time : Nat
  acc : List (Nat × Nat)
  ecum : List (Nat × Nat)
  unattr : List (Nat × Int)
  deriving DecidableEq, Repr

/-- MET beside its registers: accumulators in 2^−32 µWh by circuit · 7 + quantity (IMP, EXP, Q1 to Q4, APP); the
interval's signed energy and apparent energy before creep, sums of squares of Irms and Vrms, raw sums and sample
counts, cycles, cycles and length without NO_ZC, circuit flag masks, record flags, start and first boundary; the latest
and the visible latch; consecutive NO_ZC cycles, cycles above and below the neutral threshold, the last measured period;
the next save mark, the saves, whether a gap record is due, the start of calibration mode, the stored calibration words
by register address; the summed length of the interval's cycles and the network time of the latest boundary; whether the
latest latch is to be saved, the instant and the slot of the last save; sequence and time of the save restored; the weight of
the interval's samples in 1/1,024; and what the filters of R329, R330 and R335 hold: by channel the integrator's memory, the
samples of the last cycle before the delay, and those after it. -/
structure Met where
  acc : List (Nat × Nat)
  eSum : List (Nat × Int)
  sSum : List (Nat × Int)
  iSq : List (Nat × Nat)
  vSq : List (Nat × Nat)
  dcSum : List (Nat × Int)
  dcN : Nat
  cycles : Nat
  goodCycles : Nat
  goodNs : Nat
  creep : Nat
  clip : Nat
  absent : Nat
  noZc : Nat
  anyNoZc : Bool
  refChanged : Bool
  pattern : Bool
  started : Bool
  tStart : Nat
  latest : Latch
  shown : Latch
  zcRun : Nat
  neHigh : Nat
  neLow : Nat
  lastNs : Nat
  saveMark : Nat
  saves : List (Nat × MetSave)
  noSave : Bool
  gapDue : Bool
  calAt : Option Nat
  calStored : List (Nat × Nat)
  lenNs : Nat
  bound : Nat
  saveDue : Bool
  savedAt : Option (Nat × Nat)
  restored : Nat × Nat
  weight : Nat
  integ : List (Nat × List Int)
  past : List (Nat × List Int)
  pastV : List (Nat × List Int)
  deriving DecidableEq, Repr

/-- Attribution beside its registers: circuits, the line frequency in force (0 until known), the code period running,
each channel's E_cum in µWh, its energy of the running interval in 2^−32 µWh, unattributed µWh by circuit, whether
chips wait for every member's CFG_SEQ (R374), the first code period that counts (R356), the spans of network time in ns that
invalidate chips of every circuit, and those in which a channel (first) fades (R360). -/
structure Att where
  circs : List (Nat × AttCirc)
  lineHz : Nat
  period : Nat
  ecum : List (Nat × Nat)
  energy : List (Nat × Nat)
  unattr : List (Nat × Int)
  waitCfg : Bool
  startP : Nat
  spans : List (Nat × Nat)
  moves : List (Nat × Nat × Nat)
  deriving DecidableEq, Repr

/-- An image slot of the NOR flash (R499, R502): the manifest and the body. -/
structure Image where
  man : List Nat
  body : List Nat
  deriving DecidableEq, Repr

/-- A pattern slot of the NOR flash (R499, R526): the full pattern's container and the partials appended to it. -/
structure PatSlot where
  full : List Nat
  partials : List (List Nat)
  deriving DecidableEq, Repr

/-- A staging area of the eMMC with its bitmap (R501, R505): the marked pieces by number. -/
structure Staging where
  id : Nat
  cnt : Nat
  pieces : List (Nat × List Nat)
  deriving DecidableEq, Repr

/-- The key store (R527): whether an identity key exists, certificate chain, trust anchors, pattern keys (world · 4 +
slot), node-image keys, the pair key and the node enrolment keys by UNIT. -/
structure KeyStore where
  identity : Option Nat
  cert : List Nat
  anchors : List (Nat × Nat × Nat)
  pat : List (Nat × Nat × Nat)
  nimg : List (Nat × Nat × Nat)
  pair : Option (List Nat)
  node : List (Nat × List Nat)
  deriving DecidableEq, Repr

/-- What the module keeps in fuses, MRAM and flash beside registers (R500, R501, R527, R580): black-box ring, UID, MAC,
fused Hjelade image keys and debug public key, image slots, pattern slots, staging areas, the bytes of the
settings generations (slot · 2 + generation), whether the floor words read valid, the two halves of the pattern-slot word, the key store, the
items that failed the last failed start (R564), the repair log of R417 by entry, the rows (bank, row) the fuse map repairs
(R416), and the factory latencies of R277 (port · 2 + medium, ING_LAT, EGR_LAT in ps). -/
structure Nv where
  bb : List BbRec
  bbNext : Nat
  boot : Nat
  uid : Nat
  mac : Nat
  imgKeys : List (Nat × Nat)
  dbgKey : List Nat
  images : List (Nat × Image)
  pats : List (Nat × PatSlot)
  staging : List (Nat × Staging)
  settings : List (Nat × List Nat)
  imgFloorOk : Bool
  patFloorOk : Bool
  patLo : Nat
  patHi : Nat
  keys : KeyStore
  stFail : Nat
  memLog : List (Nat × List Nat)
  fuseRows : List (Nat × Nat)
  facLat : List (Nat × Nat × Nat)
  deriving DecidableEq, Repr

/-- A node image campaign (R531 to R533): staging area, IMAGE_ID, over-air piece count and length, whether sensors are
in it, its targets, their IMAGE reports (UNIT, HAVE, FIRST_MISSING), the next piece, the targets sent IMAGE_ACT and
their IMAGE_RESULTs. -/
structure Campaign where
  area : Nat
  id : Nat
  cnt : Nat
  len : Nat
  sensors : Bool
  targets : List Nat
  have_ : List (Nat × Nat × Nat)
  next : Nat
  acted : List Nat
  results : List (Nat × Nat)
  deriving DecidableEq, Repr

/-- An armed activation (R516, R517, R521): the bolt of Ta, the slot it starts, whether it restarts the module, and
whether it is a fallback. -/
structure Activation where
  bolt : Nat
  slot : Nat
  restart : Bool
  fallback : Bool
  deriving DecidableEq, Repr

/-- MEMI beside its registers (R408 to R421): suspects (memory, address, pass), words that wait for a write-back, the
unit each scrubber reads next, words whose check bits an injection flipped (address, bits), the bolt
at which the tiles are to be reloaded, the last correction: memory, address, instant, and whether the scrubber found it, and
the pages of LPDDR4X that an access filled ahead of the background fill (R406). -/
structure Memi where
  suspects : List (Nat × Nat × Nat)
  wb : List (Nat × Nat)
  pos : List (Nat × Nat)
  faults : List (Nat × Nat)
  reload : Option Nat
  lastCe : Option (Nat × Nat × Nat × Bool)
  pages : List Nat
  deriving DecidableEq, Repr

/-- AON beside its registers (R423 to R433): TICK, RAW, ADJ_SUM, the LFXO phase in 1/26,000,000 edge, a delta waiting
for its edge, alarms whose ARM was cleared since the last edge, RAW when PER_S was written, whether the domain is held in reset, whether an LFXO
stop in CELL is still to be raised, the stage of R428's delta after OSF (0 none, 1 due, 2 applied), whether a cell
test on command replaced the next one, the correlation record of retention SRAM (R268): RAW, TN and RTC_RATE, and the alarms
(0 to 3) and the periodic wake (4) whose interrupt stands (R430, R433). -/
structure Aon where
  tick : Nat
  raw : Nat
  adj : Int
  phase : Nat
  pend : Option Int
  armClr : List Nat
  pwakeRaw : Nat
  held : Bool
  stopDue : Bool
  osfFix : Nat
  tested : Bool
  corr : Option (Nat × Nat × Nat)
  irq : List Nat
  deriving DecidableEq, Repr

/-- A Shalan request sent and not answered (R479): its message, how often it was sent, when last, and the request it
relays for (association, SEQ). -/
structure ShalReq where
  seq : Nat
  msg : List Nat
  sends : Nat
  at_ : Nat
  origin : Option (Nat × Nat)
  deriving DecidableEq, Repr

/-- A DTLS association (R472 to R480): its peer (a MOD, or 0x10000 and up for a host), its world, whether it came over
X6, the peer's UID, the instant of its last record, the next SEQ, requests sent and not answered, the last 64 answers,
the subscription mask (R492), whether it was opened at the member's own address (R476), and the records sent under the
present keys and the KeyUpdates sent (R473). -/
structure Assoc where
  id : Nat
  secure : Bool
  x6 : Bool
  uid : Nat
  lastAt : Nat
  nextSeq : Nat
  sent : List ShalReq
  kept : List (Nat × List Nat)
  sub : Nat
  own : Bool
  records : Nat
  keys : Nat
  deriving DecidableEq, Repr

/-- A relayed request with FANOUT that waits for its copies (R494): the association and SEQ, the modules that have not
answered, how many failed, and the first failing code. -/
structure Fan where
  assoc : Nat
  seq : Nat
  waiting : List Nat
  failed : Nat
  code : Nat
  deriving DecidableEq, Repr

/-- A relay chain of a manager (R496, R497): its members in order, each member's counts (received and answered by the
successor in the window, received in all of an image, and that IMAGE_ID), and the consecutive slow windows of the link into each member. -/
structure Chain where
  members : List Nat
  counts : List (Nat × Nat × Nat × Nat × Nat)
  slow : List (Nat × Nat)
  deriving DecidableEq, Repr

/-- A record of the historian (R493): KIND, latch or code period number, its bytes, the parts not yet answered, the network
second it was taken in, and that instant as a Gregorian UTC date with the second of the day (R426). -/
structure HistRec where
  kind : Nat
  num : Nat
  bytes : List Nat
  left : List Nat
  sec : Nat
  date : (Int × Nat × Nat) × Nat
  deriving DecidableEq, Repr

/-- Shalan beside the registers: associations, requests waiting for a managed module (R495), fan-outs, the historian,
chains, pieces received from the predecessor in this window and
those each successor answered, the successor last forwarded to (R508), the marked pieces still to be forwarded (successor, area,
piece), TB.STEPS at the last TIME_NOTE and the last offset
(R488), when HOLDOVER began, the MOD conflict: 0 none, 1 latched, 2 ended and waiting for its bolt (R22), and relayed
requests that a module answered with ERR_BUSY, with its association and the instant (R495), and the network part of IPv6 addresses that autoconfiguration learned, 8 bytes (R476). -/
structure Shalan where
  assocs : List Assoc
  relayQ : List (Nat × List ShalReq)
  fans : List Fan
  hist : List HistRec
  chains : List Chain
  got : Nat
  fwd : List (Nat × Nat)
  chainNext : Nat
  chainQ : List (Nat × Nat × Nat)
  noteSteps : Nat
  lastOfs : Int
  holdAt : Option Nat
  conflict : Nat
  busy : List (Nat × Nat × ShalReq)
  learnt : List Nat
  deriving DecidableEq, Repr

/-- UPD beside its registers: verification under way, the armed activation, whether Shalan work is stopped (R518), the
hand-over record (R518: associations, subscriptions, staging and chain state, and the historian's pointers, as Shalan holds them), the end of the confirmation window, the pattern SERIAL in force before the activation, the slices passed since the boot, a recovery restart due (R514), the deadline of a new
runtime's ready report, whether the application cores wait for a boot, the sessions held before an activation, whether the
start-up self-test passed and the boot ROM ran since the reset, whether a new runtime's take-over at Tb is under way (R518), whether
UPD.ENR_BUF shows a certification request (R529), and the campaign. -/
structure Upd where
  verifying : Bool
  act : Option Activation
  stopped : Bool
  hoRecord : Option Shalan
  winEnd : Option Nat
  oldSerial : Nat
  passed : List Nat
  recoveryDue : Bool
  readyBy : Option Nat
  coresDown : Bool
  hostsHeld : List Nat
  tested : Bool
  booted : Bool
  taking : Bool
  csrShown : Bool
  nc : Campaign
  deriving DecidableEq, Repr

/-- What a digital input shows beside the registers (R535 to R541): the instant it came to ON or ACTIVE, and whether
its timeout was reached since. -/
structure DiSt where
  onAt : Option Nat
  timed : Bool
  deriving DecidableEq, Repr

/-- GIO beside its registers: events waiting (destination port and event); each relay's last change, held request;
inputs; a COMMIT and a CLEAR_OPEN waiting for the frame start; findings that blank from the next frame; port retries
made and whether VSIGN is off for a port fault, and latched; D_P and D_T (R551); the thermal blank of R552; frames with
too little headroom by row; failed sensor reads; when each pixel was last checked good; the age base of each field; the next
row to stretch; the last SIGN_STATUS; whether the ambient stands above 60 °C (R71); and when VSIGN last failed (R560). -/
structure Gio where
  inbox : List (Nat × Ev)
  relAt : List (Nat × Option Nat)
  relHeld : List (Nat × Bool)
  di : List (Nat × DiSt)
  commitDue : Bool
  clearDue : Bool
  retries : Nat
  portOff : Bool
  latched : Bool
  dP : Nat
  dT : Nat
  hot : Bool
  lowRun : List (Nat × Nat)
  lostRun : Nat
  goodAt : List (Nat × Nat)
  ageAt : List (Nat × Nat)
  row : Nat
  status : Nat
  ambHot : Bool
  portAt : Nat
  deriving DecidableEq, Repr

/-- What a lamp shows (R68). -/
inductive Lamp
  | off | steady | flash1 | flash4 | boltFlash
  deriving DecidableEq, Repr

/-- What a digital input presents (R537). -/
inductive Sink
  | r6k8 | r13k6 | open1M
  deriving DecidableEq, Repr

/-- The sign's drivers (R547): the row switched on, the voltage in mV the columns are pre-charged to, the columns that sink
I_COL_MA, and the supply's setpoint in mV. -/
structure SignDrive where
  row : Option Nat
  pre : Option Nat
  cols : List Nat
  mv : Nat
  deriving DecidableEq, Repr

/-- The pins that follow the state: relay contacts (R543), lamps (R68), whether VSIGN is on (R559, R560), scan on X14
(R586), what the inputs present (R537), and the sign's drivers (R547). -/
structure Pins where
  relays : List Bool
  ledPwr : Lamp
  ledRun : Lamp
  ledAir : Lamp
  ledFault : Lamp
  vsign : Bool
  scan : Bool
  sink : Sink
  sign : SignDrive
  deriving DecidableEq, Repr

/-- The registers and everything beside them, but the queue of commands. -/
structure Body where
  regs : List (Nat × Word)
  mem : List Host.Cell
  clock : Clock
  power : Power
  nv : Nv
  safe : Safe
  loom : Loom
  pat : PatState
  qm : Qm
  sw : Sw
  tb : Tb
  ce : Ce
  air : Air
  seam : Seam
  upd : Upd
  memi : Memi
  aon : Aon
  sha : Shalan
  met : Met
  att : Att
  ofe : Ofe
  gio : Gio
  pins : Pins
  bus : Option Nat
  picks : Nat
  out : List Emission
  deriving DecidableEq, Repr

/-- The machine: the module's body and the commands that wait, first in, first out. -/
structure State where
  body : Body
  pending : List Instr
  deriving DecidableEq, Repr

/-! ### Reset -/

/-- A latched set with nothing in it. -/
def Latch.zero : Latch :=
  { seq := 0, time := 0, unit := 0, acc := [], irms := [], vrms := [], pf := [], flags := [], freq := 0, ecum := [], resid := [] }

/-- What MRAM, the flash and the fuses hold in a module that nothing was loaded into. -/
def Nv.blank : Nv :=
  { bb := [], bbNext := 1, boot := 0, uid := 0, mac := 0, imgKeys := [], dbgKey := [], images := [], pats := [],
    staging := [], settings := [], imgFloorOk := true, patFloorOk := true, patLo := 0, patHi := 0,
    keys := { identity := none, cert := [], anchors := [], pat := [], nimg := [], pair := none, node := [] },
    stFail := 0, memLog := [], fuseRows := [], facLat := [] }

/-- The module right after reset: every register reads its reset value (R12), nothing waits anywhere. -/
def Body.reset : Body :=
  { regs := []
    mem := []
    clock := { cyc := 0, net := 0, lateTimes := [], coreSleep := [] }
    power := .start
    nv := Nv.blank
    safe := { bbQ := [], bbLostDue := 0, worldHits := [], worldFaultAt := none, sliceAt := [], startAt := [], runAt := 0, chalLive := false,
              primaryAt := 0 }
    loom := { tiles := [], sched := [], xbar := [] }
    pat := { run := none, assembly := none, staged := none, owe := 0, hostModes := 0 }
    qm := { queues := [], waiting := [] }
    sw := { fdb := [], waiting := [], leaving := [], noLink := [], irq := false,
            erps := { guard := none, holdoff := [], wait := 0, failed := [], command := none, pairs := [] } }
    tb := { servoI := 0, mpd := none, goodRun := 0, badRun := 0, foreign := [], parent := none, window := false,
            seqSync := 0, seqDelay := 0, seqAnn := 0, dreq := none, lastSync := none,
            logMinDreq := -3, txq := [], stepSec := none, corrBase := none, rates := [] }
    ce := { chans := [], inbox := [], jobs := [], recs := [] }
    air := { cmdIn := [], descs := [], marks := [], lastStamp := 0, dwell := [], prevKey := none, graceEnd := 0, swBolt := 0, back := [],
             configs := [], cfgSeq := [], resent := [], emergBuilt := [], releaseBuilt := [], stopAtStitch := false,
             lateRadios := [], configDue := [], sleepers := [], heard := [], hopBusy := false, imgUs := [],
             keyDue := none, classes := [], woken := [], wakeFrom := 0 }
    seam := { leaseEnd := none, lastRenew := none, bound := none, peerVote := none, witVote := none, peerSeen := none,
              witSeen := none, witAlive := none, startAt := none, quiet := false, peer := none, witEpoch := 0,
              granted := false, learn := none, tx := 0, rx := 0, refusedMs := 0, lapsedAt := none, stopBuild := false,
              slicesHeld := false, peerHeld := false, mirSets := [], mirBolt := none, needFull := false, sinceFull := 0, hand := none, named := false,
              test := none, returned := false, gotBack := false, lastSet := none, wit := [], witQuiet := none,
              airFrom := 0, witGood := none }
    upd := { verifying := false, act := none, stopped := false, hoRecord := none, winEnd := none, oldSerial := 0,
             passed := [], recoveryDue := false, readyBy := none, coresDown := false, hostsHeld := [], tested := false, booted := false, taking := false, csrShown := false,
             nc := { area := 0, id := 0, cnt := 0, len := 0, sensors := false, targets := [], have_ := [], next := 0,
                     acted := [], results := [] } }
    memi := { suspects := [], wb := [], pos := [], faults := [], reload := none, lastCe := none, pages := [] }
    aon := { tick := 0, raw := 0, adj := 0, phase := 0, pend := none, armClr := [], pwakeRaw := 0, held := false,
             stopDue := false, osfFix := 0, tested := false, corr := none, irq := [] }
    sha := { assocs := [], relayQ := [], fans := [], hist := [], chains := [], got := 0, fwd := [],
             chainNext := 0xFFFF, chainQ := [], noteSteps := 0, lastOfs := 0, holdAt := none, conflict := 0, busy := [], learnt := [] }
    met := { acc := [], eSum := [], sSum := [], iSq := [], vSq := [], dcSum := [], dcN := 0, cycles := 0,
             goodCycles := 0, goodNs := 0, creep := 0, clip := 0, absent := 0, noZc := 0, anyNoZc := false,
             refChanged := false, pattern := false, started := false, tStart := 0, latest := Latch.zero,
             shown := Latch.zero, zcRun := 0, neHigh := 0, neLow := 0, lastNs := 0, saveMark := 0, saves := [],
             noSave := false, gapDue := false, calAt := none, calStored := [], lenNs := 0, bound := 0,
             saveDue := false, savedAt := none, restored := (0, 0), weight := 0, integ := [], past := [], pastV := [] }
    att := { circs := [], lineHz := 0, period := 0, ecum := [], energy := [], unattr := [], waitCfg := false,
             startP := 0, spans := [], moves := [] }
    ofe := { fifo := [], sensors := [], tracks := [], la := [], serialNext := 0, dropSeen := false, zones := [],
             refresh := true, bolts := 0 }
    gio := { inbox := [], relAt := [], relHeld := [], di := [], commitDue := false, clearDue := false, retries := 0,
             portOff := false, latched := false, dP := 65536, dT := 65536, hot := false, lowRun := [], lostRun := 0,
             goodAt := [], ageAt := [], row := 0, status := 0, ambHot := false,
             portAt := 0 }
    pins := { relays := [false, false, false, false], ledPwr := .steady, ledRun := .flash1, ledAir := .off,
              ledFault := .off, vsign := false, scan := false, sink := .r6k8, sign := ⟨none, none, [], 0⟩ }
    bus := none
    picks := 0
    out := [] }

/-- The machine right after reset. -/
def State.reset : State := { body := Body.reset, pending := [] }

end Sys2Proof.Machine
end

