-- ==== Sys2Proof/Machine/StateOps.lean ====
section
/-! DEFINITION. Machine/StateOps.lean: reading and writing the register window (the one home of every register) and
counting on it, network time and its forms (R245 to R248). -/

namespace Sys2Proof.Machine

/-- The word the register at `a` holds. -/
def Body.word (b : Body) (a : Nat) : Word := tabGet (fun a => BitVec.ofNat 32 (resetWord a)) b.regs a

/-- Sets the word of the register at `a`. -/
def Body.setWord (b : Body) (a : Nat) (v : Word) : Body :=
  { b with regs := tabSet (fun a => BitVec.ofNat 32 (resetWord a)) b.regs a v }

/-- `n` with bits [lo + w − 1 : lo] replaced by `v` (modulo 2^w). -/
def insBits (n lo w v : Nat) : Nat :=
  n - n / 2 ^ lo % 2 ^ w * 2 ^ lo + v % 2 ^ w * 2 ^ lo

/-- A field of a register, by its name in the manual and its indices. -/
def Body.get (b : Body) (f : Fld) (i : Nat := 0) (j : Nat := 0) : Nat :=
  (b.word (f.at i j)).toNat / 2 ^ f.lo % 2 ^ f.w

/-- Sets a field. -/
def Body.put (b : Body) (f : Fld) (v : Nat) (i : Nat := 0) (j : Nat := 0) : Body :=
  b.setWord (f.at i j) (BitVec.ofNat 32 (insBits (b.word (f.at i j)).toNat f.lo f.w v))

/-- A one-bit field as a Bool. -/
def Body.flag (b : Body) (f : Fld) (i : Nat := 0) (j : Nat := 0) : Bool := decide (b.get f i j ≠ 0)

/-- Sets a one-bit field. -/
def Body.mark (b : Body) (f : Fld) (v : Bool) (i : Nat := 0) (j : Nat := 0) : Body := b.put f (if v then 1 else 0) i j

/-- Adds to a counter that saturates at its width's largest value. -/
def Body.bump (b : Body) (f : Fld) (n : Nat := 1) (i : Nat := 0) (j : Nat := 0) : Body :=
  b.put f (min (b.get f i j + n) (2 ^ f.w - 1)) i j

/-- Adds 1 to a counter that wraps. -/
def Body.wrap (b : Body) (f : Fld) (i : Nat := 0) (j : Nat := 0) : Body := b.put f (b.get f i j + 1) i j

/-- Sets bit `k` of a field. -/
def Body.setBit (b : Body) (f : Fld) (k : Nat) (v : Bool) (i : Nat := 0) (j : Nat := 0) : Body :=
  b.put f (insBits (b.get f i j) k 1 (if v then 1 else 0)) i j

/-- Bit `k` of a field. -/
def Body.bit (b : Body) (f : Fld) (k : Nat) (i : Nat := 0) (j : Nat := 0) : Bool :=
  decide (b.get f i j / 2 ^ k % 2 = 1)

/-! ### Network time (R245, R248) -/

/-- TN: total nanoseconds. -/
def tnNs (b : Body) : Nat := b.clock.net / 2 ^ 40
def tSec (b : Body) : Nat := tnNs b / 10 ^ 9
def tNs (b : Body) : Nat := tnNs b % 10 ^ 9
def tFrac (b : Body) : Nat := b.clock.net % 2 ^ 40 / 2 ^ 24
/-- A of R248, from nanoseconds. -/
def airOfNs (tn : Nat) : Nat := tn / 10 ^ 9 * 65536 + tn % 10 ^ 9 * 65536 / 10 ^ 9
/-- A of R248. -/
def airTime (b : Body) : Nat := airOfNs (tnNs b)
def ts32 (b : Body) : Nat := tnNs b % 2 ^ 32
def ntv (b : Body) : Bool := b.flag TB.STAT.NTV
def rtcv (b : Body) : Bool := b.flag TB.STAT.RTCV

/-- The TCXO cycles of `ms` milliseconds. -/
def msCyc (ms : Nat) : Nat := ms * 26000

/-- Seconds of TCXO since cycle `at_`. -/
def sinceS (b : Body) (at_ : Int) : Nat := ((b.clock.cyc : Int) - at_).toNat / 26000000

/-- The increment of network time at one TCXO cycle, in 2^−40 ns, under ADJ (R247). -/
def tickInc (adj : Int) : Nat :=
  ((10 ^ 9 * 2 ^ 40 * (1024 * 10 ^ 9 + adj)) / (26 * 10 ^ 6 * 1024 * 10 ^ 9)).toNat

/-- A free choice of `n` things: the spec leaves open which. -/
def Body.choose (b : Body) (n : Nat) : Nat × Body :=
  (if n = 0 then 0 else Config.pick b.picks % n, { b with picks := b.picks + 1 })

/-- A free word the spec does not state. -/
def Body.freeWord (b : Body) : Nat × Body := ((Config.word b.picks).toNat, { b with picks := b.picks + 1 })

/-- Something leaves the module. -/
def Body.emit (b : Body) (e : Emission) : Body := { b with out := b.out ++ [e] }

/-- Applies `f` to each element in turn. -/
def Body.each {α : Type} (b : Body) (l : List α) (f : Body → α → Body) : Body := l.foldl f b

end Sys2Proof.Machine
end

