-- ==== Sys2Proof/Machine/Operands.lean ====
section
/-! DEFINITION. Machine/Operands.lean: how numbers stand in bytes, and what the sections of the pattern in force say: the
layouts of chapter 04 read byte by byte, with the defaults of R99 and R162 where a section is absent. -/

namespace Sys2Proof.Machine

/-- Little-endian bytes as a number (R13, R95). -/
def leNat (l : List Nat) : Nat := l.foldr (fun x n => x % 256 + 256 * n) 0

/-- Big-endian bytes as a number (R13). -/
def beNat (l : List Nat) : Nat := l.foldl (fun n x => 256 * n + x % 256) 0

/-- `k` little-endian bytes of `n`. -/
def toLe : Nat → Nat → List Nat
  | 0, _ => []
  | k + 1, n => n % 256 :: toLe k (n / 256)

/-- An element in its place of a sorted list, before the first that it is not above. -/
def insBy {α : Type} (le : α → α → Bool) (x : α) : List α → List α
  | [] => [x]
  | y :: t => if le x y then x :: y :: t else y :: insBy le x t

/-- A list sorted, elements that compare equal in their old order. -/
def sortBy {α : Type} (le : α → α → Bool) (l : List α) : List α := l.foldr (insBy le) []

/-- `k` big-endian bytes of `n`. -/
def toBe (k n : Nat) : List Nat := (toLe k n).reverse

def bytesAt (l : List Nat) (o n : Nat) : List Nat := (l.drop o).take n

def u8 (l : List Nat) (o : Nat) : Nat := l.getD o 0 % 256
def u16 (l : List Nat) (o : Nat) : Nat := leNat (bytesAt l o 2)
def u24 (l : List Nat) (o : Nat) : Nat := leNat (bytesAt l o 3)
def u32 (l : List Nat) (o : Nat) : Nat := leNat (bytesAt l o 4)
def u48 (l : List Nat) (o : Nat) : Nat := leNat (bytesAt l o 6)
def u64 (l : List Nat) (o : Nat) : Nat := leNat (bytesAt l o 8)
def b16 (l : List Nat) (o : Nat) : Nat := beNat (bytesAt l o 2)
def b32 (l : List Nat) (o : Nat) : Nat := beNat (bytesAt l o 4)
def b48 (l : List Nat) (o : Nat) : Nat := beNat (bytesAt l o 6)
def b64 (l : List Nat) (o : Nat) : Nat := beNat (bytesAt l o 8)

/-- Bits [lo + w − 1 : lo] of `n`. -/
def bits (n lo w : Nat) : Nat := n / 2 ^ lo % 2 ^ w

/-- The `w`-bit two's complement reading of `n`. -/
def sgn (w n : Nat) : Int := if n % 2 ^ w < 2 ^ (w - 1) then (n % 2 ^ w : Nat) else (n % 2 ^ w : Nat) - (2 ^ w : Nat)

/-- `i` modulo 2^w, as an unsigned field. -/
def uns (w : Nat) (i : Int) : Nat := (i % (2 ^ w : Nat)).toNat

/-- Clamp of an integer. -/
def clampI (x lo hi : Int) : Int := max lo (min x hi)

/-- Bit `c` of a bitmap that starts at byte `o`: bit (c mod 8) of byte c/8. -/
def bitAt (l : List Nat) (o c : Nat) : Bool := decide (u8 l (o + c / 8) / 2 ^ (c % 8) % 2 = 1)

/-! ### Section codes of R98 -/

abbrev sIDENTITY := 0x01
abbrev sWORLDMAP := 0x02
abbrev sSTRUCTURE := 0x03
abbrev sCHAN_SAFE := 0x04
abbrev sCHANNELS := 0x05
abbrev sGROUPS := 0x06
abbrev sZONES := 0x07
abbrev sGRAPH := 0x08
abbrev sSENSORS := 0x09
abbrev sTILE := 0x0A
abbrev sTHREADS := 0x0B
abbrev sSCHEDULES := 0x0C
abbrev sREGION := 0x0D
abbrev sSTITCH_PLAN := 0x0E
abbrev sMETER := 0x0F
abbrev sSIGN := 0x10
abbrev sLOCAL_IO := 0x11
abbrev sTWIN := 0x12
abbrev sHIERARCHY := 0x13
abbrev sMODES := 0x14
abbrev sSIGNATURE := 0x7F

/-- The bytes of a section in a list of sections. -/
def sectIn (ss : List Sect) (ty inst : Nat) : Option (List Nat) :=
  (ss.find? fun s => decide (s.ty = ty ∧ s.inst = inst)).map Sect.bytes

/-- The sections of the pattern in force. -/
def runSects (b : Body) : List Sect := match b.pat.run with
  | none => []
  | some p => p.sects

/-- The bytes of a section of the pattern in force. -/
def sect (b : Body) (ty : Nat) : Option (List Nat) := sectIn (runSects b) ty 0

/-- The same, or no bytes. -/
def sectD (b : Body) (ty : Nat) : List Nat := (sect b ty).getD []

/-! ### STRUCTURE -/

def chanCnt (b : Body) : Nat := u16 (sectD b sSTRUCTURE) 0
def sensCnt (b : Body) : Nat := u16 (sectD b sSTRUCTURE) 2
/-- STRUCTURE.STITCH; without a pattern the default 5 ms of R28. -/
def stitchCode (b : Body) : Nat := match sect b sSTRUCTURE with
  | some s => u8 s 4
  | none => 1
/-- Stitch length in ns (R28). -/
def stitchNs (b : Body) : Nat := 2500000 * 2 ^ stitchCode b
/-- Bolt length in ns: 256 stitches. -/
def boltNs (b : Body) : Nat := 256 * stitchNs b
/-- The bolt of network time, not reduced. -/
def boltIdx (b : Body) : Nat := tnNs b / boltNs b
/-- The first bolt boundary at least `ms` after now. -/
def boltAfter (b : Body) (ms : Nat) : Nat := (tnNs b + ms * 10 ^ 6 + boltNs b - 1) / boltNs b
def fPwm (b : Body) : Nat := match sect b sSTRUCTURE with
  | some s => u8 s 5
  | none => 1
/-- The PWM frequency in Hz (R271). -/
def pwmHz (b : Body) : Nat := [600, 1200, 2400, 3000, 6000, 12000, 24000].getD (fPwm b) 1200

/-- The index of the PWM period in progress, from the exact ratio (R272, R273). -/
def periodIdx (b : Body) : Nat := b.clock.net % (10 ^ 9 * 2 ^ 40) * pwmHz b / (10 ^ 9 * 2 ^ 40)

/-- The UNIT is one the pattern declares (R18, R24, R25). -/
def unitOk (b : Body) (u : Nat) : Bool :=
  decide (u = 0) || (decide (1 ≤ u) && decide (u ≤ chanCnt b)) ||
  (decide (1024 ≤ u) && decide (u < 1024 + sensCnt b))

/-! ### CHANNELS and CHAN_SAFE (R162) -/

def chRec (b : Body) (n : Nat) : Option (List Nat) :=
  (sect b sCHANNELS).map fun s => bytesAt s (72 + 20 * n) 20
def chField (b : Body) (n : Nat) (f : List Nat → Nat) (dflt : Nat) : Nat := match chRec b n with
  | some r => f r
  | none => dflt
def holdTS (b : Body) : Nat := match sect b sCHANNELS with
  | some s => u32 s 4
  | none => 300
def pFloor (b : Body) (n : Nat) : Nat := chField b n (u16 · 0) 0
def pCct (b : Body) (n : Nat) : Nat := chField b n (u16 · 2) 0
def luxSet (b : Body) (n : Nat) : Nat := chField b n (u16 · 4) 0
def pnomDw (b : Body) (n : Nat) : Nat := chField b n (u16 · 6) 1000
/-- KNEE_C in °C. -/
def kneeC (b : Body) (n : Nat) : Int := (chField b n (u8 · 8) 125 : Nat) - 40
/-- TMAX_C in °C. -/
def tmaxC (b : Body) (n : Nat) : Int := (chField b n (u8 · 9) 150 : Nat) - 40
def pPreset (b : Body) (n : Nat) : Nat := chField b n (u8 · 10) 2
def colourLoop (b : Body) (n : Nat) : Bool := decide (chField b n (u8 · 11) 0 % 2 = 1)
def autoOcc (b : Body) (n : Nat) : Nat := chField b n (u16 · 12) 65535
def autoIdle (b : Body) (n : Nat) : Nat := chField b n (u16 · 14) 16384
def autoHold (b : Body) (n : Nat) : Nat := chField b n (u16 · 16) 600
/-- Fade preset `p`: duration in ms and curve (0 linear, 1 logarithmic). -/
def fadePreset (b : Body) (p : Nat) : Nat × Nat := match sect b sCHANNELS with
  | some s => (u16 s (8 + 4 * p), u8 s (10 + 4 * p))
  | none => match p with
    | 0 => (0, 0)
    | 1 => (300, 0)
    | 2 => (1000, 1)
    | 3 => (2000, 1)
    | _ => (5000, 1)

/-! ### GROUPS and ZONES -/

/-- The 64-byte member bitmap of a declared group. -/
def groupMap (b : Body) (g : Nat) : Option (List Nat) :=
  let s := sectD b sGROUPS
  ((List.range (u16 s 0)).map fun i => bytesAt s (4 + 68 * i) 68).find? (fun r => decide (u8 r 0 = g))
    |>.map (·.drop 4)
/-- The declared channels of a declared group. -/
def groupMembers (b : Body) (g : Nat) : Option (List Nat) :=
  (groupMap b g).map fun m => (List.range (chanCnt b)).filter fun c => bitAt m 0 c
/-- The zone records: (zone, BAY flag, cap in W, bitmap). -/
def zoneRecs (b : Body) : List (Nat × Bool × Nat × List Nat) :=
  let s := sectD b sZONES
  (List.range (u8 s 0)).map fun i =>
    let r := bytesAt s (12 + 72 * i) 72
    (u8 r 0, decide (u8 r 1 % 2 = 1), u32 r 4, r.drop 8)
def zoneMembers (b : Body) (m : List Nat) : List Nat := (List.range (chanCnt b)).filter fun c => bitAt m 0 c

/-! ### GRAPH, SENSORS, THREADS -/

/-- The neighbours of channel `n` with their edges in dm, in record order. -/
def neighbours (b : Body) (n : Nat) : List (Nat × Nat) := match sect b sGRAPH with
  | none => []
  | some s =>
    if u16 s 0 ≤ n then [] else
    let r := bytesAt s (4 + 24 * n) 24
    ((List.range 8).map fun i => (u16 r (2 * i), u8 r (16 + i))).filter fun p => decide (p.1 ≠ 0xFFFF)
/-- The longest edge of the graph, in dm (R243). -/
def edgeMax (b : Body) : Nat :=
  (List.range (chanCnt b)).foldl (fun m n => (neighbours b n).foldl (fun m p => max m p.2) m) 0

/-- The 8-byte record of sensor slot `s`. DESIGN CHOICE (log entry 76): without SENSORS it is KIND 0, no zone, no near channel,
HEARTBEAT_S 3,600 and HOME_TRX 0. -/
def slotRec (b : Body) (s : Nat) : List Nat := match sect b sSENSORS with
  | some x => bytesAt x (8 + 8 * s) 8
  | none => [0, 0xFF, 0xFF, 0xFF, 0x10, 0x0E, 0, 0]
def slotKind (b : Body) (s : Nat) : Nat := u8 (slotRec b s) 0
def slotZone (b : Body) (s : Nat) : Nat := u8 (slotRec b s) 1
def slotNear (b : Body) (s : Nat) : Nat := u16 (slotRec b s) 2
def slotHeartbeat (b : Body) (s : Nat) : Nat := u16 (slotRec b s) 4
def slotHome (b : Body) (s : Nat) : Nat := u8 (slotRec b s) 6

/-- The records of THREADS: (thread, source, source port, destination, destination port). -/
def routesOf (s : List Nat) : List (Nat × Nat × Nat × Nat × Nat) :=
  (List.range (u16 s 0)).map fun i =>
    let r := bytesAt s (8 + 8 * i) 8
    (u8 r 0, u8 r 1, u8 r 2, u8 r 3, u8 r 4)
def routes (b : Body) : List (Nat × Nat × Nat × Nat × Nat) := routesOf (sectD b sTHREADS)
/-- The threads a source port drives, ascending and without repeats. -/
def threadsFrom (b : Body) (src port : Nat) : List Nat :=
  let l := (routes b).filter (fun r => decide (r.2.1 = src ∧ r.2.2.1 = port)) |>.map (·.1)
  (List.range 256).filter fun k => l.contains k
/-- The source of a thread (R104). -/
def threadSrc (b : Body) (k : Nat) : Option (Nat × Nat) :=
  ((routes b).find? fun r => decide (r.1 = k)).map fun r => (r.2.1, r.2.2.1)
/-- The destinations of a thread. -/
def threadDests (b : Body) (k : Nat) : List (Nat × Nat) :=
  (routes b).filter (fun r => decide (r.1 = k)) |>.map fun r => (r.2.2.2.1, r.2.2.2.2)

/-! ### REGION, STITCH_PLAN, TWIN, HIERARCHY -/

def regionMode (b : Body) : Nat := u8 (sectD b sREGION) 0
def regionMode24 (b : Body) : Nat := u8 (sectD b sREGION) 1
def chCnt (b : Body) : Nat := u8 (sectD b sREGION) 2
def anchorIdx (b : Body) : Nat := u8 (sectD b sREGION) 3
def phyCode (b : Body) : Nat := match sect b sREGION with
  | some s => u8 s 4
  | none => 2
def chanSubband (b : Body) (c : Nat) : Nat := u8 (sectD b sREGION) (32 + 4 * c + 3)
def dwellMs (b : Body) : Nat := u16 (sectD b sREGION) 8
def windowS (b : Body) : Nat := u16 (sectD b sREGION) 10
def dutyPm (b : Body) : Nat := u16 (sectD b sREGION) 12
/-- Time of one byte on the air of radio `r`, in µs (R278). -/
def byteUs (b : Body) (r : Nat) : Nat := if r = 4 then 32 else [160, 80, 40, 20].getD (phyCode b) 40
/-- Radios enabled by STITCH_PLAN; TRX4 only while MODE_24 is not 0 (R291). -/
def radioEn (b : Body) (r : Nat) : Bool :=
  decide (u8 (sectD b sSTITCH_PLAN) 5 / 2 ^ r % 2 = 1) && decide (r < 5) && (decide (r ≠ 4) || decide (regionMode24 b ≠ 0))
def schedEven (b : Body) (r : Nat) : Nat := u8 (sectD b sSTITCH_PLAN) r
/-- FRESH_W in 2^−16 s. -/
def freshW (b : Body) : Nat := (match sect b sSTITCH_PLAN with
  | some s => u8 s 6
  | none => 8) * 16384
/-- N of R281: the longest PSDU of a stitch on radio `r`. -/
def maxPsduOf (stitch byteT r : Nat) : Nat := min ((stitch / 1000 - 400) / byteT - 12) (if r = 4 then 127 else 255)
def maxPsdu (b : Body) (r : Nat) : Nat := maxPsduOf (stitchNs b) (byteUs b r) r

def twinPresent (b : Body) : Bool := decide (u8 (sectD b sTWIN) 0 = 1)
def netNo (b : Body) : Nat := u8 (sectD b sHIERARCHY) 0
def modNo (b : Body) : Nat := u16 (sectD b sHIERARCHY) 2 % 2 ^ 14
def roleOf (mod : Nat) : Nat := if mod = 0 then 2 else if mod % 128 = 0 then 1 else 0
/-- The module's address of R14 with UNIT 0. -/
def ownAddr (b : Body) : Nat := netNo b * 2 ^ 26 + modNo b * 2 ^ 12

end Sys2Proof.Machine
end

