-- ==== Sys2Proof/Machine/Crypto.lean ====
section
/-! DEFINITION. Machine/Crypto.lean: the published algorithms the spec names: AES-128 and CCM (R305, NIST SP 800-38C),
SHA-384, and ECDSA P-384 verification (R106), over bytes and numbers. -/

namespace Sys2Proof.Machine

/-- The AES S-box, in rows of sixteen. -/
def aesSbox0 : List Nat := [0x63, 0x7c, 0x77, 0x7b, 0xf2, 0x6b, 0x6f, 0xc5, 0x30, 0x01, 0x67, 0x2b, 0xfe, 0xd7, 0xab, 0x76]
def aesSbox1 : List Nat := [0xca, 0x82, 0xc9, 0x7d, 0xfa, 0x59, 0x47, 0xf0, 0xad, 0xd4, 0xa2, 0xaf, 0x9c, 0xa4, 0x72, 0xc0]
def aesSbox2 : List Nat := [0xb7, 0xfd, 0x93, 0x26, 0x36, 0x3f, 0xf7, 0xcc, 0x34, 0xa5, 0xe5, 0xf1, 0x71, 0xd8, 0x31, 0x15]
def aesSbox3 : List Nat := [0x04, 0xc7, 0x23, 0xc3, 0x18, 0x96, 0x05, 0x9a, 0x07, 0x12, 0x80, 0xe2, 0xeb, 0x27, 0xb2, 0x75]
def aesSbox4 : List Nat := [0x09, 0x83, 0x2c, 0x1a, 0x1b, 0x6e, 0x5a, 0xa0, 0x52, 0x3b, 0xd6, 0xb3, 0x29, 0xe3, 0x2f, 0x84]
def aesSbox5 : List Nat := [0x53, 0xd1, 0x00, 0xed, 0x20, 0xfc, 0xb1, 0x5b, 0x6a, 0xcb, 0xbe, 0x39, 0x4a, 0x4c, 0x58, 0xcf]
def aesSbox6 : List Nat := [0xd0, 0xef, 0xaa, 0xfb, 0x43, 0x4d, 0x33, 0x85, 0x45, 0xf9, 0x02, 0x7f, 0x50, 0x3c, 0x9f, 0xa8]
def aesSbox7 : List Nat := [0x51, 0xa3, 0x40, 0x8f, 0x92, 0x9d, 0x38, 0xf5, 0xbc, 0xb6, 0xda, 0x21, 0x10, 0xff, 0xf3, 0xd2]
def aesSbox8 : List Nat := [0xcd, 0x0c, 0x13, 0xec, 0x5f, 0x97, 0x44, 0x17, 0xc4, 0xa7, 0x7e, 0x3d, 0x64, 0x5d, 0x19, 0x73]
def aesSbox9 : List Nat := [0x60, 0x81, 0x4f, 0xdc, 0x22, 0x2a, 0x90, 0x88, 0x46, 0xee, 0xb8, 0x14, 0xde, 0x5e, 0x0b, 0xdb]
def aesSbox10 : List Nat := [0xe0, 0x32, 0x3a, 0x0a, 0x49, 0x06, 0x24, 0x5c, 0xc2, 0xd3, 0xac, 0x62, 0x91, 0x95, 0xe4, 0x79]
def aesSbox11 : List Nat := [0xe7, 0xc8, 0x37, 0x6d, 0x8d, 0xd5, 0x4e, 0xa9, 0x6c, 0x56, 0xf4, 0xea, 0x65, 0x7a, 0xae, 0x08]
def aesSbox12 : List Nat := [0xba, 0x78, 0x25, 0x2e, 0x1c, 0xa6, 0xb4, 0xc6, 0xe8, 0xdd, 0x74, 0x1f, 0x4b, 0xbd, 0x8b, 0x8a]
def aesSbox13 : List Nat := [0x70, 0x3e, 0xb5, 0x66, 0x48, 0x03, 0xf6, 0x0e, 0x61, 0x35, 0x57, 0xb9, 0x86, 0xc1, 0x1d, 0x9e]
def aesSbox14 : List Nat := [0xe1, 0xf8, 0x98, 0x11, 0x69, 0xd9, 0x8e, 0x94, 0x9b, 0x1e, 0x87, 0xe9, 0xce, 0x55, 0x28, 0xdf]
def aesSbox15 : List Nat := [0x8c, 0xa1, 0x89, 0x0d, 0xbf, 0xe6, 0x42, 0x68, 0x41, 0x99, 0x2d, 0x0f, 0xb0, 0x54, 0xbb, 0x16]
def aesSbox : List Nat := aesSbox0 ++ aesSbox1 ++ aesSbox2 ++ aesSbox3 ++ aesSbox4 ++ aesSbox5 ++ aesSbox6 ++ aesSbox7 ++ aesSbox8 ++ aesSbox9 ++ aesSbox10 ++ aesSbox11 ++ aesSbox12 ++ aesSbox13 ++ aesSbox14 ++ aesSbox15

/-- The round constants of SHA-384. -/
def shaK0 : List Nat := [0x428a2f98d728ae22, 0x7137449123ef65cd, 0xb5c0fbcfec4d3b2f, 0xe9b5dba58189dbbc, 0x3956c25bf348b538, 0x59f111f1b605d019, 0x923f82a4af194f9b, 0xab1c5ed5da6d8118]
def shaK1 : List Nat := [0xd807aa98a3030242, 0x12835b0145706fbe, 0x243185be4ee4b28c, 0x550c7dc3d5ffb4e2, 0x72be5d74f27b896f, 0x80deb1fe3b1696b1, 0x9bdc06a725c71235, 0xc19bf174cf692694]
def shaK2 : List Nat := [0xe49b69c19ef14ad2, 0xefbe4786384f25e3, 0x0fc19dc68b8cd5b5, 0x240ca1cc77ac9c65, 0x2de92c6f592b0275, 0x4a7484aa6ea6e483, 0x5cb0a9dcbd41fbd4, 0x76f988da831153b5]
def shaK3 : List Nat := [0x983e5152ee66dfab, 0xa831c66d2db43210, 0xb00327c898fb213f, 0xbf597fc7beef0ee4, 0xc6e00bf33da88fc2, 0xd5a79147930aa725, 0x06ca6351e003826f, 0x142929670a0e6e70]
def shaK4 : List Nat := [0x27b70a8546d22ffc, 0x2e1b21385c26c926, 0x4d2c6dfc5ac42aed, 0x53380d139d95b3df, 0x650a73548baf63de, 0x766a0abb3c77b2a8, 0x81c2c92e47edaee6, 0x92722c851482353b]
def shaK5 : List Nat := [0xa2bfe8a14cf10364, 0xa81a664bbc423001, 0xc24b8b70d0f89791, 0xc76c51a30654be30, 0xd192e819d6ef5218, 0xd69906245565a910, 0xf40e35855771202a, 0x106aa07032bbd1b8]
def shaK6 : List Nat := [0x19a4c116b8d2d0c8, 0x1e376c085141ab53, 0x2748774cdf8eeb99, 0x34b0bcb5e19b48a8, 0x391c0cb3c5c95a63, 0x4ed8aa4ae3418acb, 0x5b9cca4f7763e373, 0x682e6ff3d6b2b8a3]
def shaK7 : List Nat := [0x748f82ee5defb2fc, 0x78a5636f43172f60, 0x84c87814a1f0ab72, 0x8cc702081a6439ec, 0x90befffa23631e28, 0xa4506cebde82bde9, 0xbef9a3f7b2c67915, 0xc67178f2e372532b]
def shaK8 : List Nat := [0xca273eceea26619c, 0xd186b8c721c0c207, 0xeada7dd6cde0eb1e, 0xf57d4f7fee6ed178, 0x06f067aa72176fba, 0x0a637dc5a2c898a6, 0x113f9804bef90dae, 0x1b710b35131c471b]
def shaK9 : List Nat := [0x28db77f523047d84, 0x32caab7b40c72493, 0x3c9ebe0a15c9bebc, 0x431d67c49c100d4c, 0x4cc5d4becb3e42b6, 0x597f299cfc657e2a, 0x5fcb6fab3ad6faec, 0x6c44198c4a475817]
def shaK : List Nat := shaK0 ++ shaK1 ++ shaK2 ++ shaK3 ++ shaK4 ++ shaK5 ++ shaK6 ++ shaK7 ++ shaK8 ++ shaK9

/-- The initial hash value of SHA-384. -/
def shaH0 : List Nat := [0xcbbb9d5dc1059ed8, 0x629a292a367cd507, 0x9159015a3070dd17, 0x152fecd8f70e5939, 0x67332667ffc00b31, 0x8eb44a8768581511, 0xdb0c2e0d64f98fa7, 0x47b5481dbefa4fa4]
def shaH : List Nat := shaH0

def xorBytes (x y : List Nat) : List Nat := List.zipWith Nat.xor x y
def xtime (a : Nat) : Nat := if a ≥ 128 then Nat.xor (a * 2 % 256) 0x1b else a * 2
def sub8 (a : Nat) : Nat := aesSbox.getD a 0

/-! ### AES-128 (bytes in column order) -/

def subRot (w : List Nat) : List Nat := match w with
  | [x, y, z, u] => [sub8 y, sub8 z, sub8 u, sub8 x]
  | l => l

/-- The next round key from the last, with the round constant. -/
def nextKey (k : List Nat) (rc : Nat) : List Nat :=
  let w0 := k.take 4
  let w1 := bytesAt k 4 4
  let w2 := bytesAt k 8 4
  let w3 := bytesAt k 12 4
  let t := subRot w3
  let a0 := xorBytes (xorBytes w0 t) [rc, 0, 0, 0]
  let a1 := xorBytes w1 a0
  let a2 := xorBytes w2 a1
  a0 ++ a1 ++ a2 ++ xorBytes w3 a2

def shiftRows (s : List Nat) : List Nat :=
  [0, 5, 10, 15, 4, 9, 14, 3, 8, 13, 2, 7, 12, 1, 6, 11].map fun i => s.getD i 0

def mixCol (c : List Nat) : List Nat := match c with
  | [a, b, c, d] =>
    let t := Nat.xor (Nat.xor a b) (Nat.xor c d)
    let m := fun x y => Nat.xor x (Nat.xor t (xtime (Nat.xor x y)))
    [m a b, m b c, m c d, m d a]
  | l => l

def mixColumns (s : List Nat) : List Nat :=
  mixCol (s.take 4) ++ mixCol (bytesAt s 4 4) ++ mixCol (bytesAt s 8 4) ++ mixCol (bytesAt s 12 4)

def aesRounds : List Nat → List Nat → List Nat → List Nat
  | [], _, s => s
  | [rc], k, s => xorBytes (shiftRows (s.map sub8)) (nextKey k rc)
  | rc :: t, k, s =>
    let k' := nextKey k rc
    aesRounds t k' (xorBytes (mixColumns (shiftRows (s.map sub8))) k')

/-- AES-128 of one 16-byte block. -/
def aes128 (key block : List Nat) : List Nat :=
  aesRounds [0x01, 0x02, 0x04, 0x08, 0x10, 0x20, 0x40, 0x80, 0x1b, 0x36] key (xorBytes block key)

/-! ### CCM with L = 2 -/

def pad16 (l : List Nat) : List Nat := l ++ List.replicate ((16 - l.length % 16) % 16) 0

/-- CBC-MAC of whole blocks; `n` bounds their number. -/
def cbcMac (key : List Nat) : Nat → List Nat → List Nat → List Nat
  | 0, _, x => x
  | n + 1, l, x => if l = [] then x else cbcMac key n (l.drop 16) (aes128 key (xorBytes x (l.take 16)))

def ctrBlock (key nonce : List Nat) (i : Nat) : List Nat := aes128 key ([1] ++ nonce ++ toBe 2 i)

def ctrFrom (key nonce : List Nat) : Nat → Nat → List Nat → List Nat
  | 0, _, _ => []
  | n + 1, i, l => if l = [] then [] else
      xorBytes (l.take 16) (ctrBlock key nonce i) ++ ctrFrom key nonce n (i + 1) (l.drop 16)

/-- Encrypts or decrypts the payload in counter mode. -/
def ccmCrypt (key nonce payload : List Nat) : List Nat := ctrFrom key nonce payload.length 1 payload

/-- The 8-byte tag over the associated data and the plain payload. -/
def ccmTag (key nonce aad payload : List Nat) : List Nat :=
  let b0 := [(if aad = [] then 0 else 0x40) + 0x19] ++ nonce ++ toBe 2 payload.length
  let a := if aad = [] then [] else pad16 (toBe 2 aad.length ++ aad)
  let l := b0 ++ a ++ pad16 payload
  let t := cbcMac key l.length l (List.replicate 16 0)
  xorBytes (t.take 8) (ctrBlock key nonce 0)

/-- The 16-byte tag (M = 16) over the associated data and the plain payload (R453). -/
def ccmTag16 (key nonce aad payload : List Nat) : List Nat :=
  let b0 := [(if aad = [] then 0 else 0x40) + 0x39] ++ nonce ++ toBe 2 payload.length
  let a := if aad = [] then [] else pad16 (toBe 2 aad.length ++ aad)
  let l := b0 ++ a ++ pad16 payload
  xorBytes (cbcMac key l.length l (List.replicate 16 0)) (ctrBlock key nonce 0)

/-! ### SHA-384 -/

def w64 (n : Nat) : Nat := n % 2 ^ 64
def rotr64 (n k : Nat) : Nat := n / 2 ^ k + w64 (n * 2 ^ (64 - k))
def bigS (x a b c : Nat) : Nat := Nat.xor (rotr64 x a) (Nat.xor (rotr64 x b) (rotr64 x c))
def smallS (x a b c : Nat) : Nat := Nat.xor (rotr64 x a) (Nat.xor (rotr64 x b) (x / 2 ^ c))
def not64 (x : Nat) : Nat := 2 ^ 64 - 1 - x

/-- The message schedule, newest word first. -/
def shaSched : Nat → List Nat → List Nat
  | 0, w => w
  | n + 1, w =>
    shaSched n (w64 (smallS (w.getD 1 0) 19 61 6 + w.getD 6 0 + smallS (w.getD 14 0) 1 8 7 + w.getD 15 0) :: w)

def shaRound (h : List Nat) (kw : Nat × Nat) : List Nat := match h with
  | [a, b, c, d, e, f, g, hh] =>
    let ch := Nat.xor (Nat.land e f) (Nat.land (not64 e) g)
    let t1 := w64 (hh + bigS e 14 18 41 + ch + kw.1 + kw.2)
    let maj := Nat.xor (Nat.land a b) (Nat.xor (Nat.land a c) (Nat.land b c))
    let t2 := w64 (bigS a 28 34 39 + maj)
    [w64 (t1 + t2), a, b, c, w64 (d + t1), e, f, g]
  | l => l

def shaBlock (h block : List Nat) : List Nat :=
  let w := ((List.range 16).map fun i => beNat (bytesAt block (8 * i) 8)).reverse
  let ws := (shaSched 64 w).reverse
  let r := (shaK.zip ws).foldl shaRound h
  List.zipWith (fun x y => w64 (x + y)) h r

def shaBlocks : Nat → List Nat → List Nat → List Nat
  | 0, _, h => h
  | n + 1, l, h => if l = [] then h else shaBlocks n (l.drop 128) (shaBlock h (l.take 128))

/-- SHA-384 of bytes: 48 bytes. -/
def sha384 (l : List Nat) : List Nat :=
  let z := (128 - (l.length + 17) % 128) % 128
  let m := l ++ [0x80] ++ List.replicate z 0 ++ toBe 16 (8 * l.length)
  ((shaBlocks (m.length / 128 + 1) m shaH).take 6).flatMap (toBe 8)

/-! ### ECDSA over P-384 -/

def pP : Nat := 2 ^ 384 - 2 ^ 128 - 2 ^ 96 + 2 ^ 32 - 1
def pN : Nat := 0xffffffffffffffffffffffffffffffffffffffffffffffffc7634d81f4372ddf581a0db248b0a77aecec196accc52973
def pB : Nat := 0xb3312fa7e23ee7e4988e056be3f82d19181d9c6efe8141120314088f5013875ac656398d8a2ed19d2a85c8edd3ec2aef
def pGx : Nat := 0xaa87ca22be8b05378eb1c71ef320ad746e1d3b628ba79b9859f741e082542a385502f25dbf55296c3a545e3872760ab7
def pGy : Nat := 0x3617de4a96262c6f5d9e98bf9292dc29f8f41dbd289a147ce9da3113b5f0b8c00a60b1ce1d7e819d7a431d7c90ea0e5f

/-- x^e mod m, over the lowest `n` bits of `e`. -/
def powMod (m : Nat) : Nat → Nat → Nat → Nat
  | 0, _, _ => 1 % m
  | n + 1, x, e =>
    let r := powMod m n (x * x % m) (e / 2)
    if e % 2 = 1 then r * x % m else r
def invMod (m x : Nat) : Nat := powMod m 384 (x % m) (m - 2)
def subMod (m x y : Nat) : Nat := (x + (m - y % m)) % m

/-- Addition on the curve; `none` is the point at infinity. -/
def ecAdd (p q : Option (Nat × Nat)) : Option (Nat × Nat) := match p, q with
  | none, q => q
  | p, none => p
  | some (x1, y1), some (x2, y2) =>
    if x1 = x2 ∧ (y1 + y2) % pP = 0 then none else
    let l := if x1 = x2 then (3 * x1 * x1 + (pP - 3)) * invMod pP (2 * y1) % pP
      else subMod pP y2 y1 * invMod pP (subMod pP x2 x1) % pP
    let x3 := subMod pP (l * l) (x1 + x2)
    some (x3, subMod pP (l * subMod pP x1 x3) y1)

def ecMul : Nat → Nat → Option (Nat × Nat) → Option (Nat × Nat)
  | 0, _, _ => none
  | n + 1, k, p =>
    let r := ecMul n (k / 2) (ecAdd p p)
    if k % 2 = 1 then ecAdd p r else r

/-- The key is a point of the curve. -/
def ecOn (q : Nat × Nat) : Bool :=
  decide (q.1 < pP) && decide (q.2 < pP) &&
  decide (q.2 * q.2 % pP = (q.1 * q.1 * q.1 + (pP - 3) * q.1 + pB) % pP)

/-- ECDSA P-384 with SHA-384: whether (r, s) signs the message under the public key. -/
def ecdsaOk (pub : Nat × Nat) (msg : List Nat) (r s : Nat) : Bool :=
  if r = 0 ∨ s = 0 ∨ pN ≤ r ∨ pN ≤ s ∨ !ecOn pub then false else
  let e := beNat (sha384 msg)
  let w := invMod pN s
  match ecAdd (ecMul 384 (e * w % pN) (some (pGx, pGy))) (ecMul 384 (r * w % pN) (some pub)) with
  | none => false
  | some (x, _) => decide (x % pN = r)

/-- The signature bytes: r then s, 48 bytes each, big-endian. -/
def sigOk (pub : Nat × Nat) (msg sig : List Nat) : Bool :=
  ecdsaOk pub msg (beNat (sig.take 48)) (beNat (bytesAt sig 48 48))

end Sys2Proof.Machine
end

