-- ==== Sys2Proof/Machine/Crc.lean ====
section
/-! DEFINITION. Machine/Crc.lean: the check codes of R598. -/

namespace Sys2Proof.Machine

/-- One bit step of the CRC-16 with polynomial 0x1021, most significant bit first. -/
def crc16Step (c : Nat) : Nat := if c / 0x8000 % 2 = 1 then Nat.xor (c * 2 % 0x10000) 0x1021 else c * 2 % 0x10000

/-- `f` applied `n` times. -/
def times {α : Type} (f : α → α) : Nat → α → α
  | 0, x => x
  | n + 1, x => times f n (f x)

/-- CRC-16 of R598: initial value 0xFFFF, not reflected, no final XOR. -/
def crc16 (l : List Nat) : Nat := l.foldl (fun c x => times crc16Step 8 (Nat.xor c (x % 256 * 256))) 0xFFFF

/-- One bit step of the reflected CRC-32. -/
def crc32Step (c : Nat) : Nat := if c % 2 = 1 then Nat.xor (c / 2) 0xEDB88320 else c / 2

/-- CRC-32 of R598 with the conventions of IEEE 802.3. -/
def crc32 (l : List Nat) : Nat :=
  Nat.xor (l.foldl (fun c x => times crc32Step 8 (Nat.xor c (x % 256))) 0xFFFFFFFF) 0xFFFFFFFF

end Sys2Proof.Machine
end

