-- ==== Sys2Proof/Machine/ShalanOps.lean ====
section
/-! DEFINITION. Machine/ShalanOps.lean: Shalan messages and their delivery (R477 to R480, R491 to R495): headers, associations, the
window of 8 requests, the send queues, and what goes to the collector and to subscribed hosts. -/

namespace Sys2Proof.Machine

/-! ### Messages -/

/-- A message with the header of R477. -/
def shMsg (type seq src dst flags status index : Nat) (p : List Nat) : List Nat :=
  [1, type] ++ toBe 2 p.length ++ toBe 4 seq ++ toBe 2 src ++ toBe 2 dst ++ [flags, status] ++ toBe 2 index ++ p

/-- The message with another SEQ. -/
def withSeq (seq : Nat) (m : List Nat) : List Nat := m.take 4 ++ toBe 4 seq ++ m.drop 8

def msgType (m : List Nat) : Nat := u8 m 1
def msgSeq (m : List Nat) : Nat := b32 m 4
def msgSrc (m : List Nat) : Nat := b16 m 8
def msgDst (m : List Nat) : Nat := b16 m 10
def msgFlags (m : List Nat) : Nat := u8 m 12
def msgStatus (m : List Nat) : Nat := u8 m 13
def msgIndex (m : List Nat) : Nat := b16 m 14
def msgBody (m : List Nat) : List Nat := m.drop 16

/-! ### Roles (R19, R471) -/

def ownRole (b : Body) : Nat := u8 (sectD b sHIERARCHY) 1
def mgrMod (b : Body) : Nat := match sect b sHIERARCHY with
  | some h => u16 h 4
  | none => 0xFFFF
/-- The modules this one manages: every MOD that HIERARCHY lists. One outside the set that R21 gives the role is managed all the
same, as no check or error is stated for it (DESIGN CHOICE, log entry 94). -/
def managedMods (b : Body) : List Nat :=
  let h := sectD b sHIERARCHY
  (List.range (u16 h 40)).map fun k => u16 h (44 + 20 * k)

/-! ### Associations -/

def assocOf (b : Body) (id : Nat) : Option Assoc := b.sha.assocs.find? fun a => decide (a.id = id)
def setAssoc (a : Assoc) (b : Body) : Body :=
  { b with sha := { b.sha with assocs := b.sha.assocs.map fun x => if x.id = a.id then a else x } }
def dropAssoc (id : Nat) (b : Body) : Body :=
  { b with sha := { b.sha with assocs := b.sha.assocs.filter fun a => decide (a.id ≠ id) } }
/-- A host session (R472). -/
def isHost (id : Nat) : Bool := decide (id ≥ 0x10000)
/-- The MOD a message to an association names: a host's is 0xFFFF (R477). -/
def peerMod (id : Nat) : Nat := if isHost id then 0xFFFF else id

/-- The runtime serves Shalan: the application cores run, on a locked clock, and no activation stopped the work (R518). -/
def coresServe (b : Body) : Bool :=
  (decide (b.power = .run) || decide (b.power = .hem)) && !b.upd.coresDown && b.flag SYS.CLK_STAT.CCLK_LOCK && !b.upd.stopped

def queueFor (b : Body) (id : Nat) : List ShalReq := tabGet (fun _ => ([] : List ShalReq)) b.sha.relayQ id
def setQueueFor (id : Nat) (l : List ShalReq) (b : Body) : Body :=
  { b with sha := { b.sha with relayQ := tabSet (fun _ => []) b.sha.relayQ id l } }

/-- A record came or goes on an association: it is not idle (R473). -/
def recordOn (id : Nat) (b : Body) : Body := match assocOf b id with
  | some a => setAssoc { a with lastAt := b.clock.cyc } b
  | none => b

/-- A message leaves on an association: one more record, and after 2^24 of them a KeyUpdate (R473). -/
def shEmit (id : Nat) (m : List Nat) (b : Body) : Body :=
  let b := match assocOf b id with
    | some a =>
      let a := { a with lastAt := b.clock.cyc }
      setAssoc (if a.records + 1 = 2 ^ 24 then { a with records := 0, keys := a.keys + 1 } else { a with records := a.records + 1 }) b
    | none => b
  b.emit (.shalan id m)

/-- An answer goes out and is kept with the last 64 (R479, R480). -/
def shReply (id : Nat) (seq : Nat) (m : List Nat) (b : Body) : Body :=
  let b := match assocOf b id with
    | some x => setAssoc { x with kept := (x.kept ++ [(seq, m)]).drop (x.kept.length + 1 - 64) } b
    | none => b
  shEmit id m b

/-- A request with a SEQ already answered gets the kept answer once more, and one below all 64 kept is discarded (R480). -/
def shOnce (id seq : Nat) (f : Body → Body) (b : Body) : Body := match assocOf b id with
  | none => f b
  | some a => match a.kept.find? fun k => decide (k.1 = seq) with
    | some k => shEmit id k.2 b
    | none => if a.kept.length ≥ 64 ∧ a.kept.all (fun k => decide (seq < k.1)) then b else f b

/-- Sends waiting requests of an association while fewer than 8 are unanswered (R495). -/
def pumpN : Nat → Nat → Body → Body
  | 0, _, b => b
  | n + 1, id, b => match assocOf b id, queueFor b id with
    | some a, r :: t =>
      if a.sent.length ≥ 8 ∨ !coresServe b then b else
      let r := { r with seq := a.nextSeq, msg := withSeq a.nextSeq r.msg, sends := 1, at_ := b.clock.cyc }
      let next := if a.nextSeq = 0xFFFFFFFF then 1 else a.nextSeq + 1
      let b := setAssoc { a with sent := a.sent ++ [r], nextSeq := next } (setQueueFor id t b)
      pumpN n id (shEmit id r.msg b)
    | _, _ => b

def pump (id : Nat) (b : Body) : Body := pumpN 8 id b

/-- A request joins the queue of its association. `origin` is the request it relays for. -/
def shAsk (id : Nat) (msg : List Nat) (origin : Option (Nat × Nat)) (b : Body) : Body :=
  pump id (setQueueFor id (queueFor b id ++ [{ seq := 0, msg := msg, sends := 0, at_ := 0, origin := origin }]) b)

/-- A request of the module's own to an association. -/
def shRequest (id type : Nat) (p : List Nat) (b : Body) : Body :=
  shAsk id (shMsg type 0 (modNo b) (peerMod id) 0 0 0 p) none b

/-! ### Collection (R491, R492) -/

/-- The collector's association: the manager's; the root has none. -/
def collector (b : Body) : Option Nat := if mgrMod b = 0xFFFF then none else some (mgrMod b)

/-- The host sessions subscribed to a bit of R492; a non-secure session only to what is non-secure (R575). Managers and the
root send the copies. -/
def subscribers (b : Body) (bit : Nat) (ns : Bool) : List Nat :=
  if ownRole b = 0 then [] else
  (b.sha.assocs.filter fun a => isHost a.id && decide (bits a.sub bit 1 = 1) && (a.secure || ns)).map (·.id)

/-- A message goes to the collector and, as copies, to subscribed hosts. -/
def shCollect (type bit : Nat) (ns : Bool) (p : List Nat) (b : Body) : Body :=
  let b := match collector b with
    | some id => shRequest id type p b
    | none => b
  b.each (subscribers b bit ns) fun b id => shRequest id type p b

/-- The EVENT of an error (R487, R575). -/
def shEvent (sev code a0 a1 : Nat) (ns : Bool) (b : Body) : Body :=
  shCollect 0x08 5 ns ([0xFF, sev] ++ toBe 2 code ++ [0, 0, 0, 0] ++ toBe 4 a0 ++ toBe 4 a1) b

end Sys2Proof.Machine
end

