-- ==== Sys2Proof/Machine/Errors.lean ====
section
/-! DEFINITION. Machine/Errors.lean: who acts and runs (R26, R143), black-box records (R580 to R582), the errors of R570 and the slots
of the error manager (R572), and the slices that give way to work (R566, R567), each once. -/

namespace Sys2Proof.Machine

/-- In hem (R577). -/
def inHem (b : Body) : Bool := b.flag SAFE.STAT.HEM
/-- The emergency is active (R191). -/
def emergency (b : Body) : Bool := b.flag CE.STAT.EMERG_ACTIVE
/-- The module acts on its segment: it runs alone or holds the lease (R26, R440), and it is enrolled (R528). -/
def acting (b : Body) : Bool := decide (b.get SEAM.STAT.ROLE ≥ 2) && decide (b.get UPD.STAT.ENROL = 1)
/-- A runtime runs on the application cores: they were booted and it has reported ready (R512, R518). -/
def appsRun (b : Body) : Bool := !b.upd.coresDown && b.upd.readyBy.isNone

/-- The Loom, CE and OFE run rules in every member of a pair but the standby (R143, R456). -/
def runsRules (b : Body) : Bool := decide (b.get SEAM.STAT.ROLE ≠ 1)
/-- A pattern is in force (R93). -/
def loaded (b : Body) : Bool := b.pat.run.isSome
/-- Tile `t` is non-secure (R126). -/
def tileNs (b : Body) (t : Nat) : Bool :=
  if t < 32 then !b.bit SYS.WORLD_TILE_LO.TILE t else !b.bit SYS.WORLD_TILE_HI.TILE (t - 32)
def ceNs (b : Body) : Bool := !b.flag SYS.WORLD_BLK.CE
def ofeNs (b : Body) : Bool := !b.flag SYS.WORLD_BLK.OFE
def gioNs (b : Body) : Bool := !b.flag SYS.WORLD_BLK.GIO

/-! ### Black box -/

/-- Free entries of the 64-entry write queue (R582). -/
def bbFree (b : Body) : Nat := 64 - b.safe.bbQ.length

/-- A waiting record with this code and arguments takes one more REPEAT (R582). -/
def bbMerge (code a0 a1 : Nat) : List BbRec → List BbRec
  | [] => []
  | r :: t =>
    if r.code = code ∧ r.arg0 = a0 ∧ r.arg1 = a1 then { r with rep := min 255 (r.rep + 1) } :: t
    else r :: bbMerge code a0 a1 t

/-- A black-box record is offered (R580, R582): merged with an equal waiting one, admitted, or counted in SAFE.BB_LOST.
`need` is how many entries must be free: 16 for a RECORD, 1 for an error. `b6` and `ns` fill bytes 6 and 7. -/
def bbOffer (need code b6 : Nat) (ns : Bool) (a0 a1 : Nat) (b : Body) : Body × Option Nat :=
  match b.safe.bbQ.find? fun r => decide (r.code = code ∧ r.arg0 = a0 ∧ r.arg1 = a1) with
  | some r => ({ b with safe := { b.safe with bbQ := bbMerge code a0 a1 b.safe.bbQ } }, some r.seq)
  | none =>
    if need ≤ bbFree b then
      let b7 := (if rtcv b then 1 else 0) + (if ntv b || rtcv b then 0 else 2) + (if ns then 4 else 0) +
        (if inHem b then 8 else 0)
      let seq := b.nv.bbNext
      let r : BbRec := { seq := seq, code := code, b6 := b6, b7 := b7, time := airTime b % 2 ^ 64, arg0 := a0 % 2 ^ 32,
                         arg1 := a1 % 2 ^ 32, boot := b.nv.boot % 65536, rep := 0 }
      ({ b with safe := { b.safe with bbQ := b.safe.bbQ ++ [r] },
                nv := { b.nv with bbNext := (seq + 1) % 2 ^ 32 } }, some seq)
    else
      let b := b.bump SAFE.BB_LOST.COUNT
      ({ b with safe := { b.safe with bbLostDue := b.safe.bbLostDue + 1 } }, none)

/-- A RECORD of R570: black box only. -/
def record (code a0 a1 : Nat) (b : Body) : Body := (bbOffer 16 code 0 false a0 a1 b).1

/-- A RECORD without a code of its own: block index × 256 + 0x80 (R570). -/
def blockRecord (block a0 a1 : Nat) (b : Body) : Body := record (block * 256 + 0x80) a0 a1 b

/-- The 32 bytes of a record as MRAM holds them (R580). -/
def BbRec.bytes (r : BbRec) : List Nat :=
  let body := toLe 4 r.seq ++ toLe 2 r.code ++ [r.b6 % 256, r.b7 % 256] ++ toLe 8 r.time ++ toLe 4 r.arg0 ++
    toLe 4 r.arg1 ++ toLe 2 r.boot ++ [r.rep % 256, 0]
  body ++ toLe 4 (crc32 body)

/-! ### Errors (R570) -/

/-- Severity by code; SLICE_FAIL by its slice (R565); MEMI_UE by its region is given by its caller (R419). -/
def severityOf (code a0 : Nat) : Nat :=
  if code = 0x0D01 then (if a0 ≤ 3 then 3 else 2)
  else if code ∈ [0x0015, 0x0601, 0x0602, 0x0801, 0x0A03, 0x0A05, 0x0B01, 0x0B05, 0x0C01, 0x0D06, 0x0D07] then 1
  else if code ∈ [0x0011, 0x0012, 0x0D02, 0x0D03, 0x0D04, 0x0D05, 0x0D08] then 3
  else if code ∈ [0x0021, 0x0622] then 0
  else 2

/-- The hem kind of a fatal code: true for silent (R570, R565). -/
def silentOf (code a0 : Nat) : Bool :=
  decide (code ∈ [0x0011, 0x0012, 0x0D02, 0x0D03, 0x0D05]) || (decide (code = 0x0D01) && decide (a0 ∈ [0, 1, 3]))

/-- Whether an error's world is NS when it is raised (R570). -/
def errorNs (code a0 : Nat) (b : Body) : Bool :=
  if code ∈ [0x0601, 0x0602, 0x0603] then tileNs b a0
  else if code = 0x0801 then ofeNs b
  else if code ∈ [0x0A05, 0x0A06] then gioNs b
  else false

/-! ### The error manager -/

/-- Fills slot `s` of the error manager. -/
def setSlot (s code sev : Nat) (ns pre : Bool) (a0 a1 seq : Nat) (b : Body) : Body :=
  let b := b.put SAFE.ERR.word (code + sev * 2 ^ 16 + (if ns then 2 ^ 18 else 0) + (if pre then 2 ^ 30 else 0) + 2 ^ 31) s
  ((b.put SAFE.ERR_ARG0.VALUE a0 s).put SAFE.ERR_ARG1.VALUE a1 s).put SAFE.ERR_SEQ.VALUE seq s

/-- Copies slot `s` to slot `d`. -/
def copySlot (s d : Nat) (b : Body) : Body :=
  (((b.put SAFE.ERR.word (b.get SAFE.ERR.word s) d).put SAFE.ERR_ARG0.VALUE (b.get SAFE.ERR_ARG0.VALUE s) d).put
    SAFE.ERR_ARG1.VALUE (b.get SAFE.ERR_ARG1.VALUE s) d).put SAFE.ERR_SEQ.VALUE (b.get SAFE.ERR_SEQ.VALUE s) d

/-- Empties slot `s`. -/
def clearSlot (s : Nat) (b : Body) : Body :=
  (((b.put SAFE.ERR.word 0 s).put SAFE.ERR_ARG0.VALUE 0 s).put SAFE.ERR_ARG1.VALUE 0 s).put SAFE.ERR_SEQ.VALUE 0 s

/-- An error of severity 1 to 3 is placed in the slots (R572), recorded (R580, R582) and told to hosts (R575). The SEQ of a record
the black box could not admit is open. -/
def placeError (code sev a0 a1 : Nat) (b : Body) : Body :=
  let ns := errorNs code a0 b
  let pHeld := b.flag SAFE.ERR.VALID 0
  let sHeld := b.flag SAFE.ERR.VALID 1
  let pre := pHeld && !sHeld && decide (sev > b.get SAFE.ERR.SEV 0)
  let prim := !pHeld || pre
  let ovf := pHeld && sHeld
  let b6 := sev + (if prim then 4 else 0) + (if pre then 8 else 0) + (if ovf then 16 else 0)
  let (b, seq?) := bbOffer 1 code b6 ns a0 a1 b
  let (seq, b) := match seq? with
    | some s => (s, b)
    | none => b.freeWord
  let b :=
    if !pHeld then
      let b := setSlot 0 code sev ns false a0 a1 seq b
      { b with safe := { b.safe with primaryAt := b.clock.cyc } }
    else if pre then
      let b := setSlot 0 code sev ns true a0 a1 seq (copySlot 0 1 b)
      { b with safe := { b.safe with primaryAt := b.clock.cyc } }
    else if !sHeld then setSlot 1 code sev ns false a0 a1 seq b
    else b.bump SAFE.ERR_OVF.COUNT
  shEvent sev code a0 a1 ns b

/-! ### Slices -/

/-- After 16 aborts in a row slice `k` is starved (R567). -/
def sliceStarved (k : Nat) (b : Body) : Body :=
  if b.get SAFE.SLICE.ABORTS k = 16 then placeError 0x0D06 1 k 0 b else b

/-- Work for the target of slice `k` arrives: a slice that runs stops in the same cycle, is marked ABORTED, and counts one abort
(R566, R567). -/
def sliceYield (k : Nat) (b : Body) : Body :=
  if b.flag SAFE.SLICE.RUNNING k then
    sliceStarved k (((b.mark SAFE.SLICE.RUNNING false k).put SAFE.SLICE.LAST 3 k).bump SAFE.SLICE.ABORTS 1 k)
  else b

end Sys2Proof.Machine
end

