-- ==== Sys2Proof/Machine/Levels.lean ====
section
/-! DEFINITION. Machine/Levels.lean: a channel's state beside its registers, the composition of its level (R166), and asking
for compositions (R167). -/

namespace Sys2Proof.Machine

/-- A takeover is in progress: from its first ACQUIRE until its test ends (R460). -/
def takeover (b : Body) : Bool := b.seam.test.isSome || b.seam.slicesHeld

def Chan.init : Chan :=
  { laExp := 0, ovrEnd := none, dlI := 65536, dlRem := 0, repAt := none, luxAt := none, verAt := none, temp := none, tempAt := 0, hot := false,
    cctMeas := none, cctAt := 0, sent := none, planned := 0, phaseDue := false, stretchAt := none }
def chanOf (b : Body) (n : Nat) : Chan := tabGet (fun _ => Chan.init) b.ce.chans n
def setChan (b : Body) (n : Nat) (c : Chan) : Body :=
  { b with ce := { b.ce with chans := tabSet (fun _ => Chan.init) b.ce.chans n c } }
def ruleLvl (b : Body) (n : Nat) : Nat := b.get CE.LVL_TGT.RULE_LVL n
def lvlOut (b : Body) (n : Nat) : Nat := b.get CE.OUT.LVL_OUT n
def laLvl (b : Body) (n : Nat) : Nat := b.get CE.OUT.LA_LVL n
def overridden (b : Body) (n : Nat) : Bool := b.flag CE.CH_STAT.OVR n

/-- round16 of R166. -/
def round16 (x : Nat) : Nat := (x + 32768) / 65536

def emergMember (b : Body) (n : Nat) : Bool := b.flag CE.SAFE_CFG.EMERGENCY n
def derate (b : Body) (n : Nat) : Nat := b.get CE.DERATE.FACTOR n

/-- The level before the budget, derating and floor, and its source (R166, R169). -/
def preBudget (b : Body) (n : Nat) : Nat × Nat :=
  if emergency b && emergMember b n then (b.get CE.SAFE.EMERG_LVL n, 1)
  else if inHem b then (b.get CE.SAFE.HEM_LVL n, 2)
  else if overridden b n then (b.get CE.OVR.OVERRIDE_LVL n, 3)
  else
    let l := max (ruleLvl b n) (laLvl b n)
    (if luxSet b n ≠ 0 then round16 (l * b.get CE.DL.DL_FACTOR n) else l, if laLvl b n > ruleLvl b n then 5 else 4)

/-- budget_scale of R166. -/
def budgetScale (factor l f : Nat) : Nat := if l ≤ f then l else f + round16 ((l - f) * factor)

/-- compose(n) of R166: the level and the source. -/
def compose (b : Body) (n : Nat) : Nat × Nat :=
  let d := derate b n
  let (l, src) := preBudget b n
  let bf := b.get CE.BUDGET.FACTOR n
  if src ≤ 2 then (round16 (l * d), src)
  else if src = 3 then (round16 (budgetScale bf l 0 * d), src)
  else
    let fl := b.get CE.CCT_FLR.RULE_FLOOR n
    (max (round16 (budgetScale bf l fl * d)) (round16 (fl * d)), src)

/-- The CCT sent: CCT_OUT for a colour-capable node with RULE_CCT above 0, else 0 (R165, R184). -/
def cctSent (b : Body) (n : Nat) : Nat :=
  let r := b.get CE.CCT_FLR.RULE_CCT n
  if r = 0 ∨ b.get CE.NODE_CAP.SENSE n % 2 = 0 then 0
  else (clampI ((r : Int) + sgn 16 (b.get CE.COLOUR.TRIM n)) 1000 20000).toNat

/-! ### Asking for compositions (R167) -/

/-- A job composes anew: all but a refresh and a STRETCH do. -/
def Job.composes (j : Job) : Bool := decide (j.why ≠ .refresh ∧ j.why ≠ .stretch)

/-- The cause of a change that several waiting inputs ask for together: for source 5 the light-ahead request whose LEVEL stands,
for another the last input that is no light-ahead request; a loop is the cause of what nothing else asks for (R171 to R173). -/
def causeOf (b : Body) (n src : Nat) (ws : List Why) : Why :=
  let ins := ws.filter (· ≠ .loop)
  let aheads := ins.filter fun w => match w with
    | .ahead _ _ => true
    | _ => false
  let standing := aheads.find? fun w => match w with
    | .ahead _ l => decide (l = laLvl b n)
    | _ => false
  if src = 5 ∧ aheads ≠ [] then standing.getD (aheads.getLastD .loop)
  else (ins.filter fun w => !aheads.contains w).getLastD (ins.getLastD .loop)

/-- The fade (ms, curve) of a change (R171, R173). A channel refreshed at the emergency's edge and in hem is sent a fade of 0 ms,
a member of the emergency or not (DESIGN CHOICE, log entry 30). -/
def fadeOf (b : Body) (n src : Nat) (w : Why) : Nat × Nat :=
  if src ≤ 2 then (0, 0) else match w with
  | .rule => fadePreset b (b.get CE.LVL_TGT.RULE_PRESET n)
  | .preset p => fadePreset b p
  | .laEnd => fadePreset b (b.get CE.TIMING.LA_PRESET)
  | .ahead eta _ =>
    let p := fadePreset b (b.get CE.TIMING.LA_PRESET)
    (min p.1 (eta - 2 * stitchNs b / 1000000), p.2)
  | .loop => (boltNs b / 1000000, 0)
  | .safe => (0, 0)
  | .release => fadePreset b (b.get CE.LVL_TGT.RULE_PRESET n)
  | .refresh => match (chanOf b n).sent with
    | some x => (x.fadeMs, x.curve)
    | none => fadePreset b (b.get CE.LVL_TGT.RULE_PRESET n)
  | .stretch => (0, 0)

/-- Channel `n`'s composition starts for the causes `ws`: what stands at its inputs now, and the preset in force for it. -/
def took (b : Body) (n : Nat) (ws : List Why) : Took :=
  let (l, s) := compose b n
  let w := causeOf b n s ws
  let f := fadeOf b n s w
  ⟨n, l, s, cctSent b n, w, f.1, f.2⟩

/-- A composition of channel `n` runs. -/
def composing (b : Body) (n : Nat) : Bool := b.ce.jobs.any fun j => j.composes && j.chans.contains n

/-- A composition is asked for. It starts at once for each channel of which none runs (R167, R168). -/
def ask (ns : List Nat) (w : Why) (g : Option Nat) (b : Body) : Body :=
  let b := sliceYield 1 b
  let got := if w = .refresh ∨ w = .stretch then []
    else (ns.filter fun n => decide (n < chanCnt b) && !composing b n).map fun n => took b n [w]
  { b with ce := { b.ce with jobs := b.ce.jobs ++ [⟨ns, w, g, got⟩] } }

/-- Every channel is asked for, each on its own. -/
def askAll (w : Why) (b : Body) : Body := b.each (List.range (chanCnt b)) fun b n => ask [n] w none b

/-- The next composition of channel `n` starts, with the inputs that arrived during the last one: it takes them together, with
the fade that the input whose level stands names. A loop's gives way to one asked for by an input, which then carries the loop's
change too (R167, R171, R175). -/
def startNext (b : Body) (n : Nat) : List Job → List Job
  | [] => []
  | j :: t =>
    if !j.composes || !j.chans.contains n then j :: startNext b n t
    else if j.why = .loop ∧ t.any (fun k => k.composes && k.chans.contains n && decide (k.why ≠ .loop)) then
      { j with chans := j.chans.filter (· ≠ n) } :: startNext b n t
    else
      let more := t.filter fun k => k.composes && k.chans.contains n
      { j with got := j.got ++ [took b n (j.why :: more.map (·.why))] } :: t

end Sys2Proof.Machine
end

