-- ==== Sys2Proof/Machine/Flags.lean ====
section
/-! DEFINITION. Machine/Flags.lean: the entry into hem of R577 and R578 with what it moves, and raising an error of any severity
(R570, R573, R575), each once. -/

namespace Sys2Proof.Machine

/-! ### Relays and the slot-state word, which hem writes -/

/-- A relay takes a position at once (R544): its contact, its change instant, no held request. -/
def relayNow (k : Nat) (v : Bool) (b : Body) : Body :=
  let same := decide (b.bit GIO.REL_STAT.STATE k = v)
  let b := b.setBit GIO.REL_STAT.HELD k false
  let b := { b with gio := { b.gio with relHeld := b.gio.relHeld.filter fun p => decide (p.1 ≠ k) } }
  if same then b else
    let b := b.setBit GIO.REL_STAT.STATE k v
    { b with gio := { b.gio with relAt := tabSet (fun _ => none) b.gio.relAt k (some b.clock.cyc) } }

/-- The relays in hem (R543, R578): HEM_POS for every SOURCE but 2, in a module that acts and has a pattern. -/
def relaysHem (b : Body) : Body :=
  if acting b && loaded b then
    b.each [0, 1, 2, 3] fun b k =>
      if b.get GIO.REL_CFG.SOURCE k = 2 then b else relayNow k (b.flag GIO.REL_CFG.HEM_POS k) b
  else b

/-- Writes the slot-state word of R511, GEN rising by 1. STATE: 0 CONFIRMED, 1 TRIAL, 2 FELL_BACK. -/
def writeSlotWord (active state trials : Nat) (b : Body) : Body :=
  let gen := (b.get UPD.SLOT_WORD_LO.WORD / 2 ^ 16 + 1) % 2 ^ 16
  let lo := active % 2 + state % 4 * 4 + trials % 16 * 16 + gen * 2 ^ 16
  let b := b.put UPD.SLOT_WORD_LO.WORD lo
  let b := b.put UPD.SLOT_WORD_HI.WORD (crc16 (toLe 4 lo) + 0x4B53 * 2 ^ 16)
  (b.put UPD.STAT.STATE state).put UPD.STAT.TRIALS trials

/-- The fallback word of R521, when the image is on trial: the old slot is the one that the slot-state word does not name. -/
def fallbackWord (b : Body) : Body :=
  if b.get UPD.STAT.STATE = 1 then (writeSlotWord (1 - b.get UPD.SLOT_WORD_LO.WORD % 2) 2 0 b).mark UPD.STAT.FELL_BACK true else b

/-! ### Tiles at hem -/

def Tile.empty : Tile := { fifo := [], act := none, timers := [], dropSeen := false, writes := [] }
def tileOf (b : Body) (t : Nat) : Tile := tabGet (fun _ => Tile.empty) b.loom.tiles t
def setTile (b : Body) (t : Nat) (x : Tile) : Body :=
  { b with loom := { b.loom with tiles := tabSet (fun _ => Tile.empty) b.loom.tiles t x } }
def SchedSt.free : SchedSt := { owner := .free, next := 0 }
def schedOf (b : Body) (e : Nat) : SchedSt := tabGet (fun _ => SchedSt.free) b.loom.sched e
def setSched (b : Body) (e : Nat) (x : SchedSt) : Body :=
  { b with loom := { b.loom with sched := tabSet (fun _ => SchedSt.free) b.loom.sched e x } }

/-- Host data writes held back during an activation take effect at its end. -/
def applyWrites (t : Nat) (b : Body) : Body :=
  let ws := (tileOf b t).writes
  let b := b.each ws fun b w => b.put LOOM.DATA.WORD w.2 (t % 64) (w.1 % 1024)
  setTile b t { tileOf b t with writes := [] }

/-- An activation ends and its buffer is discarded: entries its SARMs reserved are free again (R158). -/
def dropAct (t : Nat) (b : Body) : Body :=
  match (tileOf b t).act with
  | none => b
  | some a =>
    let b := b.each a.buf fun b o => match o with
      | .arm e => setSched b e SchedSt.free
      | _ => b
    applyWrites t (setTile b t { tileOf b t with act := none })

/-- The twin is heard and reports GOOD (R458, R459). -/
def twinGood (b : Body) : Bool := b.seam.peer.isSome && b.flag SEAM.STAT.SEAM_UP && decide (b.get SEAM.PEER_HEALTH.CLASS = 0)

/-- A hand-over is armed for the first bolt boundary at least 100 ms ahead (R458). -/
def armHand (back : Bool) (b : Body) : Body :=
  { (b.mark SEAM.CTL.HANDOVER true).mark SEAM.STAT.HO_ARMED true with
    seam := { b.seam with hand := some ⟨boltAfter b 100, false, false, back⟩ } }

/-- A holder in hem whose twin reports GOOD arms a hand-over (R459). -/
def hemHand (b : Body) : Body :=
  if inHem b && decide (b.get SEAM.STAT.ROLE = 2) && twinGood b && b.seam.hand.isNone then armHand false b else b

/-- Entry into hem (R577, R578), or a silent fatal error turning a transmitting hem silent. Every running activation ends. That a
member becomes standby ends none, and leaves the events of the tile FIFOs where they are: R143 names hem alone (DESIGN CHOICE,
log entry 86). -/
def enterHem (code : Nat) (silent : Bool) (b : Body) : Body :=
  if inHem b then
    if silent && !b.flag SAFE.STAT.HEM_SILENT then
      let b := b.mark SAFE.STAT.HEM_SILENT true
      { b with air := { b.air with stopAtStitch := true } }
    else b
  else
    let b := b.put SAFE.HEM_CAUSE.CODE code
    let b := fallbackWord b
    let b := ((b.mark SAFE.STAT.HEM true).mark SAFE.STAT.HEM_SILENT silent).mark CE.STAT.HEM true
    let b := b.each (b.loom.tiles.map (·.1)) fun b t => dropAct t b
    let b := hemHand (relaysHem b)
    -- R514: the boot ROM of recovery mode goes on alone (log entry 81)
    let b := if b.power = .start ∨ b.power = .run then { b with power := .hem } else b
    -- R117: a staged pattern whose commit flag is not set is discarded with a record; its arguments are log entry 75's
    let b := match b.pat.staged with
      | some st => if st.armed.isSome then
          blockRecord 12 0x0040 st.pat.serial { b.mark LOOM.STAT.HELD false with pat := { b.pat with staged := none } }
        else b
      | none => b
    -- R193: in either kind of hem CE composes every channel
    let b := askAll .safe b
    if silent then { b with air := { b.air with stopAtStitch := true } } else b

/-- An error of severity 1 to 3 and a given hem kind: placed and told, SAFE.HELD (R575), and hem when it is fatal (R573). -/
def raiseAs (code sev : Nat) (silent : Bool) (a0 a1 : Nat) (b : Body) : Body :=
  let b := placeError code sev a0 a1 b
  let b := if sev ≥ 2 then b.setBit SAFE.HELD.BLOCK (code / 256) true else b
  if sev = 3 then enterHem code silent b else b

/-- An error of R570 by its code. A severity-0 code is a RECORD. -/
def raise (code a0 a1 : Nat) (b : Body) : Body :=
  if severityOf code a0 = 0 then record code a0 a1 b
  else raiseAs code (severityOf code a0) (silentOf code a0) a0 a1 b

end Sys2Proof.Machine
end

