-- ==== Sys2Proof/Machine/Ops.lean ====
section
/-! DEFINITION. Machine/Ops.lean: the shared operations: memories of R587, the cell pool and the queues (R376 to R390),
and the crossbar (R128 to R134, R600). -/

namespace Sys2Proof.Machine

/-! ### Memory bytes (R587) -/

/-- A byte that nothing has written reads as zero (R407). -/
def memDefault (_ : Nat) : BitVec 8 := 0
def memByte (b : Body) (a : Nat) : Nat := (tabGet memDefault b.mem a).toNat
def setMemByte (a v : Nat) (b : Body) : Body := { b with mem := tabSet memDefault b.mem a (BitVec.ofNat 8 v) }
def memBytes (b : Body) (a n : Nat) : List Nat := (List.range n).map fun i => memByte b (a + i)
def setMemBytes (a : Nat) : List Nat → Body → Body
  | [], b => b
  | x :: t, b => setMemBytes (a + 1) t (setMemByte a x b)
/-- A little-endian 32-bit word of memory. -/
def memWord (b : Body) (a : Nat) : Nat := leNat (memBytes b a 4)
/-- The canonical form of memory. -/
abbrev Memory.wf (m : List Host.Cell) : Prop := tabWf memDefault m = true

/-! ### Queues -/

def Queue.empty : Queue := { items := [], fill := [], opened := [], popped := [], timer := none, audit := false }
def queueOf (b : Body) (q : Nat) : Queue := tabGet (fun _ => Queue.empty) b.qm.queues q
def setQueue (b : Body) (q : Nat) (x : Queue) : Body :=
  { b with qm := { b.qm with queues := tabSet (fun _ => Queue.empty) b.qm.queues q x } }

def itemsCells (l : List Item) : List Nat := l.flatMap Item.cells
/-- The cells a queue holds or has allocated. -/
def Queue.cells (x : Queue) : List Nat := itemsCells x.items ++ itemsCells x.fill ++ x.opened ++ itemsCells x.popped
/-- u_q of R383. -/
def qUsed (b : Body) (q : Nat) : Nat := (queueOf b q).cells.length
/-- Every cell in use. -/
def allCells (b : Body) : List Nat := b.qm.queues.flatMap fun p => p.2.cells
/-- F: the free cells of the pool. -/
def qFree (b : Body) : Nat := 16384 - (allCells b).length
def qDeficit (b : Body) (q : Nat) : Nat := b.get QM.Q_LIM.RESERVE q - qUsed b q
/-- The admission test of R383 for `n` cells; a queue under audit refuses every item (R389). -/
def qAdmits (b : Body) (q n : Nat) : Bool :=
  decide (qUsed b q + n ≤ b.get QM.Q_LIM.QUOTA q) &&
  decide (n + (((List.range 32).filter (· ≠ q)).map (qDeficit b)).sum ≤ qFree b) && !(queueOf b q).audit

/-- The first cell not in `used` from `c` on, wrapping. -/
def freeCellFrom (used : List Nat) : Nat → Nat → Nat
  | 0, c => c % 16384
  | f + 1, c => if used.contains (c % 16384) then freeCellFrom used f (c + 1) else c % 16384

/-- Takes one free cell; the spec leaves open which. -/
def takeCell (b : Body) : Nat × Body :=
  let (k, b) := b.choose 16384
  let used := allCells b
  (freeCellFrom used used.length k, b)

def takeCells : Nat → List Nat → Body → List Nat × Body
  | 0, acc, b => (acc, b)
  | n + 1, acc, b =>
    let (k, b) := b.choose 16384
    let used := acc ++ allCells b
    takeCells n (acc ++ [freeCellFrom used used.length k]) b

/-- Cells an item of `len` bytes takes. -/
def cellsFor (len : Nat) : Nat := max 1 ((len + 127) / 128)
def cellAddr (c : Nat) : Nat := 0x20000000 + 128 * c

/-- The words of a cell were written: fresh check bits cancel their write-backs (R408). -/
def cellFresh (c : Nat) (b : Body) : Body :=
  let inCell := fun a => decide (cellAddr c ≤ a ∧ a < cellAddr c + 128)
  { b with memi := { b.memi with wb := b.memi.wb.filter fun x => !(decide (x.1 = 1) && inCell x.2),
                                 faults := b.memi.faults.filter fun f => !inCell f.1 } }

/-- Writes bytes into the cells of an item, 128 bytes to a cell. -/
def fillCells : List Nat → List Nat → Body → Body
  | [], _, b => b
  | c :: cs, l, b => fillCells cs (l.drop 128) (cellFresh c (setMemBytes (cellAddr c) (l.take 128) b))

/-- The bytes of an item. -/
def itemBytes (b : Body) (it : Item) : List Nat := (it.cells.flatMap fun c => memBytes b (cellAddr c) 128).take it.len

/-- The timer starts when a queue that holds no committed item takes one (R386). -/
def startTimer (q : Nat) (was : Bool) (b : Body) : Body :=
  if was then setQueue b q { queueOf b q with timer := some b.clock.cyc } else b

/-- A refusal: counted, FULL set (R385). -/
def qRefuse (q : Nat) (b : Body) : Body := (b.bump QM.Q_CNT.REFUSED 1 q).mark QM.Q_FLAG.FULL true q

/-- The banks of a PINGPONG queue exchange when the sending bank is empty and the filling bank is not (R381). -/
def qSwap (q : Nat) (b : Body) : Body :=
  let x := queueOf b q
  if b.get QM.Q_CFG.ORG q = 1 ∧ x.items = [] ∧ x.fill ≠ [] then
    (setQueue b q { x with items := x.fill, fill := [] }).setBit QM.Q_FLAG.BANK 0 (!b.flag QM.Q_FLAG.BANK q) q
  else b

/-- `n` more cells fit into the filling bank of a PINGPONG queue (R381). -/
def bankFits (b : Body) (q n : Nat) : Bool :=
  decide (b.get QM.Q_CFG.ORG q = 0) || decide ((itemsCells (queueOf b q).fill).length + n ≤ b.get QM.Q_CFG.BANK_CELLS q)

/-- An enqueue of one item (R377, R383): admitted whole or refused whole. A PINGPONG queue fills its filling bank and
swaps when that bank is full (R381); an item that the bank has no room for is refused (DESIGN CHOICE, log entry 79). Answers
whether it was admitted. -/
def qPut (q : Nat) (l : List Nat) (b : Body) : Body × Bool :=
  let n := cellsFor l.length
  if n > 32 ∨ !qAdmits b q n ∨ !bankFits b q n then (qRefuse q b, false)
  else
    let was := decide ((queueOf b q).items = [] ∧ (queueOf b q).fill = [])
    let (cs, b) := takeCells n [] b
    let b := fillCells cs l b
    let x := queueOf b q
    let it : Item := ⟨cs, l.length⟩
    let b := b.mark QM.Q_FLAG.FULL false q
    if b.get QM.Q_CFG.ORG q = 1 then
      let b := startTimer q was (setQueue b q { x with fill := x.fill ++ [it] })
      (if (itemsCells (queueOf b q).fill).length ≥ b.get QM.Q_CFG.BANK_CELLS q then qSwap q b else b, true)
    else (startTimer q was (setQueue b q { x with items := x.items ++ [it] }), true)

/-- After a dequeue the timer restarts while a committed item is left, and stops otherwise (R386). -/
def afterDequeue (q : Nat) (b : Body) : Body :=
  let x := queueOf b q
  let left := decide (x.items ≠ [] ∨ x.fill ≠ [])
  setQueue b q { x with timer := if left then some b.clock.cyc else none }

/-- A dequeue by an engine: the oldest item leaves and its cells are free (R380). -/
def qTake (q : Nat) (b : Body) : Option (List Nat) × Body :=
  match (queueOf b q).items with
  | [] => (none, b)
  | it :: t =>
    let l := itemBytes b it
    (some l, afterDequeue q (setQueue b q { queueOf b q with items := t }))

/-- A flush (R387): everything the queue holds returns to the pool. -/
def qEmpty (q : Nat) (b : Body) : Body :=
  setQueue b q { queueOf b q with items := [], fill := [], opened := [], popped := [], timer := none }

/-! ### Reports (R492) -/

/-- The queues whose items the runtime reports: Q16 to Q23 and Q30. -/
def reported (q : Nat) : Bool := decide (16 ≤ q ∧ q ≤ 23) || decide (q = 30)

/-- How many items fit into one REPORT, of at most 1,136 bytes. -/
def reportFit : Nat → List Nat → Nat
  | _, [] => 0
  | room, n :: t => if room < 2 + n then 0 else reportFit (room - (2 + n)) t + 1

/-- The oldest `n` items leave a queue. -/
def qTakes (q : Nat) : Nat → List (List Nat) → Body → List (List Nat) × Body
  | 0, acc, b => (acc, b)
  | n + 1, acc, b => match qTake q b with
    | (some l, b) => qTakes q n (acc ++ [l]) b
    | (none, b) => (acc, b)

/-- One REPORT of as many of a queue's items as fit. -/
def sendReport (q : Nat) (b : Body) : Body :=
  let n := min 255 (reportFit 1132 ((queueOf b q).items.map Item.len))
  if n = 0 then b else
  let (items, b) := qTakes q n [] b
  shCollect 0x06 (if q = 30 then 1 else 0) true
    ([if q = 30 then 0x1E else q, items.length, 0, 0] ++ items.flatMap fun l => toBe 2 l.length ++ l) b

/-- The queue's timeout fires: everything it holds is reported. -/
def reportAll : Nat → Nat → Body → Body
  | 0, _, b => b
  | n + 1, q, b => if reported q && coresServe b && decide ((queueOf b q).items ≠ []) then reportAll n q (sendReport q b) else b

/-- An enqueue; when the queue's items no longer fit into one REPORT, those before the new one are reported. -/
def qPutReport (q : Nat) (l : List Nat) (b : Body) : Body × Bool :=
  let (b, ok) := qPut q l b
  if ok && reported q && coresServe b && decide (reportFit 1132 ((queueOf b q).items.map Item.len) < (queueOf b q).items.length) then
    (sendReport q b, ok)
  else (b, ok)

/-! ### Crossbar -/

/-- The gated domain is clocked (R77). -/
def ungate (b : Body) : Body := b.mark SYS.CLK_STAT.GATED false

/-- A register access from a core to a gated block: the domain is clocked before the access completes (R76). -/
def coreAccess (f : Body → Body) (b : Body) : Body := f (ungate b)

/-- An engine or a tile emits an event on a source port: it enters the crossbar on each thread the port drives (R128,
R131), which clocks the gated domain (R77). -/
def emitEv (src port payload tag : Nat) (b : Body) : Body :=
  let evs := (threadsFrom b src port).map fun k =>
    ({ payload := payload % 2 ^ 64, tag := tag % 256, thread := k, late := false, src := src, srcPort := port } : Ev)
  if evs = [] then b else { ungate b with loom := { b.loom with xbar := b.loom.xbar ++ evs } }

/-- CE and OFE in the standby run no rules and emit nothing (R239, R456). The other engines' events are delivered there (R143). -/
def engineEv (src port payload tag : Nat) (b : Body) : Body := if runsRules b then emitEv src port payload tag b else b

/-- The destination is in the secure world (R132). -/
def destSecure (b : Body) (dst : Nat) : Bool :=
  if dst < 64 then !tileNs b dst
  else if dst = 0x40 then !ceNs b
  else if dst = 0x41 then !ofeNs b
  else if dst = 0x44 then !gioNs b
  else decide (dst = 0x42)

/-- The 16-byte item of R600. -/
def loomItem (b : Body) (e : Ev) : List Nat :=
  toLe 8 e.payload ++ [e.tag, e.thread, e.src, e.srcPort % 16 + (if e.late then 16 else 0)] ++
    toLe 4 (if ntv b then airTime b % 2 ^ 32 else 0)

/-- An event stands at an enabled tile's ingress (R133). -/
def tileIngress (t port : Nat) (e : Ev) (b : Body) : Body :=
  let x := tileOf b t
  if x.fifo.length ≥ 16 then
    let b := b.bump LOOM.TILE_DROP.INGRESS 1 t
    if x.dropSeen then b else raise 0x0601 t 0 (setTile b t { tileOf b t with dropSeen := true })
  else setTile (sliceYield (16 + t) b) t { x with fifo := x.fifo ++ [.event e port] }

/-- One copy of an event reaches one destination (R130 to R134, R143, R212, R600). -/
def deliverTo (e : Ev) (d : Nat × Nat) (b : Body) : Body :=
  if e.src < 64 ∧ tileNs b e.src ∧ destSecure b d.1 then record 0x0622 e.src e.thread (b.bump LOOM.WORLD_DROP.COUNT)
  else if d.1 < 64 then
    if inHem b || !runsRules b then b
    else if !b.flag LOOM.TILE_CTL.ENABLE d.1 then b.bump LOOM.TILE_DROP.INGRESS 1 d.1
    else tileIngress d.1 d.2 e b
  else if d.1 = 0x40 then { sliceYield 1 b with ce := { b.ce with inbox := b.ce.inbox ++ [(d.2, e)] } }
  else if d.1 = 0x41 then
    if b.ofe.fifo.length ≥ 64 then
      let b := b.bump OFE.COUNT_D.OVERFLOW
      if b.ofe.dropSeen then b
      else raise 0x0801 (b.get OFE.COUNT_D.OVERFLOW) 0 { b with ofe := { b.ofe with dropSeen := true } }
    else { sliceYield 2 b with ofe := { b.ofe with fifo := b.ofe.fifo ++ [(d.2, e)] } }
  else if d.1 = 0x42 then { sliceYield 3 b with air := { b.air with cmdIn := b.air.cmdIn ++ [e] } }
  else if d.1 = 0x44 then { b with gio := { b.gio with inbox := b.gio.inbox ++ [(d.2, e)] } }
  else if 0x50 ≤ d.1 ∧ d.1 ≤ 0x57 then
    let (b, ok) := qPutReport (16 + (d.1 - 0x50)) (loomItem b e) b
    if ok then b else b.bump LOOM.XBAR_DROP.COUNT
  else b

end Sys2Proof.Machine
end

