-- ==== Sys2Proof/Machine/SeamOps.lean ====
section
/-! DEFINITION. Machine/SeamOps.lean: giving up the lease (R446, R448), which the air interface can also cause (R313), and the
member's part in the pair. -/

namespace Sys2Proof.Machine

/-- T_L and T_G in TCXO cycles. -/
def tL (b : Body) : Nat := msCyc (b.get SEAM.TIMING.T_L_MS)
def tG (b : Body) : Nat := msCyc (b.get SEAM.TIMING.T_G_MS)

def seamRole (b : Body) : Nat := b.get SEAM.STAT.ROLE
def seamRun (b : Body) : Bool := b.flag SEAM.CTL.RUN && twinPresent b

/-- SEAM_LOST is raised once (R454). -/
def seamLost (b : Body) : Body :=
  if b.flag SEAM.EVENT.SEAM_LOST then b
  else raise 0x0E01 (b.get SEAM.EPOCH.EPOCH) 0 (b.mark SEAM.EVENT.SEAM_LOST true)

/-- The X5 link is down while SEAM runs: the twin cannot be heard (R454, R537). -/
def seamDown (b : Body) : Body :=
  if seamRun b && !b.flag SW.PORT_STAT.LINK 2 then
    seamLost ((b.mark SEAM.STAT.SEAM_UP false).mark GIO.DI_STAT.SINK_SOLO true)
  else b

/-- SEAM.CTL.RUN goes to 1: the hold-off of R449 starts, and an X5 link that is down counts. -/
def seamStart (was : Bool) (b : Body) : Body :=
  if b.flag SEAM.CTL.RUN && !was then seamDown { b with seam := { b.seam with startAt := some b.clock.cyc, quiet := true } } else b

/-- The member stops acting: AIR.CTL.RUN clears, it becomes PASSIVE, and the wait of R465 begins (R446). -/
def stopActing (b : Body) : Body :=
  let b := (b.mark AIR.CTL.RUN false).put SEAM.STAT.ROLE 0
  let b := (b.mark SEAM.CTL.HANDOVER false).mark SEAM.STAT.HO_ARMED false
  let m := { b.seam with leaseEnd := none, lapsedAt := some b.clock.cyc, hand := none, stopBuild := false }
  { b with seam := { m with test := none, slicesHeld := false } }

/-- A node's EPOCH was newer than the module's own (R313, R448): a holder stops at once and seeks no lease until it has
learnt a newer epoch. -/
def epochAhead (e : Nat) (b : Body) : Body :=
  let b := b.put AIR.EPOCH.AHEAD e
  if b.get SEAM.STAT.ROLE = 2 then
    let b := stopActing b
    let b := b.mark SEAM.EVENT.EPOCH_AHEAD true
    let own := b.get SEAM.EPOCH.EPOCH
    blockRecord 14 0x0008 e (raise 0x0E04 own 0
      { b with seam := { b.seam with learn := some own, granted := false } })
  else b

end Sys2Proof.Machine
end

