-- ==== Sys2Proof/Machine/AirOps.lean ====
section
/-! DEFINITION. Machine/AirOps.lean: AIR's shared operations: the stitch grid (R28, R29, R283), hopping (R289, R290), the
dwell guard (R294), frames and their protection (R295 to R306), and the banks (R286, R307, R599). -/

namespace Sys2Proof.Machine

/-! ### The stitch grid -/

/-- Offset of radio `r`'s stitch stream, in ns (R29). -/
def radioOfs (b : Body) (r : Nat) : Nat := if r < 4 then r * stitchNs b / 4 else 0
/-- B of radio `r` now (R283). -/
def boltNow (b : Body) (r : Nat) : Nat := (tnNs b - radioOfs b r) / boltNs b % 2 ^ 32
/-- The bolt number of network time. -/
def boltNo (b : Body) : Nat := tnNs b / boltNs b % 2 ^ 32
/-- Network time of the start of stitch `s` of radio `r` in its current bolt, in ns. -/
def stitchStart (b : Body) (r s : Nat) : Nat := (tnNs b - radioOfs b r) / boltNs b * boltNs b + s * stitchNs b + radioOfs b r
/-- The time on the air that one stitch has for frames, in µs (R286). -/
def stitchUs (b : Body) : Nat := stitchNs b / 1000 - 400
/-- Airtime of a frame, in µs (R294). -/
def frameUs (b : Body) (r len : Nat) : Nat := (12 + len) * byteUs b r

/-! ### The stitch plan (R283 to R285) -/

/-- HOME_TRX of a UNIT. -/
def homeTrx (b : Body) (u : Nat) : Nat :=
  if u ≤ 512 then b.get CE.SAFE_CFG.HOME_TRX (u - 1) else slotHome b (u - 1024)

/-- The declared node UNITs, channels first. -/
def nodeUnits (b : Body) : List Nat :=
  ((List.range (chanCnt b)).map (· + 1)) ++ (List.range (sensCnt b)).map (· + 1024)

/-- The declared UNITs of a radio, ascending. -/
def radioUnits (b : Body) (r : Nat) : List Nat := (nodeUnits b).filter fun u => decide (homeTrx b u = r)

/-- SCHED_MOD of radio `r` (R285). -/
def schedMod (b : Body) (r : Nat) : Nat := (radioUnits b r).length
/-- SCHED_ID of a UNIT: its place among its radio's UNITs. -/
def schedId (b : Body) (u : Nat) : Nat := ((radioUnits b (homeTrx b u)).takeWhile (· ≠ u)).length

/-- What a stitch of a bolt is for (R283). -/
inductive StitchKind
  | beacon | anchor | down | upScheduled | upContention
  deriving DecidableEq, Repr

/-- E of R284: the even stitches of radio `r` beside its BEACON and ANCHOR, ascending. -/
def upStitches (r : Nat) : List Nat :=
  ((List.range 127).map fun i => 2 * i + 2).filter fun s => decide (r ≠ 3 ∨ s ≠ 128)

/-- Entry `i` of E, which has `n` entries, is UP-SCHEDULED under SCHED_EVEN = `s` (R284). -/
def schedEntry (s n i : Nat) : Bool := decide ((i + 1) * s % n < s)

/-- The UP-SCHEDULED stitches of radio `r`, ascending; while no node holds a SCHED_ID there, none is used as one (R285). -/
def schedStitches (b : Body) (r : Nat) : List Nat :=
  let e := upStitches r
  if schedMod b r = 0 then [] else
    ((List.range e.length).filter (schedEntry (schedEven b r) e.length)).map fun i => e.getD i 0

/-- The kind of stitch `s` of radio `r` (R283, R284). -/
def stitchKind (b : Body) (r s : Nat) : StitchKind :=
  if s = 0 then .beacon
  else if r = 3 ∧ s = 128 then .anchor
  else if s % 2 = 1 then .down
  else if (schedStitches b r).contains s then .upScheduled
  else .upContention

/-- The SCHED_ID that owns UP-SCHEDULED stitch `s` of radio `r` in bolt `bolt`; a stitch of another kind has no owner (R285). -/
def stitchOwner (b : Body) (r bolt s : Nat) : Option Nat :=
  if stitchKind b r s = .upScheduled then
    some ((bolt * schedEven b r + ((schedStitches b r).takeWhile (· ≠ s)).length) % schedMod b r)
  else none

/-! ### Keys and hopping -/

/-- The 16 bytes of key slot `i`. -/
def keyBytes (b : Body) (i : Nat) : List Nat := [0, 1, 2, 3].flatMap fun w => toLe 4 (b.get AIR.KEY_W.KEY i w)
def keyTx (b : Body) : Nat := b.get AIR.STAT.KEYIDX_TX
/-- K_hop (R290). -/
def hopKey (b : Body) (i : Nat) : List Nat := aes128 (keyBytes b i) (1 :: List.replicate 15 0)

/-- prf of R289. -/
def hopPrf (k : List Nat) (bolt i r net mod : Nat) : Nat :=
  leNat ((aes128 k (toLe 4 bolt ++ [i, r, net] ++ toLe 2 mod ++ List.replicate 7 0)).take 4)

/-- perm[i] and perm[j] swapped. -/
def swapAt (l : List Nat) (i j : Nat) : List Nat := (l.set i (l.getD j 0)).set j (l.getD i 0)

/-- The shuffle of R289, from `i` down to 1. -/
def hopShuffle (f : Nat → Nat) : Nat → List Nat → List Nat
  | 0, l => l
  | i + 1, l => hopShuffle f i (swapAt l (i + 1) (f (i + 1) % (i + 2)))

/-- hop(B, s, r) of R289 under key `k`. -/
def hopWith (k : List Nat) (b : Body) (bolt s r : Nat) : Nat :=
  let m := if r < 4 then chCnt b - 1 else 16
  let perm := hopShuffle (fun i => hopPrf k bolt i (if r < 4 then 0 else 1) (netNo b) (modNo b)) (m - 1) (List.range m)
  let q := if r < 4 then m / 4 else 0
  let c := perm.getD ((s + r * q) % m) 0
  if r < 4 ∧ c ≥ anchorIdx b then c + 1 else c

/-- The key slot in use for transmission in bolt `bolt`: a switch takes effect at its bolt (R309). -/
def keyOfBolt (b : Body) (bolt : Nat) : Nat :=
  if b.flag AIR.STAT.SW_ARMED ∧ b.get AIR.KEY_SW.BOLT ≤ bolt then b.get AIR.KEY_ARM.NEXT
  else match b.air.prevKey with
    | some k => if bolt < b.air.swBolt then k else keyTx b
    | none => keyTx b

def hop (b : Body) (bolt s r : Nat) : Nat := hopWith (hopKey b (keyOfBolt b bolt)) b bolt s r

/-- The hop channel of the stitch that `tn` ns lie in on radio `r` (R289, R599). -/
def hopAt (b : Body) (r tn : Nat) : Nat :=
  let t := tn - radioOfs b r
  hop b (t / boltNs b % 2 ^ 32) (t % boltNs b / stitchNs b) r

/-! ### The dwell guard (R294) -/

/-- The guard's bucket now: WINDOW_S, or 1 s on TRX4, in 64 parts. -/
def dwellBucket (b : Body) (r : Nat) : Nat := tnNs b / ((if r < 4 then windowS b else 1) * 10 ^ 9 / 64)

/-- Airtime in the current bucket and the 64 before it, of the entries that count. -/
def dwellSum (b : Body) (r : Nat) (f : Dwell → Bool) : Nat :=
  let k := dwellBucket b r
  ((b.air.dwell.filter fun d => decide ((d.radio < 4) = (r < 4)) && decide (k ≤ d.bucket + 64 ∧ d.bucket ≤ k) && f d).map
    Dwell.us).sum

/-- The sum that limits `us` more microseconds on channel `c` of radio `r` stays within its limit. -/
def dwellPass (b : Body) (r c us : Nat) : Bool :=
  let chan := dwellSum b r (fun d => decide (d.chan = c)) + us
  let sub := dwellSum b r (fun d => decide (d.subband = chanSubband b c)) + us
  if r = 4 then decide (dwellSum b 4 (fun _ => true) + us ≤ 100000)
  else match regionMode b with
    | 0 => decide (chan ≤ dwellMs b * 1000)
    | 2 => decide (chan ≤ dutyPm b * windowS b * 1000)
    | _ => decide (sub ≤ dutyPm b * windowS b * 1000)

/-- Airtime sent; entries older than a window leave. -/
def dwellAdd (r c us : Nat) (b : Body) : Body :=
  let k := dwellBucket b r
  let keep := b.air.dwell.filter fun d => decide ((d.radio < 4) ≠ (r < 4)) || decide (k ≤ d.bucket + 64)
  { b with air := { b.air with dwell := keep ++ [⟨k, r, c, if r < 4 then chanSubband b c else 0, us⟩] } }

/-! ### Frames -/

/-- The PHR of a frame on radio `r` (R278, R280). -/
def phrOf (b : Body) (r : Nat) : Option FskPhr := if r < 4 ∧ phyCode b < 3 then some ⟨0, 1, 1⟩ else none

/-- The nonce of R305, from the 17 header bytes. -/
def airNonce (h : List Nat) : List Nat := bytesAt h 1 4 ++ bytesAt h 11 6 ++ [u8 h 0] ++ bytesAt h 9 2

/-- A frame's protected bytes from its header and plain payload (R305). -/
def protect (key h payload : List Nat) : List Nat :=
  if u8 h 0 / 16 % 2 = 1 then h ++ ccmCrypt key (airNonce h) payload ++ ccmTag key (airNonce h) h payload
  else h ++ payload ++ ccmTag key (airNonce h) (h ++ payload) []

/-- FC of R296 for a module's frame. -/
def fcOf (ty : Nat) : Nat :=
  ty + (if ty ∈ [2, 3, 4, 5, 6, 8] then 16 else 0) + (if ty ∈ [0, 1, 3, 7] then 64 else 0)

/-- The header of a frame of this module (R295). -/
def airHeader (b : Body) (ty dest keyidx stamp : Nat) : List Nat :=
  [fcOf ty] ++ toLe 4 (ownAddr b) ++ toLe 4 dest ++ toLe 2 (b.get AIR.EPOCH.EPOCH + keyidx * 2 ^ 14) ++
    toLe 6 (stamp % 2 ^ 48)

/-- The next stamp of R306. -/
def nextStamp (b : Body) : Nat × Body :=
  let s := max (airTime b) (b.air.lastStamp + 1)
  (s, { b with air := { b.air with lastStamp := s } })

/-- A frame built now: stamp, epoch, protection (R305, R306). -/
def buildFrame (ty dest : Nat) (payload : List Nat) (b : Body) : List Nat × Body :=
  let (s, b) := nextStamp b
  (protect (keyBytes b (keyTx b)) (airHeader b ty dest (keyTx b) s) payload, b)

/-- The payload of a frame as built: decrypted when SEC is 1. -/
def plainOf (b : Body) (f : List Nat) : List Nat :=
  let h := f.take 17
  let c := (f.drop 17).take (f.length - 25)
  if u8 f 0 / 16 % 2 = 1 then ccmCrypt (keyBytes b (u16 f 9 / 2 ^ 14)) (airNonce h) c else c

/-- A CONFIG frame under a node's own key, naming segment key `i` (R530). -/
def buildNodeKey (key : List Nat) (i dest : Nat) (payload : List Nat) (b : Body) : List Nat × Body :=
  let (s, b) := nextStamp b
  (protect key (airHeader b 8 dest i s) payload, b)

/-- The node key a waiting frame was built under, if it is one of R530's. -/
def nodeKeyOf (b : Body) (f : List Nat) : Option (List Nat) :=
  match b.nv.keys.node.find? fun p => decide (u8 f 0 % 16 = 8 ∧ p.1 = u32 f 5 % 2 ^ 12) with
  | none => none
  | some p =>
    let h := f.take 17
    let x := ccmCrypt p.2 (airNonce h) ((f.drop 17).take (f.length - 25))
    if ccmTag p.2 (airNonce h) h x = f.drop (f.length - 8) then some p.2 else none

/-- A waiting frame rebuilt with a new stamp and the current epoch (R307). -/
def restamp (f : List Nat) (b : Body) : List Nat × Body := match nodeKeyOf b f with
  | some k =>
    let x := ccmCrypt k (airNonce (f.take 17)) ((f.drop 17).take (f.length - 25))
    buildNodeKey k (u16 f 9 / 2 ^ 14) (u32 f 5) x b
  | none => buildFrame (u8 f 0 % 16) (u32 f 5) (plainOf b f) b

/-- DEST of a frame to a UNIT of this module. -/
def unitDest (b : Body) (u : Nat) : Nat := ownAddr b + u % 2 ^ 12
/-- DEST of the group form (R297). -/
def groupDest (g : Nat) (all emerg release sensors : Bool) : Nat :=
  g + (if all then 2 ^ 16 else 0) + (if emerg then 2 ^ 17 else 0) + (if release then 2 ^ 18 else 0) +
    (if sensors then 2 ^ 19 else 0)

/-- The 14 bytes that open a COMMAND or GROUP_COMMAND payload (R299). -/
def commandBody (r : CmdRec) : List Nat :=
  toLe 2 r.level ++ toLe 2 r.cct ++ toLe 2 r.fadeMs ++ toLe 2 (r.curve % 2 + (if r.stretch then 2 else 0)) ++ toLe 6 r.start

/-- The emergency form or the release (R299). -/
def emergBody (b : Body) : List Nat :=
  List.replicate 8 0 ++ toLe 6 (airTime b % 2 ^ 48) ++ [0]

/-- Builds the emergency frame (or the release) of radio `r` and keeps it (R316). -/
def buildEmerg (r : Nat) (rel : Bool) (b : Body) : Body :=
  let (f, b) := buildFrame 3 (groupDest 0 true (!rel) rel false) (emergBody b) b
  if rel then { b with air := { b.air with releaseBuilt := tabSet (fun _ => []) b.air.releaseBuilt r f } }
  else { b with air := { b.air with emergBuilt := tabSet (fun _ => []) b.air.emergBuilt r f } }

def enabledRadios (b : Body) : List Nat := [0, 1, 2, 3, 4].filter fun r => radioEn b r

/-! ### Banks -/

/-- The item of Q0 to Q4 (R599). -/
def airItem (f : List Nat) (flags : Nat) : List Nat := [f.length % 256, u8 f 0 % 16, flags] ++ List.replicate 5 0 ++ f
/-- The frame of an item. -/
def itemFrame (l : List Nat) : List Nat := (l.drop 8).take (u8 l 0)

/-- The frames of items fit one stitch together (R286). -/
def fitsStitch (b : Body) (r : Nat) (lens : List Nat) : Bool :=
  decide ((lens.map fun l => frameUs b r l).sum + 192 * (lens.length - 1) ≤ stitchUs b)

/-- Frame lengths of items. -/
def itemLens (l : List Item) : List Nat := l.map fun it => it.len - 8

/-- The filling bank of radio `r` takes one more frame of `len` bytes: its cells and the stitch allow it. -/
def bankTakes (b : Body) (r len : Nat) : Bool :=
  let fill := (queueOf b r).fill
  decide ((itemsCells fill).length + cellsFor (8 + len) ≤ b.get QM.Q_CFG.BANK_CELLS r) &&
  fitsStitch b r (itemLens fill ++ [len])

/-- A frame joins the filling bank. -/
def bankPut (r : Nat) (f : List Nat) (flags : Nat) (b : Body) : Body × Bool := qPut r (airItem f flags) b

/-- The frame of the item it builds goes ahead of the frames it stands among: it stands behind the ACKs there. -/
def isAckItem (l : List Nat) : Bool := decide (u8 l 1 = 6)

/-- Every item of radio `r`'s two banks, the sending one first. AIR takes those of the sending bank as its consumer and drops the
filling one as its producer (R381, R382). -/
def bankTakeAll (r : Nat) (b : Body) : List (List Nat) × Body :=
  let (l, b) := qTakes r (queueOf b r).items.length [] b
  let fill := (queueOf b r).fill.map (itemBytes b)
  (l ++ fill, setQueue b r { queueOf b r with fill := [] })

/-- Items join the filling bank in order while it takes them; from the first that it does not take on they go back to AIR. -/
def bankRefill (r : Nat) : List (List Nat) → Body → Body
  | [], b => b
  | l :: t, b =>
    let f := itemFrame l
    let (b, ok) := if bankTakes b r f.length then bankPut r f (u8 l 2) b else (b, false)
    if ok then bankRefill r t b
    else { b with air := { b.air with back := (l :: t).map (fun x => (r, itemFrame x, u8 x 2)) ++ b.air.back } }

/-- An ACK goes ahead of every other frame of the coming DOWN stitch (R314): AIR takes back what waits in both banks and fills the
filling bank anew, ACKs first. -/
def ackPut (r : Nat) (f : List Nat) (b : Body) : Body :=
  let (old, b) := bankTakeAll r b
  bankRefill r (old.filter isAckItem ++ [airItem f 0] ++ old.filter fun l => !isAckItem l) b

/-- The frames that went back to AIR join their banks again, oldest first. -/
def backFill (b : Body) : Body :=
  let l : List (Nat × List Nat × Nat) := b.air.back
  { b with air := { b.air with back := [] } }.each [0, 1, 2, 3, 4] fun b r =>
    bankRefill r ((l.filter fun (p : Nat × List Nat × Nat) => decide (p.1 = r)).map fun (p : Nat × List Nat × Nat) => airItem p.2.1 p.2.2) b

/-- One item is rebuilt in its cells (R307). -/
def restampItem (it : Item) (b : Body) : Body :=
  let l := itemBytes b it
  let (f, b) := restamp (itemFrame l) b
  fillCells it.cells (airItem f (u8 l 2 % 2 + 2)) b

/-- The stamp of an item's frame. -/
def itemStamp (b : Body) (it : Item) : Nat := u48 (itemFrame (itemBytes b it)) 11

/-- a − b modulo 2^48, signed (R310). -/
def stampDiff (x y : Nat) : Int := sgn 48 (uns 48 ((x : Int) - (y : Int)))

/-- Every frame of the sending bank, and then of the filling bank, is rebuilt. -/
def restampBanks (r : Nat) (b : Body) : Body :=
  let x := queueOf b r
  b.each (x.items ++ x.fill) fun b it => restampItem it b

/-- So is every frame that went back to AIR. -/
def restampBack (b : Body) : Body :=
  let l : List (Nat × List Nat × Nat) := b.air.back
  { b with air := { b.air with back := [] } }.each l fun b p =>
    let (f, b) := restamp p.2.1 b
    { b with air := { b.air with back := b.air.back ++ [(p.1, f, p.2.2 % 2 + 2)] } }

/-- The rebuild of aged banks at the wake point of a DOWN stitch that starts at `start` ns (R307): the oldest frame of the
sending bank decides, behind an ACK that stands ahead of it too. -/
def restampAged (r start : Nat) (b : Body) : Body :=
  if (queueOf b r).items.any fun it => decide (stampDiff (airOfNs start) (itemStamp b it) > ((freshW b / 4 : Nat) : Int)) then
    restampBanks r b
  else b

/-! ### What AIR may send -/

/-- AIR stops at a stitch boundary in silent hem (R578). -/
def stitchBoundary (b : Body) : Body :=
  if b.air.stopAtStitch then { b.mark AIR.CTL.RUN false with air := { b.air with stopAtStitch := false } } else b

/-- The stitch of radio `r` in progress ends before the lease does: AIR stops at the last stitch boundary before expiry (R446). -/
def leaseCovers (b : Body) (r : Nat) : Bool := match b.seam.leaseEnd with
  | none => true
  | some e => decide (b.clock.cyc * 1000 + (stitchNs b - (tnNs b - radioOfs b r) % stitchNs b) * 26 ≤ e * 1000)

/-- AIR.CTL.RUN as it stands on radio `r`'s grid: a new holder sets it for the stitch boundary of R460, and it clears before the
lease expires (R446). -/
def airRuns (b : Body) (r : Nat) : Bool :=
  b.flag AIR.CTL.RUN && decide (b.seam.airFrom ≤ tnNs b) && leaseCovers b r

/-- AIR runs its stitch plan on radio `r`: in a member that acts, with a time base (R91), outside a MOD conflict (R22). -/
def airOn (b : Body) (r : Nat) : Bool :=
  airRuns b r && (ntv b || rtcv b) && acting b && radioEn b r && decide (b.sha.conflict = 0)

/-- The channel is too busy for a mode that listens first (R292, R293). -/
def lbtBusy (b : Body) (r : Nat) (dbm : Int) : Bool :=
  decide (r < 4) && decide (regionMode b = 2 ∨ regionMode b = 3) && decide (dbm > sgn 8 (b.get AIR.TUNE.CCA_DBM))

/-- The module's own UNIT's frames to radio `r` that are late under R83 are not sent in this stitch. -/
def takeLate (r : Nat) (b : Body) : Bool × Body :=
  (b.air.lateRadios.contains r, { b with air := { b.air with lateRadios := b.air.lateRadios.filter (· ≠ r) } })

end Sys2Proof.Machine
end

