-- ==== Sys2Proof/Machine/Sign.lean ====
section
/-! DEFINITION. Machine/Sign.lean: the guidance sign as GIO scans it: its fields, blanks and on-times (R547, R551, R557, R559), and
what its row switches, columns and supply do at an instant (R546, R547). -/

namespace Sys2Proof.Machine

/-- Main power feeds the engines: the module is starting, running or in hem (R88). -/
def powered (b : Body) : Bool := decide (b.power = .start ∨ b.power = .run ∨ b.power = .hem)

def gioRun (b : Body) : Bool := b.flag GIO.CTL.RUN

/-- The sign is lit (R559): not before pattern load, without SIGN, with SIGN_EN 0, in hem, in recovery, or in a member
that neither holds the lease nor stands within HOLD_T_S of having lapsed. -/
def signLit (b : Body) : Bool :=
  powered b && loaded b && decide (b.get GIO.SIGN_CFG.ROWS ≠ 0) && b.flag GIO.CTL.SIGN_EN && !inHem b &&
  (acting b || (decide (b.get SEAM.STAT.ROLE = 0) && b.seam.lapsedAt.isSome))
/-- The sign scans: it is lit and no port fault stands. -/
def signOn (b : Body) : Bool := gioRun b && signLit b && !b.gio.portOff

/-! ### Pixels -/

def signRows (b : Body) : Nat := b.get GIO.SIGN_CFG.ROWS
def signCols (b : Body) : Nat := b.get GIO.SIGN_CFG.COLS
def frontPix (b : Body) (r c : Nat) : Nat := b.get GIO.FB_FRONT.PIX r (c / 4) / 2 ^ (8 * (c % 4)) % 256
/-- The rectangle of field `f`: rows and columns, first and last. -/
def fieldRect (b : Body) (f : Nat) : Nat × Nat × Nat × Nat :=
  let s := sectD b sSIGN
  (u8 s (8 + 8 * f), u8 s (9 + 8 * f), u8 s (10 + 8 * f), u8 s (11 + 8 * f))
def inField (b : Body) (f r c : Nat) : Bool :=
  let q := fieldRect b f
  decide (q.1 ≤ r) && decide (r ≤ q.2.1) && decide (q.2.2.1 ≤ c) && decide (c ≤ q.2.2.2)
def signFields (b : Body) : List Nat := List.range (b.get GIO.SIGN_CFG.FIELD_CNT)
/-- The pixel is blanked (R557). -/
def pixBlank (b : Body) (r c : Nat) : Bool :=
  b.flag GIO.SIGN_STAT.WHOLE_BLANK || (signFields b).any fun f => b.bit GIO.SIGN_BLANK.FIELD f && inField b f r c
def allPix (b : Body) : List (Nat × Nat) := (List.range (signRows b)).flatMap fun r => (List.range (signCols b)).map fun c => (r, c)

/-- T_ACT of R547, in cycles: floor((t_s − 3,000 ns) / 4 ns). -/
def tAct (b : Body) : Nat := (10 ^ 9 - 3000 * 600 * signRows b) / (4 * 600 * signRows b)
def pixClass (b : Body) (c : Nat) : Nat := b.get GIO.SIGN_CLS.CLS (c / 16) / 4 ^ (c % 16) % 4
def classTrim (b : Body) (k : Nat) : Nat := if k = 3 then 256 else b.get GIO.SIGN_TRIM.TRIM / 2 ^ (8 * k) % 256 + 192
/-- The on-time of a pixel in cycles (R551). -/
def onTime (b : Body) (r c : Nat) : Nat :=
  let den := 255 * 65536 * 256
  (2 * tAct b * frontPix b r c * b.get GIO.SIGN_FACT.G * classTrim b (pixClass b c) + den) / (2 * den)
/-- A pixel that gives light: the sign is on, the pixel is not blanked, and its on-time is at least one cycle. -/
def pixLit (b : Body) (r c : Nat) : Bool := signOn b && !pixBlank b r c && decide (0 < onTime b r c)

/-! ### The drivers (R546, R547) -/

/-- VPRE in mV: 0.01 V steps up to 200, 0.02 V steps above, at most 3.0 V (GIO.SIGN_SUP). -/
def vpreMv (b : Body) : Nat :=
  let v := b.get GIO.SIGN_SUP.VPRE_CV
  min 3000 (if v ≤ 200 then 10 * v else 2000 + 20 * (v - 200))

/-- The exact start of slot `n` of the slots of a second of network time, in ns, put off to the next FCLK cycle of 4 ns: at the
first of them that is not earlier (R546). -/
def slotStart (b : Body) (n : Nat) : Nat :=
  let d := 600 * signRows b
  4 * ((n * 10 ^ 9 + 4 * d - 1) / (4 * d))

/-- The slot that runs at `t` ns of a second, counted in the second: 600 frames of ROWS slots. -/
def slotAt (b : Body) (t : Nat) : Nat :=
  let n := t * 600 * signRows b / 10 ^ 9
  if t < slotStart b n then n - 1 else n

/-- The drivers at an instant of network time (R547): in the first 2 µs of a slot the columns are pre-charged to VSIGN − VPRE and
every row is off; then the slot's row is on; and from 3 µs every column with an on-time sinks I_COL_MA for its on-time. -/
def signDrive (b : Body) : SignDrive :=
  if !signOn b then ⟨none, none, [], 0⟩ else
  let t := tnNs b % 10 ^ 9
  let n := slotAt b t
  let r := n % signRows b
  let u := t - slotStart b n
  let v := b.get GIO.SIGN_VROW.MV r
  if u < 2000 then ⟨none, some (v - vpreMv b), [], v⟩
  else ⟨some r, none, (List.range (signCols b)).filter (fun c =>
    decide (3000 ≤ u) && pixLit b r c && decide ((u - 3000) / 4 < onTime b r c)), v⟩

end Sys2Proof.Machine
end

