-- ==== Sys2Proof/Machine/Pins.lean ====
section
/-! DEFINITION. Machine/Pins.lean: what the module shows outside: relay contacts (R53, R543), lamps (R68), VSIGN (R559, R560),
scan on X14 (R586), the input sink of a pair (R537) and the sign's drivers (R547), each a function of the rest of the state. -/

namespace Sys2Proof.Machine

/-- Main power is present (R88). -/
def mainPower (b : Body) : Bool := decide (b.power ≠ .cell ∧ b.power ≠ .cellOver)

/-- The clock monitor and SAFE's cover path run: main power is present and the module is not held in reset (R88, R564). -/
def monitored (b : Body) : Bool := mainPower b && decide (b.power ≠ .held)

/-- A relay's contact is closed: never without main power, before pattern load, in recovery or while held (R53, R543, R564). -/
def relayClosed (b : Body) (k : Nat) : Bool := powered b && loaded b && b.bit GIO.REL_STAT.STATE k

/-- LED_RUN (R68). DESIGN CHOICE (log entry 82): the table has no row for a PASSIVE member of a pair with a pattern loaded; it
shows off. -/
def ledRun (b : Body) : Lamp :=
  if b.power = .recovery then .flash4
  else if !powered b then .off
  else if b.get SEAM.STAT.ROLE = 1 ∨ !loaded b then .flash1
  else if b.get SEAM.STAT.ROLE ≥ 2 then .steady
  else .off

/-- A transceiver is active while AIR runs it on a time base (R91), also in a MOD conflict, which ends transmission alone (R22). -/
def ledAir (b : Body) : Lamp :=
  if powered b && b.flag AIR.CTL.RUN && (ntv b || rtcv b) && (List.range 5).any (radioEn b) then .boltFlash else .off

def ledFault (b : Body) : Lamp :=
  if b.power = .held then .steady
  else if !mainPower b then .off
  else if inHem b then .steady
  else if b.get SAFE.HELD.BLOCK ≠ 0 then .flash1
  else .off

/-- What the member presents on each digital input (R537): at least 1 MΩ without main power, 13.6 kΩ while its twin is heard over
the seam, else 6.8 kΩ. -/
def sinkOf (b : Body) : Sink :=
  if !mainPower b then .open1M
  else if b.flag GIO.DI_STAT.TWIN_MODE && !b.flag GIO.DI_STAT.SINK_SOLO then .r13k6 else .r6k8

/-- Every pin. DESIGN CHOICE (log entry 82): LED_PWR is steady with main power present, also where the supply stands outside
R39's range, for which the table of R68 has no row. -/
def pinsOf (b : Body) : Pins :=
  { relays := (List.range 4).map (relayClosed b)
    ledPwr := if mainPower b then .steady else .off
    ledRun := ledRun b
    ledAir := ledAir b
    ledFault := ledFault b
    vsign := signLit b && !b.gio.portOff
    scan := b.flag SAFE.STAT.SCAN_EN
    sink := sinkOf b
    sign := signDrive b }

/-- Every pin takes what the state says. -/
def settle (b : Body) : Body := { b with pins := pinsOf b }

/-- The command answers a word. -/
def Body.answer (b : Body) (v : Nat) : Body := { b with bus := some v }

end Sys2Proof.Machine
end

