-- ==== Sys2Proof/Machine/Done.lean ====
section
/-! DEFINITION. Machine/Done.lean: how a command answers: every command of the block completes (R-rules give each its effect or
none), so its meaning is a change of the body, after which the pins follow the state. -/

namespace Sys2Proof.Machine

/-- A command's effect in any power state. -/
def onAny (f : Body → Body) (s : State) : Host.Outcome State Fault Refusal :=
  .next { s with body := settle (f s.body) }

/-- A command that needs the engines: without power to them (R88: CELL, RECOVERY; R564: held) it does nothing. -/
def onBody (f : Body → Body) (s : State) : Host.Outcome State Fault Refusal :=
  onAny (fun b => if powered b then f b else b) s

/-- A command that recovery mode takes as well (R515). -/
def onRom (f : Body → Body) (s : State) : Host.Outcome State Fault Refusal :=
  onAny (fun b => if powered b || decide (b.power = .recovery) then f b else b) s

end Sys2Proof.Machine
end

