-- ==== Sys2Proof/Machine/Staging.lean ====
section
/-! DEFINITION. Machine/Staging.lean: image manifests as R502 lays them out, and the staging areas of the eMMC (R501, R505). -/

namespace Sys2Proof.Machine

/-! ### Manifests (R502) -/

def manKind (m : List Nat) : Nat := u8 m 6
def manId (m : List Nat) : Nat := u32 m 8
def manVersion (m : List Nat) : Nat := u32 m 0x0C
def manBodyLen (m : List Nat) : Nat := u32 m 0x18
def manBodyPieces (m : List Nat) : Nat := u32 m 0x1C
def manPieces (m : List Nat) : Nat := u32 m 0x20
def manAppLen (m : List Nat) : Nat := u32 m 0x28
def manNodeSel (m : List Nat) : Nat := u32 m 0x2C
/-- Bytes before the signature record. -/
def manSigAt (m : List Nat) : Nat := 512 + 16 * manBodyPieces m

/-! ### Staging areas -/

def stagingOf (b : Body) (k : Nat) : Option Staging := (b.nv.staging.find? fun p => decide (p.1 = k)).map (·.2)
def freeArea (k : Nat) (b : Body) : Body :=
  let b := { b with nv := { b.nv with staging := b.nv.staging.filter fun p => decide (p.1 ≠ k) } }
  b.mark UPD.STG_STAT.VERIFIED false k
def setArea (k : Nat) (x : Staging) (b : Body) : Body :=
  { b with nv := { b.nv with staging := (b.nv.staging.filter fun p => decide (p.1 ≠ k)) ++ [(k, x)] } }

def Staging.piece (x : Staging) (i : Nat) : Option (List Nat) := (x.pieces.find? fun p => decide (p.1 = i)).map (·.2)
def Staging.holds (x : Staging) (i : Nat) : Bool := (x.piece i).isSome
/-- Pieces `i` and the `n − 1` after it, joined. -/
def Staging.joined (x : Staging) : Nat → Nat → List Nat
  | _, 0 => []
  | i, n + 1 => (x.piece i).getD [] ++ x.joined (i + 1) n
/-- The pieces that make up the manifest, which piece 0 names. -/
def Staging.manPieces (x : Staging) : Nat := max 1 (min x.cnt (Machine.manPieces ((x.piece 0).getD [])))
def Staging.man (x : Staging) : List Nat := x.joined 0 x.manPieces
/-- Every manifest piece is held; a manifest that failed its checks is not kept (R506). -/
def Staging.manHeld (x : Staging) : Bool := (List.range x.manPieces).all x.holds
def Staging.complete (x : Staging) : Bool := (List.range x.cnt).all x.holds
/-- The lowest unmarked piece; 0xFFFF for none. -/
def Staging.firstMissing (x : Staging) : Nat := match (List.range x.cnt).find? fun i => !x.holds i with
  | some i => i
  | none => 0xFFFF
def Staging.body (x : Staging) : List Nat := (x.joined x.manPieces (x.cnt - x.manPieces)).take (manBodyLen x.man)
/-- UPD.STG_STAT.STATE: 0 free, 1 manifest, 2 body, 3 complete. -/
def areaState (b : Body) (k : Nat) : Nat := match stagingOf b k with
  | none => 0
  | some x => if x.complete then 3 else if x.manHeld then 2 else 1

/-! ### Node image campaigns (R531 to R533) -/

/-- ACT_TIME, in AirTime. -/
def actTime (b : Body) : Nat := b.get UPD.NC_ACT_LO.ACT_TIME + b.get UPD.NC_ACT_HI.ACT_TIME * 2 ^ 32
/-- `n` bolts from now, in AirTime mod 2^48. -/
def airIn (b : Body) (n : Nat) : Nat := airOfNs (tnNs b + n * boltNs b) % 2 ^ 48
/-- Within 16 bolts of an armed ACT_TIME, no further target is sent IMAGE_ACT. -/
def actClosed (b : Body) : Bool := decide (b.get UPD.NC_STAT.STATE ≥ 2) && decide (actTime b < airIn b 16)
/-- The target reported every piece. -/
def targetDone (b : Body) (u : Nat) : Bool := b.upd.nc.have_.any fun p => decide (p.1 = u ∧ p.2.1 = b.upd.nc.cnt)
/-- The campaign sends pieces: a target still lacks one. -/
def campaignSends (b : Body) : Bool :=
  (decide (b.get UPD.NC_STAT.STATE = 1) || (decide (b.get UPD.NC_STAT.STATE = 2) && !actClosed b)) &&
  b.upd.nc.targets.any fun u => !targetDone b u

/-- UPD.NC_CNT_A, UPD.NC_CNT_B and the end of a campaign whose every target was activated or failed. -/
def campaignCount (b : Body) : Body :=
  let c := b.upd.nc
  let closed := actClosed b
  let failed := c.targets.filter fun u => (c.results.any fun p => decide (p.1 = u ∧ p.2 ≠ 0)) || (closed && !c.acted.contains u)
  let ok := c.results.filter fun p => decide (p.2 = 0)
  let b := b.put UPD.NC_CNT_A.COMPLETE (c.targets.filter (targetDone b)).length
  let b := (b.put UPD.NC_CNT_B.ACTIVATED ok.length).put UPD.NC_CNT_B.FAILED failed.length
  if b.get UPD.NC_STAT.STATE = 2 ∧ failed.length + ok.length = c.targets.length then b.put UPD.NC_STAT.STATE 3 else b

end Sys2Proof.Machine
end

