-- ==== Sys2Proof/Machine/Air.lean ====
section
/-! DEFINITION. Machine/Air.lean: the meanings of AIR's sending commands and events: stitches, descriptors, builds, keys and hop queries
(chapter 09). -/

namespace Sys2Proof.Machine

open Host

/-! ### CONFIG (R303) -/

/-- WAKE_EXP of a slot, which no section of the pattern states. -/
def wakeExp (slot : Nat) : Nat := Config.value 2 [slot] % 8

def temp40 (t : Int) : Nat := uns 8 (t + 40)

/-- The 32-byte group bitmap of channel `n`. -/
def groupBits (b : Body) (n : Nat) : List Nat :=
  (List.range 32).map fun i => ((List.range 8).map fun j =>
    match groupMembers b (8 * i + j) with
    | some m => if m.contains n then 2 ^ j else 0
    | none => 0).sum

/-- The ATTRIBUTION record of a channel's CONFIG frames (R357), once the line frequency is known. -/
def attRecord (b : Body) (n : Nat) : List (List Nat) :=
  if b.att.lineHz = 0 ∨ (sect b sMETER).isNone then [] else
  let k := b.get MET.ATT_CH2.CODE n
  [[7, 6] ++ toLe 2 (if k = 0x7FF then 0xFFFF else k) ++ [b.get MET.ATT_CTL.DEPTH, b.att.lineHz, 0, 0]]

/-- IMAGE of a campaign's target, and IMAGE_ACT of one that holds every piece once an activation is armed (R532, R533). -/
def campaignRecords (b : Body) (u : Nat) : List (List Nat) :=
  let c := b.upd.nc
  if b.get UPD.NC_STAT.STATE = 0 ∨ !c.targets.contains u then [] else
  [[6, 8] ++ toLe 4 c.id ++ toLe 2 c.cnt ++ toLe 2 c.len] ++
  (if c.acted.contains u then
    [[8, 12] ++ toLe 4 c.id ++ toLe 6 (actTime b) ++ [0, 0]]
   else [])

/-- The records of a UNIT's configuration (R303). -/
def configRecords (b : Body) (u : Nat) : List (List Nat) :=
  let radio := [4, 4, homeTrx b u, freshW b / 16384] ++ toLe 2 (schedId b u)
  let key := match b.air.keyDue with
    | some i => [[5, 18, i, 0] ++ keyBytes b i]
    | none => []
  let own := if u ≤ 512 then
      let n := u - 1
      [[1, 16] ++ toLe 4 (holdTS b) ++ toLe 2 (autoOcc b n) ++ toLe 2 (autoIdle b n) ++ toLe 2 (autoHold b n) ++
        toLe 2 (b.get CE.SAFE.EMERG_LVL n) ++ [temp40 (kneeC b n), temp40 (tmaxC b n),
        b.get CE.SAFE_CFG.EMERGENCY n, 0], [2, 32] ++ groupBits b n] ++ attRecord b n
    else [[3, 4] ++ toLe 2 (slotHeartbeat b (u - 1024)) ++ [wakeExp (u - 1024), 0]]
  own ++ [radio] ++ key ++ campaignRecords b u

/-- Records packed into payloads of at most `room` bytes, the current one first. -/
def packRecords (room : Nat) : List (List Nat) → List Nat → List (List Nat)
  | [], cur => if cur = [] then [] else [cur]
  | r :: t, cur =>
    if cur.length + r.length ≤ room ∨ cur = [] then packRecords room t (cur ++ r) else cur :: packRecords room t r

/-- A node's configuration changed: a new CFG_SEQ starts and its frames are pending. -/
def configChange (u : Nat) (b : Body) : Body :=
  let seq := (tabGet (fun _ => 0) b.air.cfgSeq u + 1) % 65536
  let bodies := (packRecords (maxPsdu b (homeTrx b u) - 27) (configRecords b u) []).map fun x => toLe 2 seq ++ x
  let keep := b.air.configs.filter fun p => decide (p.1 ≠ u)
  { b with air := { b.air with
      cfgSeq := tabSet (fun _ => 0) b.air.cfgSeq u seq, configs := keep ++ bodies.map fun x => (u, x),
      sleepers := if u ≥ 1024 then tabSet (fun _ => 0) b.air.sleepers u 8 else b.air.sleepers } }

/-- The UNITs of sleeping nodes of radio `r` with frames waiting that its BEACON lists, at most 8 (R298, R319). -/
def pendUnits (b : Body) (r : Nat) : List Nat :=
  ((b.air.sleepers.filter fun p => decide (homeTrx b p.1 = r)).map (·.1)).take 8

/-- A UNIT's node is awake for its frames: a channel node always, a slot while it is listed (R319). -/
def nodeAwake (b : Body) (u : Nat) : Bool := decide (u < 1024) || (pendUnits b (homeTrx b u)).contains u

/-- A bolt of listing has passed: a UNIT listed for 8 bolts waits for its node's next wake (R319). -/
def sleepersBolt (b : Body) : Body :=
  let listed := [0, 1, 2, 3, 4].flatMap (pendUnits b)
  { b with air := { b.air with sleepers := (b.air.sleepers.map fun p =>
      (p.1, if listed.contains p.1 then p.2 - 1 else p.2)).filter fun p => decide (p.2 ≠ 0) } }

/-- Frames wait for a UNIT: CONFIG frames, or KEY records of its enrolment. -/
def framesWait (b : Body) (u : Nat) : Bool :=
  (b.air.configs.any fun p => decide (p.1 = u)) || b.nv.keys.node.any fun p => decide (p.1 = u)

/-- The pending CONFIG frames of a UNIT are offered for building, at most once per bolt (R303). -/
def configSend (u : Nat) (b : Body) : Body :=
  if tabGet (fun _ => 0) b.air.resent u = boltNo b + 1 ∨ !nodeAwake b u then b else
  let bodies := (b.air.configs.filter fun p => decide (p.1 = u)).map (·.2)
  let seq := tabGet (fun _ => 0) b.air.cfgSeq u
  let waiting := b.air.descs.any fun d => match d with
    | .config _ v _ _ => decide (v = u)
    | _ => false
  if waiting ∨ bodies = [] then b else
  { b with air := { b.air with resent := tabSet (fun _ => 0) b.air.resent u (boltNo b + 1),
                               descs := b.air.descs ++ bodies.map fun x => .config (homeTrx b u) u seq x } }

/-- The KEY records of the segment keys in use, under a node's own key (R530): offered to a node that is awake once per bolt
until reported. -/
def nodeKeySend (u : Nat) (b : Body) : Body :=
  let waiting := b.air.descs.any fun d => match d with
    | .nodeKey _ v _ _ => decide (v = u)
    | _ => false
  if waiting || !nodeAwake b u then b else
  let seq := tabGet (fun _ => 0) b.air.cfgSeq u
  let keys := [0, 1, 2, 3].filter fun i => b.bit AIR.KEY_CTL.LOADED i &&
    (decide (i = keyTx b) || (b.flag AIR.STAT.GRACE && decide (b.air.prevKey = some i)))
  let ds := keys.map fun i => Desc.nodeKey (homeTrx b u) u i (toLe 2 seq ++ [5, 18, i, 0] ++ keyBytes b i)
  { b with air := { b.air with descs := b.air.descs ++ ds } }

/-- A node reported the CFG_SEQ it has applied (R303, R530). -/
def configReported (u seq : Nat) (b : Body) : Body :=
  let b := b.put AIR.NODE_CFG.CFG_SEQ seq u
  if seq = tabGet (fun _ => 0) b.air.cfgSeq u then
    { b with nv := { b.nv with keys := { b.nv.keys with node := b.nv.keys.node.filter fun p => decide (p.1 ≠ u) } },
             air := { b.air with configs := b.air.configs.filter fun p => decide (p.1 ≠ u),
                                 sleepers := tabSet (fun _ => 0) b.air.sleepers u 0 } }
  else b

/-! ### Stitches -/

/-- The bytes both sync frames start with (R298). -/
def syncHead (b : Body) (r sfd : Nat) : List Nat :=
  let a := airOfNs sfd
  toLe 2 (sfd % 10 ^ 9 - (a % 65536 * 10 ^ 9 + 65535) / 65536) ++ [r + stitchCode b * 8 + fPwm b * 32]

/-- The lag from a frame's start to its SFD, which the PHY fixes and the spec does not state. -/
def sfdLag (b : Body) (r : Nat) : Nat := Config.value 1 [r, phyCode b]

/-- A sync frame leaves, if the channel, the guard and the wake allow it (R83, R293, R294). -/
def sendSync (ty r chan keyidx : Nat) (dbm : Int) (sfd : Nat) (payload : List Nat) (b : Body) : Body :=
  let us := frameUs b r (25 + payload.length)
  if lbtBusy b r dbm then b.bump AIR.TXC.DEFER_LBT 1 r
  else if !dwellPass b r chan us then b.bump AIR.TXC.DEFER_DWELL 1 r
  else
    let h := airHeader b ty (groupDest 0 true false false true) keyidx (airOfNs sfd)
    (dwellAdd r chan us b).emit (.air r chan (phrOf b r) (protect (keyBytes b keyidx) h payload))

/-- Stitch 0 of radio `r`: the BEACON (R283, R298). -/
def beacon (r : Nat) (dbm : Int) (b : Body) : Body :=
  let b := stitchBoundary b
  let (late, b) := takeLate r b
  if !airOn b r || late then b else
  let sfd := stitchStart b r 0 + 200000 + sfdLag b r
  let pend := pendUnits b r
  let sw := b.flag AIR.STAT.SW_ARMED
  let flags := (if emergency b then 1 else 0) + (if inHem b then 2 else 0) + (if sw then 4 else 0) +
    (if campaignSends b then 8 else 0)
  let payload := syncHead b r sfd ++ [flags] ++ toLe 4 (if sw then b.get AIR.KEY_SW.BOLT else 0) ++
    toLe 2 (schedMod b r) ++ [pend.length] ++ pend.flatMap (toLe 2)
  sendSync 0 r (hop b (boltNow b r) 0 r) (keyTx b) dbm sfd payload b

def execBeaconStitch (r : Nat) (dbm : Int) (s : State) : Outcome State Fault Refusal := onBody (beacon (r % 5) dbm) s

/-- Stitch 128 of TRX3: the ANCHOR, in the grace period under the previous key in odd bolts (R283, R309). -/
def anchor (dbm : Int) (b : Body) : Body :=
  let b := stitchBoundary b
  let (late, b) := takeLate 3 b
  if !airOn b 3 || late then b else
  let sfd := stitchStart b 3 128 + 200000 + sfdLag b 3
  let key := match b.air.prevKey with
    | some k => if b.flag AIR.STAT.GRACE ∧ boltNow b 3 % 2 = 1 then k else keyTx b
    | none => keyTx b
  sendSync 1 3 (anchorIdx b) key dbm sfd (syncHead b 3 sfd) b

def execAnchorStitch (dbm : Int) (s : State) : Outcome State Fault Refusal := onBody (anchor dbm) s

/-- The wake point of a DOWN stitch of radio `r`, 50 µs before the stitch: the bank swap is requested and aged frames
are rebuilt (R307, R381). -/
def downWake (r : Nat) (b : Body) : Body :=
  if !airOn b r then b else
  restampAged r (tnNs b + 50000) (qSwap r b)

def execDownStitchWakePoint (r : Nat) (s : State) : Outcome State Fault Refusal := onBody (downWake (r % 5)) s

/-- Frames of the sending bank that one stitch holds, oldest first. -/
def stitchLens (b : Body) (r : Nat) : List Nat → List Nat → List Nat
  | [], acc => acc
  | l :: t, acc => if fitsStitch b r (acc ++ [l]) then stitchLens b r t (acc ++ [l]) else acc

/-- Frames leave the sending bank, oldest first. -/
def sendFrames (r chan : Nat) : Nat → Body → Body
  | 0, b => b
  | n + 1, b => match qTake r b with
    | (none, b) => b
    | (some l, b) =>
      let f := itemFrame l
      sendFrames r chan n ((dwellAdd r chan (frameUs b r f.length) b).emit (.air r chan (phrOf b r) f))

/-- Stitch 255 of radio `r` would share a channel with an overlapping stitch 0 of the next bolt (R291). -/
def refused255 (b : Body) (r : Nat) : Bool :=
  let c := hop b (boltNow b r) 255 r
  decide (r < 4) && ([0, 1, 2, 3].any fun q => decide (q < r) && radioEn b q && decide (hop b (boltNow b r + 1) 0 q = c))

/-- A DOWN stitch (R286, R291, R293, R294). -/
def downStitch (r st : Nat) (dbm : Int) (b : Body) : Body :=
  let b := stitchBoundary b
  let (late, b) := takeLate r b
  let x := queueOf b r
  if !airOn b r || late || decide (stitchKind b r st ≠ .down) || decide (x.items = []) then b else
  let chan := hop b (boltNow b r) st r
  let lens := stitchLens b r (itemLens x.items) []
  let us := (lens.map fun l => frameUs b r l).sum
  if st = 255 ∧ refused255 b r then b.bump AIR.TXC.DEFER_DWELL 1 r
  else if lbtBusy b r dbm then b.bump AIR.TXC.DEFER_LBT 1 r
  else if !dwellPass b r chan us then b.bump AIR.TXC.DEFER_DWELL 1 r
  else sendFrames r chan lens.length { b with air := { b.air with woken := tabSet (fun _ => 0) b.air.woken r (stitchStart b r st + 1) } }

def execDownStitch (r st : Nat) (dbm : Int) (s : State) : Outcome State Fault Refusal :=
  onBody (downStitch (r % 5) (st % 256) dbm) s

/-! ### Descriptors and builds -/

/-- The home radios of channels, ascending. -/
def homesOf (b : Body) (ns : List Nat) : List Nat :=
  [0, 1, 2, 3].filter fun r => ns.any fun n => decide (b.get CE.SAFE_CFG.HOME_TRX n = r)

/-- A channel's command carries SRC 5 (R315). -/
def srcAhead (b : Body) (ns : List Nat) : Bool := ns.any fun n => decide (b.get CE.CH_STAT.SRC n = 5)

def addDescs (l : List Desc) (b : Body) : Body :=
  { sliceYield 3 b with air := { b.air with descs := b.air.descs ++ l } }

/-- One COMMAND event becomes waiting descriptors (R317). -/
def descriptor (p : Nat) (b : Body) : Body :=
  let target := bits p 0 12
  let kind := bits p 12 2
  let all := bits p 14 1 = 1
  let emerg := bits p 15 1 = 1
  let rel := bits p 16 1 = 1
  let rec_ := bits p 17 9
  let bad := b.bump AIR.RXC_E.BAD_RECORD
  if bits p 26 38 ≠ 0 ∨ kind = 3 then bad
  else if kind = 0 then
    if target = 0 ∨ chanCnt b < target then bad
    else addDescs [.cmd (homeTrx b target) target rec_ false false (srcAhead b [target - 1])] b
  else if kind = 1 then
    if emerg then addDescs ((enabledRadios b).map .emerg) b
    else if rel then addDescs ((enabledRadios b).map .release) b
    else if all then
      let ns := List.range (chanCnt b)
      addDescs ((homesOf b ns).map fun r => .cmd r 0 rec_ true true (srcAhead b ns)) b
    else match groupMembers b target with
      | none => bad
      | some ns => addDescs ((homesOf b ns).map fun r => .cmd r target rec_ true false (srcAhead b ns)) b
  else if target = 0 ∨ !unitOk b target then bad
  else configSend target b

/-- AIR takes the oldest event of its COMMAND port. -/
def takeDescriptor (b : Body) : Body := match b.air.cmdIn with
  | [] => b
  | e :: t => descriptor e.payload { b with air := { b.air with cmdIn := t } }

def execCommandDescriptor (s : State) : Outcome State Fault Refusal := onBody takeDescriptor s

/-- Build priority, lower first (R315). -/
def Desc.prio : Desc → Nat
  | .ack .. => 0
  | .emerg _ => 1
  | .release _ => 1
  | .cmd _ _ _ _ _ true => 2
  | .cmd _ _ _ _ _ false => 3
  | .config .. => 4
  | .nodeKey .. => 4
  | .image .. => 5

def Desc.radio : Desc → Nat
  | .ack r _ _ _ => r
  | .emerg r => r
  | .release r => r
  | .cmd r _ _ _ _ _ => r
  | .config r _ _ _ => r
  | .nodeKey r _ _ _ => r
  | .image r _ _ => r

/-- The first descriptor of the lowest priority value on radio `r`. -/
def firstOn (ds : List Desc) (r : Nat) : Option Desc :=
  let l := ds.filter fun d => decide (d.radio = r)
  let p := l.foldl (fun m d => min m d.prio) 9
  l.find? fun d => decide (d.prio = p)

/-- The PSDU length a descriptor will take. -/
def Desc.psdu (b : Body) : Desc → Nat
  | .ack .. => 32
  | .emerg _ => 40
  | .release _ => 40
  | .cmd _ _ k g _ _ => 40 + (if g then 3 * (tabGet (fun _ => CmdRec.mk 0 0 0 0 false 0 0 []) b.ce.recs k).phases.length else 0)
  | .config _ _ _ x => 25 + x.length
  | .nodeKey _ _ _ x => 25 + x.length
  | .image _ x _ => 25 + x.length

/-- Image frames have room left in this bolt on radio `r` (R304). -/
def imageRoom (b : Body) (r len : Nat) : Bool :=
  decide ((tabGet (fun _ => 0) b.air.imgUs r + frameUs b r len) * 100 ≤ b.get AIR.TUNE.IMG_PCT * 128 * stitchUs b)

/-- The campaign's next pieces (R532): when none waits, the lowest piece that a target may still lack from the last one
sent on, wrapping at the end, goes to the home radios of the targets that lack it. -/
def campaignFeed (b : Body) : Body :=
  let c := b.upd.nc
  let waiting := b.air.descs.any fun d => match d with
    | .image .. => true
    | _ => false
  if waiting || !campaignSends b || !acting b || !appsRun b then b else
  let open_ := c.targets.filter fun u => !targetDone b u
  let miss := fun u => match c.have_.find? fun p => decide (p.1 = u) with
    | some p => p.2.2
    | none => 0
  let low := open_.foldl (fun m u => min m (miss u)) (c.cnt - 1)
  let k := if low ≤ c.next ∧ c.next < c.cnt then c.next else low
  match stagingOf b c.area with
  | none => b
  | some x =>
    let data := bytesAt x.body (k * c.len) c.len
    let radios := [0, 1, 2, 3, 4].filter fun r => open_.any fun u => decide (miss u ≤ k) && decide (homeTrx b u = r)
    let body := toLe 4 c.id ++ toLe 2 k ++ toLe 2 c.cnt ++ data
    { b with upd := { b.upd with nc := { c with next := k + 1 } },
             air := { b.air with descs := b.air.descs ++ radios.map fun r => .image r body c.sensors } }

/-- A descriptor can be built now: an ACK always, any other behind the frames that went back to AIR. -/
def canBuild (b : Body) (d : Desc) : Bool := radioEn b d.radio && match d with
  | .ack .. => true
  | .image r x _ => bankTakes b r (25 + x.length) && imageRoom b r (25 + x.length) && !(b.air.back.any fun p => decide (p.1 = r))
  | d => bankTakes b d.radio (d.psdu b) && !(b.air.back.any fun p => decide (p.1 = d.radio))

/-- Removes the first equal descriptor. -/
def dropDesc (d : Desc) (b : Body) : Body := { b with air := { b.air with descs := b.air.descs.erase d } }

/-- A record no waiting descriptor names is free again (R169's pool of command records). -/
def freeRec (k : Nat) (b : Body) : Body :=
  let used := (b.air.descs.any fun d => match d with
    | .cmd _ _ j _ _ _ => decide (j = k)
    | _ => false) || b.air.cmdIn.any fun e => decide (bits e.payload 17 9 = k)
  if used then b else { b with ce := { b.ce with recs := b.ce.recs.filter fun p => decide (p.1 ≠ k) } }

/-- The command record `k`. -/
def recOf (b : Body) (k : Nat) : CmdRec := tabGet (fun _ => CmdRec.mk 0 0 0 0 false 0 0 []) b.ce.recs k

/-- Builds one descriptor into its radio's bank (R314 to R316). -/
def buildDesc (d : Desc) (b : Body) : Body :=
  let b := dropDesc d b
  match d with
  | .ack r u acked st =>
    let (f, b) := buildFrame 6 (unitDest b u) (toLe 6 acked ++ [st]) b
    ackPut r f b
  | .emerg r =>
    let f := tabGet (fun _ => []) b.air.emergBuilt r
    let b := if f = [] then buildEmerg r false b else b
    let (b, _) := bankPut r (tabGet (fun _ => []) b.air.emergBuilt r) 1 b
    buildEmerg r true (buildEmerg r false b)
  | .release r =>
    let f := tabGet (fun _ => []) b.air.releaseBuilt r
    let b := if f = [] then buildEmerg r true b else b
    let (b, _) := bankPut r (tabGet (fun _ => []) b.air.releaseBuilt r) 1 b
    buildEmerg r false (buildEmerg r true b)
  | .cmd r t k grp all _ =>
    let c := recOf b k
    let body := if grp then commandBody c ++ [c.phases.length] ++ c.phases.flatMap fun p => toLe 2 p.1 ++ [p.2 % 256]
      else commandBody c ++ [c.phase]
    let dest := if grp then groupDest t all false false false else unitDest b t
    let (f, b) := buildFrame (if grp then 3 else 2) dest body b
    freeRec k (bankPut r f 0 b).1
  | .config r u _ x =>
    let (f, b) := buildFrame 8 (unitDest b u) x b
    (bankPut r f 0 b).1
  | .nodeKey r u i x => match b.nv.keys.node.find? fun p => decide (p.1 = u) with
    | none => b
    | some k =>
      let (f, b) := buildNodeKey k.2 i (unitDest b u) x b
      (bankPut r f 0 b).1
  | .image r x sens =>
    let (f, b) := buildFrame 7 (groupDest 0 true false false sens) x b
    let us := tabGet (fun _ => 0) b.air.imgUs r + frameUs b r f.length
    campaignFeed (bankPut r f 0 { b with air := { b.air with imgUs := tabSet (fun _ => 0) b.air.imgUs r us } }).1

/-- AIR builds the waiting descriptor of highest priority whose bank takes it (R315). The holder builds none once a
hand-over stopped it (R458). -/
def transmitBuild (b : Body) : Body :=
  if !b.flag AIR.CTL.RUN || !acting b || b.seam.stopBuild then b else
  let b := backFill b
  let ds := ([0, 1, 2, 3, 4].filterMap fun r => firstOn b.air.descs r).filter fun d => canBuild b d
  let p := ds.foldl (fun m d => min m d.prio) 9
  match b.air.descs.find? fun d => decide (d.prio = p) && ds.contains d with
  | none => b
  | some d => buildDesc d b

def execTransmitBuild (s : State) : Outcome State Fault Refusal := onBody transmitBuild s

/-- Every FRESH_W / 4 both built frames of each enabled radio are rebuilt (R316). -/
def emergRebuild (b : Body) : Body :=
  if !b.flag AIR.CTL.RUN || !acting b then b else
  b.each (enabledRadios b) fun b r => buildEmerg r true (buildEmerg r false b)

def execEmergFrameRebuild (s : State) : Outcome State Fault Refusal := onBody emergRebuild s

/-- A filtered emergency edge: each radio's filling bank is discarded and counted, and the emergency frame placed there (R191,
R316). -/
def emergEdge (b : Body) : Body :=
  if !b.flag AIR.CTL.RUN || !acting b then b else
  b.each (enabledRadios b) fun b r =>
    let n := (queueOf b r).fill.length
    let b := setQueue (b.bump AIR.TXD.FLUSHED n) r { queueOf b r with fill := [] }
    buildDesc (.emerg r) b

/-! ### Keys -/

/-- A write of AIR.KEY_W[i][w] (R308): ignored with a record for the slot in use, or the previous slot in grace. -/
def keyWrite (i w v : Nat) (b : Body) : Body :=
  let loaded := b.bit AIR.KEY_CTL.LOADED i
  let inUse := (decide (i = keyTx b) && loaded) || (b.flag AIR.STAT.GRACE && decide (b.air.prevKey = some i))
  if inUse then blockRecord 3 (0x0100 + 0x10 * i + 4 * w) 0 b
  else
    let b := b.put AIR.KEY_W.KEY v i w
    if w = 3 then
      let b := b.setBit AIR.KEY_CTL.LOADED i true
      if i = keyTx b then b
      else { b with air := { b.air with keyDue := some i, configDue := b.air.configDue ++ nodeUnits b } }
    else b

def execKeyWrite (i w v : Nat) (s : State) : Outcome State Fault Refusal := onBody (coreAccess (keyWrite (i % 4) (w % 4) v)) s

/-- A write of AIR.KEY_ARM with ARM set (R309). -/
def keyArm (next : Nat) (b : Body) : Body :=
  let b := b.put AIR.KEY_ARM.NEXT next
  if b.bit AIR.KEY_CTL.LOADED next ∧ boltNo b + 16 ≤ b.get AIR.KEY_SW.BOLT then b.mark AIR.STAT.SW_ARMED true
  else blockRecord 3 0x0028 next b

def execKeyArm (next : Nat) (s : State) : Outcome State Fault Refusal := onBody (coreAccess (keyArm (next % 4))) s

/-- At the switch bolt AIR transmits and hops under the new key, and the grace period starts (R309): the frames that wait and
the built emergency frames are rebuilt under it (DEDUCED, log entry 80). -/
def keySwitch (b : Body) : Body :=
  if b.flag AIR.STAT.SW_ARMED ∧ b.get AIR.KEY_SW.BOLT ≤ boltNo b then
    let old := keyTx b
    let b := ((b.mark AIR.STAT.SW_ARMED false).put AIR.STAT.KEYIDX_TX (b.get AIR.KEY_ARM.NEXT)).mark AIR.STAT.GRACE true
    let b := { b with air := { b.air with
      prevKey := some old, graceEnd := boltNo b + b.get AIR.KEY_CTL.GRACE_BOLTS, swBolt := b.get AIR.KEY_SW.BOLT, keyDue := none } }
    emergRebuild (restampBack (b.each [0, 1, 2, 3, 4] fun b r => restampBanks r b))
  else b

/-- The grace period is over (R309). -/
def graceEnd (b : Body) : Body :=
  if b.flag AIR.STAT.GRACE ∧ b.air.graceEnd ≤ boltNo b then
    { b.mark AIR.STAT.GRACE false with air := { b.air with prevKey := none } }
  else b

def execKeyGraceEnd (s : State) : Outcome State Fault Refusal := onBody graceEnd s

/-! ### Hop queries -/

/-- A write of AIR.HOP_ARG starts a query. -/
def hopQuery (r st : Nat) (b : Body) : Body :=
  let b := ((b.put AIR.HOP_ARG.RADIO r).put AIR.HOP_ARG.STITCH st).mark AIR.HOP_RES.DONE false
  { b with air := { b.air with hopBusy := true } }

def execHopQuery (r st : Nat) (s : State) : Outcome State Fault Refusal := onBody (coreAccess (hopQuery (r % 8) (st % 256))) s

/-- The query completes (R289), under the transmit key. -/
def hopResult (b : Body) : Body :=
  if !b.air.hopBusy then b else
  let r := b.get AIR.HOP_ARG.RADIO
  let c := hopWith (hopKey b (keyTx b)) b (b.get AIR.HOP_BOLT.BOLT) (b.get AIR.HOP_ARG.STITCH) (min r 4)
  (({ b with air := { b.air with hopBusy := false } }).put AIR.HOP_RES.CHANNEL c).mark AIR.HOP_RES.DONE true

def execHopResult (s : State) : Outcome State Fault Refusal := onBody hopResult s

/-! ### Bolt boundary -/

/-- What AIR does at a bolt boundary: the key switch, new and resent CONFIG frames, and the image share of a bolt. -/
def airBolt (b : Body) : Body :=
  let b := keySwitch b
  let b := sleepersBolt { b with air := { b.air with imgUs := [] } }
  if !b.flag AIR.CTL.RUN || !acting b then b else
  let due := (nodeUnits b).filter fun u => b.air.configDue.contains u
  let b := { b with air := { b.air with configDue := [] } }
  let b := b.each due fun b u => configChange u b
  let b := b.each (b.nv.keys.node.map (·.1)) fun b u => nodeKeySend u b
  b.each (nodeUnits b) fun b u => configSend u b

end Sys2Proof.Machine
end

