-- ==== Sys2Proof/Machine/AirReceive.lean ====
section
/-! DEFINITION. Machine/AirReceive.lean: what AIR does with a received frame (R310 to R314), its records and events (R300, R301, R318), and
its queue item (R599). -/

namespace Sys2Proof.Machine

open Host

/-- The UNIT is a channel, or a slot whose KIND is listed. -/
def fromChannel (b : Body) (u : Nat) : Bool := decide (1 ≤ u ∧ u ≤ chanCnt b)
def fromSlot (b : Body) (u : Nat) (kinds : List Nat) : Bool :=
  decide (1024 ≤ u ∧ u < 1024 + sensCnt b) && kinds.contains (slotKind b (u - 1024))

/-- Bytes of a record by RTYPE, RTYPE included (R300). -/
def recSize : Nat → Option Nat
  | 1 => some 6
  | 2 => some 6
  | 3 => some 16
  | 4 => some 8
  | 5 => some 6
  | 6 => some 10
  | _ => none

def badRecord (b : Body) : Body := b.bump AIR.RXC_E.BAD_RECORD

/-- The slot answers an IMAGE record: a campaign's target holds pieces (R532, R533). -/
def imageReport (u id have_ miss : Nat) (b : Body) : Body :=
  let c := b.upd.nc
  if b.get UPD.NC_STAT.STATE ≠ 0 ∧ c.id = id ∧ c.targets.contains u then
    let h := (c.have_.filter fun p => decide (p.1 ≠ u)) ++ [(u, have_, miss)]
    let fresh := decide (have_ = c.cnt) && b.get UPD.NC_STAT.STATE = 2 && !c.acted.contains u && !actClosed b
    let b := campaignCount { b with upd := { b.upd with nc := { c with have_ := h } } }
    campaignFeed (if fresh then
      { b with upd := { b.upd with nc := { b.upd.nc with acted := b.upd.nc.acted ++ [u] } },
               air := { b.air with configDue := b.air.configDue ++ [u] } }
      else b)
  else b

/-- One record of an accepted REPORT (R300, R318). -/
def reportRecord (u : Nat) (r : List Nat) (b : Body) : Body := match u8 r 0 with
  | 1 =>
    if fromChannel b u || fromSlot b u [0, 3] then
      let x := u8 r 1
      emitEv 0x42 0 (u + x / 16 * 2 ^ 12 + x % 2 * 2 ^ 16 + u32 r 2 * 2 ^ 32) 0 b
    else badRecord b
  | 2 =>
    if fromSlot b u [1] then
      let x := u8 r 1
      emitEv 0x42 1 (u + x % 4 * 2 ^ 12 + x / 4 % 2 * 2 ^ 14 + u32 r 2 * 2 ^ 32) 0 b
    else badRecord b
  | 3 =>
    if fromChannel b u then
      let fault := u8 r 1 % 128
      let b := b.put AIR.LINK.MISSED (u8 r 15) u
      let b := configReported u (u16 r 12) b
      let b := emitEv 0x42 2 (u + fault * 2 ^ 12 + min (u24 r 5) 262143 * 2 ^ 20 + min (u16 r 2) 32767 * 2 ^ 38 +
        u8 r 4 * 2 ^ 53) 0 b
      emitEv 0x42 2 (u + u16 r 8 * 2 ^ 12 + u16 r 10 * 2 ^ 28 + u16 r 12 * 2 ^ 44) 1 b
    else badRecord b
  | 4 =>
    let b := (b.put AIR.NODE_CFG.FW_VERSION (u16 r 6) u)
    let b := { b with air := { b.air with classes := tabSet (fun _ => 2) b.air.classes u (u8 r 5) } }
    if fromChannel b u then
      emitEv 0x42 2 (u + u8 r 1 % 32 * 2 ^ 12 + u8 r 4 % 32 * 2 ^ 17 + u16 r 2 * 2 ^ 32 + u16 r 6 * 2 ^ 48) 2 b
    else
      let b := configReported u (tabGet (fun _ => 0) b.air.cfgSeq u) b
      let (arg, b) := b.freeWord
      emitEv 0x42 4 (u + 0x70 * 2 ^ 12 + arg * 2 ^ 32) 0 b
  | 5 =>
    if fromSlot b u [0, 1, 2, 3] then
      if u24 r 1 > 200000 ∨ u8 r 4 > 190 then b.bump AIR.RXC_E.RANGE
      else emitEv 0x42 3 (u + u24 r 1 * 2 ^ 12 + u8 r 4 * 2 ^ 30 + u8 r 5 * 2 ^ 38) 0 b
    else badRecord b
  | _ =>
    let b := imageReport u (u32 r 2) (u16 r 6) (u16 r 8) b
    if fromChannel b u then b
    else emitEv 0x42 4 (u + 0x71 * 2 ^ 12 + u16 r 6 * 2 ^ 32 + u16 r 8 * 2 ^ 48) 0 b

/-- The records of a REPORT in order; an RTYPE outside the table, or a record cut short, ends processing. -/
def reportRecords (u : Nat) : Nat → List Nat → Body → Body
  | 0, _, b => b
  | n + 1, l, b => match recSize (u8 l 0) with
    | none => badRecord b
    | some k => if l.length < k then badRecord b else reportRecords u n (l.drop k) (reportRecord u (l.take k) b)

/-- An accepted REPORT. -/
def takeReport (u : Nat) (p : List Nat) (b : Body) : Body :=
  if u8 p 0 = 0 ∨ u8 p 0 > 8 then badRecord b else reportRecords u (u8 p 0) (p.drop 1) b

/-- IMAGE_RESULT of a campaign's target (R533, R534). -/
def imageResult (u arg : Nat) (b : Body) : Body :=
  let c := b.upd.nc
  if b.get UPD.NC_STAT.STATE ≠ 0 ∧ c.targets.contains u ∧ arg / 256 = c.id % 2 ^ 24 then
    let rs := (c.results.filter fun p => decide (p.1 ≠ u)) ++ [(u, arg % 256)]
    campaignCount { b with upd := { b.upd with nc := { c with results := rs } } }
  else b

/-- An accepted EVENT (R301, R318). -/
def takeNodeEvent (u : Nat) (p : List Nat) (b : Body) : Body :=
  let code := u8 p 0
  if p.length < 6 ∨ !(decide (1 ≤ code ∧ code ≤ 7) || decide (0x80 ≤ code)) then badRecord b
  else
    let b := if code = 6 then imageResult u (u32 p 2) b else b
    emitEv 0x42 4 (u + code * 2 ^ 12 + u32 p 2 * 2 ^ 32) 0 b

/-- Step 1 of R310: length, VER, TYPE and flags. -/
def frameForm (f : List Nat) : Bool :=
  let fc := u8 f 0
  let ty := fc % 16
  decide (25 ≤ f.length) && decide (ty ≤ 8) && decide (fc / 128 = 0) &&
  (decide (fc % 128 = fcOf ty) || (decide (ty = 4) && decide (fc = fcOf 4 + 32)) || (decide (ty = 5) && decide (fc = fcOf 5 + 32))) &&
  (decide (ty ≠ 5) || decide (fc / 32 % 2 = 1))

/-- The class of R311; an ACK has none. -/
def frameClass (f : List Nat) : Option Nat :=
  let ty := u8 f 0 % 16
  if ty ≤ 1 then some 0
  else if ty = 3 ∧ u32 f 5 / 2 ^ 17 % 4 ≠ 0 then some 1
  else if ty = 6 then none
  else some 2

def markOf (b : Body) (src cls : Nat) : Option Mark := b.air.marks.find? fun m => decide (m.unit = src ∧ m.cls = cls)
def setMark (m : Mark) (b : Body) : Body :=
  { b with air := { b.air with marks := (b.air.marks.filter fun x => decide (x.unit ≠ m.unit ∨ x.cls ≠ m.cls)) ++ [m] } }

/-- The key slot is loaded and acceptable (R309). -/
def keyGood (b : Body) (i : Nat) : Bool :=
  b.bit AIR.KEY_CTL.LOADED i && (decide (i = keyTx b) || (b.flag AIR.STAT.GRACE && decide (b.air.prevKey = some i)))

/-- The frame's MIC and payload under key slot `i` (R305). -/
def openFrame (b : Body) (i : Nat) (f : List Nat) : Option (List Nat) :=
  let h := f.take 17
  let c := (f.drop 17).take (f.length - 25)
  let mic := f.drop (f.length - 8)
  let key := keyBytes b i
  if u8 f 0 / 16 % 2 = 1 then
    let p := ccmCrypt key (airNonce h) c
    if ccmTag key (airNonce h) h p = mic then some p else none
  else if ccmTag key (airNonce h) (h ++ c) [] = mic then some c else none

/-- EPOCH comparison in 14-bit serial arithmetic (R313): `x` is newer than `y`. -/
def epochNewer (x y : Nat) : Bool :=
  let d := (x + 2 ^ 14 - y % 2 ^ 14) % 2 ^ 14
  decide (0 < d ∧ d < 2 ^ 13)

/-- An ACK with a STATUS waits for the next DOWN stitch (R314); a member that does not act sends none. -/
def offerAck (r u acked st : Nat) (b : Body) : Body :=
  if acting b then addDescs [.ack r u acked st] b else b

/-- Step 10 of R310: mark, ACK, payload, link figures and the item of R599. -/
def acceptFrame (r rssi sfd : Nat) (f p : List Nat) (b : Body) : Body :=
  let src := u32 f 1
  let u := src % 2 ^ 12
  let stamp := u48 f 11
  let ackreq := u8 f 0 / 32 % 2 = 1
  let b := match frameClass f with
    | some c => setMark ⟨src, c, stamp, f.take 17, f.drop (f.length - 8)⟩ b
    | none => b
  let b := if ackreq then offerAck r u stamp 0 b else b
  let b := { b.put AIR.LINK.RSSI rssi u with air := { b.air with
    heard := tabSet (fun _ => none) b.air.heard u (some (b.clock.cyc : Int)),
    sleepers := if framesWait b u ∧ u ≥ 1024 then tabSet (fun _ => 0) b.air.sleepers u 8 else b.air.sleepers } }
  let b := match b.seam.test with
    | some t =>
      -- R468: within 3 bolts of the first transmitted stitch
      if 1 ≤ u ∧ t.start ≤ tnNs b ∧ tnNs b ≤ t.start + 3 * boltNs b ∧ t.expected.contains (u - 1) ∧ !t.heard.contains (u - 1) then
        { b with seam := { b.seam with test := some { t with heard := t.heard ++ [u - 1] } } } else b
    | none => b
  let b := match u8 f 0 % 16 with
    | 4 => takeReport u p b
    | 5 => takeNodeEvent u p b
    | _ => b
  let item := [f.length, r, hopAt b r sfd, rssi % 256] ++ toLe 4 (sfd % 2 ^ 32) ++
    [u16 f 9 / 2 ^ 14, if ackreq ∧ acting b then 1 else 0] ++ List.replicate 6 0
  (qPut (5 + r) (item ++ f.take 17 ++ p ++ f.drop (f.length - 8)) b).1

/-- A received frame (R310 to R314); without a time base no stitch starts to receive one in (R91). `age` is the time since its
SFD, in ns. -/
def receive (r rssi age : Nat) (f : List Nat) (b : Body) : Body :=
  if !b.flag AIR.CTL.RUN || !radioEn b r || !(ntv b || rtcv b) then b else
  let b := sliceYield (9 + r) (sliceYield 3 (ungate b))
  if !frameForm f then b.bump AIR.RXC_A.FORMAT else
  let src := u32 f 1
  let group := u8 f 0 / 64 % 2 = 1
  let dest := if group then src / 2 ^ 12 * 2 ^ 12 else u32 f 5
  let u := src % 2 ^ 12
  if dest / 2 ^ 26 ≠ netNo b then b
  else if dest / 2 ^ 12 % 2 ^ 14 ≠ modNo b then b
  else if !unitOk b u || !unitOk b (dest % 2 ^ 12) then b.bump AIR.RXC_A.ADDR
  else
    let i := u16 f 9 / 2 ^ 14
    if !keyGood b i then b.bump AIR.RXC_B.KEY
    else match openFrame b i f with
      | none => b.bump AIR.RXC_B.MIC
      | some p =>
        let stamp := u48 f 11
        let ackreq := u8 f 0 / 32 % 2 = 1
        let sfd := tnNs b - age
        if (stampDiff stamp (airOfNs sfd)).natAbs > freshW b then
          let b := b.bump AIR.RXC_C.STALE
          if ackreq then offerAck r u stamp 2 b else b
        else if epochNewer (u16 f 9 % 2 ^ 14) (b.get AIR.EPOCH.EPOCH) then
          epochAhead (u16 f 9 % 2 ^ 14) (b.bump AIR.RXC_C.EPOCH)
        else
          match (frameClass f).bind (markOf b src) with
          | none => acceptFrame r rssi sfd f p b
          | some m =>
            if stampDiff stamp m.stamp > 0 then acceptFrame r rssi sfd f p b
            else if m.hdr = f.take 17 ∧ m.mic = f.drop (f.length - 8) then
              let b := b.bump AIR.RXC_D.DUPLICATE
              if ackreq then offerAck r u stamp 1 b else b
            else b.bump AIR.RXC_D.REPLAY

def execFrameReceived (r rssi age : Nat) (psdu : List Nat) (s : State) : Outcome State Fault Refusal :=
  onBody (receive (r % 5) rssi age psdu) s

end Sys2Proof.Machine
end

