-- ==== Sys2Proof/Machine/Queues.lean ====
section
/-! DEFINITION. Machine/Queues.lean: the meanings of QM's commands and events (R376 to R390). -/

namespace Sys2Proof.Machine

open Host

/-- The reset of a queue whose pointer copies differ (R389): contents discarded, PTR_RESET, audit, QM_PTR. -/
def ptrReset (q : Nat) (b : Body) : Body :=
  let b := (qEmpty q b).mark QM.Q_FLAG.PTR_RESET true q
  let b := setQueue b q { queueOf b q with audit := true }
  let b := ((b.wrap QM.PTR_ERR.COUNT).put QM.PTR_ERR.QUEUE q).mark QM.PTR_ERR.AUDIT true
  raise 0x0501 q 0 b

/-- A pointer mismatch found on queue `q`; during an audit it waits (R389). -/
def ptrMismatch (q : Nat) (b : Body) : Body :=
  if b.flag QM.PTR_ERR.AUDIT then
    if b.qm.waiting.contains q then b else { b with qm := { b.qm with waiting := b.qm.waiting ++ [q] } }
  else ptrReset q b

/-- An operation on queue `q`: the copies of its pointers are compared first, and a mismatch takes its place (R389). -/
def onQueue (q : Nat) (mismatch : Bool) (f : Body → Body) (s : State) : Outcome State Fault Refusal :=
  onBody (fun b => if mismatch then ptrMismatch (q % 32) b else f b) s

/-- The audit ends: the queue accepts items again, and a waiting mismatch is taken (R389). -/
def auditDone (b : Body) : Body :=
  if !b.flag QM.PTR_ERR.AUDIT then b else
  let b := b.mark QM.PTR_ERR.AUDIT false
  let b := b.each (List.range 32) fun b q =>
    if (queueOf b q).audit then setQueue b q { queueOf b q with audit := false } else b
  match b.qm.waiting with
  | [] => b
  | q :: t => ptrReset q { b with qm := { b.qm with waiting := t } }

def execPoolAuditDone (s : State) : Outcome State Fault Refusal := onBody auditDone s

/-- A read of QM.Q_POP[q]: the oldest item is popped and stays owned until released (R390). The answer is the word
read. -/
def qPop (q : Nat) (b : Body) : Nat × Body := match (queueOf b q).items with
  | [] => (0, b)
  | it :: t =>
    let x := queueOf b q
    let b := afterDequeue q (setQueue b q { x with items := t, popped := x.popped ++ [it] })
    (2 ^ 31 + (it.cells.length - 1) % 32 * 2 ^ 16 + it.cells.headD 0 % 2 ^ 14, b)

def execQPop (q : Nat) (mismatch : Bool) (s : State) : Outcome State Fault Refusal :=
  onQueue q mismatch (fun b => let (v, b) := qPop (q % 32) b; b.answer v) s

/-- A read of QM.ALLOC[q]: one cell for the open item, admitted cell by cell (R390). -/
def qAlloc (q : Nat) (b : Body) : Nat × Body :=
  let x := queueOf b q
  if x.opened.length ≥ 32 ∨ !qAdmits b q 1 ∨ !bankFits b q (x.opened.length + 1) then (0, qRefuse q b)
  else
    let (c, b) := takeCell b
    (2 ^ 31 + c, setQueue b q { queueOf b q with opened := x.opened ++ [c] })

def execAlloc (q : Nat) (mismatch : Bool) (s : State) : Outcome State Fault Refusal :=
  onQueue q mismatch (fun b => let (v, b) := qAlloc (q % 32) b; b.answer v) s

/-- The producer abandoned its item: a flush or reset came first (R387, R389). -/
def qAbandoned (b : Body) (q : Nat) : Bool := b.flag QM.Q_FLAG.FLUSHED q || b.flag QM.Q_FLAG.PTR_RESET q

/-- QM.PUSH COMMIT: the open item is committed (R390). One that a PINGPONG queue's filling bank no longer has room for is
refused (log entry 79). -/
def pushCommit (q : Nat) (b : Body) : Body :=
  let x := queueOf b q
  if qAbandoned b q || x.opened = [] then b
  else if !bankFits b q x.opened.length then qRefuse q (setQueue b q { x with opened := [] }) else
  let it : Item := ⟨x.opened, 128 * x.opened.length⟩
  let was := decide (x.items = [] ∧ x.fill = [])
  let b := b.mark QM.Q_FLAG.FULL false q
  if b.get QM.Q_CFG.ORG q = 1 then
    let b := startTimer q was (setQueue b q { x with fill := x.fill ++ [it], opened := [] })
    if (itemsCells (queueOf b q).fill).length ≥ b.get QM.Q_CFG.BANK_CELLS q then qSwap q b else b
  else startTimer q was (setQueue b q { x with items := x.items ++ [it], opened := [] })

def execPushCommit (q : Nat) (mismatch : Bool) (s : State) : Outcome State Fault Refusal :=
  onQueue q mismatch (pushCommit (q % 32)) s

/-- QM.PUSH ABORT: the open item's cells are free (R390). -/
def pushAbort (q : Nat) (b : Body) : Body :=
  if qAbandoned b q then b else setQueue b q { queueOf b q with opened := [] }

def execPushAbort (q : Nat) (mismatch : Bool) (s : State) : Outcome State Fault Refusal :=
  onQueue q mismatch (pushAbort (q % 32)) s

/-- QM.Q_REL: the popped item that starts at the cell is released (R390). -/
def qRel (q first : Nat) (b : Body) : Body :=
  if qAbandoned b q then b else
  let x := queueOf b q
  setQueue b q { x with popped := x.popped.filter fun it => decide (it.cells.headD 16384 ≠ first) }

def execQRel (q first : Nat) (mismatch : Bool) (s : State) : Outcome State Fault Refusal :=
  onQueue q mismatch (qRel (q % 32) (first % 16384)) s

/-- QM.Q_CMD.FLUSH (R387, R388). -/
def qFlush (q : Nat) (b : Body) : Body := ((qEmpty q b).mark QM.Q_FLAG.FLUSHED true q).bump QM.Q_CNT.FLUSHES 1 q

def execFlush (q : Nat) (mismatch : Bool) (s : State) : Outcome State Fault Refusal :=
  onQueue q mismatch (qFlush (q % 32)) s

/-- QM.Q_CMD.SWAP (R381). -/
def execSwap (q : Nat) (mismatch : Bool) (s : State) : Outcome State Fault Refusal :=
  onQueue q mismatch (qSwap (q % 32)) s

/-- QM.Q_CMD.DROP_FILL (R382): the filling bank's cells are free; the sending bank stands. -/
def dropFill (q : Nat) (b : Body) : Body :=
  if b.get QM.Q_CFG.ORG q = 1 then
    let b := setQueue b q { queueOf b q with fill := [] }
    if (queueOf b q).items = [] then setQueue b q { queueOf b q with timer := none } else b
  else b

def execDropFill (q : Nat) (mismatch : Bool) (s : State) : Outcome State Fault Refusal :=
  onQueue q mismatch (dropFill (q % 32)) s

/-- A queue's running timer has counted a non-zero TIMEOUT, in steps of 10 µs (R386). -/
def timeoutDue (b : Body) (q : Nat) : Bool := match (queueOf b q).timer with
  | some t => decide (b.get QM.Q_CFG.TIMEOUT q ≠ 0) && decide (t + b.get QM.Q_CFG.TIMEOUT q * 260 ≤ b.clock.cyc)
  | none => false

/-- A queue's running timer reaches a non-zero TIMEOUT (R386): it stops, the flags are set, and a PINGPONG queue
swaps. Items the runtime reports leave in REPORTs (R492). -/
def qTimeout (q : Nat) (b : Body) : Body :=
  if !timeoutDue b q then b else
  let b := setQueue b q { queueOf b q with timer := none }
  reportAll ((queueOf b q).items.length + 1) q (qSwap q ((b.mark QM.Q_FLAG.TIMEOUT true q).setBit QM.TO.FIRED q true))

def execQueueTimeout (q : Nat) (s : State) : Outcome State Fault Refusal := onBody (qTimeout (q % 32)) s

/-- A write of QM.Q_LIM[q] (R384): ignored with a record when RESERVE exceeds QUOTA or the reserves exceed the pool. -/
def qLimWrite (q v : Nat) (b : Body) : Body :=
  let quota := bits v 0 16
  let res := bits v 16 16
  let others := (((List.range 32).filter (· ≠ q)).map fun p => b.get QM.Q_LIM.RESERVE p).sum
  if res > quota ∨ others + res > 16384 ∨ quota > 16384 then blockRecord 5 (0x0104 + 0x20 * q) v b
  else (b.put QM.Q_LIM.QUOTA quota q).put QM.Q_LIM.RESERVE res q

/-- A write of QM.Q_CFG[q] (R386): TIMEOUT judged against the running timer at once; BANK_CELLS only of a PINGPONG
queue that holds no cells, from 1 to 64. -/
def qCfgWrite (q v : Nat) (b : Body) : Body :=
  let bank := bits v 8 7
  let b := if b.get QM.Q_CFG.ORG q = 1 ∧ 1 ≤ bank ∧ bank ≤ 64 ∧ qUsed b q = 0 then b.put QM.Q_CFG.BANK_CELLS bank q else b
  qTimeout q (b.put QM.Q_CFG.TIMEOUT (bits v 16 16) q)

end Sys2Proof.Machine
end

