-- ==== Sys2Proof/Machine/SafeOps.lean ====
section
/-! DEFINITION. Machine/SafeOps.lean: what SAFE does beside the error manager: records reaching MRAM (R580 to R582), zeroisation
and tamper (R585, R586), and the cold restart that power, commands and updates share (R12, R90, R94). -/

namespace Sys2Proof.Machine

/-! ### Black box in MRAM -/

/-- A record reaches the ring, where the newest overwrites the oldest, and Q26 (R580, R581). -/
def bbStore (r : BbRec) (b : Body) : Body :=
  let l := b.nv.bb ++ [r]
  let b := { b with nv := { b.nv with bb := l.drop (l.length - 8192) } }
  (qPut 26 r.bytes b).1

/-- The oldest waiting record is written; the first entry free after a loss takes a BB_LOST error (R582). -/
def bbWrite (b : Body) : Body := match b.safe.bbQ with
  | [] => b
  | r :: t =>
    let b := bbStore r { b with safe := { b.safe with bbQ := t } }
    if b.safe.bbLostDue > 0 then
      raise 0x0D07 b.safe.bbLostDue 0 { b with safe := { b.safe with bbLostDue := 0 } }
    else b

def bbWrites : Nat → Body → Body
  | 0, b => b
  | n + 1, b => bbWrites n (bbWrite b)

/-- Every record that waits is written: more than 64 never wait. -/
def bbDrain (b : Body) : Body := bbWrites 65 b

/-- The records that read back whole, by SEQ. -/
def bbFind (b : Body) (seq : Nat) : Option BbRec := b.nv.bb.find? fun r => decide (r.seq = seq)

/-! ### Zeroisation -/

/-- The keys of R586 are gone: identity and certificate, segment keys, pair key, node enrolment keys, DTLS state. -/
def zeroise (b : Body) : Body :=
  let b := b.each [0, 1, 2, 3] fun b i => b.each [0, 1, 2, 3] fun b w => b.put AIR.KEY_W.KEY 0 i w
  let b := b.put AIR.KEY_CTL.LOADED 0
  let b := { b with nv := { b.nv with keys := { b.nv.keys with identity := none, cert := [], pair := none, node := [] } },
                    sha := { b.sha with assocs := [], relayQ := [], fans := [] } }
  (b.mark SAFE.STAT.ZEROISED true).mark SAFE.STAT.SCAN_EN true

/-- TAMPER by path 1 (cover) or 2 (debug unlock): silent hem, zeroisation, then scan (R586). -/
def tamper (path : Nat) (b : Body) : Body := zeroise (raise 0x0D05 path 0 b)

/-! ### Cold restart -/

/-- MRAM and retention SRAM keep their bytes through a loss of main power (R407). -/
def keepsByte (a : Nat) : Bool :=
  (decide (0x30000000 ≤ a) && decide (a < 0x30400000)) || (decide (0x4F000000 ≤ a) && decide (a < 0x4F010000))

/-- The saves after a loss of power: within the 2 ms of a save, whether its sequence word was written is open; without
it the slot is not valid (R346, R347). -/
def tornSave (b : Body) : List (Nat × MetSave) := match b.met.savedAt with
  | some (t, slot) =>
    if b.clock.cyc < t + msCyc 2 ∧ Config.value 23 [t, b.clock.cyc] % 2 = 1 then b.met.saves.filter fun p => decide (p.1 ≠ slot)
    else b.met.saves
  | none => b.met.saves

/-- What is left after every domain but AON lost power or was reset: the register bits that persist (R12), MRAM, flash and
fuses, retention SRAM, AON, MET's saves, and the seam's frame counters, which only rise (R453; DESIGN CHOICE, log entry 97). Records that still waited are gone, and SEQ goes on from the newest in MRAM
(R580). -/
def coldBody (b : Body) : Body :=
  { Body.reset with
    regs := b.regs.filterMap fun p =>
      let v := keptWord p.1 p.2.toNat
      if v = resetWord p.1 then none else some (p.1, BitVec.ofNat 32 v)
    mem := b.mem.filter fun p => keepsByte p.1
    nv := { b.nv with bbNext := (b.nv.bbNext + (2 ^ 32 - b.safe.bbQ.length)) % 2 ^ 32 }
    aon := { b.aon with irq := [] }
    met := { Body.reset.met with saves := tornSave b, calStored := b.met.calStored }
    upd := { Body.reset.upd with recoveryDue := b.upd.recoveryDue, oldSerial := b.upd.oldSerial, hostsHeld := b.upd.hostsHeld }
    sha := { Body.reset.sha with hist := b.sha.hist }
    seam := { Body.reset.seam with tx := b.seam.tx, rx := b.seam.rx }
    picks := b.picks
    out := b.out }

/-- A cold start begins (R90): START is entered, the start is counted (R580), and what R437 keeps is kept. Scan stays
enabled only with the cover open (R586); a stop of LFXO while main power was absent is raised now (R429). -/
def coldStart (b : Body) : Body :=
  let scan := b.flag SAFE.STAT.SCAN_EN && b.flag AON.TAMPER.OPEN
  let b := coldBody b
  let b := { b with power := .start, nv := { b.nv with boot := (b.nv.boot + 1) % 65536 } }
  let b := (b.mark AON.STAT.MAIN true).mark MEMI.STAT.INIT_DONE false
  let b := (b.put SAFE.ST_RES.LAST_FAIL b.nv.stFail).mark SAFE.STAT.SCAN_EN scan
  let b := b.mark SYS.CLK_STAT.LFXO_OK (b.flag AON.STAT.LFXO_RUN)
  if b.aon.stopDue then
    raise 0x0010 0 0 ({ b with aon := { b.aon with stopDue := false } }.mark SYS.CLK_FAULT.LFXO_STOP true)
  else b

/-- A cold restart by command: waiting records reach MRAM within the 10 ms of R577, and the start begins. -/
def coldRestart (b : Body) : Body := coldStart (bbDrain b)

end Sys2Proof.Machine
end

