-- ==== Sys2Proof/Machine/Egress.lean ====
section
/-! DEFINITION. Machine/Egress.lean: how frames leave the ports: what a frame is (R249, R393, R397), the transmit-timestamp
queues (R255, R259, R260), and the two classes of each port (R393, R394, R399). -/

namespace Sys2Proof.Machine

/-! ### Frames, from the destination address on -/

def frameDst (f : List Nat) : Nat := beNat (f.take 6)
def frameSrc (f : List Nat) : Nat := b48 f 6
def frameType (f : List Nat) : Nat := b16 f 12
/-- The type behind an IEEE 802.1Q tag. -/
def innerType (f : List Nat) : Nat := if frameType f = 0x8100 then b16 f 16 else frameType f

/-- PTP of R249: untagged, by EtherType and destination. -/
def isPtp (f : List Nat) : Bool := decide (frameType f = 0x88F7) && decide (frameDst f = 0x011B19000000)
/-- An R-APS message on the ring's channel (R397). -/
def isRaps (b : Body) (f : List Nat) : Bool :=
  decide (frameDst f = 0x0119A7000000 + b.get SW.ERPS_CTL.RING_ID) && decide (frameType f = 0x8100) &&
  decide (b16 f 14 % 4096 = b.get SW.ERPS_CTL.RAPS_VID) && decide (innerType f = 0x8902)
/-- An IEEE 802.3x PAUSE frame. -/
def isPause (f : List Nat) : Bool := decide (frameType f = 0x8808)
/-- A group address: broadcast or multicast. -/
def isGroup (f : List Nat) : Bool := decide (u8 f 0 % 2 = 1)
/-- A frame of the high class by what it is: R-APS, PTP, PCP 6 or 7 (R393). -/
def highFrame (b : Body) (f : List Nat) : Bool :=
  isPtp f || isRaps b f || (decide (frameType f = 0x8100) && decide (b16 f 14 / 8192 ≥ 6))

/-- A frame as it leaves: padded to 60 bytes, with its FCS (R396). -/
def withFcs (f : List Nat) : List Nat :=
  let f := f ++ List.replicate (60 - f.length) 0
  f ++ toLe 4 (crc32 f)

/-- Port `p` is enabled and its link is up. -/
def portUp (b : Body) (p : Nat) : Bool := b.bit SW.CTL.PORT_EN p && b.flag SW.PORT_STAT.LINK p

/-- Port `p` may send a frame: a blocked ring port transmits R-APS alone, and PTP in boundary-clock mode (R251, R399). -/
def mayLeave (b : Body) (p : Nat) (f : List Nat) : Bool :=
  !b.flag SW.PORT_STAT.BLOCKED p || isRaps b f || (isPtp f && b.flag TB.CTL.BC)

/-! ### Transmit timestamps -/

/-- The corrected transmit time on port `p` of a frame that leaves at `tn`, in ns (R255). -/
def outStampAt (b : Body) (p tn : Nat) : Int := ((tn * 1000 : Nat) + sgn 32 (b.get TB.EGR_LAT.PS p) + 500) / 1000
/-- The corrected transmit time on port `p` of a frame that leaves now. -/
def outStamp (b : Body) (p : Nat) : Int := outStampAt b p (tnNs b)

/-- R258: a TS32 extended against the full clock. -/
def extendTs (b : Body) (ts : Nat) : Int := (tnNs b : Nat) + sgn 32 (uns 32 ((ts : Int) - (tnNs b : Nat)))

def txqOf (b : Body) (p : Nat) : List TxTs := tabGet (fun _ => ([] : List TxTs)) b.tb.txq p
def setTxq (b : Body) (p : Nat) (l : List TxTs) : Body :=
  { b with tb := { b.tb with txq := tabSet (fun _ => []) b.tb.txq p l } }

/-- The identifier of R259. -/
def txId (mtype seq : Nat) : Nat := mtype % 16 * 4096 + seq % 4096

/-- A timestamped frame left port `p` at network time `tn`, TCXO cycle `cyc` (R254, R255, R259, R260). -/
def txStamp (p mtype seq tn cyc : Nat) (b : Body) : Body :=
  if !b.flag TB.CTL.RUN || decide (p ≥ 3) || !b.bit TB.CTL.PORT_EN p then b else
  let l := txqOf b p
  if l.length ≥ 8 then (b.mark TB.TXQ_STAT.OVF true p).wrap TB.TXQ_STAT.DROPPED p
  else setTxq b p (l ++ [⟨txId mtype seq, uns 32 (outStampAt b p tn), cyc⟩])

/-- A timestamped frame leaves port `p` now. -/
def txTimestamp (p mtype seq : Nat) (b : Body) : Body := txStamp p mtype seq (tnNs b) b.clock.cyc b

/-- The entry of port `p` with identifier `id` is taken: the runtime matches by identifier (R260). Its TS32 extended. -/
def takeStamp (b : Body) (p id : Nat) : Option Nat × Body :=
  match (txqOf b p).find? fun e => decide (e.id = id) with
  | some e => (some (extendTs b e.ts).toNat, setTxq b p ((txqOf b p).erase e))
  | none => (none, b)

/-! ### Egress -/

/-- Now, in 1/125 TCXO cycle: a byte at 1 Gbit/s takes 26 of them. -/
def wireNow (b : Body) : Nat := b.clock.cyc * 125

/-- What port `p` is sending: the bytes of the transit buffer it takes, and the instant of its last byte. -/
def leavingOf (b : Body) (p : Nat) : Nat × Nat := tabGet (fun _ => (0, 0)) b.sw.leaving p

/-- The frame port `p` sends next when it falls idle at `free`, and the instant it starts: the oldest of the high class that
stands there then, else the oldest (R393). -/
def nextOut (b : Body) (p free : Nat) : Option (Egress × Nat) :=
  let l := b.sw.waiting.filter fun e => decide (e.port = p)
  match l with
  | [] => none
  | e :: _ =>
    let start := max free e.at_
    match l.find? fun x => x.high && decide (x.at_ ≤ start) with
    | some x => some (x, start)
    | none => some (e, start)

/-- A frame starts to leave at `start`; one that its port may no longer send is dropped, and counted when it came from the CPU
(R399). -/
def frameLeaves (x : Egress) (start : Nat) (b : Body) : Body :=
  if !mayLeave b x.port x.frame then (if x.transit then b else b.bump SW.DROP2.QUEUE 1 x.port) else
  let sends := (if x.transit then x.frame.length else 0, start + 26 * x.frame.length)
  let left := { b.emit (.eth x.port x.frame) with
    sw := { b.sw with leaving := tabSet (fun _ => (0, 0)) b.sw.leaving x.port sends } }
  if x.stamp then
    let back := (wireNow b - start) * tickInc (sgn 32 (b.get TB.ADJ_FREQ.ADJ)) / 125
    txStamp x.port (u8 x.frame 14) (b16 x.frame 44) ((b.clock.net - back) / 2 ^ 40) (start / 125) left
  else left

/-- Port `p` sends what it can have started by now. -/
def servePort : Nat → Nat → Body → Body
  | 0, _, b => b
  | n + 1, p, b =>
    let free := (leavingOf b p).2
    if wireNow b < free then b else
    match nextOut b p free with
    | none => b
    | some (x, start) => servePort n p (frameLeaves x start { b with sw := { b.sw with waiting := b.sw.waiting.erase x } })

/-- The ports send what they can have started by now. -/
def servePorts (b : Body) : Body :=
  if b.sw.waiting = [] then b else b.each [0, 1, 2] fun b p => servePort b.sw.waiting.length p b

/-- A frame joins the class of its port, behind a frame already leaving. -/
def sendOut (p : Nat) (high transit stamp : Bool) (frame : List Nat) (b : Body) : Body :=
  let x : Egress := { port := p, high := high, transit := transit, stamp := stamp, at_ := wireNow b, frame := frame }
  let b := { b with sw := { b.sw with waiting := b.sw.waiting ++ [x] } }
  servePort b.sw.waiting.length p b

/-- The bytes of the transit buffer that wait for port `p` or are leaving it (R393). -/
def transitHeld (b : Body) (p : Nat) : Nat :=
  ((b.sw.waiting.filter fun x => x.transit && decide (x.port = p)).map fun x => x.frame.length).sum +
    (if wireNow b < (leavingOf b p).2 then (leavingOf b p).1 else 0)

/-- What waited for a port whose link went down is gone. -/
def dropWaiting (p : Nat) (b : Body) : Body :=
  { b with sw := { b.sw with waiting := b.sw.waiting.filter fun x => decide (x.port ≠ p) } }

end Sys2Proof.Machine
end

