-- ==== Sys2Proof/Machine/AonOps.lean ====
section
/-! DEFINITION. Machine/AonOps.lean: the always-on counter and its alarms at each LFXO edge (R423 to R433), and the passing of
time on TCXO (R247). -/

namespace Sys2Proof.Machine

/-- An alarm's 48-bit value. -/
def almVal (b : Body) (i : Nat) : Nat := b.get AON.ALM_LO.VALUE i + b.get AON.ALM_HI.word i % 65536 * 2 ^ 32

/-- An alarm that an edge compares: armed, or its ARM was cleared since the last edge (R432). -/
def almLive (b : Body) (i : Nat) : Bool := b.flag AON.ALM_CTL.ARM i || b.aon.armClr.contains i

/-- The AON interrupt stands for alarm `i`, or for the periodic wake at 4 (R430, R433). -/
def aonRaise (i : Nat) (b : Body) : Body :=
  if b.aon.irq.contains i then b else { b with aon := { b.aon with irq := b.aon.irq ++ [i] } }

/-- A change of an AON register: none takes effect while the domain is held in reset (R436). -/
def onAon (f : Body → Body) (b : Body) : Body := if b.aon.held then b else f b

/-- Alarm `i` fires (R430). -/
def almFire (late : Bool) (b : Body) (i : Nat) : Body :=
  let b := (b.mark AON.ALM_CTL.ARM false i).mark AON.ALM_CTL.FIRED true i
  let b := if late then b.mark AON.ALM_CTL.LATE true i else b
  if mainPower b then aonRaise i b else b.mark AON.ALM_CTL.OFF true i

/-- One LFXO edge (R423, R427, R430, R432): RAW advances, TICK advances with a pending delta, and due alarms fire. -/
def lfxoEdge (b : Body) : Body :=
  let raw := (b.aon.raw + 1) % 2 ^ 48
  let b := match b.aon.pend with
    | none => { b with aon := { b.aon with raw := raw, tick := (b.aon.tick + 1) % 2 ^ 48 } }
    | some d =>
      let tick := (((b.aon.tick : Int) + 1 + d) % (2 ^ 48 : Nat)).toNat
      let fix := if b.aon.osfFix = 1 then 2 else b.aon.osfFix
      let b := { b with aon := { b.aon with raw := raw, tick := tick, adj := b.aon.adj + d, pend := none, osfFix := fix } }
      let b := (b.mark AON.STAT.ADJ_PEND false).wrap AON.ADJ_STAT.COUNT
      record 0x0181 (uns 32 d) (uns 32 (d / (2 ^ 32 : Nat))) b
  let b := b.each [0, 1, 2, 3] fun b i =>
    if almLive b i && decide (almVal b i ≤ b.aon.tick) then almFire (decide (almVal b i < b.aon.tick)) b i else b
  { b with aon := { b.aon with armClr := [] } }

/-- The periodic wake of R433 falls on one of the `k` edges after `raw`, counted from the write of PER_S. -/
def pwakeDue (b : Body) (raw k : Nat) : Bool :=
  let p := b.get AON.PWAKE.PER_S * 32768
  decide (p ≠ 0) && decide ((raw + 2 ^ 48 - b.aon.pwakeRaw) % 2 ^ 48 / p ≠ ((raw + 2 ^ 48 - b.aon.pwakeRaw) % 2 ^ 48 + k) / p)

/-- `k` LFXO edges. After the first, no delta is pending, and an alarm that falls due fires on time. -/
def lfxoEdges (k : Nat) (b : Body) : Body :=
  if k = 0 ∨ !b.flag AON.STAT.LFXO_RUN ∨ b.aon.held then b else
  let wake := pwakeDue b b.aon.raw k
  let b := lfxoEdge b
  let tick := b.aon.tick
  let b := { b with aon := { b.aon with raw := (b.aon.raw + (k - 1)) % 2 ^ 48, tick := (tick + (k - 1)) % 2 ^ 48 } }
  let b := b.each [0, 1, 2, 3] fun b i =>
    if b.flag AON.ALM_CTL.ARM i && decide (almVal b i ≤ tick + (k - 1)) then almFire false b i else b
  if wake then (if mainPower b then aonRaise 4 b else b).mark AON.STAT.PWAKE true else b

/-- Network time held, no emergency and no hem: chips may be valid (R360). -/
def chipsHold (b : Body) : Bool := ntv b && !b.flag CE.STAT.EMERG_ACTIVE && !b.flag SAFE.STAT.HEM

/-- What passed since network time `t0` is noted for attribution where it invalidates chips of every circuit (R360). -/
def noteSpan (t0 : Nat) (b : Body) : Body :=
  if chipsHold b ∨ b.att.lineHz = 0 then b else
  let l := b.att.spans
  let l := match l.getLast? with
    | some x => if x.2 = t0 then l.dropLast ++ [(x.1, tnNs b)] else l ++ [(t0, tnNs b)]
    | none => [(t0, tnNs b)]
  { b with att := { b.att with spans := l } }

/-- `n` TCXO cycles pass (R247): network time advances under ADJ, LFXO edges arrive, and frames leave the ports. -/
def advance (n : Nat) (b : Body) : Body :=
  let p := b.aon.phase % 26000000 + n * 32768
  let t0 := tnNs b
  let b := { b with clock := { b.clock with cyc := b.clock.cyc + n,
                                            net := b.clock.net + n * tickInc (sgn 32 (b.get TB.ADJ_FREQ.ADJ)) },
                    aon := { b.aon with phase := p % 26000000 } }
  servePorts (lfxoEdges (p / 26000000) (noteSpan t0 b))

/-- Time passes to the next LFXO edge. Without TCXO the edge itself is all that passes. -/
def toEdge (b : Body) : Body :=
  if mainPower b then advance ((26000000 - b.aon.phase % 26000000 + 32767) / 32768) b else lfxoEdges 1 b

/-- The delta of R427 is requested. -/
def adjGo (b : Body) : Body := onAon (fun b =>
  let d := sgn 48 (b.get AON.ADJ_LO.DELTA + b.get AON.ADJ_HI.word % 65536 * 2 ^ 32)
  let t := (b.aon.tick : Int) + 1 + d
  if b.aon.pend.isSome ∨ t < 0 ∨ t ≥ (2 ^ 48 : Nat) then b.mark AON.ADJ_STAT.REJ true
  else { b.mark AON.STAT.ADJ_PEND true with aon := { b.aon with pend := some d } }) b

/-! ### Calendar (R426) -/

/-- UTC in whole seconds from the PTP epoch, of a time on the PTP timescale. -/
def utcOf (b : Body) (sec : Nat) : Int := (sec : Int) - sgn 16 (b.get AON.UTC_OFS.OFS)
/-- UTC as the always-on counter has it: TICK / 32,768 s minus OFS. -/
def utcNow (b : Body) : Int := utcOf b (b.aon.tick / 32768)

/-- The Gregorian date (year, month, day) of a day number that counts 1970-01-01 as 0, by eras of 400 years that start on 1 March. -/
def civil (day : Int) : Int × Nat × Nat :=
  let z := day + 719468
  let era := z / 146097
  let doe := (z % 146097).toNat
  let yoe := (doe - doe / 1460 + doe / 36524 - doe / 146096) / 365
  let doy := doe - (365 * yoe + yoe / 4 - yoe / 100)
  let mp := (5 * doy + 2) / 153
  let m := if mp < 10 then mp + 3 else mp - 9
  ((yoe : Int) + era * 400 + (if m ≤ 2 then 1 else 0), m, doy - (153 * mp + 2) / 5 + 1)

/-- A Gregorian UTC date: year, month and day, and the second of the day. -/
def utcDate (utc : Int) : (Int × Nat × Nat) × Nat := (civil (utc / 86400), (utc % 86400).toNat)

/-- The date of a black-box record, from its AirTime. -/
def BbRec.date (b : Body) (r : BbRec) : (Int × Nat × Nat) × Nat := utcDate (utcOf b (r.time / 65536))

/-- Network time in ticks, to the nearest tick. -/
def netTicks (b : Body) : Nat := (b.clock.net * 32768 + 10 ^ 9 * 2 ^ 39) / (10 ^ 9 * 2 ^ 40)

/-- The runtime writes the delta that brings TICK to network time, and GO (R428). -/
def writeDelta (b : Body) : Body := onAon (fun b =>
  let d := uns 48 ((netTicks b : Int) - b.aon.tick)
  adjGo ((b.put AON.ADJ_LO.DELTA (d % 2 ^ 32)).put AON.ADJ_HI.word (d / 2 ^ 32))) b

/-- OSF stands, its delta was not written yet, and nothing keeps it: LFXO runs, the domain is not held and no delta is pending. -/
def osfOpen (b : Body) : Bool :=
  b.flag AON.STAT.OSF && decide (b.aon.osfFix = 0) && b.flag AON.STAT.LFXO_RUN && !b.aon.held && b.aon.pend.isNone

/-- Valid network time, which is NTV = 1, with OSF set asks for a delta (R428). -/
def osfDelta (b : Body) : Body :=
  if osfOpen b && ntv b then writeDelta { b with aon := { b.aon with osfFix := 1 } } else b

end Sys2Proof.Machine
end

