-- ==== Sys2Proof/Machine/ChannelOps.lean ====
section
/-! DEFINITION. Machine/ChannelOps.lean: a channel's state beside its registers, its CE fields as tiles reach them
(R147). -/

namespace Sys2Proof.Machine

/-- VERIFY_AGE_S of R196. -/
def verifyAge (b : Body) (n : Nat) : Nat := match (chanOf b n).verAt with
  | none => 0xFFFFFFFF
  | some c => min 0xFFFFFFFF (sinceS b c)

/-- R165: a written CCT from 1 K to 999 K is taken as 1,000 K and one above 20,000 K as 20,000 K. -/
def cctTaken (v : Nat) : Nat := if v = 0 then 0 else max 1000 (min 20000 v)

/-- Sets RULE_CCT; a change resets the colour trim (R184). -/
def setRuleCct (n v : Nat) (b : Body) : Body :=
  let v := cctTaken v
  if b.get CE.CCT_FLR.RULE_CCT n = v then b
  else (b.put CE.CCT_FLR.RULE_CCT v n).put CE.COLOUR.TRIM 0 n

/-- The CE field a tile reads (R147, R149), as an integer. -/
def ceRead (b : Body) (n field : Nat) : Int := match field with
  | 0x00 => (ruleLvl b n : Nat)
  | 0x01 => (b.get CE.CCT_FLR.RULE_CCT n : Nat)
  | 0x02 => (b.get CE.LVL_TGT.RULE_PRESET n : Nat)
  | 0x03 => (b.get CE.CCT_FLR.RULE_FLOOR n : Nat)
  | 0x08 => (lvlOut b n : Nat)
  | 0x09 => (laLvl b n : Nat)
  | 0x0A => (b.get CE.REP_A.LUX n : Nat)
  | 0x0B => (b.get CE.REP_B.POWER_DW n : Nat)
  | 0x0C => sgn 8 (b.get CE.REP_B.TEMP_C n)
  | 0x0D => (b.get CE.CH_STAT.DIAG n : Nat)
  | 0x0E => (verifyAge b n : Nat)
  | 0x0F => (b.get CE.OVR.OVERRIDE_LVL n : Nat)
  | 0x20 => (b.get CE.SAFE.EMERG_LVL n : Nat)
  | 0x21 => (b.get CE.SAFE.HEM_LVL n : Nat)
  | _ => (if emergency b then 1 else 0)

/-- Writes one rule field of one channel, saturated to its width (R147). -/
def ceSetField (n field v : Nat) (b : Body) : Body := match field with
  | 0x00 => b.put CE.LVL_TGT.RULE_LVL (min v 65535) n
  | 0x01 => setRuleCct n (min v 65535) b
  | 0x02 => b.put CE.LVL_TGT.RULE_PRESET (min v 15) n
  | 0x03 => b.put CE.CCT_FLR.RULE_FLOOR (min v 65535) n
  | _ => b

/-- The group number that stands for all channels, SCOPE 2 of R177 and the ALL bit of R297 and R317. -/
def allGroup : Nat := 4096

/-- The group that a LEVEL_EVENT or OVERRIDE addresses as one write: that of SCOPE 1, or all channels. -/
def scopeGroup (target scope : Nat) : Option Nat :=
  if scope = 1 then some target else if scope = 2 then some allGroup else none

/-- A payload that CE refuses (R178). -/
def badEvent (b : Body) : Body := b.bump CE.COUNT.BAD_EVENT

/-- The channels a TARGET and SCOPE name, or none when the payload is invalid (R178). -/
def targets (b : Body) (target scope : Nat) : Option (List Nat) :=
  if scope = 0 then (if target < chanCnt b then some [target] else none)
  else if scope = 1 then (if target < 256 then groupMembers b target else none)
  else if scope = 2 then some (List.range (chanCnt b))
  else none

/-- A light-ahead request (R177, R179). -/
def ceLightAhead (p : Nat) (b : Body) : Body :=
  let n := bits p 16 12
  if bits p 28 4 ≠ 0 ∨ chanCnt b ≤ n then badEvent b else
  let level := bits p 0 16
  let eta := bits p 32 16
  let dwell := bits p 48 8
  let now := tnNs b
  let c := chanOf b n
  let live := decide (now < c.laExp)
  let exp := now + (eta + dwell * 100) * 1000000
  let b := b.put CE.OUT.LA_LVL (max level (if live then laLvl b n else 0)) n
  let b := setChan b n { chanOf b n with laExp := if live then max c.laExp exp else exp }
  ask [n] (.ahead eta level) none b

/-- A LEVEL_EVENT (R177). -/
def ceLevelEvent (p : Nat) (b : Body) : Body :=
  if bits p 31 1 ≠ 0 ∨ bits p 52 12 ≠ 0 then badEvent b else
  match targets b (bits p 16 12) (bits p 28 2) with
  | none => badEvent b
  | some ns =>
    let b := b.each ns fun b n =>
      let b := (b.put CE.LVL_TGT.RULE_LVL (bits p 0 16) n).put CE.LVL_TGT.RULE_PRESET (bits p 48 4) n
      if bits p 30 1 = 1 then setRuleCct n (bits p 32 16) b else b
    ask ns (.preset (bits p 48 4)) (scopeGroup (bits p 16 12) (bits p 28 2)) b

/-- An OVERRIDE (R177, R180). -/
def ceOverride (p : Nat) (b : Body) : Body :=
  if bits p 31 1 ≠ 0 ∨ bits p 52 12 ≠ 0 then badEvent b else
  match targets b (bits p 16 12) (bits p 28 2) with
  | none => badEvent b
  | some ns =>
    let tmo := bits p 32 16
    let b := b.each ns fun b n =>
      if bits p 30 1 = 1 then
        let b := (b.mark CE.CH_STAT.OVR true n).put CE.OVR.OVERRIDE_LVL (bits p 0 16) n
        setChan b n { chanOf b n with ovrEnd := if tmo = 0 then none else some (b.clock.cyc + msCyc (tmo * 60000)) }
      else setChan (b.mark CE.CH_STAT.OVR false n) n { chanOf b n with ovrEnd := none }
    ask ns (.preset (bits p 48 4)) (scopeGroup (bits p 16 12) (bits p 28 2)) b

/-- CE applies the events that wait at destination ports `ports`, in that order (R167). -/
def ceFirst (ports : List Nat) (b : Body) : Body :=
  let b := b.each ports fun b p => b.each (b.ce.inbox.filter fun x => decide (x.1 = p)) fun b x =>
    if p = 0 then ceLightAhead x.2.payload b else if p = 2 then ceOverride x.2.payload b else ceLevelEvent x.2.payload b
  { b with ce := { b.ce with inbox := b.ce.inbox.filter fun x => !ports.contains x.1 } }

/-- The destination ports whose waiting events apply before a committed CEWR and before a write of the host: light-ahead,
override, level events (R167, log entry 85). -/
def ceInputs : List Nat := [0, 2, 1]

/-- A committed CEWR (R150): one channel, or every member of a group as one write. -/
def ceWrite (v target : Nat) (group : Bool) (field : Nat) (b : Body) : Body :=
  let b := ceFirst ceInputs b
  let ns := if group then (groupMembers b target).getD [] else [target]
  let b := b.each ns fun b n => ceSetField n field v b
  ask ns .rule (if group then some target else none) b

end Sys2Proof.Machine
end

