-- ==== Sys2Proof/Machine/Composition.lean ====
section
/-! DEFINITION. Machine/Composition.lean: CE's level composition (R166), its commands and fades (R170 to R176), and what a bolt
boundary does to the loops, budgets and the phase plan (R181 to R190, R198). -/

namespace Sys2Proof.Machine

/-- A change of DIAG emits CHANNEL_STATUS with cause 1 (R194, R601). -/
def setDiag (n d : Nat) (b : Body) : Body :=
  if b.get CE.CH_STAT.DIAG n = d % 256 then b
  else
    let b := b.put CE.CH_STAT.DIAG d n
    engineEv 0x40 1 (1 + n * 2 ^ 8 + d % 256 * 2 ^ 20 + lvlOut b n * 2 ^ 32) 0 b

/-- UNVERIFIED of R194 as it stands now. -/
def unverified (b : Body) (n : Nat) : Bool :=
  decide (lvlOut b n = 0) || decide (verifyAge b n > b.get CE.DIAG_CTL.VERIFY_MAX * 60)
def diagBit (d k : Nat) (v : Bool) : Nat := insBits d k 1 (if v then 1 else 0)
/-- DIAG follows UNVERIFIED. -/
def refreshDiag (n : Nat) (b : Body) : Body := setDiag n (diagBit (b.get CE.CH_STAT.DIAG n) 4 (unverified b n)) b

/-- The AirTime that names the first PWM period that starts at or after `tn` ns: the first at or after its start (DESIGN CHOICE,
log entry 77). -/
def periodAir (b : Body) (tn : Nat) : Nat :=
  let m := (tn % 10 ^ 9 * pwmHz b + (10 ^ 9 - 1)) / 10 ^ 9
  tn / 10 ^ 9 * 65536 + (m * 65536 + (pwmHz b - 1)) / pwmHz b

/-- START of a change, AirTime (R172, R176); that of a STRETCH names the period to stretch (R197, R273), FADE_LEAD stitches
ahead (log entry 77). -/
def startOf (b : Body) (n src : Nat) (w : Why) : Nat :=
  let now := airTime b
  let lead := airOfNs (tnNs b + b.get CE.TIMING.FADE_LEAD * stitchNs b)
  match w with
  | .refresh => match (chanOf b n).sent with
    | some x => if x.start + 65 * 65536 < now then now else x.start
    | none => now
  | .ahead _ _ => now
  | .laEnd => now
  | .safe => now
  | .stretch => periodAir b (tnNs b + b.get CE.TIMING.FADE_LEAD * stitchNs b)
  | _ => if src ≤ 2 then now else lead

/-- Takes a command record that no waiting descriptor uses; the spec leaves open which. -/
def takeRec (r : CmdRec) (b : Body) : Nat × Body :=
  let (k, b) := b.choose 512
  let used := b.ce.recs.map (·.1)
  let rec go : Nat → Nat → Nat
    | 0, c => c % 512
    | f + 1, c => if used.contains (c % 512) then go f (c + 1) else c % 512
  let k := go 512 k
  (k, { b with ce := { b.ce with recs := (k, r) :: b.ce.recs.filter fun p => decide (p.1 ≠ k) } })

/-- CE releases a COMMAND or GROUP_COMMAND descriptor at its COMMAND port (R168, R317). -/
def releaseDesc (target kind : Nat) (r : CmdRec) (b : Body) : Body :=
  let (k, b) := takeRec r b
  engineEv 0x40 0 (target % 2 ^ 12 + kind * 2 ^ 12 + k * 2 ^ 17) 0 b

/-- The cause and the fade of what a composition `j` sends channel `n`: those it took at its start (R167), or those of a refresh
and a STRETCH. -/
def causeAndFade (b : Body) (j : Job) (n : Nat) : Why × Nat × Nat :=
  match j.got.find? fun t => decide (t.chan = n) with
  | some t => (t.cause, t.fadeMs, t.curve)
  | none => (j.why, fadeOf b n (b.get CE.CH_STAT.SRC n) j.why)

/-- What channel `n` is sent by the composition `j`. -/
def cmdOf (b : Body) (j : Job) (n : Nat) : CmdRec :=
  let (w, f) := causeAndFade b j n
  { level := lvlOut b n, cct := b.get CE.COLOUR.CCT_OUT n, fadeMs := f.1, curve := f.2, stretch := decide (j.why = .stretch),
    start := startOf b n (b.get CE.CH_STAT.SRC n) w, phase := b.get CE.CH_STAT.PHASE n, phases := [] }

/-- FLAGS of a command (R299). -/
def cmdFlags (r : CmdRec) : Nat := r.curve % 2 + (if r.stretch then 2 else 0)

/-- Whether a composed channel is sent (R175): a refresh and a STRETCH always, as at an emergency, its end and hem (R191, R192,
R578); a loop change from 256 on, any other with a change of level or flags. -/
def toSend (b : Body) (j : Job) (n : Nat) : Bool := match (chanOf b n).sent with
  | none => true
  | some x =>
    let l := lvlOut b n
    decide (x.cct ≠ b.get CE.COLOUR.CCT_OUT n) || decide (x.phase ≠ b.get CE.CH_STAT.PHASE n) || match j.why with
      | .refresh => true
      | .stretch => true
      | .safe => true
      | .release => true
      | .loop => decide (l ≥ x.level + 256) || decide (x.level ≥ l + 256)
      | _ => decide (x.level ≠ l) || decide (x.flags ≠ cmdFlags (cmdOf b j n))

/-- CE passes MET the START and the fade of a command (R360): the channel fades from the one to the end of the other, an earlier
fade ends at the new START, and the new one at a later START that is still to come, as the latest START wins (R201). A refresh
changes nothing. -/
def fadeNoted (n : Nat) (w : Why) (r : CmdRec) (b : Body) : Body :=
  let ns := fun t => t * 10 ^ 9 / 65536
  let t0 := ns r.start
  let later := (b.att.moves.filter fun x => decide (x.1 = n ∧ t0 < x.2.1)).map (·.2.1)
  if w = .refresh then b else
  { b with att := { b.att with
      moves := (b.att.moves.map fun x => if x.1 = n ∧ x.2.1 ≤ t0 ∧ t0 < x.2.2 then (n, x.2.1, t0) else x) ++
        [(n, t0, later.foldl min (t0 + r.fadeMs * 1000000))] } }

/-- Notes what was sent; a refresh and a STRETCH keep the START and the fade of the original change (R176). -/
def noteSent (n : Nat) (w : Why) (r : CmdRec) (b : Body) : Body :=
  let s : Sent := { level := r.level, cct := r.cct, phase := b.get CE.CH_STAT.PHASE n, fadeMs := r.fadeMs, curve := r.curve,
                    start := r.start, flags := cmdFlags r, at_ := b.clock.cyc }
  let s := match w, (chanOf b n).sent with
    | .refresh, some x => { s with fadeMs := x.fadeMs, curve := x.curve, start := x.start }
    | .stretch, some x => { s with fadeMs := x.fadeMs, curve := x.curve, start := x.start }
    | _, _ => s
  fadeNoted n w r (setChan b n { chanOf b n with sent := some s, phaseDue := false })

/-- A COMMAND to one channel. -/
def sendOne (j : Job) (n : Nat) (b : Body) : Body :=
  let r := cmdOf b j n
  noteSent n j.why r (releaseDesc (n + 1) 0 r b)

/-- The value most members share, ties to the lower level (R174). -/
def plurality (vals : List (Nat × Nat)) : Nat × Nat :=
  vals.foldl (fun best v =>
    let c := fun x => (vals.filter (· = x)).length
    if c v > c best then v
    else if c v = c best ∧ (v.1 < best.1 ∨ (v.1 = best.1 ∧ v.2 < best.2)) then v else best)
    (vals.headD (0, 0))

/-- The PHASE entries that a GROUP_COMMAND has room for (R281, R299). -/
def phaseRoom (b : Body) : Nat := min 255 ((maxPsdu b 0 - 40) / 3)

/-- A group write's commands (R168, R174): one GROUP_COMMAND, then a COMMAND for each member whose value differs, and for each
whose new offset the GROUP_COMMAND had no room for (R198). -/
def sendGroup (g : Nat) (ns : List Nat) (j : Job) (b : Body) : Body :=
  match ns with
  | [] => b
  | n0 :: _ =>
    let val := fun n => (lvlOut b n, b.get CE.COLOUR.CCT_OUT n)
    let v := plurality (ns.map val)
    let same := ns.filter fun n => decide (val n = v)
    let rep := same.headD n0
    let phased := same.filter fun n => (chanOf b n).phaseDue
    let due := phased.take (phaseRoom b)
    let own := phased.drop (phaseRoom b)
    let r := { cmdOf b j rep with phases := due.map fun n => (n + 1, b.get CE.CH_STAT.PHASE n) }
    let b := if g = allGroup then releaseDesc 0 5 r b else releaseDesc g 1 r b
    let b := b.each (same.filter fun n => !own.contains n) fun b n => noteSent n j.why r b
    b.each (ns.filter fun n => decide (val n ≠ v) || own.contains n) fun b n =>
      let q := { cmdOf b j n with start := r.start }
      noteSent n j.why q (releaseDesc (n + 1) 0 q b)

/-- The composition of one channel ends: level, source, CCT and DIAG. One that took its inputs earlier shows those. -/
def composeOne (got : List Took) (n : Nat) (b : Body) : Body :=
  let t := (got.find? fun t => decide (t.chan = n)).getD (took b n [])
  let b := (b.put CE.OUT.LVL_OUT t.level n).put CE.CH_STAT.SRC t.src n
  refreshDiag n (b.put CE.COLOUR.CCT_OUT t.cct n)

/-- The oldest composition asked for ends (R167, R168), while CE runs: a standby's CE runs no rules (R456). It sends commands in a
module that acts (R26, R528). -/
def composeNext (b : Body) : Body := match b.ce.jobs with
  | [] => b
  | j :: t =>
    if !b.flag CE.CTL.RUN || !runsRules b then b else
    let b := { b with ce := { b.ce with jobs := t } }
    let ns := j.chans.filter fun n => decide (n < chanCnt b)
    let b := if j.composes then b.each ns fun b n => composeOne j.got n b else b
    let due := if acting b then ns.filter fun n => toSend b j n else []
    let b := match j.group with
      | some g => if due = [] then b else sendGroup g ns j b
      | none => b.each due fun b n => sendOne j n b
    if j.composes then b.each ns fun b n => { b with ce := { b.ce with jobs := startNext b n b.ce.jobs } } else b

/-! ### Bolt boundary -/

/-- The daylight loop of R181 and R182. -/
def daylightStep (n : Nat) (b : Body) : Body :=
  let set := luxSet b n
  if set = 0 then b else
  let c := chanOf b n
  let stale := b.get CE.LOOP2.STALE_S
  let dlMin : Int := if b.get CE.LOOP2.DL_MIN = 65535 then 65536 else (b.get CE.LOOP2.DL_MIN : Nat)
  let fresh := match c.luxAt with
    | some t => decide (sinceS b t < stale)
    | none => false
  if fresh then
    let lux : Int := (b.get CE.REP_A.LUX n : Nat)
    let e := clampI (Int.tdiv (((set : Int) - lux) * 65536) set) (-65536) 65536
    let i := clampI ((c.dlI : Int) + ((b.get CE.LOOP.DL_KI : Nat) * e) / 65536) dlMin 65536
    let f := clampI (i + ((b.get CE.LOOP.DL_KP : Nat) * e) / 65536) dlMin 65536
    (setChan b n { c with dlI := i.toNat, dlRem := 0 }).put CE.DL.DL_FACTOR f.toNat n
  else
    let rise := c.dlRem + 655 * (boltNs b / 1000000)
    let up := rise / 1000
    (setChan b n { c with dlI := min 65536 (c.dlI + up), dlRem := rise % 1000 }).put CE.DL.DL_FACTOR
      (min 65536 (b.get CE.DL.DL_FACTOR n + up)) n

/-- The colour loop of R184. -/
def colourStep (n : Nat) (b : Body) : Body :=
  let r := b.get CE.CCT_FLR.RULE_CCT n
  match (chanOf b n).cctMeas with
  | none => b
  | some m =>
    if colourLoop b n && decide (b.get CE.NODE_CAP.SENSE n % 2 = 1) && decide (r > 0) && decide (lvlOut b n ≥ 6554) then
      let t := clampI (sgn 16 (b.get CE.COLOUR.TRIM n) + Int.tdiv ((r : Int) - (m : Int)) 8) (-2000) 2000
      b.put CE.COLOUR.TRIM (uns 16 t) n
    else b

/-- P(L) of R188, in 0.1 W, under correction factor `cf`. -/
def powerWith (b : Body) (n l cf : Nat) : Nat :=
  let p := [b.get CE.CURVE_A.P0 n, b.get CE.CURVE_A.P25 n, b.get CE.CURVE_B.P50 n, b.get CE.CURVE_B.P75 n,
            b.get CE.CURVE_C.P100 n]
  let lv := [0, 16384, 32768, 49152, 65535]
  let i := if l < 16384 then 0 else if l < 32768 then 1 else if l < 49152 then 2 else 3
  let li := lv.getD i 0
  let lj := lv.getD (i + 1) 65535
  ((p.getD i 0 * (lj - l) + p.getD (i + 1) 0 * (l - li)) * cf + 8192 * (lj - li)) / (16384 * (lj - li))

def powerAt (b : Body) (n l : Nat) : Nat := powerWith b n l (b.get CE.CURVE_C.CF n)

/-- The sums a and b of R189 over the members of a scope; b's terms are signed, as an Expert curve may fall. -/
def budgetSums (b : Body) (ns : List Nat) : Nat × Int :=
  ns.foldl (fun acc n =>
    let (l5, src) := preBudget b n
    if src ≤ 2 then (acc.1 + powerAt b n (lvlOut b n), acc.2)
    else
      let f := if src = 3 then 0 else b.get CE.CCT_FLR.RULE_FLOOR n
      let lo := min l5 f
      (acc.1 + powerAt b n lo, acc.2 + ((powerAt b n l5 : Int) - (powerAt b n lo : Int)))) (0, 0)

/-- The target factor of a scope of cap `c` W (R189). -/
def budgetTarget (a : Nat) (s : Int) (c : Nat) : Nat :=
  if a + s ≤ 10 * c then 65536 else if a ≥ 10 * c then 0 else 65536 * (10 * c - a) / s.toNat

/-- STEP of R189. -/
def budgetStep (b : Body) : Nat := b.get CE.RAMP.RAMP_PCT * 65536 * (boltNs b / 1000000) / 100000
def towards (x target step : Nat) : Nat := if x ≤ target then min target (x + step) else max target (x - step)

/-- One capped scope at a bolt boundary: its factor ramps (R189); a shortfall is reported and holds every member at its floor
(R190). -/
def scopeStep (scope cap : Nat) (ns : List Nat) (b : Body) : Body :=
  let get := if scope = 0x40 then b.get CE.SEG_ST.FACTOR else b.get CE.ZONE_ST.FACTOR scope
  let (a, s) := budgetSums b ns
  let short := decide (cap ≠ 0 ∧ a > 10 * cap)
  let f := if cap = 0 then 65536 else if short then 0 else towards get (budgetTarget a s cap) (budgetStep b)
  let b := if scope = 0x40 then b.put CE.SEG_ST.FACTOR f else b.put CE.ZONE_ST.FACTOR f scope
  let b := if scope = 0x40 then b else b.mark CE.ZONE_ST.SHORT short scope
  if short then engineEv 0x40 1 (2 + scope * 2 ^ 8) 0 ((b.mark CE.STAT.BUDGET_SHORT true).put CE.STAT.SHORT_SCOPE scope)
  else b

/-- A channel's factor: the smallest of the capped scopes it belongs to (R187). -/
def channelBudget (n : Nat) (b : Body) : Body :=
  let seg := if b.get CE.SEG_CAP.CAP_W = 0 then 65536 else b.get CE.SEG_ST.FACTOR
  let f := (zoneRecs b).foldl (fun f z =>
    if bitAt z.2.2.2 0 n ∧ b.get CE.ZONE_CAP.CAP_W z.1 ≠ 0 then min f (b.get CE.ZONE_ST.FACTOR z.1) else f) seg
  b.put CE.BUDGET.FACTOR f n

/-- The phase plan of one feeder group (R198). -/
def phasePlan (g : Nat) (b : Body) : Body :=
  let ns := (List.range (chanCnt b)).filter fun n => decide (b.get CE.SAFE_CFG.FEED_GRP n = g)
  let moved := ns.any fun n =>
    decide (lvlOut b n ≥ (chanOf b n).planned + 2048) || decide ((chanOf b n).planned ≥ lvlOut b n + 2048)
  if !moved then b else
  let ord := sortBy (fun x y => decide (pnomDw b x > pnomDw b y) || (decide (pnomDw b x = pnomDw b y) && decide (x ≤ y)))
    (ns.filter fun n => decide (lvlOut b n > 0))
  let b := (ord.foldl (fun (acc : Nat × Body) n =>
    let ph := acc.1 / 256 % 256
    let b := acc.2
    let l := lvlOut b n
    let b := if b.get CE.CH_STAT.PHASE n = ph then b
      else setChan (b.put CE.CH_STAT.PHASE ph n) n { chanOf b n with phaseDue := true }
    (acc.1 + l, b)) (0, b)).2
  b.each ns fun b n => setChan b n { chanOf b n with planned := lvlOut b n }

/-- Everything CE does at a bolt boundary. -/
def ceBolt (b : Body) : Body :=
  if !b.flag CE.CTL.RUN || !runsRules b then b else
  let ns := List.range (chanCnt b)
  let b := b.each ns fun b n => colourStep n (daylightStep n b)
  let b := scopeStep 0x40 (b.get CE.SEG_CAP.CAP_W) ns b
  let b := b.each (zoneRecs b) fun b z => scopeStep z.1 (b.get CE.ZONE_CAP.CAP_W z.1) (zoneMembers b z.2.2.2) b
  let b := b.each ns fun b n => channelBudget n b
  let b := b.each (List.range 64) fun b g => phasePlan g b
  ask ns .loop none b

end Sys2Proof.Machine
end

