-- ==== Sys2Proof/Machine/Metering.lean ====
section
/-! DEFINITION. Machine/Metering.lean: the meanings of MET's metering commands and events (R328 to R352). -/

namespace Sys2Proof.Machine

open Host

/-! ### What METER says -/

def meterOn (b : Body) (c : Nat) : Nat := u8 (sectD b sMETER) (28 + 8 * c)
def meterPhase (b : Body) (c : Nat) : Nat := u8 (sectD b sMETER) (29 + 8 * c)
def meterImax (b : Body) (c : Nat) : Nat := u32 (sectD b sMETER) (32 + 8 * c)
/-- VNOM_MV of voltage channel `p`. -/
def meterVnom (b : Body) (p : Nat) : Nat := u32 (sectD b sMETER) (12 + 4 * p)
/-- The circuits, ascending (R334). -/
def circuits (b : Body) : List Nat := (List.range 24).filter fun c => decide (meterOn b c > 0)

/-- A square root that the spec asks for without its rounding: the floor or the next integer. -/
def rootFree (x : Nat) : Nat :=
  let r := Nat.sqrt x
  if r * r = x then r else r + Config.value 21 [x] % 2

/-! ### Corrections (R330) -/

def sat24 (x : Int) : Int := clampI x (-8388608) 8388607

/-- One raw sample corrected, but for the delay: the product wraps at 48 bits (R16), the result saturates to 24. -/
def correct (b : Body) (ch : Nat) (x : Int) : Int :=
  let y := x - sgn 24 (b.get MET.CAL_OFF.OFF ch)
  let y := sat24 ((sgn 48 (uns 48 (y * (b.get MET.CAL_GAIN.GAIN ch : Nat))) + 2 ^ 21) / 2 ^ 22)
  if b.flag MET.CAL_GAIN.INV ch then sat24 (-y) else y

/-- What the integrator of channel `ch` holds after a cycle, and its samples before the delay of R330: a Rogowski coil's pass
the digital integrator (R329). DESIGN CHOICE (log 102): the integrator stands between the corrections and the delay. -/
def integStep (b : Body) (cy : MetCycle) (ch : Nat) : List Int × List Int :=
  let mem := tabGet (fun _ => []) b.met.integ ch
  let y := (cy.samples.getD ch []).map fun x => correct b ch x
  if ch ≥ 4 ∧ meterOn b (ch - 4) = 2 then Config.integrated (b.get MET.TUNE.HPF_DHZ) mem y else (mem, y)

/-- The corrected samples of a channel in a cycle; a delay draws on the cycle before too (R329, R330). -/
def channelSamples (b : Body) (cy : MetCycle) (ch : Nat) : List Int :=
  let y := (integStep b cy ch).2
  let dly := sgn 12 (b.get MET.CAL_DLY.DLY ch)
  if dly = 0 then y else Config.delayed dly (tabGet (fun _ => []) b.met.past ch) y

/-- A cycle's samples stand in the filters for the next. -/
def filtersStep (cy : MetCycle) (b : Body) : Body :=
  let by_ := fun (f : Nat → List Int) => (List.range 28).map fun ch => (ch, f ch)
  { b with met := { b.met with
      integ := by_ fun ch => (integStep b cy ch).1, past := by_ fun ch => (integStep b cy ch).2,
      pastV := by_ fun ch => if ch < 4 then channelSamples b cy ch else [] } }

/-- The weight of sample `k` of `n`, in 1/1,024 (R335). -/
def weightOf (cy : MetCycle) (n k : Nat) : Int :=
  if k = 0 then (cy.wFirst : Nat) else if k + 1 = n then (cy.wLast : Nat) else 1024
/-- The weighted sum of products over a cycle. -/
def wsum (cy : MetCycle) (x y : List Int) : Int :=
  ((List.range x.length).map fun k => weightOf cy x.length k * x.getD k 0 * y.getD k 0).sum

/-- The weight of a cycle's `n` samples together, in 1/1,024 of a sample. -/
def totalWeight (cy : MetCycle) (n : Nat) : Nat := ((List.range n).map fun k => weightOf cy n k).sum.toNat

/-- What one code of a voltage channel stands for, in 2^−32 of 0.01 V: positive, and open. -/
def voltScale : Nat := Config.value 5 [] + 1
/-- What one code of circuit `c`'s current channel stands for, in 2^−40 mA: proportional to IMAX_MA, with a positive
factor for its input that is open (R329). -/
def ampScale (b : Body) (c : Nat) : Nat := meterImax b c * (Config.value 6 [meterOn b c] + 1)

/-- A weighted sum of products of volts and amperes as energy in 2^−32 µWh: times the sample period of 125 µs (R335). -/
def energyOf (b : Body) (c : Nat) (w : Int) : Int :=
  Int.tdiv (w * (voltScale * ampScale b c * 125 : Nat)) (36 * 10 ^ 7 * 2 ^ 50)

/-- Active energy E of a circuit's cycle in 2^−32 µWh (R335). -/
def cycleE (b : Body) (cy : MetCycle) (c : Nat) : Int :=
  energyOf b c (wsum cy (channelSamples b cy (meterPhase b c - 1)) (channelSamples b cy (4 + c)))
/-- Reactive energy Eq, with the voltage a quarter period late. -/
def cycleEq (b : Body) (cy : MetCycle) (c : Nat) : Int :=
  let p := meterPhase b c - 1
  energyOf b c (wsum cy (Config.quarter cy.ns (tabGet (fun _ => []) b.met.pastV p) (channelSamples b cy p))
    (channelSamples b cy (4 + c)))
/-- The mean square of a channel's samples over a cycle, times `k`. -/
def meanSquare (cy : MetCycle) (x : List Int) (k : Nat) : Nat := (wsum cy x x).toNat * k / max 1 (totalWeight cy x.length)
/-- Rms voltage of channel `p` over a cycle in 0.01 V. -/
def cycleV (b : Body) (cy : MetCycle) (p : Nat) : Nat :=
  rootFree (meanSquare cy (channelSamples b cy p) (voltScale ^ 2)) / 2 ^ 32
/-- The weighted sum of the squares of a channel's samples over a cycle. -/
def squares (b : Body) (cy : MetCycle) (ch : Nat) : Nat :=
  (wsum cy (channelSamples b cy ch) (channelSamples b cy ch)).toNat
/-- Apparent energy S = Vrms × Irms × T in 2^−32 µVAh, over the same samples (R335). -/
def cycleS (b : Body) (cy : MetCycle) (c : Nat) : Nat :=
  let v := channelSamples b cy (meterPhase b c - 1)
  let i := channelSamples b cy (4 + c)
  let w := max 1 (totalWeight cy i.length)
  rootFree ((wsum cy v v).toNat * (wsum cy i i).toNat * (voltScale * ampScale b c * cy.ns) ^ 2) / (w * (36 * 10 ^ 10 * 2 ^ 40))

/-! ### Line cycles -/

def accOf (b : Body) (k : Nat) : Nat := tabGet (fun _ => 0) b.met.acc k
def addAcc (k n : Nat) (b : Body) : Body :=
  { b with met := { b.met with acc := tabSet (fun _ => 0) b.met.acc k ((accOf b k + n) % 2 ^ 96) } }

/-- The circuit's harness is connected (R55). -/
def harnessOn (b : Body) (c : Nat) : Bool := if c < 12 then b.flag MET.STAT.HDET_A else b.flag MET.STAT.HDET_B
/-- The circuit is absent: harness or phase voltage (R334). -/
def circAbsent (b : Body) (c : Nat) : Bool := !harnessOn b c || !b.bit MET.STAT.VPRES (meterPhase b c - 1)

/-- An energy `e` in 2^−32 of a µWh lies below the creep threshold of circuit `c` (R337). -/
def belowCreep (b : Body) (c ns : Nat) (e : Nat) : Bool :=
  decide (e * 3600 * 10 ^ 15 < meterVnom b (meterPhase b c - 1) * meterImax b c * b.get MET.TUNE.CREEP_PPM * 2 ^ 32 * ns)

def orBit (m c : Nat) (v : Bool) : Nat := if v then insBits m c 1 1 else m

/-- One circuit's cycle joins the accumulators (R335 to R338). -/
def circuitCycle (cy : MetCycle) (c : Nat) (b : Body) : Body :=
  let m := b.met
  let b := { b with met := { m with clip := orBit m.clip c (decide (cy.clip / 2 ^ (4 + c) % 2 = 1)) } }
  if circAbsent b c then { b with met := { b.met with absent := orBit b.met.absent c true } } else
  let e := cycleE b cy c
  let q := cycleEq b cy c
  let s := cycleS b cy c
  let m := b.met
  let b := { b with met := { m with
    eSum := tabSet (fun _ => 0) m.eSum c (tabGet (fun _ => 0) m.eSum c + e),
    sSum := tabSet (fun _ => 0) m.sSum c (tabGet (fun _ => 0) m.sSum c + s),
    iSq := tabSet (fun _ => 0) m.iSq c (tabGet (fun _ => 0) m.iSq c + squares b cy (4 + c)) } }
  let ec := belowCreep b c cy.ns e.natAbs
  let qc := belowCreep b c cy.ns q.natAbs
  let sc := belowCreep b c cy.ns s
  let neg := decide (e < 0) && !ec
  let b := if ec then b else addAcc (7 * c + (if e < 0 then 1 else 0)) e.natAbs b
  let quad := match neg, decide (q < 0) with
    | false, false => 2
    | true, false => 3
    | true, true => 4
    | false, true => 5
  let b := if qc then b else addAcc (7 * c + quad) q.natAbs b
  let b := if sc then b else addAcc (7 * c + 6) s b
  if ec || qc || sc then { b with met := { b.met with creep := orBit b.met.creep c true } } else b

/-- The first present phase after `p`, cyclically; 3 for none. -/
def nextPhase (vpres p : Nat) : Nat :=
  ([p + 1, p + 2, p + 3].find? fun k => decide (bits vpres (k % 3) 1 = 1)).elim 3 (· % 3)

/-- The reference phase at a boundary: the first present of VL1 to VL3, chosen again when presence changes (R332); after 4
NO_ZC cycles the next present one (R333). A move is marked for the record. -/
def reference (was pres : Nat) (b : Body) : Body :=
  let ref := b.get MET.STAT.REF
  let stuck := decide (b.met.zcRun ≥ 4)
  let new := if pres = 0 then 3
    else if pres ≠ was ∨ ref = 3 then nextPhase pres 2
    else if stuck then nextPhase pres ref
    else ref
  { b.put MET.STAT.REF new with met := { b.met with
      zcRun := if stuck then 0 else b.met.zcRun,
      refChanged := b.met.refChanged || (decide (new ≠ ref) && decide (ref ≠ 3)) } }

/-- The squares of a cycle's voltages join the interval's, and its samples' weight (R342). -/
def addSquares (cy : MetCycle) (b : Body) : Body :=
  { b with met := { b.met with
      weight := b.met.weight + totalWeight cy (cy.samples.headD []).length,
      vSq := [0, 1, 2, 3].foldl (fun l p => tabSet (fun _ => 0) l p (tabGet (fun _ => 0) l p + squares b cy p)) b.met.vSq } }

/-- Voltages at a cycle's end: presence, reference phase and the neutral alarm (R332, R333, R350). -/
def voltages (cy : MetCycle) (b : Body) : Body :=
  let v := fun p => cycleV b cy p
  let was := b.get MET.STAT.VPRES
  let pres := ([0, 1, 2].map fun p =>
    if v p * 1000 ≥ b.get MET.TUNE.VPRES_PCT * meterVnom b p then 2 ^ p else 0).sum
  let b := reference was pres (b.put MET.STAT.VPRES pres)
  let th := meterVnom b 3
  let hi := if th > 0 ∧ v 3 * 10 > th then b.met.neHigh + 1 else 0
  let lo := if v 3 * 100 < th * 9 then b.met.neLow + 1 else 0
  let b := { b with met := { b.met with neHigh := hi, neLow := lo } }
  if th = 0 then b.mark MET.STAT.NE_ALARM false
  else if hi ≥ 50 ∧ !b.flag MET.STAT.NE_ALARM then raise 0x0901 (v 3) 0 (b.mark MET.STAT.NE_ALARM true)
  else if lo ≥ 50 then b.mark MET.STAT.NE_ALARM false else b

/-! ### Latching -/

/-- Time in the format of R343, with its flag bits. -/
def recTime (b : Body) (tn : Nat) : Nat × Nat :=
  if ntv b then (airOfNs tn, 0) else if rtcv b then (airOfNs tn, 1) else (0, 2)

/-- PF of a circuit over the interval (R342). -/
def pfOf (b : Body) (c : Nat) : Int :=
  let s := tabGet (fun _ => 0) b.met.sSum c
  if s = 0 then 0 else Int.tdiv (tabGet (fun _ => 0) b.met.eSum c * 16384) s

/-- A record for Q24 (R343). -/
def meterRecord (rtype : Nat) (l : Latch) (tStart tEnd fl cycles saveSeq : Nat) (tail : Nat → Nat) (b : Body) : List Nat :=
  let cs := circuits b
  let mask := (cs.map (2 ^ ·)).sum
  let acc := fun k => tabGet (fun _ => 0) l.acc k / 2 ^ 32 % 2 ^ 64
  let v := fun p => toLe 2 (tabGet (fun _ => 0) l.vrms p)
  [rtype, l.unit] ++ toLe 2 fl ++ toLe 4 l.seq ++ toLe 8 tStart ++ toLe 8 tEnd ++ toLe 2 cycles ++ toLe 2 l.freq ++
  v 0 ++ v 1 ++ v 2 ++ v 3 ++ toLe 4 mask ++ toLe 4 b.met.creep ++ toLe 4 b.met.clip ++ toLe 4 b.met.absent ++
  toLe 4 (b.get MET.SAVE.SAVE_S) ++ toLe 4 saveSeq ++ [0, 0, 0, 0] ++
  cs.flatMap fun c => ((List.range 7).flatMap fun k => toLe 8 (acc (7 * c + k))) ++ toLe 4 (tail c) ++
    toLe 2 (uns 16 (tabGet (fun _ => 0) l.pf c)) ++ [0, 0]

/-- A record enters Q24, or is dropped and counted (R344). -/
def putQ24 (l : List Nat) (b : Body) : Body :=
  let (b, ok) := qPut 24 l b
  if ok then b else b.bump MET.DROP.COUNT

/-- The record flags of R343 now. -/
def recFlags (b : Body) : Nat :=
  (if b.met.noSave then 4 else 0) + (if b.met.refChanged then 8 else 0) + (if b.met.anyNoZc then 16 else 0) +
  (if b.flag MET.STAT.NE_ALARM then 32 else 0) + (if b.flag MET.CAL_CMD.MODE then 64 else 0) +
  (if b.met.pattern then 128 else 0)

/-- The latched set of the interval that ends now: Irms and Vrms are those of the interval's samples together (R342). -/
def latchSet (b : Body) (seq : Nat) : Latch :=
  let m := b.met
  let cs := circuits b
  let w := max 1 m.weight
  { seq := seq, time := (recTime b m.bound).1, unit := b.get MET.CFG.UNIT, acc := m.acc,
    irms := cs.map fun c => (c, rootFree (tabGet (fun _ => 0) m.iSq c * ampScale b c ^ 2 / w) / 2 ^ 40),
    vrms := [0, 1, 2, 3].map fun p => (p, rootFree (tabGet (fun _ => 0) m.vSq p * voltScale ^ 2 / w) / 2 ^ 32),
    pf := cs.map fun c => (c, pfOf b c),
    flags := cs.map fun c => (c, bits m.creep c 1 + bits m.clip c 1 * 2 + bits m.noZc c 1 * 4 + bits m.absent c 1 * 8),
    freq := m.goodCycles * 10 ^ 11 / m.goodNs % 65536,
    ecum := b.att.ecum, resid := m.latest.resid }

/-- INTERVAL events of a latch (R345). -/
def intervalEvents (l : Latch) (ns : Nat) (b : Body) : Body :=
  let v := fun p => tabGet (fun _ => 0) l.vrms p % 65536
  let b := emitEv 0x43 0 (v 0 + v 1 * 2 ^ 16 + v 2 * 2 ^ 32 + l.freq * 2 ^ 48) 1 b
  b.each (circuits b) fun b c =>
    let e := tabGet (fun _ => 0) b.met.eSum c
    let w := uns 24 (clampI (Int.tdiv (e * 3600 * 1000) (2 ^ 32 * ns)) (-8388607) 8388607)
    let f := tabGet (fun _ => 0) l.flags c
    let i := min 65535 (tabGet (fun _ => 0) l.irms c / 100)
    emitEv 0x43 0 (c + f % 4 * 2 ^ 5 + f / 8 * 2 ^ 7 + w * 2 ^ 8 + i * 2 ^ 32 +
      uns 16 (tabGet (fun _ => 0) l.pf c) * 2 ^ 48) 0 b

/-- The interval's sums start again. -/
def newInterval (b : Body) : Body :=
  let b := b.each (List.range 28) fun b ch =>
    b.put MET.CAL_DC.DC (uns 24 (if b.met.dcN = 0 then 0 else
      Int.tdiv (tabGet (fun _ => 0) b.met.dcSum ch) b.met.dcN)) ch
  { b with met := { b.met with
      eSum := [], sSum := [], iSq := [], vSq := [], weight := 0, dcSum := [], dcN := 0, cycles := 0,
      goodCycles := 0, goodNs := 0, creep := 0, clip := 0, absent := 0, noZc := 0, anyNoZc := false,
      refChanged := false, pattern := false, noSave := false, lenNs := 0, tStart := b.met.bound } }

/-- The circuits that attribution reconciles at a latch are taken up by it through this function (R370). -/
abbrev LatchHook := Latch → Latch → Body → Body

/-- The SAVE_S marks run on from the instant `at_`. -/
def marksFrom (at_ : Nat) (b : Body) : Body :=
  { b with met := { b.met with saveMark := at_ + msCyc (1000 * b.get MET.SAVE.SAVE_S), saveDue := false } }

/-- A latch at or after a SAVE_S mark is to be saved, and the marks go on at their distance (R346). -/
def passMark (b : Body) : Body :=
  let d := msCyc (1000 * max 1 (b.get MET.SAVE.SAVE_S))
  if b.met.saveMark ≤ b.clock.cyc then
    { b with met := { b.met with saveMark := b.met.saveMark + ((b.clock.cyc - b.met.saveMark) / d + 1) * d, saveDue := true } }
  else b

/-- A latch (R339 to R345), with attribution's work after the Q24 record (R372). The interval runs from its first boundary to
its last. -/
def latchNow (hook : LatchHook) (b : Body) : Body :=
  let seq := (b.get MET.LATCH_SEQ.SEQ + 1) % 2 ^ 32
  let b := b.put MET.LATCH_SEQ.SEQ seq
  let old := b.met.latest
  let l := latchSet b seq
  let (t0, _) := recTime b b.met.tStart
  let (t1, tf) := recTime b b.met.bound
  let b := putQ24 (meterRecord 0 l t0 t1 (recFlags b + tf) b.met.cycles (b.get MET.SAVE_SEQ.SEQ) (fun c => tabGet (fun _ => 0) l.irms c) b) b
  let b := hook old l b
  let l := { l with ecum := b.att.ecum, resid := b.met.latest.resid }
  let b := intervalEvents l b.met.lenNs b
  newInterval (passMark { b with met := { b.met with latest := l } })

/-- The gap record after a restart (R347). -/
def gapRecord (b : Body) : Body :=
  if !b.met.gapDue then b else
  let (t1, tf) := recTime b b.met.bound
  let loss := fun c => (450 * meterImax b c * b.get MET.SAVE.SAVE_S + 3599999) / 3600000
  let l := { b.met.latest with acc := b.met.acc, seq := b.get MET.LATCH_SEQ.SEQ, unit := b.get MET.CFG.UNIT }
  let b := putQ24 (meterRecord 1 l b.met.restored.2 t1 (recFlags b + tf) 0 b.met.restored.1 loss b) b
  { b with met := { b.met with gapDue := false } }

/-! ### Save -/

/-- A save goes into the older of the two slots (R346). -/
def saveNow (b : Body) : Body :=
  let seq := (b.get MET.SAVE_SEQ.SEQ + 1) % 2 ^ 32
  let s : MetSave := { seq := seq, latchSeq := b.met.latest.seq, time := b.met.latest.time, acc := b.met.latest.acc,
                       ecum := b.met.latest.ecum, unattr := b.att.unattr }
  let slot := match tabGet (fun _ => (none : Option MetSave)) (b.met.saves.map fun p => (p.1, some p.2)) 0,
      tabGet (fun _ => (none : Option MetSave)) (b.met.saves.map fun p => (p.1, some p.2)) 1 with
    | none, _ => 0
    | _, none => 1
    | some x, some y => if x.seq ≤ y.seq then 0 else 1
  let saves := (b.met.saves.filter fun p => decide (p.1 ≠ slot)) ++ [(slot, s)]
  { b.put MET.SAVE_SEQ.SEQ seq with met := { b.met with
      saves := saves, saveDue := false, savedAt := some (b.clock.cyc, slot) } }

/-- METER_SAVE: at the first latch at or after a SAVE_S mark. -/
def meterSave (b : Body) : Body := if b.met.saveDue then saveNow b else b

def execMeterSave (s : State) : Outcome State Fault Refusal := onBody meterSave s

/-! ### Reading registers (R340) -/

/-- U in µWh. -/
def unitUwh (u : Nat) : Nat := 1000 * 10 ^ u

/-- The reading of accumulator `k` of a latch: X of R340. -/
def reading (l : Latch) (k : Nat) : Nat := tabGet (fun _ => 0) l.acc k / 2 ^ 32 / unitUwh l.unit % 2 ^ 40

/-- The visible set stands in the reading registers. -/
def showLatch (b : Body) : Body :=
  let l := b.met.shown
  let b := b.put MET.FREQ.FREQ l.freq
  let b := b.each [0, 1, 2, 3] fun b p => b.put MET.VRMS.VRMS (tabGet (fun _ => 0) l.vrms p) p
  let b := b.each (List.range 24) fun b c =>
    let x := fun k => reading l (7 * c + k)
    let b := ((b.put MET.IMP.READING (x 0) c).put MET.IMP_W.WRAP (x 0 / 2 ^ 32) c)
    let b := ((b.put MET.EXP.READING (x 1) c).put MET.EXP_W.WRAP (x 1 / 2 ^ 32) c)
    let b := b.each [0, 1, 2, 3] fun b q =>
      (b.put MET.QR.READING (x (2 + q)) c q).put MET.QR_W.WRAP (x (2 + q) / 2 ^ 32) c q
    let b := ((b.put MET.APP.READING (x 6) c).put MET.APP_W.WRAP (x 6 / 2 ^ 32) c)
    let b := b.put MET.IRMS.MA (tabGet (fun _ => 0) l.irms c) c
    let f := tabGet (fun _ => 0) l.flags c
    let b := (b.put MET.PF.PF (uns 16 (tabGet (fun _ => 0) l.pf c)) c)
    let b := (((b.put MET.PF.ABSENT (bits f 3 1) c).put MET.PF.NO_ZC (bits f 2 1) c).put MET.PF.CLIP (bits f 1 1) c).put
      MET.PF.CREEP (bits f 0 1) c
    b.put MET.ATT_RESID.R (uns 32 (Int.tdiv (tabGet (fun _ => 0) l.resid c) 1000)) c
  b.each l.ecum fun b p => (b.put MET.ATT_E_LO.E_CUM (p.2 % 2 ^ 32) p.1).put MET.ATT_E_HI.E_CUM (p.2 / 2 ^ 32) p.1

/-- Every reading is in the unit in force: after a change of UNIT the readings are those of the visible set's accumulators in
the new unit, and the latest set's are in it too, a restored one's among them (R340, R348). -/
def unitFollow (b : Body) : Body :=
  let u := b.get MET.CFG.UNIT
  let b := { b with met := { b.met with latest := { b.met.latest with unit := u } } }
  if b.met.shown.unit = u then b else showLatch { b with met := { b.met with shown := { b.met.shown with unit := u } } }

/-- A read of MET.LATCH_SEQ (R340). -/
def latchSeqRead (b : Body) : Nat × Body :=
  (b.get MET.LATCH_SEQ.SEQ, showLatch { b with met := { b.met with shown := b.met.latest } })

def execLatchSeqRead (s : State) : Outcome State Fault Refusal :=
  onBody (fun b => let (v, b) := latchSeqRead b; b.answer v) s

/-! ### Calibration (R331) -/

def calAddrs : List Nat := (List.range 28).flatMap fun ch =>
  [MET.CAL_GAIN.word.at ch 0, MET.CAL_OFF.word.at ch 0, MET.CAL_DLY.word.at ch 0]

/-- The stored record is loaded, or the defaults (R331). -/
def calLoad (b : Body) : Body :=
  if b.met.calStored = [] then
    let b := b.each (List.range 28) fun b ch =>
      ((b.put MET.CAL_GAIN.word 0x400000 ch).put MET.CAL_OFF.word 0 ch).put MET.CAL_DLY.word 0 ch
    b.mark MET.STAT.CAL_DEFAULT true
  else (b.each b.met.calStored fun b p => b.setWord p.1 (BitVec.ofNat 32 p.2)).mark MET.STAT.CAL_DEFAULT false

/-- MET.CAL_CMD.MODE. -/
def calMode (b : Body) : Body :=
  if b.flag MET.CAL_CMD.MODE then b else
  blockRecord 9 0x0030 1 { b.mark MET.CAL_CMD.MODE true with met := { b.met with calAt := some b.clock.cyc } }

def execCalMode (s : State) : Outcome State Fault Refusal := onBody calMode s

/-- MET.CAL_CMD.COMMIT. -/
def calCommit (b : Body) : Body :=
  if !b.flag MET.CAL_CMD.MODE then b else
  let words := calAddrs.map fun a => (a, (b.word a).toNat)
  let b := (b.wrap MET.CAL_COUNT.COUNT).mark MET.CAL_CMD.MODE false
  blockRecord 9 0x0030 4 { b.mark MET.STAT.CAL_DEFAULT false with met := { b.met with calStored := words, calAt := none } }

def execCalCommit (s : State) : Outcome State Fault Refusal := onBody calCommit s

/-- MET.CAL_CMD.REVERT, and the end of the hour. -/
def calRevert (b : Body) : Body :=
  if !b.flag MET.CAL_CMD.MODE then b else
  let b := calLoad (b.mark MET.CAL_CMD.MODE false)
  blockRecord 9 0x0030 8 { b with met := { b.met with calAt := none } }

def execCalRevert (s : State) : Outcome State Fault Refusal := onBody calRevert s

/-- One hour in calibration mode. -/
def calTimeout (b : Body) : Body := match b.met.calAt with
  | some t => if t + msCyc 3600000 ≤ b.clock.cyc then calRevert b else b
  | none => b

def execCalTimeout (s : State) : Outcome State Fault Refusal := onBody calTimeout s

/-- HDET of X9 (0) or X10 (1) opens or closes (R55). -/
def execHarnessChange (h : Nat) (present : Bool) (s : State) : Outcome State Fault Refusal :=
  onBody (fun b => if h % 2 = 0 then b.mark MET.STAT.HDET_A present else b.mark MET.STAT.HDET_B present) s

end Sys2Proof.Machine
end

