-- ==== Sys2Proof/Machine/Attribution.lean ====
section
/-! DEFINITION. Machine/Attribution.lean: signature attribution (R353 to R375), and the line cycle and latch, which feed it. -/

namespace Sys2Proof.Machine

open Host

/-! ### Codes (R353, R354) -/

/-- The next bit of u from its last ten, oldest first. -/
def uNext (w : List Bool) : Bool := xor (w.getD 3 false) (w.getD 0 false)
def vNext (w : List Bool) : Bool :=
  xor (w.getD 9 false) (xor (w.getD 8 false) (xor (w.getD 6 false) (xor (w.getD 3 false) (xor (w.getD 2 false) (w.getD 0 false)))))
/-- `n` bits of a sequence from its ten seed bits. -/
def lfsr (f : List Bool → Bool) : Nat → List Bool → List Bool
  | 0, _ => []
  | n + 1, w => w.getD 0 false :: lfsr f n (w.drop 1 ++ [f w])
def seqU : List Bool := lfsr uNext 1023 (List.replicate 10 true)
def seqV : List Bool := lfsr vNext 1023 (List.replicate 10 true)

/-- Chip value c of bit `i` of code `k`. -/
def chipVal (u v : List Bool) (k i : Nat) : Int :=
  let x := match k with
    | 0 => u.getD (i % 1023) false
    | 1 => v.getD (i % 1023) false
    | k => xor (u.getD (i % 1023) false) (v.getD ((i + k - 2) % 1023) false)
  if x then 1 else -1

/-- Code of member `j`. -/
def memberCode (j : Nat) : Nat := if j = 0 then 0 else j + 1

/-- The members of circuit `c`: its channels in ascending order, when it takes part (R354). -/
def members (b : Body) (c : Nat) : List Nat :=
  if meterOn b c > 0 ∧ b.get MET.ATT_CTL.DEPTH > 0 then
    (List.range (chanCnt b)).filter fun n => decide (b.get CE.SAFE_CFG.CIRCUIT n = c + 1)
  else []

def AttCirc.init : AttCirc :=
  { chips := [], gram := [], prod := [], yy := 0, weight := 0, periods := 0, lag := 0, locked := false, runs := [],
    noRef := [], last := 0, due := false }
def circOf (b : Body) (c : Nat) : AttCirc := tabGet (fun _ => AttCirc.init) b.att.circs c
def setCirc (b : Body) (c : Nat) (x : AttCirc) : Body :=
  { b with att := { b.att with circs := tabSet (fun _ => AttCirc.init) b.att.circs c x } }

/-- What MET.ATT_CIRC shows of a circuit's window. -/
def showCirc (c : Nat) (b : Body) : Body :=
  let x := circOf b c
  ((b.put MET.ATT_CIRC.PERIODS x.periods c).put MET.ATT_CIRC.LAG x.lag c).mark MET.ATT_CIRC.LOCKED x.locked c

/-- A window without sums: its lag is known as before (R366). -/
def AttCirc.empty (x : AttCirc) : AttCirc :=
  { x with gram := [], prod := [], yy := 0, weight := 0, periods := 0, runs := [], due := false }

/-- A circuit's window empties, and its chips, which stand for other codes (R374). -/
def emptyWindow (b : Body) (c : Nat) : Body :=
  showCirc c (setCirc b c { (circOf b c).empty with chips := [] })

/-! ### Chips (R356, R360, R363) -/

/-- The chip at network time `tn`, in ns. -/
def chipAt (f tn : Nat) : Nat := tn * f / (2 * 10 ^ 9)
/-- The first ns of chip `q`. -/
def chipStart (f q : Nat) : Nat := (q * 2 * 10 ^ 9 + f - 1) / f

/-- Reference power of a channel in 0.1 W, and whether it is the curve's (R363). -/
def refPower (b : Body) (n : Nat) : Nat × Bool :=
  let fresh : Bool := match (chanOf b n).repAt with
    | some t => decide (sinceS b t < b.get CE.LOOP2.STALE_S)
    | none => false
  if decide (b.get CE.NODE_CAP.SENSE n / 8 % 2 = 1) && fresh then (b.get CE.REP_B.POWER_DW n, false)
  else (powerWith b n (lvlOut b n) 16384, true)

/-- Two spans of time share an instant, the second half open. -/
def spanMeets (t0 t1 s e : Nat) : Bool := decide (t0 < e) && decide (s ≤ t1)

/-- Chip `q` of the line frequency `f` is spoilt for circuit `c` by what MET knows of its time (R360): lost network time,
emergency, hem or a commit, or a fade or a START of a member. -/
def spoilt (b : Body) (f c q : Nat) : Bool :=
  let s := chipStart f q
  let e := chipStart f (q + 1)
  (b.att.spans.any fun x => spanMeets x.1 x.2 s e) ||
  (b.att.moves.any fun x => (members b c).contains x.1 && spanMeets x.2.1 x.2.2 s e)

/-- One line cycle joins its chip on circuit `c`. -/
def chipCycle (cy : MetCycle) (noZc : Bool) (c : Nat) (b : Body) : Body :=
  let ms := members b c
  let f := b.att.lineHz
  if ms = [] ∨ f = 0 ∨ !b.flag MET.ATT_CTL.RUN ∨ !acting b then b else
  let q := chipAt f (tnNs b - cy.ns / 2)
  let absent := circAbsent b c
  let e := if absent then 0 else cycleE b cy c
  let x := circOf b c
  let bad := noZc || absent || decide (cy.clip / 2 ^ (4 + c) % 2 = 1) || b.att.waitCfg
  let refs := ms.map fun n => refPower b n
  let p := Int.tdiv (e * 3600000 * 2 ^ 16) (max 1 cy.ns : Nat)
  let ch : Chip := match x.chips.find? fun k => decide (k.q = q) with
    | some k => { k with sum := k.sum + p, n := k.n + 1, bad := k.bad || bad }
    | none => { q := q, sum := p, n := 1, bad := bad, refs := refs.map (·.1), noRef := refs.map (·.2) }
  setCirc b c { x with chips := (x.chips.filter fun k => decide (k.q ≠ q)) ++ [ch] }

/-- The code period that has ended, once the 15 chips after it that the drift filter takes are complete (R362). -/
def periodOver (b : Body) : Option Nat :=
  if b.att.lineHz ≠ 0 ∧ 1023 * (b.att.period + 1) + 16 ≤ chipAt b.att.lineHz (tnNs b) then some b.att.period else none

/-- The valid chips of circuit `c`, oldest first (R360). -/
def goodChips (b : Body) (c : Nat) : List Chip :=
  (circOf b c).chips.filter fun k => !k.bad && decide (k.n > 0) && !spoilt b b.att.lineHz c k.q

/-- The valid chips of a period; none of the part of a period in which attribution started (R356). -/
def validChips (b : Body) (c p : Nat) : List Chip :=
  if p < b.att.startP then [] else (goodChips b c).filter fun k => decide (k.q / 1023 = p)

/-- x(q), in 2^−48 W. -/
def chipPower (k : Chip) : Int := Int.tdiv k.sum (max 1 k.n : Nat)
/-- Mean of `f` over those of the valid chips that lie from q − 16 to q + 15 (R362). -/
def driftMean (cs : List Chip) (f : Chip → Int) (q : Nat) : Int :=
  let w := cs.filter fun k => decide (k.q + 16 ≥ q ∧ k.q ≤ q + 15)
  if w = [] then 0 else Int.tdiv (w.map f).sum (w.length : Nat)

/-- The regressor of member `j` at a lag, in 2^−48 W, before the drift filter (R363). -/
def regressor (u v : List Bool) (depth j lag : Nat) (k : Chip) : Int :=
  (depth * k.refs.getD j 0 * 2 ^ 48 : Nat) / 100000 * chipVal u v (memberCode j) ((k.q + 1023 - lag) % 1023)

/-- A product of two 2^−48 values. -/
def mul48 (x y : Int) : Int := Int.tdiv (x * y) (2 ^ 48)

/-- The window after a period's sums join it (R364): plainly while it holds fewer than WIN periods. -/
def windowAdd (win periods : Nat) (old new : Int) : Int :=
  if periods < win then old + new else Int.tdiv (old * ((win : Int) - 1)) win + new

def zipAdd (win periods : Nat) (old new : List Int) : List Int :=
  (List.range new.length).map fun i => windowAdd win periods (old.getD i 0) (new.getD i 0)

/-- Score of a lag: the sum of r_j² / G_jj (R366), in 2^−48. -/
def lagScore (x : AttCirc) (lag : Nat) : Int :=
  let r := x.prod.getD lag []
  ((List.range r.length).map fun j =>
    let g := (x.gram.getD j []).getD j 0
    if g = 0 then 0 else Int.tdiv (r.getD j 0 * r.getD j 0) g).sum
/-- The lag with the largest score among `ls`, ties to the first. -/
def bestLag (x : AttCirc) (ls : List Nat) : Nat :=
  ls.foldl (fun m l => if lagScore x l > lagScore x m then l else m) (ls.headD 0)

/-- Lag search and relock (R366): each lag counts the periods running in which it scored higher than the locked one. -/
def lagStep (x : AttCirc) : AttCirc :=
  if !x.locked then
    (if x.periods ≥ 2 then { x with locked := true, lag := bestLag x (List.range 9), runs := [] } else x)
  else
    let runs := (List.range 9).map fun l => if lagScore x l > lagScore x x.lag then x.runs.getD l 0 + 1 else 0
    match (List.range 9).filter fun l => decide (runs.getD l 0 ≥ 4) with
    | [] => { x with runs := runs }
    | ls => { x.empty with lag := bestLag x ls }

/-- Member `j` was without a reported reference in a chip of the period (R363). -/
def noRefIn (x : AttCirc) (p j : Nat) : Bool :=
  x.chips.any fun k => decide (k.q / 1023 = p) && k.noRef.getD j false

/-- NO_REF of every member follows the period's chips. -/
def showNoRef (c : Nat) (b : Body) : Body :=
  let ms := members b c
  b.each (List.range ms.length) fun b j =>
    b.put MET.ATT_CH2.STATUS (insBits (b.get MET.ATT_CH2.STATUS (ms.getD j 0)) 3 1
      (if (circOf b c).noRef.getD j false then 1 else 0)) (ms.getD j 0)

/-- A used period's sums join the window (R364). -/
def windowSums (b : Body) (c p : Nat) (x : AttCirc) : AttCirc :=
  let m := (members b c).length
  let good := goodChips b c
  let used := validChips b c p
  let win := b.get MET.ATT_TUNE.WIN
  let d := b.get MET.ATT_CTL.DEPTH
  let u := seqU
  let v := seqV
  let xs := used.map fun k => chipPower k - driftMean good chipPower k.q
  let reg := fun j lag => used.map fun k =>
    regressor u v d j lag k - driftMean good (regressor u v d j lag) k.q
  let dot := fun (s t : List Int) => ((s.zip t).map fun w => mul48 w.1 w.2).sum
  let rows := (List.range m).map fun j => reg j x.lag
  let gram := rows.map fun s => rows.map fun t => dot s t
  let prod := (List.range 9).map fun lag => (List.range m).map fun j => dot (reg j lag) xs
  { x with
    gram := (List.range m).map fun i => zipAdd win x.periods (x.gram.getD i []) (gram.getD i []),
    prod := (List.range 9).map fun l => zipAdd win x.periods (x.prod.getD l []) (prod.getD l []),
    yy := windowAdd win x.periods x.yy (dot xs xs),
    weight := windowAdd win x.periods x.weight (used.length * 2 ^ 48 : Nat),
    periods := min 255 (min win (x.periods + 1)), last := p, due := true }

/-- A code period ends for circuit `c` (R361, R364). -/
def periodEnd (p c : Nat) (b : Body) : Body :=
  let x := circOf b c
  let used := (validChips b c p).length
  let y := { x with
    chips := x.chips.filter fun k => decide (k.q ≥ 1023 * (p + 1) - 16),
    noRef := (List.range (members b c).length).map fun j => noRefIn x p j }
  let y := if members b c = [] ∨ used < b.get MET.ATT_TUNE2.VALID_MIN then y else lagStep (windowSums b c p y)
  showNoRef c (showCirc c (setCirc (b.put MET.ATT_VALID.CHIPS used c) c y))

/-- CODE_PERIOD_END: the sums of the period, then what MET keeps of its time is cut to what later chips need. -/
def codePeriodEnd (b : Body) : Body := match periodOver b with
  | none => b
  | some p =>
    let b := if b.flag MET.ATT_CTL.RUN && acting b then b.each (circuits b) fun b c => periodEnd p c b else b
    let now := max (p + 1) ((chipAt b.att.lineHz (tnNs b) - 16) / 1023)
    let from_ := chipStart b.att.lineHz (1023 * now - 16)
    ({ b with att := { b.att with
        period := now, spans := b.att.spans.filter fun x => decide (from_ ≤ x.2),
        moves := b.att.moves.filter fun x => decide (from_ ≤ x.2.2) } }).put MET.ATT_PERIOD.P now

def execCodePeriodEnd (s : State) : Outcome State Fault Refusal := onBody codePeriodEnd s

/-! ### The solve (R365, R367) -/

abbrev QRow := List Rat

/-- Eliminates column `k` from the rows other than `piv`. -/
def elimCol (k : Nat) (piv : QRow) (r : QRow) : QRow :=
  let f := r.getD k 0
  (List.range r.length).map fun i => r.getD i 0 - f * piv.getD i 0

/-- Gauss–Jordan over exact rationals: the rows before `k` are done. -/
def gauss : Nat → Nat → List QRow → Option (List QRow)
  | 0, _, rows => some rows
  | fuel + 1, k, rows =>
    match (List.range rows.length).find? fun i => decide (k ≤ i) && decide ((rows.getD i []).getD k 0 ≠ 0) with
    | none => none
    | some i =>
      let rows := (rows.set k (rows.getD i [])).set i (rows.getD k [])
      let p := rows.getD k []
      let d := p.getD k 0
      let piv := p.map (· / d)
      gauss fuel (k + 1) ((List.range rows.length).map fun j =>
        if j = k then piv else elimCol k piv (rows.getD j []))

/-- The solution of the window's normal equations and the diagonal of the inverse, for the members listed. -/
def solve (x : AttCirc) (js : List Nat) : Option (List Rat × List Rat) :=
  let n := js.length
  let g := fun i j => (((x.gram.getD i []).getD j 0 : Int) : Rat)
  let rows := (List.range n).map fun a =>
    (js.map fun j => g (js.getD a 0) j) ++ [(((x.prod.getD x.lag []).getD (js.getD a 0) 0 : Int) : Rat)] ++
      (List.range n).map fun k => if k = a then 1 else 0
  (gauss n 0 rows).map fun rs =>
    ((List.range n).map fun a => (rs.getD a []).getD n 0, (List.range n).map fun a => (rs.getD a []).getD (n + 1 + a) 0)

/-- A non-negative rational's square root times `scale`, rounding open. -/
def rootScaled (q : Rat) (scale : Nat) : Nat :=
  if q ≤ 0 then 0 else
  let n := q.num.toNat * scale * scale
  let r := Nat.sqrt (n / q.den)
  if r * r * q.den = n then r else r + Config.value 22 [n, q.den] % 2

/-- round(CF × 16,384), halves up. -/
def cfCode (q : Rat) : Int := Rat.floor (q * 16384 + 1 / 2)

/-- One member's results: estimate, status and publication (R367, R373). -/
def memberResult (c n : Nat) (cf s2 : Rat) (noRef : Bool) (b : Body) : Body :=
  let sigma := min 65535 (rootScaled s2 10000)
  let z := if s2 ≤ 0 then (if cf > 0 then 255 else 0) else if cf ≤ 0 then 0 else min 255 (rootScaled (cf * cf / s2) 1)
  let zmin := b.get MET.ATT_TUNE.Z_MIN
  let detected := decide (cf > 0) && decide (cf * cf ≥ (zmin * zmin : Nat) * s2)
  let smax := b.get MET.ATT_TUNE.SIGMA_MAX
  let sHigh := decide (s2 * 1000000 > (smax * smax : Nat))
  let inR := decide (1 / 2 ≤ cf) && decide (cf ≤ 2)
  let enough := decide ((circOf b c).periods ≥ b.get MET.ATT_TUNE.MIN_PER)
  let pub := detected && !sHigh && inR && enough
  let status := (if detected then 1 else 0) + (if pub then 2 else 0) + (if inR then 0 else 4) + (if noRef then 8 else 0) +
    (if sHigh then 32 else 0)
  let code := (clampI (cfCode cf) 0 65535).toNat
  let b := (b.put MET.ATT_CH.CF_EST code n).put MET.ATT_CH.SIGMA sigma n
  let b := (b.put MET.ATT_CH2.Z z n).put MET.ATT_CH2.STATUS status n
  if pub then
    let b := b.put CE.CURVE_C.CF code n
    emitEv 0x43 1 (n + c * 2 ^ 9 + code * 2 ^ 16 + sigma * 2 ^ 32 + z * 2 ^ 48 + status * 2 ^ 56) 0 b
  else b

/-- A record enters Q25, or is dropped and counted (R372). -/
def putQ25 (l : List Nat) (b : Body) : Body :=
  let (b, ok) := qPut 25 l b
  if ok then b else b.bump MET.ATT_DROP.COUNT

/-- The PERIOD record of circuit `c` (R372). -/
def periodRecord (c p : Nat) (b : Body) : List Nat :=
  let x := circOf b c
  let ms := members b c
  let t := (recTime b (chipStart b.att.lineHz (1023 * (p + 1)))).1
  let w := x.lag + (if x.locked then 16 else 0) + x.periods * 2 ^ 8 + b.get MET.ATT_VALID.CHIPS c * 2 ^ 16 +
    b.get MET.ATT_VALID.SIGMA_H c * 2 ^ 32
  [1, c] ++ toLe 2 ms.length ++ toLe 4 p ++ toLe 8 t ++ toLe 8 w ++ List.replicate 8 0 ++
  ms.flatMap fun n => toLe 2 n ++ toLe 2 (b.get MET.ATT_CH.CF_EST n) ++ toLe 2 (b.get MET.ATT_CH.SIGMA n) ++
    [b.get MET.ATT_CH2.Z n, b.get MET.ATT_CH2.STATUS n]

/-- ATTRIBUTION_SOLVE for circuit `c`. -/
def attributionSolve (c : Nat) (b : Body) : Body :=
  let x := circOf b c
  let ms := members b c
  if !x.due || !acting b then b else
  let b := setCirc b c { x with due := false }
  let js := (List.range ms.length).filter fun j => decide ((x.gram.getD j []).getD j 0 ≠ 0)
  let off := (List.range ms.length).filter fun j => decide ((x.gram.getD j []).getD j 0 = 0)
  let ref := fun j => x.noRef.getD j false
  let b := b.each off fun b j => b.put MET.ATT_CH2.STATUS (if ref j then 24 else 16) (ms.getD j 0)
  let b := match solve x js with
    | none => b
    | some (cf, inv) =>
      let dotR := ((List.range js.length).map fun a => cf.getD a 0 * (((x.prod.getD x.lag []).getD (js.getD a 0) 0 : Int) : Rat)).sum
      let n : Rat := ((x.weight : Int) : Rat) / (2 ^ 48 : Nat)
      let h2 : Rat := if n ≤ 0 then 0 else (((x.yy : Int) : Rat) - dotR) / (2 ^ 48 : Nat) / n
      let b := b.put MET.ATT_VALID.SIGMA_H (min 65535 (rootScaled h2 10)) c
      b.each (List.range js.length) fun b a =>
        memberResult c (ms.getD (js.getD a 0) 0) (cf.getD a 0) (h2 * inv.getD a 0 * (2 ^ 48 : Nat)) (ref (js.getD a 0)) b
  putQ25 (periodRecord c x.last b) b

def execAttributionSolve (c : Nat) (s : State) : Outcome State Fault Refusal := onBody (attributionSolve (c % 24)) s

/-! ### Reconciliation (R370) -/

def eCumOf (b : Body) (n : Nat) : Nat := tabGet (fun _ => 0) b.att.ecum n

/-- The shares e′ of a positive interval: largest last. -/
def shares (es : List (Nat × Int)) (a r : Int) : List (Nat × Int) :=
  let big := es.foldl (fun m e => if e.2 > m.2 then e else m) (es.headD (0, 0))
  let part := fun (e : Nat × Int) => e.2 + Int.tdiv (r * e.2) a
  let rest := ((es.filter fun e => decide (e.1 ≠ big.1)).map fun e => Int.tdiv (r * e.2) a).sum
  es.map fun e => if e.1 = big.1 then (e.1, e.2 + r - rest) else (e.1, part e)

/-- One circuit is reconciled at a latch; without members all of it is unattributed. -/
def reconcile (old new : Latch) (c : Nat) (b : Body) : Body :=
  let ms := members b c
  let acc := fun (l : Latch) k => ((tabGet (fun _ => 0) l.acc (7 * c + k) / 2 ^ 32 : Nat) : Int)
  let ec := (acc new 0 - acc new 1) - (acc old 0 - acc old 1)
  let es := ms.map fun n => (n, ((tabGet (fun _ => 0) b.att.energy n / (36000000 * 16384) : Nat) : Int))
  let a := (es.map (·.2)).sum
  let un := decide (ec ≤ 0) || decide (a = 0)
  let r := if un then 0 else ec - a
  let sh := if un then es.map fun e => (e.1, (0 : Int)) else shares es a r
  let high := !un && decide ((r.natAbs * 100 : Nat) > (b.get MET.ATT_TUNE2.RESID_PCT : Nat) * ec)
  let b := if un then
      let t := tabGet (fun _ => 0) b.att.unattr c + ec
      ({ b with att := { b.att with unattr := tabSet (fun _ => 0) b.att.unattr c t } }).put MET.ATT_UNATTR.WH
        (uns 32 (Int.tdiv t 1000000)) c
    else b
  let b := if high then b.mark MET.ATT_CIRC.RESID_HIGH true c else b
  let b := b.each sh fun b e =>
    { b with att := { b.att with ecum := tabSet (fun _ => 0) b.att.ecum e.1 (uns 64 ((eCumOf b e.1 : Int) + e.2)) } }
  let b := { b with met := { b.met with latest := { b.met.latest with
    resid := tabSet (fun _ => 0) b.met.latest.resid c r } } }
  let l := [0, c] ++ toLe 2 ms.length ++ toLe 4 new.seq ++ toLe 8 (uns 64 ec) ++ toLe 8 (uns 64 r) ++
    toLe 4 ((if high then 1 else 0) + (if un then 2 else 0)) ++ [0, 0, 0, 0] ++
    sh.flatMap fun e => toLe 2 e.1 ++ toLe 2 (b.get CE.CURVE_C.CF e.1) ++ toLe 4 (uns 32 e.2) ++ toLe 8 (eCumOf b e.1)
  if ms = [] then b else putQ25 l b

/-- Attribution at a latch, while it runs: every circuit, then the interval's energies start again. A standby receives E_cum
(R374). -/
def reconcileAll (old new : Latch) (b : Body) : Body :=
  let b := if b.flag MET.ATT_CTL.RUN && decide (b.get SEAM.STAT.ROLE ≥ 2) then
      b.each (circuits b) fun b c => reconcile old new c b
    else b
  { b with att := { b.att with energy := [] } }

/-- A line frequency comes to be in force: attribution starts at the next code period (R356). -/
def lineHzIs (hz : Nat) (b : Body) : Body :=
  let p := chipAt hz (tnNs b) / 1023
  ({ b with att := { b.att with lineHz := hz, period := p, startP := p + 1 } }).put MET.ATT_PERIOD.P (if hz = 0 then 0 else p)

/-- F_L is METER.LINE_HZ, or unknown until a latch (R356). -/
def lineHzSet (b : Body) : Body := lineHzIs (b.get MET.CFG.LINE_HZ) b

/-- The channels that take part, and the UNITs of their nodes. -/
def memberUnits (b : Body) : List Nat := (circuits b).flatMap fun c => (members b c).map (· + 1)

/-- With LINE_HZ 0, F_L is the nearer of 50 Hz and 60 Hz to the first latch's frequency; the members are told (R356, R357). -/
def lineHzStep (l : Latch) (b : Body) : Body :=
  if b.att.lineHz ≠ 0 then b else
  let b := lineHzIs (if l.freq ≤ 5500 then 50 else 60) b
  { b with air := { b.air with configDue := (b.air.configDue.filter fun u => !(memberUnits b).contains u) ++ memberUnits b } }

def latchHook (old new : Latch) (b : Body) : Body := lineHzStep new (reconcileAll old new b)

/-- A latch that is due: LATCH_N cycles of a running MET. -/
def latchDue (b : Body) : Bool := b.flag MET.CTL.RUN && decide (b.get MET.CFG.LATCH_N ≤ b.met.cycles)

/-- METER_LATCH. -/
def meterLatch (b : Body) : Body := if latchDue b then latchNow latchHook b else b

def execMeterLatch (s : State) : Outcome State Fault Refusal := onBody meterLatch s

/-! ### Line cycles -/

/-- Members' energy of a cycle: the sum of R370, in units of cf · p_ref · ns. -/
def memberEnergy (ns c : Nat) (b : Body) : Body :=
  b.each (members b c) fun b n =>
    let e := tabGet (fun _ => 0) b.att.energy n + b.get CE.CURVE_C.CF n * (refPower b n).1 * ns
    { b with att := { b.att with energy := tabSet (fun _ => 0) b.att.energy n e } }

/-- Network time was stepped back before the running period: that one runs, and no chip is known of it. -/
def periodBack (b : Body) : Body :=
  let p := chipAt b.att.lineHz (tnNs b) / 1023
  if b.att.lineHz = 0 ∨ b.att.period ≤ p then b
  else { b with att := { b.att with period := p, circs := b.att.circs.map fun x => (x.1, { x.2 with chips := [] }) } }

/-- A line cycle of length `cy.ns` ends (R332 to R338): at its crossing, or, timed, one nominal period after the boundary before
it (R333, R339). -/
def lineCycle (cy : MetCycle) (noZc : Bool) (b : Body) : Body :=
  if !b.flag MET.CTL.RUN || (sect b sMETER).isNone then b else
  let b := periodBack (meterLatch b)
  if !b.met.started then
    -- metering starts at the first valid crossing (R347)
    if noZc then filtersStep cy b else
    let b := filtersStep cy (voltages cy b)
    gapRecord { b with met := { b.met with started := true, tStart := tnNs b, bound := tnNs b } }
  else
    let m := b.met
    let b := { b with met := { m with
      cycles := m.cycles + 1, lastNs := if noZc then m.lastNs else cy.ns,
      goodCycles := m.goodCycles + (if noZc then 0 else 1), goodNs := m.goodNs + (if noZc then 0 else cy.ns),
      zcRun := if noZc then m.zcRun + 1 else 0, anyNoZc := m.anyNoZc || noZc,
      noZc := if noZc then 2 ^ 24 - 1 else m.noZc,
      dcN := m.dcN + (cy.samples.headD []).length,
      dcSum := (List.range 28).foldl (fun l ch =>
        tabSet (fun _ => 0) l ch (tabGet (fun _ => 0) l ch + (cy.samples.getD ch []).sum)) m.dcSum,
      lenNs := m.lenNs + cy.ns, bound := if noZc then m.bound + cy.ns else tnNs b } }
    let b := voltages cy (addSquares cy (b.wrap MET.CYCLE.COUNT))
    filtersStep cy (b.each (circuits b) fun b c =>
      let b := circuitCycle cy c b
      chipCycle cy noZc c (memberEnergy cy.ns c b))

/-- A positive zero crossing ends a line cycle, unless it would be shorter than 15.38 ms. -/
def execLineCycleEnd (cy : MetCycle) (s : State) : Outcome State Fault Refusal :=
  onBody (fun b => if cy.ns < 15380000 then b else lineCycle cy false b) s

/-- The nominal period (R333), in ns. -/
def nominalNs (b : Body) : Nat := match b.get MET.CFG.LINE_HZ with
  | 50 => 20000000
  | 60 => 16667000
  | _ => if b.met.lastNs = 0 then 20000000 else b.met.lastNs

/-- No valid crossing within 22.22 ms: the cycle ends on the nominal period with NO_ZC. -/
def execNoZcTimeout (cy : MetCycle) (s : State) : Outcome State Fault Refusal :=
  onBody (fun b => lineCycle { cy with ns := nominalNs b } true b) s

/-- METER is replaced at a commit (R116, R348, R374): the interval closes and is saved. `att`: depth or frequency changed. -/
def meterCommit (att : Bool) (b : Body) : Body :=
  let b := if b.flag MET.CTL.RUN && b.met.started then
      saveNow (latchNow latchHook { b with met := { b.met with pattern := true } }) else b
  let e := b.each (b.att.circs.map (·.1)) emptyWindow
  if att then { e with att := { e.att with waitCfg := true } } else b

/-- A commit falls within its chip (R360). -/
def commitSpan (b : Body) : Body := { b with att := { b.att with spans := b.att.spans ++ [(tnNs b, tnNs b)] } }

/-- Codes are assigned to the members of every circuit (R354). -/
def assignCodes (b : Body) : Body :=
  let b := b.each (List.range 512) fun b n => b.put MET.ATT_CH2.CODE 0x7FF n
  b.each (List.range 24) fun b c =>
    let ms := members b c
    let b := b.put MET.ATT_CIRC.MEMBERS ms.length c
    b.each (List.range ms.length) fun b j => b.put MET.ATT_CH2.CODE (memberCode j) (ms.getD j 0)

/-- Chips count again once every member has reported the CFG_SEQ of its new parameters, which hold the line frequency in
force (R374). -/
def attBolt (b : Body) : Body :=
  let us := memberUnits b
  if b.att.waitCfg && decide (b.att.lineHz ≠ 0) && !(us.any fun u => b.air.configDue.contains u) &&
      !(b.air.configs.any fun p => us.contains p.1) then
    { b with att := { b.att with waitCfg := false } }
  else b

end Sys2Proof.Machine
end

