-- ==== Sys2Proof/Machine/Channels.lean ====
section
/-! DEFINITION. Machine/Channels.lean: the meanings of CE's commands and events (chapter 06). -/

namespace Sys2Proof.Machine

open Host

/-- The derating factor of a temperature (R185), with the latch at 0. -/
def derateFactor (t knee tmax : Int) (hot : Bool) : Nat × Bool :=
  if t > tmax then (0, true)
  else if hot ∧ t > tmax - 5 then (0, true)
  else if t ≤ knee then (65536, false)
  else if t ≤ knee + 15 then (65536 - (32768 * (t - knee) / 15).toNat, false)
  else (32768, false)

/-- The channel's derating factor follows its latest temperature (R185). -/
def derateNow (n : Nat) (b : Body) : Body := match (chanOf b n).temp with
  | none => b
  | some t =>
    let (f, hot) := derateFactor t (kneeC b n) (tmaxC b n) (chanOf b n).hot
    setChan (b.put CE.DERATE.FACTOR f n) n { chanOf b n with hot := hot }

/-- The channel's temperature report is STALE_S old or older (R186). -/
def tempStale (b : Body) (n : Nat) : Bool :=
  (chanOf b n).temp.isSome && decide (b.get CE.LOOP2.STALE_S ≤ sinceS b (chanOf b n).tempAt)

/-- A STATUS of a channel, tag 0 (R194, R195, R318): only the quantities the node's SENSE declares are used. -/
def ceStatus (p n : Nat) (b : Body) : Body :=
  let sense := b.get CE.NODE_CAP.SENSE n
  let fault := bits p 12 7
  let lux := bits p 20 18
  let pw := bits p 38 15
  let code := bits p 53 8
  let hasLux := decide (sense / 2 % 2 = 1)
  let hasPw := decide (sense / 8 % 2 = 1)
  let hasT := decide (sense / 16 % 2 = 1)
  let badLux := hasLux && decide (lux > 200000)
  let badPw := hasPw && decide (pw > 20000)
  let badT := hasT && decide (code > 190)
  let b := b.bump CE.COUNT.RANGE ((if badLux then 1 else 0) + (if badPw then 1 else 0) + (if badT then 1 else 0))
  let b := if hasLux && !badLux then
      setChan (b.put CE.REP_A.LUX lux n) n { chanOf b n with luxAt := some b.clock.cyc }
    else b
  let b := if hasPw && !badPw then b.put CE.REP_B.POWER_DW pw n else b
  let b := if hasT && !badT then
      let t : Int := (code : Int) - 40
      derateNow n (setChan (b.put CE.REP_B.TEMP_C (uns 9 t) n) n { chanOf b n with temp := some t, tempAt := b.clock.cyc })
    else b
  let c := chanOf b n
  let b := setChan b n { c with repAt := some b.clock.cyc,
                                verAt := if fault / 16 % 2 = 1 then some b.clock.cyc else c.verAt }
  let d := fault % 16 + (if unverified b n then 16 else 0) + (if tempStale b n then 32 else 0) + (if badLux || badPw || badT then 64 else 0) +
    (fault / 32 % 2) * 128
  ask [n] .loop none (setDiag n d b)

/-- CE takes a CHANNEL_REPORT event (R194, R318): tag 0 STATUS, tag 1 its second half, tag 2 CAPABILITY. -/
def ceReport (p tag : Nat) (b : Body) : Body :=
  let u := bits p 0 12
  if u = 0 ∨ chanCnt b < u then badEvent b else
  let n := u - 1
  if tag = 0 then (if bits p 19 1 ≠ 0 ∨ bits p 61 3 ≠ 0 then badEvent b else ceStatus p n b)
  else if tag = 1 then
    if bits p 60 4 ≠ 0 then badEvent b
    else if b.get CE.NODE_CAP.SENSE n / 4 % 2 = 1 then
      setChan b n { chanOf b n with cctMeas := some (bits p 12 16), cctAt := b.clock.cyc }
    else b
  else if tag = 2 then
    if bits p 22 10 ≠ 0 then badEvent b
    else ((b.put CE.NODE_CAP.PWM_BITS (bits p 12 5) n).put CE.NODE_CAP.SENSE (bits p 17 5) n).put
      CE.NODE_CAP.MIN_ON_NS (bits p 32 16) n
  else badEvent b

/-- Removes the oldest waiting event of a port. -/
def takePort (port : Nat) : List (Nat × Ev) → Option (Ev × List (Nat × Ev))
  | [] => none
  | (p, e) :: t => if p = port then some (e, t) else (takePort port t).map fun r => (r.1, (p, e) :: r.2)

/-- CE takes the oldest event waiting at a destination port, after those that wait at the ports whose inputs apply before it
(R167). -/
def ceTake (before : List Nat) (port : Nat) (f : Ev → Body → Body) (b : Body) : Body := match takePort port b.ce.inbox with
  | none => b
  | some (e, rest) => f e (ceFirst before { b with ce := { b.ce with inbox := rest } })

def execLightAhead (s : State) : Outcome State Fault Refusal := onBody (ceTake [] 0 fun e => ceLightAhead e.payload) s
def execLevelEvent (s : State) : Outcome State Fault Refusal := onBody (ceTake [0, 2] 1 fun e => ceLevelEvent e.payload) s
def execOverride (s : State) : Outcome State Fault Refusal := onBody (ceTake [0] 2 fun e => ceOverride e.payload) s
def execChannelReport (s : State) : Outcome State Fault Refusal :=
  onBody (ceTake [] 3 fun e => ceReport e.payload e.tag) s

/-- The host payload of CE.HOST_LO and CE.HOST_HI. -/
def hostPayload (b : Body) : Nat := b.get CE.HOST_LO.PAYLOAD + b.get CE.HOST_HI.PAYLOAD * 2 ^ 32

/-- CE.HOST_CMD PORT 1: the host payload as a LEVEL_EVENT. -/
def execHostLevelEvent (s : State) : Outcome State Fault Refusal := onBody (coreAccess fun b => ceLevelEvent (hostPayload b) (ceFirst ceInputs b)) s

/-- CE.HOST_CMD PORT 2: the host payload as an OVERRIDE. -/
def execHostOverride (s : State) : Outcome State Fault Refusal := onBody (coreAccess fun b => ceOverride (hostPayload b) (ceFirst ceInputs b)) s

/-- A host write of CE.LVL_TGT[n] sets rule level and preset and starts a composition (R166). An undeclared channel's
register is stored and nothing acts on it (R590). -/
def lvlTgtWrite (n v : Nat) (b : Body) : Body :=
  let b := ceFirst ceInputs b
  let b := (b.put CE.LVL_TGT.RULE_LVL (bits v 0 16) n).put CE.LVL_TGT.RULE_PRESET (bits v 16 4) n
  if n < chanCnt b then ask [n] .rule none b else b

def execLvlTgtWrite (n v : Nat) (s : State) : Outcome State Fault Refusal := onBody (coreAccess (lvlTgtWrite (n % 512) v)) s

/-- A write of CE.SAFE[n] (R210): it takes effect at the next composition, which it asks for, and a CONFIG frame is due to the
node. -/
def safeLvlWrite (n v : Nat) (b : Body) : Body :=
  let b := (b.put CE.SAFE.EMERG_LVL (bits v 0 16) n).put CE.SAFE.HEM_LVL (bits v 16 16) n
  if n < chanCnt b then ask [n] .rule none { b with air := { b.air with configDue := b.air.configDue ++ [n + 1] } } else b

def execSafeLvlWrite (n v : Nat) (s : State) : Outcome State Fault Refusal := onBody (coreAccess (safeLvlWrite (n % 512) v)) s

/-- CE runs the oldest composition asked for. -/
def execComposition (s : State) : Outcome State Fault Refusal := onBody composeNext s

/-- A channel's light-ahead entry expires when the time reaches LA_EXP (R179). -/
def laExpiry (n : Nat) (b : Body) : Body :=
  let e := (chanOf b n).laExp
  if e = 0 ∨ tnNs b < e then b else
  ask [n] .laEnd none
    (setChan ((ungate b).put CE.OUT.LA_LVL 0 n) n { chanOf b n with laExp := 0 })

def execLaExpiry (n : Nat) (s : State) : Outcome State Fault Refusal := onBody (laExpiry (n % 512)) s

/-- An override's TIMEOUT_MIN has expired, which ends it (R180). -/
def overrideTimeout (n : Nat) (b : Body) : Body := match (chanOf b n).ovrEnd with
  | some t =>
    if overridden b n && decide (t ≤ b.clock.cyc) then
      ask [n] .rule none (setChan ((ungate b).mark CE.CH_STAT.OVR false n) n { chanOf b n with ovrEnd := none })
    else b
  | none => b

def execOverrideTimeout (n : Nat) (s : State) : Outcome State Fault Refusal := onBody (overrideTimeout (n % 512)) s

/-- The channel was sent nothing for the smaller of REFRESH_S and HOLD_T_S / 4 (R176). -/
def refreshDue (b : Body) (n : Nat) : Bool := match (chanOf b n).sent with
  | some x => decide (min (4 * b.get CE.TIMING.REFRESH_S) (holdTS b) * 26000000 ≤ 4 * (b.clock.cyc - x.at_))
  | none => true

/-- A channel sent nothing for the refresh period is sent its absolute state again (R176). -/
def channelRefresh (n : Nat) (b : Body) : Body :=
  if decide (n < chanCnt b) && refreshDue b n then ask [n] .refresh none (ungate b) else b

def execChannelRefresh (n : Nat) (s : State) : Outcome State Fault Refusal := onBody (channelRefresh n) s

/-- The node's on-time is below MIN_ON_NS (R197): D × 10^9 < MIN_ON_NS × F × (2^b − 1). -/
def needsStretch (b : Body) (n : Nat) : Bool :=
  let w := b.get CE.NODE_CAP.PWM_BITS n
  decide (lvlOut b n > 0) && decide (0 < w ∧ w ≤ 16) &&
  decide (lvlOut b n / 2 ^ (16 - w) * 10 ^ 9 < b.get CE.NODE_CAP.MIN_ON_NS n * pwmHz b * (2 ^ w - 1))

/-- STRETCH_MIN has passed since the channel's last STRETCH (R197). -/
def stretchDue (b : Body) (n : Nat) : Bool := match (chanOf b n).stretchAt with
  | some t => decide (b.get CE.DIAG_CTL.STRETCH_MIN * 60 ≤ sinceS b t)
  | none => true

/-- A STRETCH command to a channel whose on-time is below MIN_ON_NS (R197). -/
def stretch (n : Nat) (b : Body) : Body :=
  if decide (n < chanCnt b) && needsStretch b n && stretchDue b n then
    ask [n] .stretch none (setChan (ungate b) n { chanOf b n with stretchAt := some b.clock.cyc })
  else b

def execStretch (n : Nat) (s : State) : Outcome State Fault Refusal := onBody (stretch n) s

/-- No report for STALE_S, counted from the start before the first one, or a temperature report that old (R186, R194). -/
def staleNow (b : Body) (n : Nat) : Bool :=
  decide (b.get CE.LOOP2.STALE_S ≤ sinceS b ((chanOf b n).repAt.getD 0)) || tempStale b n

/-- A report reaches STALE_S: DIAG.STALE is set; the loop stops and derating holds (R182, R186). -/
def reportStale (n : Nat) (b : Body) : Body :=
  if decide (n < chanCnt b) && staleNow b n then setDiag n (diagBit (b.get CE.CH_STAT.DIAG n) 5 true) (ungate b) else b

def execReportStale (n : Nat) (s : State) : Outcome State Fault Refusal := onBody (reportStale n) s

/-- VERIFY_AGE_S passes VERIFY_MAX: DIAG.UNVERIFIED is set (R194, R196). -/
def execVerifyExpired (n : Nat) (s : State) : Outcome State Fault Refusal :=
  onBody (fun b => if n < chanCnt b then refreshDiag n (ungate b) else b) s

end Sys2Proof.Machine
end

