-- ==== Sys2Proof/Machine/Occupancy.lean ====
section
/-! DEFINITION. Machine/Occupancy.lean: OFE (chapter 07): presence filtering, tracks, prediction, bays and zones, and the
meanings of its commands and events. -/

namespace Sys2Proof.Machine

open Host

def Sensor.init : Sensor :=
  { p := false, tc := none, ta := none, tokens := 8, tokAt := 0, stuck := false, lost := false, heard := false, bay := 2, roseAt := 0,
    takenAt := 0, passedAt := 0 }
def sensorOf (b : Body) (i : Nat) : Sensor := tabGet (fun _ => Sensor.init) b.ofe.sensors i
def setSensor (b : Body) (i : Nat) (x : Sensor) : Body :=
  { b with ofe := { b.ofe with sensors := tabSet (fun _ => Sensor.init) b.ofe.sensors i x } }
def Track.init : Track :=
  { live := false, node := 0, prev := 0x1FF, tLast := 0, vq := 0, cls := 0, hits := 0, serial := 0, band := 0 }
def trackOf (b : Body) (k : Nat) : Track := tabGet (fun _ => Track.init) b.ofe.tracks k
def setTrack (b : Body) (k : Nat) (x : Track) : Body :=
  { b with ofe := { b.ofe with tracks := tabSet (fun _ => Track.init) b.ofe.tracks k x } }

/-- The sensor index of a UNIT (R211). -/
def sensorIndex (u : Nat) : Nat := if u ≤ 512 then u - 1 else 512 + (u - 1024)
/-- The UNIT of a sensor index. -/
def indexUnit (i : Nat) : Nat := if i < 512 then i + 1 else 1024 + (i - 512)
/-- The graph node of a presence source, if it has one (R211). -/
def sensorNode (b : Body) (i : Nat) : Option Nat :=
  if i < 512 then some i
  else if slotKind b (i - 512) = 1 then none
  else if slotNear b (i - 512) = 0xFFFF then none else some (slotNear b (i - 512))

/-- now − t as a signed difference modulo 2^32. -/
def sdiff (now t : Nat) : Int := sgn 32 (uns 32 ((now : Int) - (t : Int)))

/-- A sensor status event (R228, tag 1). -/
def statusEvent (i : Nat) (b : Body) : Body :=
  let x := sensorOf b i
  engineEv 0x41 1 (indexUnit i % 4096 + (if x.stuck then 2 ^ 12 else 0) + (if x.lost then 2 ^ 13 else 0)) 1 b

/-- Sets a sensor's stuck mark; each change emits a status event and writes a record (R221). -/
def setStuck (i : Nat) (v : Bool) (b : Body) : Body :=
  let x := sensorOf b i
  if x.stuck = v then b else
  let b := setSensor b i { x with stuck := v, p := if v then false else x.p }
  blockRecord 8 i (if v then 1 else 0) (statusEvent i (b.setBit OFE.STUCK_W.STUCK (i % 32) v (i / 32)))

/-- Clears LOST after an event that passes step 1 (R235). -/
def clearLost (i : Nat) (b : Body) : Body :=
  let x := sensorOf b i
  let b := setSensor b i { x with lost := false, heard := true, passedAt := b.clock.cyc }
  if x.lost then statusEvent i b else b

/-- The tokens of a rate bucket now (R218), with the instant they are counted to. -/
def tokensNow (b : Body) (x : Sensor) : Nat × Int :=
  let g := ((b.clock.cyc : Int) - x.tokAt).toNat / msCyc 125
  if x.tokens + g ≥ 8 then (8, b.clock.cyc) else (x.tokens + g, x.tokAt + g * msCyc 125)

/-- A track event and its Q30 item (R228, R229). KIND 0 birth, 1 move, 2 end. -/
def trackEvent (k kind : Nat) (b : Body) : Body :=
  let x := trackOf b k
  let v := x.vq / 16
  let b := engineEv 0x41 1 (k % 256 + kind * 2 ^ 8 + x.cls * 2 ^ 10 + x.node % 512 * 2 ^ 16 + x.prev % 512 * 2 ^ 32 +
    v % 256 * 2 ^ 48 + x.serial % 256 * 2 ^ 56) 0 b
  if !runsRules b then b else
  let (b, ok) := qPutReport 30 (toLe 4 x.tLast ++ [k % 256, kind] ++ toLe 2 x.node ++ toLe 2 x.prev ++ [x.cls, v % 256] ++
    toLe 2 x.serial ++ [x.hits % 256, 0]) b
  if ok then b else b.bump OFE.COUNT_C.Q30_DROP

/-- A track ends and its slot is free (R227). -/
def endTrack (k : Nat) (b : Body) : Body :=
  if (trackOf b k).live then
    let b := trackEvent k 2 b
    setTrack b k { trackOf b k with live := false }
  else b

/-- The residual of track `k` for a presence at `u`, `t`, if it is a candidate (R223). -/
def residual (b : Body) (k u t : Nat) : Option Nat :=
  let x := trackOf b k
  if !x.live then none else
  let dt := sdiff t x.tLast
  if dt < 0 ∨ dt > (b.get OFE.TRK.T_ASSOC * 65536 / 10 : Nat) then none
  else if x.node = u then some 0
  else match (neighbours b x.node).find? fun p => decide (p.1 = u) with
    | none => none
    | some (_, d) =>
      let dt := dt.toNat
      if d * 65536 ≤ 250 * dt ∧ x.vq ≠ 0 then
        let e := d * 1048576 / x.vq
        some ((if dt ≥ e then dt - e else e - dt) + (if u = x.prev ∧ x.prev ≠ 0x1FF then 65536 else 0))
      else none

/-- The candidate with the smallest residual, ties to the lower track (R223). -/
def bestTrack (b : Body) (u t : Nat) : Option Nat :=
  ((List.range 256).foldl (fun (r : Option (Nat × Nat)) k => match residual b k u t with
    | none => r
    | some x => match r with
      | none => some (k, x)
      | some (_, y) => if x < y then some (k, x) else r) none).map (·.1)

/-- The band of a speed in dm/s (R226). -/
def band (v : Nat) : Nat := if v ≤ 25 then 1 else if v ≤ 60 then 2 else 3

/-- Track `k` takes a presence at `u`, `t` (R225, R226). Answers whether it moved. -/
def associate (k u t : Nat) (b : Body) : Body :=
  let x := trackOf b k
  if x.node = u then
    setTrack b k { x with tLast := if sdiff t x.tLast > 0 then t else x.tLast, hits := min 255 (x.hits + 1) }
  else
    let d := match (neighbours b x.node).find? fun p => decide (p.1 = u) with
      | some p => p.2
      | none => 0
    let dt := (sdiff t x.tLast).toNat
    let inst := if dt = 0 then 4080 else min 4080 (d * 1048576 / dt)
    let vq := if x.hits = 1 then inst else ((x.vq : Int) + ((inst : Int) - (x.vq : Int)) / 4).toNat
    let bd := band (vq / 16)
    let cls := if x.band = 0 then bd else if bd = x.band then bd else x.cls
    trackEvent k 1 (setTrack b k { x with prev := x.node, node := u, tLast := t, vq := vq, cls := cls, band := bd,
                                          hits := min 255 (x.hits + 1) })

/-- The slot a new track takes (R224): the lowest free one, else the one with the oldest T_LAST more than 1 s back. -/
def birthSlot (b : Body) (t : Nat) : Option Nat :=
  match (List.range 256).find? fun k => !(trackOf b k).live with
  | some k => some k
  | none =>
    let old := (List.range 256).foldl (fun r k =>
      if sdiff t (trackOf b k).tLast > sdiff t (trackOf b r).tLast then k else r) 0
    if sdiff t (trackOf b old).tLast > 65536 then some old else none

/-- A track is born (R224). -/
def bear (k u t : Nat) (b : Body) : Body :=
  let b := endTrack k b
  let b := setTrack b k { live := true, node := u, prev := 0x1FF, tLast := t, vq := b.get OFE.TRK.V_BIRTH * 16, cls := 0,
                          hits := 1, serial := b.ofe.serialNext, band := 0 }
  trackEvent k 0 { b with ofe := { b.ofe with serialNext := (b.ofe.serialNext + 1) % 65536 } }

/-! ### The walk of R230 -/

/-- The candidates of one step: (channel, from, distance, time). -/
def walkCands (b : Body) (veff hz : Nat) (seen : List Nat) (front : List (Nat × Nat × Nat)) :
    List (Nat × Nat × Nat × Nat) :=
  front.flatMap fun (u, p, dist) => (neighbours b u).filterMap fun (w, e) =>
    let dw := dist + e
    let t := dw * 16000 / veff
    if (w ≠ p ∨ p = 0x1FF) ∧ !seen.contains w ∧ t ≤ hz then some (w, u, dw, t) else none

/-- Keeps the smallest distance for each channel, then the 8 smallest, ties to the lower channel. -/
def walkKeep (l : List (Nat × Nat × Nat × Nat)) : List (Nat × Nat × Nat × Nat) :=
  let best := l.foldl (fun (acc : List (Nat × Nat × Nat × Nat)) c =>
    match acc.find? fun x => decide (x.1 = c.1) with
    | none => acc ++ [c]
    | some x => if c.2.2.1 < x.2.2.1 then acc.map (fun y => if y.1 = c.1 then c else y) else acc) []
  (sortBy (fun x y => decide (x.2.2.1 < y.2.2.1) || (decide (x.2.2.1 = y.2.2.1) && decide (x.1 ≤ y.1))) best).take 8

/-- The requests of the walk, in order: (channel, e). -/
def walk (b : Body) (veff hz : Nat) : Nat → List Nat → List (Nat × Nat × Nat) → List (Nat × Nat)
  | 0, _, _ => []
  | n + 1, seen, front =>
    let kept := walkKeep (walkCands b veff hz seen front)
    kept.map (fun c => (c.1, c.2.2.2)) ++
      walk b veff hz n (seen ++ kept.map (·.1)) (kept.map fun c => (c.1, c.2.1, c.2.2.1))

/-- The channel's zones all allow light-ahead (R232). -/
def zonesAllow (b : Body) (c : Nat) : Bool :=
  (zoneRecs b).all fun z => !bitAt z.2.2.2 0 c ||
    (if z.1 < 32 then b.bit OFE.LA_ZONE_LO.EN z.1 else b.bit OFE.LA_ZONE_HI.EN (z.1 - 32))

/-- request(c, e) of R231, left out under R232. -/
def request (cls track t : Nat) (b : Body) (r : Nat × Nat) : Body :=
  let (c, e) := r
  let level := if cls ≤ 1 then b.get OFE.CLS_LVL_A.PED else if cls = 2 then b.get OFE.CLS_LVL_A.SLOW
    else b.get OFE.CLS_LVL_B.VEH
  let dwell := if cls ≤ 1 then b.get OFE.DWELL.DW_PED else if cls = 2 then b.get OFE.DWELL.DW_SLOW
    else b.get OFE.DWELL.DW_VEH
  let age := Int.tdiv (sdiff (airTime b % 2 ^ 32) t * 1000) 65536
  let eta := min 65535 ((e : Int) - age).toNat
  let now := tnNs b
  let exp := now + (eta + dwell * 100) * 1000000
  let (lv0, ex0) := tabGet (fun _ => (0, 0)) b.ofe.la c
  let (lv0, ex0) := if now < ex0 then (lv0, ex0) else (0, 0)
  if (level ≤ lv0 ∧ exp ≤ ex0) ∨ !b.flag OFE.CTL.LA_EN ∨ !zonesAllow b c then b else
  let b := { b with ofe := { b.ofe with la := tabSet (fun _ => (0, 0)) b.ofe.la c (max level lv0, max exp ex0) } }
  engineEv 0x41 0 (level % 65536 + c * 2 ^ 16 + eta * 2 ^ 32 + dwell % 256 * 2 ^ 48 + track % 256 * 2 ^ 56) 0 b

/-- The light-ahead requests after an association or birth (R230). -/
def lightAheadFrom (k t : Nat) (b : Body) : Body :=
  let x := trackOf b k
  let veff := max 1 (max x.vq (b.get OFE.PRED.V_FLOOR * 16))
  let hz := b.get OFE.PRED.HORIZON_S * 1000
  let steps := min 32 (b.get OFE.PRED.STEPS)
  b.each ((x.node, 0) :: walk b veff hz steps [x.node] [(x.node, x.prev, 0)]) (request x.cls k t)

/-- An accepted presence at node `u` (R223 to R225, R230). -/
def trackPresence (u t : Nat) (b : Body) : Body := match bestTrack b u t with
  | some k => lightAheadFrom k t (associate k u t b)
  | none => match birthSlot b t with
    | some k => lightAheadFrom k t (bear k u t b)
    | none => request 0 0xFF t (b.bump OFE.COUNT_B.TRACK_FULL) (u, 0)

def ofeBad (b : Body) : Body := b.bump OFE.COUNT_C.BAD_EVENT

/-- The UNIT names a declared source for the port (R213). -/
def presenceUnit (b : Body) (u : Nat) : Bool :=
  unitOk b u && decide (u ≠ 0) && (decide (u ≤ 512) || decide (slotKind b (u - 1024) ∈ [0, 3]))
def bayUnit (b : Body) (u : Nat) : Bool := unitOk b u && decide (1024 ≤ u) && decide (slotKind b (u - 1024) = 1)

/-- A payload of R213 that OFE does not discard. -/
def presenceOk (b : Body) (p : Nat) : Bool := decide (bits p 17 15 = 0) && presenceUnit b (bits p 0 12)
def bayOk (b : Body) (p : Nat) : Bool := decide (bits p 15 17 = 0 ∧ bits p 12 2 ≠ 3) && bayUnit b (bits p 0 12)

/-- Step 1 of R217. -/
def inRange (b : Body) (t : Nat) : Bool :=
  let d := sdiff (airTime b % 2 ^ 32) t
  decide (d ≤ 131072) && decide (-16384 ≤ d)

/-- `t` follows an earlier T_EV by less than DEBOUNCE × 100 ms (R219); before the first one nothing bounces. -/
def bounces (b : Body) (t : Nat) : Option Nat → Bool
  | none => false
  | some o => decide (10 * sdiff t o < (b.get OFE.FILT.DEBOUNCE * 65536 : Nat))

/-- A PRESENCE event through the filters of R217 to R219. -/
def ofePresence (p : Nat) (b : Body) : Body :=
  let u := bits p 0 12
  if !presenceOk b p then ofeBad b else
  let i := sensorIndex u
  let st := decide (bits p 16 1 = 1)
  let conf := bits p 12 4
  let t := bits p 32 32
  if !inRange b t then b.bump OFE.COUNT_A.RANGE else
  let b := clearLost i b
  if (sensorOf b i).stuck && st then b.bump OFE.COUNT_D.STUCK else
  let b := setStuck i false b
  let x := sensorOf b i
  let (tok, at_) := tokensNow b x
  if tok = 0 then (setSensor b i { x with tokens := 0, tokAt := at_ }).bump OFE.COUNT_A.RATE else
  let b := setSensor b i { x with tokens := tok - 1, tokAt := at_ }
  if st && decide (conf < b.get OFE.FILT.MIN_CONF) then b.bump OFE.COUNT_B.CONF else
  let x := sensorOf b i
  if st = x.p ∧ bounces b t x.ta then setSensor b i { x with ta := some t, takenAt := b.clock.cyc }
  else if st ≠ x.p ∧ bounces b t x.tc then b
  else
    let b := setSensor b i { x with p := st, ta := some t, tc := if st = x.p then x.tc else some t, takenAt := b.clock.cyc,
                                    roseAt := if st && !x.p then b.clock.cyc else x.roseAt }
    if st then match sensorNode b i with
      | some u => trackPresence u t b
      | none => b
    else b

/-- A BAY event (R234): steps 1 and 3 of R217 only. -/
def ofeBay (p : Nat) (b : Body) : Body :=
  let u := bits p 0 12
  if !bayOk b p then ofeBad b else
  let i := sensorIndex u
  if !inRange b (bits p 32 32) then b.bump OFE.COUNT_A.RANGE else
  let b := clearLost i b
  let x := sensorOf b i
  let (tok, at_) := tokensNow b x
  if tok = 0 then (setSensor b i { x with tokens := 0, tokAt := at_ }).bump OFE.COUNT_A.RATE
  else setSensor b i { x with tokens := tok - 1, tokAt := at_, bay := bits p 12 2 }

/-- The CONTROL payload is one of R213's for this OP. -/
def controlOk (p op : Nat) : Bool :=
  decide (bits p 0 8 = op) && decide (bits p 15 1 = 0) && decide (bits p 28 36 = 0) &&
  (decide (op ≠ 4) || decide (bits p 16 12 < 2560))

/-- OFE takes the oldest event of its FIFO, if it is of the port and operation the command names. In a standby, whose state follows
the mirror, the event changes nothing (R239, R456). -/
def ofeTake (sel : Nat × Ev → Bool) (f : Ev → Body → Body) (b : Body) : Body := match b.ofe.fifo with
  | [] => b
  | e :: t => if sel e && b.flag OFE.CTL.RUN then
      let b := { b with ofe := { b.ofe with fifo := t } }
      if runsRules b then f e.2 b else b
    else b

def execPresence (s : State) : Outcome State Fault Refusal :=
  onBody (ofeTake (fun e => decide (e.1 = 0)) fun e => ofePresence e.payload) s
def execBay (s : State) : Outcome State Fault Refusal :=
  onBody (ofeTake (fun e => decide (e.1 = 1)) fun e => ofeBay e.payload) s

/-- A CONTROL event of one OP; an invalid payload is counted whichever OP command takes it (R213). -/
def controlRow (op : Nat) (f : Nat → Body → Body) (b : Body) : Body :=
  ofeTake (fun e => decide (e.1 = 2) && (decide (bits e.2.payload 0 8 = op) || decide (bits e.2.payload 0 8 ∉ [1, 2, 3, 4])))
    (fun e b => if controlOk e.payload op then f e.payload b else ofeBad b) b

/-- LA_ZONE: sets a zone's light-ahead enable (R214). -/
def laZone (p : Nat) (b : Body) : Body :=
  let z := bits p 8 6
  let v := decide (bits p 14 1 = 1)
  if z < 32 then b.setBit OFE.LA_ZONE_LO.EN z v else b.setBit OFE.LA_ZONE_HI.EN (z - 32) v
def execLaZone (s : State) : Outcome State Fault Refusal := onBody (controlRow 1 laZone) s

/-- DROP_TRACKS: ends every live track (R214, R227). -/
def dropTracks (b : Body) : Body := b.each (List.range 256) fun b k => endTrack k b
def execDropTracks (s : State) : Outcome State Fault Refusal := onBody (controlRow 2 fun _ => dropTracks) s

/-- REFRESH_COUNTS: every zone emits at the next bolt boundary (R214). -/
def execRefreshCounts (s : State) : Outcome State Fault Refusal :=
  onBody (controlRow 3 fun _ b => { b with ofe := { b.ofe with refresh := true } }) s

/-- CLEAR_STUCK: clears a sensor's stuck mark (R214). -/
def execClearStuck (s : State) : Outcome State Fault Refusal :=
  onBody (controlRow 4 fun p => setStuck (bits p 16 12) false) s

/-- A background check runs, but in a standby, whose state follows the mirror (R239). It clocks the domain (R77). -/
def ofeCheck (c : Body → Bool) (f : Body → Body) (b : Body) : Body := if runsRules b && c b then f (ungate b) else b

/-- P stands at 1 and no event was absorbed or accepted for PRES_HOLD_S (R220). -/
def holdOver (b : Body) (i : Nat) : Bool :=
  (sensorOf b i).p && decide (b.get OFE.TRK.PRES_HOLD_S ≤ sinceS b (sensorOf b i).takenAt)

def execPresenceHoldExpiry (i : Nat) (s : State) : Outcome State Fault Refusal :=
  onBody (ofeCheck (holdOver · i) fun b => setSensor b i { sensorOf b i with p := false }) s

/-- P has stood at 1 without a break for T_STUCK_S (R221). -/
def stuckDue (b : Body) (i : Nat) : Bool :=
  (sensorOf b i).p && decide (i < 2560) && decide (b.get OFE.FILT.T_STUCK_S ≤ sinceS b (sensorOf b i).roseAt)

def execSensorStuck (i : Nat) (s : State) : Outcome State Fault Refusal := onBody (ofeCheck (stuckDue · i) (setStuck i true)) s

/-- Network time is more than T_DROP_S past the track's T_LAST (R227). -/
def dropDue (b : Body) (k : Nat) : Bool :=
  decide (sdiff (airTime b % 2 ^ 32) (trackOf b k).tLast > (b.get OFE.TRK.T_DROP_S * 65536 : Nat))

def execTrackDrop (k : Nat) (s : State) : Outcome State Fault Refusal :=
  onBody (ofeCheck (dropDue · (k % 256)) (endTrack (k % 256))) s

/-! ### Zones at a bolt boundary -/

/-- PRES of zone `z` (R236). -/
def zonePres (b : Body) (z : Nat) (m : List Nat) : Bool :=
  ((zoneMembers b m).any fun c => (sensorOf b c).p && !(sensorOf b c).stuck) ||
  ((List.range (sensCnt b)).any fun s =>
    decide (slotZone b s = z) && (sensorOf b (512 + s)).p && !(sensorOf b (512 + s)).stuck && !(sensorOf b (512 + s)).lost) ||
  (b.ofe.tracks.any fun t => t.2.live && bitAt m 0 t.2.node)
/-- How many bay sensors naming `z` stand in state `st`. -/
def bayCount (b : Body) (z st : Nat) : Nat :=
  ((List.range (sensCnt b)).filter fun s =>
    decide (slotZone b s = z) && decide (slotKind b s = 1) && decide ((sensorOf b (512 + s)).bay = st)).length
/-- PRES, FREE, OCC and UNKNOWN of a zone; the counts are 0 without the BAY flag (R236, R237). -/
def zoneNow (b : Body) (z : Nat) (bay : Bool) (m : List Nat) : Nat × Nat × Nat × Nat :=
  (if zonePres b z m then 1 else 0, if bay then bayCount b z 0 else 0, if bay then bayCount b z 1 else 0,
   if bay then bayCount b z 2 else 0)

/-- ZONE_COUNTS for changed zones, or for every zone when due (R237). -/
def zoneEmit (b : Body) : Body :=
  let last := decide (b.ofe.bolts + 1 ≥ 64)
  let every := b.ofe.refresh || last
  let zs := sortBy (fun x y => decide (x.1 ≤ y.1)) (zoneRecs b)
  let b := b.each zs fun b z =>
    let v := zoneNow b z.1 z.2.1 z.2.2.2
    if every || decide (tabGet (fun _ => (2, 0, 0, 0)) b.ofe.zones z.1 ≠ v) then
      let b := { b with ofe := { b.ofe with zones := tabSet (fun _ => (2, 0, 0, 0)) b.ofe.zones z.1 v } }
      engineEv 0x41 2 (z.1 % 64 + v.1 * 2 ^ 6 + (if z.2.1 then 2 ^ 7 else 0) + v.2.1 * 2 ^ 8 + v.2.2.1 * 2 ^ 20 +
        v.2.2.2 * 2 ^ 32) 0 b
    else b
  { b with ofe := { b.ofe with refresh := false, bolts := if last then 0 else b.ofe.bolts + 1 } }

/-- An event from sensor `i` that passes step 1 waits at OFE. -/
def eventWaits (b : Body) (i : Nat) : Bool :=
  b.ofe.fifo.any fun e =>
    let p := e.2.payload
    decide (sensorIndex (bits p 0 12) = i) && inRange b (bits p 32 32) &&
      ((decide (e.1 = 0) && presenceOk b p) || (decide (e.1 = 1) && bayOk b p))

/-- A slot silent for 3 heartbeats is lost (R235). An event that waits at the same boundary wins. -/
def lostCheck (s : Nat) (b : Body) : Body :=
  let i := 512 + s
  let x := sensorOf b i
  if x.lost || decide (sinceS b x.passedAt < 3 * slotHeartbeat b s) || eventWaits b i then b
  else statusEvent i (setSensor b i { x with lost := true, bay := 2, p := false })

/-- Everything OFE does at a bolt boundary (R212, R216, R235, R237). -/
def ofeBolt (b : Body) : Body :=
  let b := { b with ofe := { b.ofe with dropSeen := false } }
  if !b.flag OFE.CTL.RUN || !runsRules b then b else
  zoneEmit (b.each (List.range (sensCnt b)) fun b s => lostCheck s b)

end Sys2Proof.Machine
end

