-- ==== Sys2Proof/Machine/Basic.lean ====
section
/-! DEFINITION. Machine/Basic.lean: what the module derives for a function in Basic mode (R118 to R121): R183, R188, R209, R243,
R277, R282, R327, R352, R375, R562. -/

namespace Sys2Proof.Machine

/-- Function `f` of R118 is in Expert mode. -/
def expert (b : Body) (f : Nat) : Bool := b.bit SYS.MODE.EXPERT f

/-- A register takes its reset value. -/
def resetReg (a : Nat) (b : Body) : Body := b.setWord a (BitVec.ofNat 32 (resetWord a))

/-- The curve points of R188, whose reset value the register map calls derived. -/
def curvePoints (b : Body) : Body := b.each (List.range (chanCnt b)) fun b n =>
  let p := pnomDw b n
  let b := (b.put CE.CURVE_A.P0 0 n).put CE.CURVE_A.P25 (p / 4) n
  let b := (b.put CE.CURVE_B.P50 (p / 2) n).put CE.CURVE_B.P75 (3 * p / 4) n
  b.put CE.CURVE_C.P100 p n

/-- CHANNELS: R183, R188, the reset values, and RAMP_PCT of ZONES. -/
def basicChannels (b : Body) : Body :=
  let ki := 512 * 2 ^ stitchCode b
  let b := (b.put CE.LOOP.DL_KI ki).put CE.LOOP.DL_KP (4 * ki)
  let b := resetReg 0x4070001C (resetReg 0x40700018 (resetReg 0x40700014 b))
  curvePoints (b.put CE.RAMP.RAMP_PCT (match sect b sZONES with
    | some s => u8 s 8
    | none => 5))

/-- OCCUPANCY (R243). -/
def basicOccupancy (b : Body) : Body :=
  let ta := min 255 (max 80 (edgeMax b * 20 / 14))
  let b := resetReg 0x40800010 (resetReg 0x4080000C b)
  (b.put OFE.TRK.T_ASSOC ta).put OFE.TRK.T_DROP_S ((ta + 9) / 10 + 2)

/-- Port `p` takes time over fibre: the SFP cage is its active medium (R62). -/
def portFibre (b : Body) (p : Nat) : Bool := b.flag SW.PORT_STAT.FIBRE p

/-- The latencies of port `p` from the factory record, or the nominal ones with the NOMINAL bit and a record (R277). -/
def portLatency (p : Nat) (b : Body) : Body :=
  let f := portFibre b p
  let (ni, ne) := if f then (96000, 64000) else (320000, 200000)
  let ok := fun v => decide (v ≤ 2000000)
  match b.nv.facLat.find? fun x => decide (x.1 = 2 * p + (if f then 1 else 0)) with
  | some (_, i, e) =>
    if ok i && ok e then ((b.put TB.ING_LAT.PS i p).put TB.EGR_LAT.PS e p).setBit TB.STAT.NOMINAL p false
    else
      let b := (b.put TB.ING_LAT.PS (if ok i then i else ni) p).put TB.EGR_LAT.PS (if ok e then e else ne) p
      blockRecord 2 (TB.ING_LAT.PS.at p 0 % 2 ^ 20) 0 (b.setBit TB.STAT.NOMINAL p true)
  | none =>
    blockRecord 2 (TB.ING_LAT.PS.at p 0 % 2 ^ 20) 0
      (((b.put TB.ING_LAT.PS ni p).put TB.EGR_LAT.PS ne p).setBit TB.STAT.NOMINAL p true)

/-- TIME (R277). RTC_RATE, which the runtime learns (R268), stays as it is. -/
def basicTime (b : Body) : Body :=
  let b := b.each [0, 1, 2] fun b p => portLatency p b
  let b := (b.put TB.CTL.LOG_DREQ 0xD).put TB.CTL.LOG_SYNC 0xD
  [TB.SERVO.word.addr, TB.STEP_LIM.word.addr, TB.LIMITS.word.addr, TB.RTC_RATE.word.addr].foldr resetReg b

/-- Conducted power of radio `r` in dBm (R59, R61, R282). -/
def txPower (b : Body) (r : Nat) : Int :=
  let s := sectD b sREGION
  let pmax := sgn 8 (u8 s (if r = 4 then 6 else 5))
  let gain := sgn 8 (u8 s (16 + 2 * r))
  let loss : Nat := u8 s (17 + 2 * r)
  let p := min (if r = 4 then 40 else 54) (2 * pmax - gain + (loss : Int))
  (p - 2 * (b.get AIR.TUNE.TXP_BACKOFF : Nat)) / 2

/-- AIR.TXP shows the conducted powers (R282). -/
def showPower (b : Body) : Body :=
  if (sect b sREGION).isNone then b else
  b.each [0, 1, 2, 3, 4] fun b r => b.put AIR.TXP.DBM (uns 8 (txPower b r)) r

/-- AIR (R327). -/
def basicAir (b : Body) : Body :=
  let b := b.put AIR.TUNE.CCA_DBM (if regionMode b = 3 then 0xB0 else 0xAB)
  let b := ((b.put AIR.TUNE.IMG_PCT 25).put AIR.TUNE.TXP_BACKOFF 0).put AIR.KEY_CTL.GRACE_BOLTS 64
  showPower b

/-- METERING (R352). -/
def basicMetering (b : Body) : Body :=
  ((b.put MET.TUNE.CREEP_PPM 1000).put MET.TUNE.VPRES_PCT 10).put MET.TUNE.HPF_DHZ 5

/-- ATTRIBUTION (R375). -/
def basicAttribution (b : Body) : Body := resetReg MET.ATT_TUNE2.word.addr (resetReg MET.ATT_TUNE.word.addr b)

/-- CAP_DW by the ambient temperature (R71, R553). -/
def signCap (b : Body) : Body := b.put GIO.SIGN_PWR.CAP_DW (if b.gio.ambHot then 80 else 120)

/-- SIGN (R553, R562). -/
def basicSign (b : Body) : Body :=
  let b := resetReg GIO.SIGN_SUP.word.addr b
  let b := (signCap b).put GIO.I2C_CFG.ADDR 0x29
  let b := resetReg GIO.SIGN_CTGT.word.addr b
  b.each [0, 1, 2, 3] fun b w => resetReg (GIO.SIGN_CLS.word.at w 0) b

/-- The derived values of function `f` take force (R119, R121). LOCAL_IO has none. -/
def deriveBasic (f : Nat) (b : Body) : Body := match f with
  | 0 => basicChannels b
  | 1 => basicOccupancy b
  | 2 => basicTime b
  | 3 => basicAir b
  | 4 => basicMetering b
  | 5 => basicAttribution b
  | 6 => basicSign b
  | _ => b

/-- The registers of an Expert function whose reset value the register map calls derived: CE.CURVE, TB.ING_LAT and TB.EGR_LAT. -/
def deriveReset (f : Nat) (b : Body) : Body := match f with
  | 0 => curvePoints b
  | 2 => b.each [0, 1, 2] fun b p => portLatency p b
  | _ => b

end Sys2Proof.Machine
end

