-- ==== Sys2Proof/Machine/Settings.lean ====
section
/-! DEFINITION. Machine/Settings.lean: the host settings the module keeps in MRAM by image slot (R523, R524), and what a start
restores of them (R244, R277, R379, R398). -/

namespace Sys2Proof.Machine

/-- The bits of a register that are host settings: the fields that R244 (OFE), R277 (TB), R379 (QM: quota, reserve and timeout)
and R398 (SW) name. -/
def settingMask (a : Nat) : Nat :=
  if a = TB.CTL.word.addr then 0x0007FF02
  else if a ∈ [0x40200108, 0x40200128, 0x40200148] then 0xFFFFFFFF
  else if a = TB.CORR_CTL.word.addr then 2 ^ TB.CORR_CTL.AUTO.lo
  else if a = OFE.CTL.word.addr then 2
  else if a ∈ [OFE.TRK.word.addr, OFE.PRED.word.addr, OFE.CLS_LVL_A.word.addr, OFE.CLS_LVL_B.word.addr, OFE.DWELL.word.addr,
      OFE.LA_ZONE_LO.word.addr, OFE.LA_ZONE_HI.word.addr] then 0xFFFFFFFF
  else if a ∈ [SW.CTL.word.addr, SW.ERPS_CTL.word.addr, SW.ERPS_TMR.word.addr] then 0xFFFFFFFF
  else if a = SW.FDB.word.addr then (2 ^ SW.FDB.AGE_S.w - 1) * 2 ^ SW.FDB.AGE_S.lo
  else if 0x40500100 ≤ a ∧ a < 0x40500500 ∧ a % 32 = 0 then 0xFFFF0000
  else if 0x40500100 ≤ a ∧ a < 0x40500500 ∧ a % 32 = 4 then 0xFFFFFFFF
  else 0

/-- The manifest of the image in slot `s`. -/
def imageMan (b : Body) (s : Nat) : List Nat := match b.nv.images.find? fun p => decide (p.1 = s) with
  | some p => p.2.man
  | none => []

/-- SET_FMT and SET_READ_MIN of the running image (R502). -/
def setFmt (b : Body) : Nat := u16 (imageMan b (b.get UPD.STAT.ACTIVE)) 0x24
def setReadMin (b : Body) : Nat := u16 (imageMan b (b.get UPD.STAT.ACTIVE)) 0x26

/-- The ID under which a generation holds a register's word: its block and its word in the block (DESIGN CHOICE, log entry 96: the
rules give no IDs). -/
def settingId (a : Nat) : Nat := a / 2 ^ 20 % 16 * 4096 + a % 2 ^ 20 / 4 % 4096
def settingAddr (id : Nat) : Nat := 0x40000000 + id / 4096 % 16 * 2 ^ 20 + id % 4096 * 4

/-- A generation: MAGIC, FORMAT, SEQ, LEN, a record for each word, CRC-32 (R523). -/
def genBytes (format seq : Nat) (words : List (Nat × Nat)) : List Nat :=
  let recs := words.flatMap fun p => toLe 2 (settingId p.1) ++ toLe 2 4 ++ toLe 4 p.2
  let l := toLe 4 0x5445534B ++ toLe 2 format ++ toLe 2 0 ++ toLe 4 seq ++ toLe 4 recs.length ++ recs
  l ++ toLe 4 (crc32 l)

def genFormat (g : List Nat) : Nat := u16 g 4
def genSeq (g : List Nat) : Nat := u32 g 8
/-- MAGIC and CRC-32 of a generation hold. -/
def genValid (g : List Nat) : Bool :=
  decide (u32 g 0 = 0x5445534B) && decide (u32 g 12 + 20 ≤ g.length) && decide (crc32 (g.take (16 + u32 g 12)) = u32 g (16 + u32 g 12))

/-- The register words of a generation's records. -/
def recWords : Nat → List Nat → List (Nat × Nat)
  | 0, _ => []
  | n + 1, l => if l.length < 4 then [] else (settingAddr (u16 l 0), u32 l 4) :: recWords n (l.drop (4 + u16 l 2))
def genWords (g : List Nat) : List (Nat × Nat) := recWords (u32 g 12) ((g.drop 16).take (u32 g 12))

/-- Generation `k` (slot · 2 + generation), if it is valid. -/
def genAt (b : Body) (k : Nat) : Option (List Nat) :=
  ((b.nv.settings.find? fun p => decide (p.1 = k)).map (·.2)).filter genValid

/-- The valid generation of settings slot `s` with the higher SEQ (R523). -/
def settingGen (b : Body) (s : Nat) : Option (List Nat) := match genAt b (2 * s), genAt b (2 * s + 1) with
  | some x, some y => some (if genSeq x ≥ genSeq y then x else y)
  | some x, none => some x
  | none, y => y

/-- A settings write goes to the generation with the lower SEQ, or to an invalid one (R523). -/
def writeSettings (words : List (Nat × Nat)) (b : Body) : Body :=
  let s := b.get UPD.STAT.ACTIVE
  let seq := match settingGen b s with
    | some g => (genSeq g + 1) % 2 ^ 32
    | none => 1
  let k := match genAt b (2 * s), genAt b (2 * s + 1) with
    | none, _ => 2 * s
    | _, none => 2 * s + 1
    | some x, some y => if genSeq x < genSeq y then 2 * s else 2 * s + 1
  { b with nv := { b.nv with settings := (b.nv.settings.filter fun p => decide (p.1 ≠ k)) ++ [(k, genBytes (setFmt b) seq words)] } }

/-- The words of the settings in force: those of the running image's slot. -/
def settingWords (b : Body) : List (Nat × Nat) := match settingGen b (b.get UPD.STAT.ACTIVE) with
  | some g => genWords g
  | none => []

/-- A host changed a register: a setting joins those kept before (R523). -/
def keepSetting (a : Nat) (b : Body) : Body :=
  if settingMask a = 0 then b else
  writeSettings (tabIns a (Nat.land (b.word a).toNat (settingMask a)) (tabDel a (settingWords b))) b

/-- A register that a host's write changed is kept (R379, R523); `o` is the body before the write. -/
def keepChanged (a : Nat) (o b : Body) : Body := if b.word a = o.word a then b else keepSetting a b

def execQLimWrite (q v : Nat) (s : State) : Host.Outcome State Fault Refusal :=
  onBody (fun b => keepChanged (QM.Q_LIM.word.at (q % 32) 0) b (qLimWrite (q % 32) v b)) s

def execQCfgWrite (q v : Nat) (s : State) : Host.Outcome State Fault Refusal :=
  onBody (fun b => keepChanged (QM.Q_CFG.word.at (q % 32) 0) b (qCfgWrite (q % 32) v b)) s

/-- One setting is restored: Expert fields only of a function in Expert mode, queue limits under their own rules (R379). -/
def restoreWord (b : Body) (p : Nat × Nat) : Body :=
  let m := settingMask p.1
  if m = 0 ∨ ((p.1 = OFE.TRK.word.addr ∨ p.1 = OFE.PRED.word.addr) ∧ !expert b 1) then b
  else if 0x40500100 ≤ p.1 ∧ p.1 < 0x40500500 then
    let q := (p.1 - 0x40500100) / 32
    if p.1 % 32 = 4 then qLimWrite q p.2 b else qCfgWrite q p.2 b
  else
    let old := (b.word p.1).toNat
    b.setWord p.1 (BitVec.ofNat 32 (old - Nat.land old m + Nat.land p.2 m))

def restoreWords (ws : List (Nat × Nat)) (b : Body) : Body := b.each ws restoreWord

/-- A generation the running image reads (R524). -/
def readable (b : Body) (g : List Nat) : Bool := decide (setReadMin b ≤ genFormat g ∧ genFormat g ≤ setFmt b)

/-- The settings the running image takes at its start (R524): its own slot, else the other, else the defaults. -/
def loadSettings (b : Body) : Body :=
  let s := b.get UPD.STAT.ACTIVE
  match (settingGen b s).filter (readable b), (settingGen b (1 - s)).filter (readable b) with
  | some g, _ => restoreWords (genWords g) b
  | none, some g => writeSettings (genWords g) (restoreWords (genWords g) b)
  | none, none => raise 0x0C01 0 0 ((writeSettings [] b).mark UPD.STAT.SET_DEFAULTED true)

end Sys2Proof.Machine
end

