-- ==== Sys2Proof/Machine/Images.lean ====
section
/-! DEFINITION. Machine/Images.lean: image manifests, their signatures and digests (R502 to R504, R506, R509), and which slot boots
(R511 to R513). -/

namespace Sys2Proof.Machine

/-! ### Manifests -/

/-- The manifest's signature holds under R504: a module image under a Hjelade key, a node image under a node-image key. -/
def manSigned (b : Body) (m : List Nat) : Bool :=
  let o := manSigAt m
  let cls := u8 m o
  let slot := u8 m (o + 1)
  let msg := m.take o
  let sig := bytesAt m (o + 8) 96
  zeros (bytesAt m (o + 2) 6) && (match manKind m, cls with
    | 0, 0 => match b.nv.imgKeys[slot]? with
      | some k => decide (slot < 2) && sigOk k msg sig
      | none => false
    | 1, 1 => match b.nv.keys.nimg.find? fun k => decide (k.1 = slot) with
      | some k => sigOk k.2 msg sig
      | none => false
    | _, _ => false)
where zeros (l : List Nat) : Bool := l.all fun x => decide (x % 256 = 0)

/-- Step 1 of R506: MAGIC, FMT, KIND, lengths and piece counts. `cnt` is PIECE_CNT and `l` the manifest's bytes as
received. -/
def manFormat (m : List Nat) (cnt : Nat) : Bool :=
  let n := manBodyPieces m
  let len := manSigAt m + 104
  decide (u32 m 0 = 0x474D494B ∧ u16 m 4 = 1 ∧ manKind m ≤ 1) &&
  decide (1 ≤ manId m ∧ manId m ≤ 0xFFFFFFFE) &&
  decide (1 ≤ manBodyLen m ∧ manBodyLen m ≤ (if manKind m = 0 then 23 else 8) * 2 ^ 20) &&
  decide (n = (manBodyLen m + 1023) / 1024 ∧ manPieces m = (len + 1023) / 1024 ∧ cnt = manPieces m + n ∧ len ≤ m.length) &&
  decide (manAppLen m ≤ manBodyLen m)

/-- The hash of body piece `k` (R503). -/
def pieceHash (k : Nat) (data : List Nat) : List Nat := (sha384 (toLe 4 k ++ data)).take 16

/-- Piece `k` matches its table entry. -/
def pieceOk (m : List Nat) (k : Nat) (data : List Nat) : Bool := decide (bytesAt m (512 + 16 * k) 16 = pieceHash k data)

def appDigestOk (x : Image) : Bool := decide (bytesAt x.man 0x30 48 = sha384 (x.body.take (manAppLen x.man)))
def safeDigest (m : List Nat) : List Nat := bytesAt m 0x60 48
def safeDigestOk (x : Image) : Bool := decide (safeDigest x.man = sha384 (x.body.drop (manAppLen x.man)))

def imageIn (b : Body) (s : Nat) : Option Image := (b.nv.images.find? fun p => decide (p.1 = s)).map (·.2)

/-- The verify of R512: at a cold start signature, both digests and VERSION; at a boot of the application cores signature
and APP_DIGEST. A slot without an image fails. -/
def verifySlot (b : Body) (cold : Bool) (s : Nat) : Bool := match imageIn b s with
  | none => false
  | some x =>
    manSigned b x.man && appDigestOk x &&
    (!cold || (safeDigestOk x && b.nv.imgFloorOk && decide (b.get UPD.IMG_FLOOR.FLOOR ≤ manVersion x.man)))

/-! ### Slot-state word (R511, R512) -/

/-- The word's CRC and MARK hold. -/
def slotWordOk (b : Body) : Bool :=
  let hi := b.get UPD.SLOT_WORD_HI.WORD
  decide (hi = crc16 (toLe 4 (b.get UPD.SLOT_WORD_LO.WORD)) + 0x4B53 * 2 ^ 16)
def wordActive (b : Body) : Nat := b.get UPD.SLOT_WORD_LO.WORD % 2
def wordState (b : Body) : Nat := bits (b.get UPD.SLOT_WORD_LO.WORD) 2 2
def wordTrials (b : Body) : Nat := bits (b.get UPD.SLOT_WORD_LO.WORD) 4 4

/-- FELL_BACK: the word names the slot, and the flag is set. -/
def fellBack (s : Nat) (b : Body) : Body := (writeSlotWord s 2 0 b).mark UPD.STAT.FELL_BACK true

/-- The second half of R512: the slot is verified, and the other one is taken when it fails. -/
def takeSlot (cold : Bool) (s : Nat) (b : Body) : Body × Option Nat :=
  if verifySlot b cold s then (b, some s)
  else if verifySlot b cold (1 - s) then (fellBack (1 - s) b, some (1 - s))
  else (b, none)

/-- R512: the slot to boot, or none for recovery. -/
def chooseSlot (cold : Bool) (b : Body) : Body × Option Nat :=
  if !slotWordOk b then
    if verifySlot b cold 0 then ((writeSlotWord 0 0 0 b).mark UPD.STAT.SLOTWORD_BAD true, some 0)
    else if verifySlot b cold 1 then ((writeSlotWord 1 0 0 b).mark UPD.STAT.SLOTWORD_BAD true, some 1)
    else (b, none)
  else
    let s := wordActive b
    if wordState b = 1 then
      if wordTrials b = 0 then takeSlot cold (1 - s) (fellBack (1 - s) b)
      else takeSlot cold s (writeSlotWord s 1 (wordTrials b - 1) b)
    else takeSlot cold s b

/-- R513: a confirmed image raises the floor to its VERSION at a cold start. -/
def raiseFloor (s : Nat) (b : Body) : Body := match imageIn b s with
  | some x => if wordState b = 0 ∧ b.get UPD.IMG_FLOOR.FLOOR < manVersion x.man then b.put UPD.IMG_FLOOR.FLOOR (manVersion x.man) else b
  | none => b

/-- The confirmation window of an image on trial runs from its latest boot (R520). -/
def startWindow (b : Body) : Body :=
  if wordState b = 1 then
    { b with upd := { b.upd with winEnd := some (b.clock.cyc + msCyc (60000 * b.get UPD.CONF.WIN_MIN)), passed := [] } }
  else { b with upd := { b.upd with winEnd := none } }

end Sys2Proof.Machine
end

