-- ==== Sys2Proof/Machine/Memory.lean ====
section
/-! DEFINITION. Machine/Memory.lean: MEMI (R402 to R421): the init engine, corrections and the leaky buckets, hard faults and
their repair, and uncorrectable errors with their recovery by region. -/

namespace Sys2Proof.Machine

open Host

/-- The units of a pass of scrubber `m` (R409). -/
def scrubUnits (m : Nat) : Nat := [131072, 1048576, 33554432, 524288, 8192].getD m 1
/-- The address of unit `i` of memory `m`; for LPDDR4X the offset from 0x8000_0000. -/
def unitAddr (m i : Nat) : Nat := match m with
  | 0 => 0x10000000 + 8 * i
  | 1 => 0x20000000 + 8 * i
  | 2 => 64 * i
  | 3 => 0x30000000 + 8 * i
  | _ => 0x4F000000 + 8 * i

/-! ### The repair log (R417) -/

def logBody (kind fields seq : Nat) : List Nat := [kind % 256] ++ toLe 3 fields ++ toLe 2 seq
def logEntry (kind fields seq : Nat) : List Nat := let l := logBody kind fields seq; l ++ toLe 2 (crc16 l)
def logAt (b : Body) (i : Nat) : List Nat := tabGet (fun _ => ([] : List Nat)) b.nv.memLog i
def logUsed (b : Body) : Nat := ((List.range 544).filter fun i => decide (u8 (logAt b i) 0 ≠ 0)).length
/-- An entry whose CRC holds and whose fields are in range. -/
def logGood (l : List Nat) : Bool :=
  decide (crc16 (l.take 6) = u16 l 6) &&
  ((decide (u8 l 0 = 1) && decide (u24 l 1 < 131072)) ||
   (decide (u8 l 0 = 2) && decide (u8 l 1 < 8) && decide (u16 l 2 < 2048)))
/-- The kind and fields of an entry, the same for entries that repeat it. -/
def logKey (l : List Nat) : Nat × Nat := (u8 l 0, u24 l 1)

/-- Appends an entry; a full log raises MEMI_SPARE_FULL in its place. -/
def logAppend (kind fields bank : Nat) (b : Body) : Body × Bool :=
  match (List.range 544).find? fun i => decide (u8 (logAt b i) 0 = 0) with
  | none => (raise 0x0B04 bank 0 b, false)
  | some i =>
    let seq := b.nv.memLog.foldl (fun n p => max n (u16 p.2 4)) 0 + 1
    let b := { b with nv := { b.nv with memLog := tabSet (fun _ => []) b.nv.memLog i (logEntry kind fields (seq % 65536)) } }
    (b.put MEMI.LOG_STAT.USED (logUsed b), true)

/-! ### Init engine -/

/-- One entry of the log at a cold start: bad ones are raised, repeats and bad ones are counted, the rest is applied. -/
def initEntry (st : Body × List (Nat × Nat)) (i : Nat) : Body × List (Nat × Nat) :=
  let (b, seen) := st
  let l := logAt b i
  if u8 l 0 = 0 then (b, seen)
  else if !logGood l then (raise 0x0B05 i 0 (b.bump MEMI.LOG_STAT.BAD), seen)
  else if seen.contains (logKey l) then (b.bump MEMI.LOG_STAT.BAD, seen)
  else
    let seen := seen ++ [logKey l]
    if u8 l 0 = 1 then
      match (List.range 32).find? fun e => !b.flag MEMI.REMAP.VALID e with
      | some e =>
        let b := (b.put MEMI.REMAP.WORD (u24 l 1) e).mark MEMI.REMAP.VALID true e
        (if e = 31 then b.mark MEMI.STAT.REMAP_FULL true else b, seen)
      | none => (b, seen)
    else
      let k := u8 l 1
      if b.get MEMI.SPARE.FUSE k + b.get MEMI.SPARE.LOG k < 64 then (b.wrap MEMI.SPARE.LOG k, seen)
      else (b.mark MEMI.SPARE.FULL true k, seen)

/-- The init engine (R405, R407, R415 to R417, R435): repairs, zero fills, and the retention SRAM when its tag does not
hold. It waits for the AON domain to leave reset. A tampered module then zeroises before the boot ROM runs (R585). -/
def initEngine (b : Body) : Body :=
  if b.power ≠ .start ∨ b.aon.held then b else
  let b := b.each (List.range 8) fun b k =>
    (((b.put MEMI.SPARE.FUSE (b.nv.fuseRows.filter fun r => decide (r.1 = k)).length k).put MEMI.SPARE.LOG 0 k).put
      MEMI.SPARE.PENDING 0 k).mark MEMI.SPARE.FULL false k
  let b := b.each (List.range 32) fun b e => b.put MEMI.REMAP.word 0 e
  let b := (b.put MEMI.LOG_STAT.BAD 0).put MEMI.LOG_STAT.USED (logUsed b)
  let b := ((List.range 544).foldl initEntry (b, [])).1
  let b := b.each (List.range 8) fun b k => if b.flag MEMI.SPARE.FULL k then raise 0x0B04 k 0 b else b
  let b := { b with mem := b.mem.filter fun p => keepsByte p.1 }
  let b := if b.get AON.RET_TAG.TAG = 0x4B414F4E then b else
    { b.mark AON.STAT.RET_LOST true with mem := b.mem.filter fun p => decide (p.1 < 0x4F000000) || decide (0x4F010000 ≤ p.1)
                                         aon := { b.aon with corr := none } }
  let b := b.mark MEMI.STAT.INIT_DONE true
  if b.flag AON.TAMPER.LATCH then tamper 1 b else b

def execInitEngineDone (s : State) : Outcome State Fault Refusal := onBody initEngine s

/-- The DRAM fill runs: it starts when reset is released (R90, R406). -/
def dramFills (b : Body) : Bool := b.flag MEMI.STAT.INIT_DONE && !b.flag MEMI.STAT.DRAM_DONE

/-- The page the background fill has come to, in ascending order: how far is open, so it is free. -/
def fillPos (b : Body) : Nat := Config.value 8 [b.clock.cyc] % 524289

/-- The page's bit in the bitmap of filled pages (R406). -/
def pageFilled (b : Body) (p : Nat) : Bool := b.flag MEMI.STAT.DRAM_DONE || decide (p < fillPos b) || b.memi.pages.contains p

/-- An access reaches a page of LPDDR4X: one not yet filled is filled at once, with zeros (R406). -/
def fillPage (a : Nat) (b : Body) : Body :=
  let p := (a - 0x80000000) / 4096
  if dramFills b && !pageFilled b p then { b with memi := { b.memi with pages := b.memi.pages ++ [p] } } else b

/-- MEMI.DRAM_FILL.PAGES: the background fill skips pages already filled (R406). -/
def pagesFilled (b : Body) : Nat :=
  if b.flag MEMI.STAT.DRAM_DONE then 524288
  else if !b.flag MEMI.STAT.INIT_DONE then 0
  else fillPos b + (b.memi.pages.filter fun p => decide (fillPos b ≤ p)).length

/-- The DRAM fill is complete (R406). -/
def dramDone (b : Body) : Body :=
  if !b.flag MEMI.STAT.INIT_DONE then b else
  { (b.mark MEMI.STAT.DRAM_DONE true).put MEMI.DRAM_FILL.PAGES 524288 with memi := { b.memi with pages := [] } }

def execDramFillDone (s : State) : Outcome State Fault Refusal := onBody dramDone s

/-! ### Corrections -/

/-- A correction fills memory `m`'s bucket (R411). -/
def bucketAdd (m : Nat) (b : Body) : Body :=
  let l := b.get MEMI.LEVEL.LEVEL m + 1
  if l > max 1 (b.get MEMI.BUCKET.THRESH m) then
    raise 0x0B01 m 0 ((b.put MEMI.LEVEL.LEVEL 0 m).mark MEMI.LEVEL.OVF true m)
  else b.put MEMI.LEVEL.LEVEL l m

def execBucketLeak (m : Nat) (s : State) : Outcome State Fault Refusal :=
  onBody (fun b => b.put MEMI.LEVEL.LEVEL (b.get MEMI.LEVEL.LEVEL (m % 6) - 1) (m % 6)) s

def suspect (b : Body) (m a : Nat) : Option Nat :=
  (b.memi.suspects.find? fun x => decide (x.1 = m ∧ x.2.1 = a)).map fun x => x.2.2
def dropSuspect (m a : Nat) (b : Body) : Body :=
  { b with memi := { b.memi with suspects := b.memi.suspects.filter fun x => decide (x.1 ≠ m ∨ x.2.1 ≠ a) } }

/-- A suspect entry (R412): at most 16 for each memory. -/
def addSuspect (m a : Nat) (b : Body) : Body :=
  if (suspect b m a).isSome then b
  else if (b.memi.suspects.filter fun x => decide (x.1 = m)).length ≥ 16 then b.bump MEMI.CE_CNT.UNTRACKED 1 m
  else { b with memi := { b.memi with suspects := b.memi.suspects ++ [(m, a, b.get MEMI.PASS.COUNT m)] } }

/-- Repair of a word of secure SRAM (R414) or of a row of pool SRAM (R415). -/
def repair (m a : Nat) (b : Body) : Body :=
  if m = 0 then
    match (List.range 32).find? fun e => !b.flag MEMI.REMAP.VALID e with
    | none => raise 0x0B03 0 0 b
    | some e =>
      let w := (a - 0x10000000) / 8
      let b := (b.put MEMI.REMAP.WORD w e).mark MEMI.REMAP.VALID true e
      let b := if e = 31 then b.mark MEMI.STAT.REMAP_FULL true else b
      (logAppend 1 w 0 b).1
  else if m = 1 then
    let bank := (a - 0x20000000) / 0x100000 % 8
    let row := a % 0x100000 / 512
    let f := bank + 256 * row
    if b.nv.memLog.any fun p => logGood p.2 && decide (logKey p.2 = (2, f)) then b
    else
      let (b, ok) := logAppend 2 f bank b
      if ok then b.bump MEMI.SPARE.PENDING 1 bank else b
  else b

/-- A hard fault (R413). -/
def hardFault (m a : Nat) (b : Body) : Body :=
  let b := raise 0x0B02 m a (b.bump MEMI.CE_CNT.HARD 1 m)
  repair m a (dropSuspect m a b)

/-- A correction of the word at `a` (R408, R410 to R413). The hard fault's MAJOR errors precede the bucket's MINOR one of the
same cycle (R572). A user and the scrubber that find the word in one cycle are one correction (R410). -/
def correction (m a : Nat) (scrub : Bool) (b : Body) : Body :=
  let twice := decide (b.memi.lastCe = some (m, a, b.clock.cyc, !scrub))
  let count := fun b => if twice then b else bucketAdd m b
  let b := if twice then b else b.bump MEMI.CE_CNT.CORR 1 m
  let b := { b with memi := { b.memi with lastCe := some (m, a, b.clock.cyc, scrub) } }
  let b := if m < 5 then b.put MEMI.LAST_CE.ADDR a m else b
  let b := if b.memi.wb.contains (m, a) then b else { b with memi := { b.memi with wb := b.memi.wb ++ [(m, a)] } }
  if m ≥ 5 then count b
  else count (match suspect b m a with
    | some p => if scrub && decide (p ≠ b.get MEMI.PASS.COUNT m) then hardFault m a b else b
    | none => addSuspect m a b)

/-- The bus address of the word at `a` of memory `m`. -/
def busAddr (m a : Nat) : Nat := if m = 2 then 0x80000000 + a else a

/-- A queued corrected word is written back (R408); an uncorrectable one never is (R418). -/
def writeBack (b : Body) : Body := match b.memi.wb with
  | [] => b
  | (m, a) :: t =>
    { b with memi := { b.memi with wb := t, faults := b.memi.faults.filter fun f => decide (f.1 ≠ busAddr m a) || decide (f.2 ≥ 2) } }

def execCeWriteBack (s : State) : Outcome State Fault Refusal := onBody writeBack s

/-! ### Uncorrectable errors -/

/-- The sizes of R102 in units of 64 KiB; the values Gomos writes where no pattern stands. -/
def partSize (b : Body) (o d : Nat) : Nat := match sect b sSTRUCTURE with
  | some s => u8 s o
  | none => d
/-- The end of the LOOM, OFE and hand-over partitions (R589). -/
def loomEnd (b : Body) : Nat := 0x20200000 + partSize b 8 32 * 65536
def ofeEnd (b : Body) : Nat := loomEnd b + partSize b 9 16 * 65536
def handEnd (b : Body) : Nat := ofeEnd b + partSize b 10 8 * 65536

/-- An armed switch that has not committed goes with its staged pattern (R419). -/
def dropStaged (b : Body) : Body := { b with pat := { b.pat with staged := none } }.mark LOOM.STAT.HELD false

/-- The key store without the key of a row of R527. -/
def keyLost (kind i : Nat) (k : KeyStore) : KeyStore := match kind with
  | 0 => { k with identity := none }
  | 1 => { k with cert := [] }
  | 2 => { k with anchors := k.anchors.filter fun p => decide (p.1 ≠ i) }
  | 3 => { k with pat := k.pat.filter fun p => decide (p.1 ≠ i) }
  | 4 => { k with nimg := k.nimg.filter fun p => decide (p.1 ≠ i) }
  | 5 => { k with pair := none }
  | _ => { k with node := k.node.filter fun p => decide (p.1 ≠ i) }

/-- The record of MRAM that holds the word is invalid; its owner finds it so (R419, R331, R500, R417, R523, R581, R346). -/
def mramLost (x : MramRec) (b : Body) : Body := match x with
  | .other => b
  | .slotWord => b.put UPD.SLOT_WORD_HI.WORD 0
  | .imgFloor => { b with nv := { b.nv with imgFloorOk := false } }
  | .patFloor => { b with nv := { b.nv with patFloorOk := false } }
  | .patWord => { b with nv := { b.nv with patHi := 0 } }
  | .cal => { b with met := { b.met with calStored := [] } }
  | .key kind i => { b with nv := { b.nv with keys := keyLost kind i b.nv.keys } }
  | .settings g => { b with nv := { b.nv with settings := b.nv.settings.map fun p => if p.1 = g then (g, []) else p } }
  | .bb n => { b with nv := { b.nv with bb := b.nv.bb.filter fun r => decide (r.seq ≠ n) } }
  | .log i => { b with nv := { b.nv with memLog := b.nv.memLog.map fun p => if p.1 = i then (p.1, p.2.take 6 ++ toLe 2 (crc16 (p.2.take 6) + 1)) else p } }
  | .save k => { b with met := { b.met with saves := b.met.saves.filter fun p => decide (p.1 ≠ k) } }
  | .bitmap k => { b with nv := { b.nv with staging := b.nv.staging.map fun p =>
      if p.1 = k then (p.1, { p.2 with pieces := [] }) else p } }

/-- OFE.FILT as the SENSORS section says. -/
def takeSensors (b : Body) : Body := match sect b sSENSORS with
  | some s => ((b.put OFE.FILT.T_STUCK_S (u16 s 2)).put OFE.FILT.MIN_CONF (u8 s 4)).put OFE.FILT.DEBOUNCE (u8 s 5)
  | none => resetReg OFE.FILT.word.addr b

/-- SENSORS is taken again and every slot starts as at cold start; a stuck mark that clears is told (R221). -/
def ofeAfresh (b : Body) : Body :=
  let b := b.each (b.ofe.sensors.map (·.1)) fun b i => setStuck i false b
  (takeSensors { b with ofe := { b.ofe with sensors := [] } }).each (List.range (sensCnt b)) fun b k =>
    setSensor b (512 + k) { Sensor.init with passedAt := b.clock.cyc }

/-- The recovery of R419 by region, after the error is raised. -/
def ueRecover (m a : Nat) (x : MramRec) (b : Body) : Body :=
  if m = 1 then
    if a < 0x20200000 then
      let c := (a - 0x20000000) / 128
      match b.qm.queues.find? fun p => p.2.cells.contains c with
      | some p => qFlush p.1 b
      | none => b
    else if a < loomEnd b then { b with memi := { b.memi with reload := some (boltIdx b + 1) } }
    else if a < ofeEnd b then ofeAfresh (dropTracks b)
    else if a < handEnd b then
      let b := match b.pat.staged with
        | some st => if st.armed.isSome then dropStaged b else b
        | none => b
      { b with memi := { b.memi with reload := some (boltIdx b + 1) } }
    else b
  else if m = 3 then mramLost x b
  else if m = 4 then b.put AON.RET_TAG.TAG 0
  else b

/-- The error is fatal (R419). -/
def ueFatal (b : Body) (m a : Nat) : Bool :=
  decide (m = 0 ∨ m = 2 ∨ m ≥ 5) || (decide (m = 1) && decide (handEnd b ≤ a))

/-- An uncorrectable error (R418, R419). -/
def uncorrectable (m a : Nat) (scrub : Bool) (x : MramRec) (b : Body) : Body :=
  let b := (b.put MEMI.UE_ADDR.ADDR a).wrap MEMI.UE_INFO.COUNT
  let b := (b.mark MEMI.UE_INFO.SCRUB scrub).put MEMI.UE_INFO.MEM m
  ueRecover m a x (raiseAs 0x0B06 (if ueFatal b m a then 3 else 2) false m a b)

/-- What a read finds: 0 clean, 1 a correctable error, 2 an uncorrectable one. Bits that an injection flipped show
through (R421). -/
def foundAt (b : Body) (m a found : Nat) : Nat :=
  b.memi.faults.foldl (fun n f => if f.1 = busAddr m a then max n (min 2 f.2) else n) found

/-- A read of the word at `a` and what follows from it. -/
def readWord (m a found : Nat) (scrub : Bool) (x : MramRec) (b : Body) : Body := match foundAt b m a found with
  | 0 => match suspect b m a with
    | some p => if scrub && decide (p ≠ b.get MEMI.PASS.COUNT m) then dropSuspect m a b else b
    | none => b
  | 1 => correction m a scrub b
  | _ => uncorrectable m a scrub x b

/-- SCRUB_READ: a scrubber's tick reads its next unit (R409), or a user reads the word it names (R408, R410). A line of LPDDR4X
is eight words, each with its own check bits (R402). An engine that reads a word of the cell pool with an uncorrectable error
abandons its item with the flush of the queue (R387, R418, R419). -/
def scrubRead (m : Nat) (found : List Nat) (user : Option Nat) (x : MramRec) (b : Body) : Body := match user with
  | some a => readWord m a (found.headD 0) false x b
  | none =>
    if m ≥ 5 ∨ !b.flag MEMI.SCRUB.EN m then b else
    let i := tabGet (fun _ => 0) b.memi.pos m
    let last := decide (i + 1 ≥ scrubUnits m)
    let b := b.each (List.range (if m = 2 then 8 else 1)) fun b k => readWord m (unitAddr m i + 8 * k) (found.getD k 0) true x b
    let b := { b with memi := { b.memi with pos := tabSet (fun _ => 0) b.memi.pos m (if last then 0 else i + 1) } }
    if last then b.wrap MEMI.PASS.COUNT m else b

def execScrubRead (m : Nat) (found : List Nat) (user : Option Nat) (rec : MramRec) (s : State) : Outcome State Fault Refusal :=
  onBody (scrubRead (m % 6) found user rec) s

/-! ### Injection (R421) -/

/-- The address lies in the runtime part of pool SRAM or in LPDDR4X. -/
def injectOk (b : Body) (a : Nat) : Bool :=
  (decide (handEnd b ≤ a) && decide (a < 0x20800000)) || (decide (0x80000000 ≤ a) && decide (a < 0x100000000))

/-- A write of MEMI.INJ_CTL. -/
def injCtl (v : Nat) (b : Body) : Body :=
  let b := b.put MEMI.INJ_CTL.FLIP (bits v 0 8)
  if bits v 16 1 = 0 then b
  else if injectOk b (8 * b.get MEMI.INJ_ADDR.ADDR) then b.mark MEMI.INJ_CTL.ARM true
  else blockRecord 11 0x0014 v b

def execInjectArm (v : Nat) (s : State) : Outcome State Fault Refusal := onBody (injCtl v) s

def popCount (n : Nat) : Nat := ((List.range 8).filter fun k => decide (bits n k 1 = 1)).length

/-- A write to the word at `a` (of 8 bytes): fresh check bits cancel a write-back (R408), and an armed injection is applied. -/
def wordWritten (a : Nat) (b : Body) : Body :=
  let w := a - a % 8
  let m := if a < 0x20000000 then 0 else if a < 0x30000000 then 1 else if a < 0x40000000 then 3
    else if a < 0x80000000 then 4 else 2
  let b := { b with memi := { b.memi with wb := b.memi.wb.filter fun x => decide (x ≠ (m, if m = 2 then w - 0x80000000 else w)),
                                          faults := b.memi.faults.filter fun f => decide (f.1 ≠ w) } }
  if b.flag MEMI.INJ_CTL.ARM && decide (8 * b.get MEMI.INJ_ADDR.ADDR = w) && injectOk b w then
    let b := b.mark MEMI.INJ_CTL.ARM false
    { b with memi := { b.memi with faults := b.memi.faults ++ [(w, popCount (b.get MEMI.INJ_CTL.FLIP))] } }
  else b

end Sys2Proof.Machine
end

