-- ==== Sys2Proof/Machine/TileIsa.lean ====
section
/-! DEFINITION. Machine/TileIsa.lean: the instruction words of a rule tile (R144): the instructions, their decoding from the
six formats with every reserved field checked (R142), and their encoding. -/

namespace Sys2Proof.Machine

/-- The three-register operations of format R. -/
inductive Op3
  | add | sub | mul | mulh | mulhu | and_ | or_ | xor_ | shl | shr | sar | min_ | max_ | minu | maxu | clamp
  | seq | slt | sltu | sel
  deriving DecidableEq, Repr

/-- The register and immediate operations of format I. -/
inductive OpI
  | addi | andi | ori | xori | shli | shri | sari | slti | ld | st | sarm
  deriving DecidableEq, Repr

/-- A tile instruction (R144). -/
inductive TileInstr
  | nop
  | halt
  | movi (d imm : Nat)
  | movh (d imm : Nat)
  | alu (op : Op3) (d a b : Nat)
  | alui (op : OpI) (d a imm : Nat)
  | bz (a target : Nat)
  | bnz (a target : Nat)
  | jmp (target : Nat)
  | cerd (d a : Nat) (g : Bool) (field : Nat)
  | cewr (d a : Nat) (g : Bool) (field : Nat)
  | emit (a b port tag : Nat)
  | time (d w : Nat)
  | scan (d a : Nat)
  | tset (a i : Nat)
  deriving DecidableEq, Repr

/-- The OP code of a format-R operation. -/
def Op3.code : Op3 → Nat
  | .add => 0x04 | .sub => 0x05 | .mul => 0x07 | .mulh => 0x08 | .mulhu => 0x09 | .and_ => 0x0A | .or_ => 0x0B
  | .xor_ => 0x0C | .shl => 0x10 | .shr => 0x11 | .sar => 0x12 | .min_ => 0x16 | .max_ => 0x17 | .minu => 0x18
  | .maxu => 0x19 | .clamp => 0x1A | .seq => 0x1B | .slt => 0x1C | .sltu => 0x1D | .sel => 0x2B

/-- The OP code of a format-I operation. -/
def OpI.code : OpI → Nat
  | .addi => 0x06 | .andi => 0x0D | .ori => 0x0E | .xori => 0x0F | .shli => 0x13 | .shri => 0x14 | .sari => 0x15
  | .slti => 0x1E | .ld => 0x22 | .st => 0x23 | .sarm => 0x28

def op3Of : Nat → Option Op3
  | 0x04 => some .add | 0x05 => some .sub | 0x07 => some .mul | 0x08 => some .mulh | 0x09 => some .mulhu
  | 0x0A => some .and_ | 0x0B => some .or_ | 0x0C => some .xor_ | 0x10 => some .shl | 0x11 => some .shr
  | 0x12 => some .sar | 0x16 => some .min_ | 0x17 => some .max_ | 0x18 => some .minu | 0x19 => some .maxu
  | 0x1A => some .clamp | 0x1B => some .seq | 0x1C => some .slt | 0x1D => some .sltu | 0x2B => some .sel
  | _ => none

def opIOf : Nat → Option OpI
  | 0x06 => some .addi | 0x0D => some .andi | 0x0E => some .ori | 0x0F => some .xori | 0x13 => some .shli
  | 0x14 => some .shri | 0x15 => some .sari | 0x1E => some .slti | 0x22 => some .ld | 0x23 => some .st
  | 0x28 => some .sarm | _ => none

/-- The CE fields of R147: width, whether a tile may write it, and whether its world is S. -/
def ceField : Nat → Option (Nat × Bool × Bool)
  | 0x00 => some (16, true, false) | 0x01 => some (16, true, false) | 0x02 => some (4, true, false)
  | 0x03 => some (16, true, false) | 0x08 => some (16, false, false) | 0x09 => some (16, false, false)
  | 0x0A => some (18, false, false) | 0x0B => some (15, false, false) | 0x0C => some (8, false, false)
  | 0x0D => some (8, false, false) | 0x0E => some (32, false, false) | 0x0F => some (16, false, false)
  | 0x20 => some (16, false, true) | 0x21 => some (16, false, true) | 0x22 => some (1, false, true)
  | _ => none

/-- Decodes an instruction word; `none` is ILLEGAL: a reserved opcode, a non-zero reserved field, or a FIELD code that is
not in the table of R147 (R142). -/
def decodeTile (w : Nat) : Option TileInstr :=
  let op := w / 67108864 % 64
  let d := w / 1048576 % 64
  let a := w / 16384 % 64
  let g := w / 256 % 64
  let imm := w % 16384
  match op3Of op with
  | some o => if w % 256 = 0 then some (.alu o d a g) else none
  | none => match opIOf op with
    | some o => some (.alui o d a imm)
    | none => match op with
      | 0x00 => if w % 67108864 = 0 then some .nop else none
      | 0x01 => if w % 67108864 = 0 then some .halt else none
      | 0x02 => some (.movi d (w % 1048576))
      | 0x03 => if w / 65536 % 16 = 0 then some (.movh d (w % 65536)) else none
      | 0x1F => if w / 1024 % 1024 = 0 then some (.bz d (w % 1024)) else none
      | 0x20 => if w / 1024 % 1024 = 0 then some (.bnz d (w % 1024)) else none
      | 0x21 => if w / 1024 % 65536 = 0 then some (.jmp (w % 1024)) else none
      | 0x24 => if w / 256 % 32 = 0 ∧ (ceField (w % 256)).isSome then
          some (.cerd d a (decide (w / 8192 % 2 = 1)) (w % 256)) else none
      | 0x25 => if w / 256 % 32 = 0 ∧ (ceField (w % 256)).isSome then
          some (.cewr d a (decide (w / 8192 % 2 = 1)) (w % 256)) else none
      | 0x26 => if w / 256 % 4 = 0 then some (.emit d a (w / 1024 % 16) (w % 256)) else none
      | 0x27 => if w / 4 % 262144 = 0 then some (.time d (w % 4)) else none
      | 0x29 => if w % 16384 = 0 then some (.scan d a) else none
      | 0x2A => if w / 1048576 % 64 = 0 ∧ w / 4 % 4096 = 0 then some (.tset a (w % 4)) else none
      | _ => none

/-- The word of an instruction (R144). -/
def encodeTile : TileInstr → Nat
  | .nop => 0
  | .halt => 0x04000000
  | .movi d imm => 0x02 * 67108864 + d * 1048576 + imm
  | .movh d imm => 0x03 * 67108864 + d * 1048576 + imm
  | .alu o d a b => o.code * 67108864 + d * 1048576 + a * 16384 + b * 256
  | .alui o d a imm => o.code * 67108864 + d * 1048576 + a * 16384 + imm
  | .bz a t => 0x1F * 67108864 + a * 1048576 + t
  | .bnz a t => 0x20 * 67108864 + a * 1048576 + t
  | .jmp t => 0x21 * 67108864 + t
  | .cerd d a g f => 0x24 * 67108864 + d * 1048576 + a * 16384 + (if g then 8192 else 0) + f
  | .cewr d a g f => 0x25 * 67108864 + d * 1048576 + a * 16384 + (if g then 8192 else 0) + f
  | .emit a b p t => 0x26 * 67108864 + a * 1048576 + b * 16384 + p * 1024 + t
  | .time d w => 0x27 * 67108864 + d * 1048576 + w
  | .scan d a => 0x29 * 67108864 + d * 1048576 + a * 16384
  | .tset a i => 0x2A * 67108864 + a * 16384 + i

/-- Every field of the instruction fits its place in the word. -/
def TileInstr.wf : TileInstr → Prop
  | .nop => True
  | .halt => True
  | .movi d imm => d < 64 ∧ imm < 1048576
  | .movh d imm => d < 64 ∧ imm < 65536
  | .alu _ d a b => d < 64 ∧ a < 64 ∧ b < 64
  | .alui _ d a imm => d < 64 ∧ a < 64 ∧ imm < 16384
  | .bz a t => a < 64 ∧ t < 1024
  | .bnz a t => a < 64 ∧ t < 1024
  | .jmp t => t < 1024
  | .cerd d a _ f => d < 64 ∧ a < 64 ∧ f < 256 ∧ (ceField f).isSome = true
  | .cewr d a _ f => d < 64 ∧ a < 64 ∧ f < 256 ∧ (ceField f).isSome = true
  | .emit a b p t => a < 64 ∧ b < 64 ∧ p < 16 ∧ t < 256
  | .time d w => d < 64 ∧ w < 4
  | .scan d a => d < 64 ∧ a < 64
  | .tset a i => a < 64 ∧ i < 4

end Sys2Proof.Machine
end

