-- ==== Sys2Proof/Machine/Tiles.lean ====
section
/-! DEFINITION. Machine/Tiles.lean: a tile's activation (R135 to R146): registers and local data, faults, the output buffer and
its commit, and the schedule table's entries (R153 to R160). -/

namespace Sys2Proof.Machine

/-- General register Gg of tile `t`. -/
def gReg (b : Body) (t g : Nat) : Word := b.word (LOOM.TILE_G.word.at t g)
def setG (t d : Nat) (v : Word) (b : Body) : Body := b.setWord (LOOM.TILE_G.word.at t d) v
/-- Local data word `w` of tile `t`. -/
def dataWord (b : Body) (t w : Nat) : Word := b.word (LOOM.DATA.word.at t w)
def codeWord (b : Body) (t w : Nat) : Nat := (b.word (LOOM.CODE.word.at t w)).toNat
def codeWords (b : Body) (t : Nat) : Nat := b.get LOOM.TILE_CTL.CODE_WORDS t

/-- What an instruction does to its activation: it goes on, ends at HALT, or faults with a cause of R142. -/
inductive TRes
  | go (b : Body) (a : Act)
  | halt (b : Body) (a : Act)
  | fault (cause : Nat)

/-- A fault ends the activation (R140, R141): the buffer is discarded, cause and PC recorded, LOOM_TILE_FAULT raised, and
after 16 in a row the tile disables itself; of the two errors of one cycle the more severe is placed first (R572). A PC_RANGE at
word 1,024 does not fit the 10 bits of LOOM.TILE_FPC.PC and of ARG1: they show it modulo 1,024, so 0 (DESIGN CHOICE, log entry 89). -/
def tileFault (t cause : Nat) (b : Body) : Body :=
  match (tileOf b t).act with
  | none => b
  | some a =>
    let b := dropAct t b
    let b := ((b.put LOOM.TILE_STAT.CAUSE cause t).mark LOOM.TILE_STAT.FAULT true t).put LOOM.TILE_FPC.PC a.pc t
    let b := if t < 32 then b.setBit LOOM.FAULT_SUM_LO.TILE t true else b.setBit LOOM.FAULT_SUM_HI.TILE (t - 32) true
    let n := min 16 (b.get LOOM.TILE_STAT.CONSEC t + 1)
    let b := b.put LOOM.TILE_STAT.CONSEC n t
    raise 0x0602 t (cause + a.pc % 1024 * 16 + a.thread * 65536)
      (if n ≥ 16 ∧ b.flag LOOM.TILE_CTL.ENABLE t then
        raise 0x0603 t 0 ((b.mark LOOM.TILE_CTL.ENABLE false t).mark LOOM.TILE_STAT.OFF true t)
      else b)

/-! ### Schedule entries -/

def schedWord (b : Body) (e k : Nat) : Nat := b.get LOOM.SCHED_W.WORD e k
def schedAction (b : Body) (e : Nat) : Nat := schedWord b e 0 + schedWord b e 1 * 2 ^ 32
def schedExpiry (b : Body) (e : Nat) : Nat := schedWord b e 2 + schedWord b e 3 * 2 ^ 32
def schedThread (b : Body) (e : Nat) : Nat := schedWord b e 4 % 256
def schedTag (b : Body) (e : Nat) : Nat := schedWord b e 4 / 256 % 256
def schedFlags (b : Body) (e : Nat) : Nat := schedWord b e 4 / 65536 % 256
def schedPeriod (b : Body) (e : Nat) : Nat := schedWord b e 5
def schedPayload (b : Body) (e : Nat) : Nat := schedWord b e 6 + schedWord b e 7 * 2 ^ 32
/-- Writes the 32-byte record of an entry. -/
def setSchedRec (e : Nat) (l : List Nat) (b : Body) : Body :=
  b.each (List.range 8) fun b k => b.put LOOM.SCHED_W.WORD (u32 l (4 * k)) e k
/-- The record check of R158: reserved FLAGS bits, and PERIOD_S of a REPEAT entry. -/
def recordOk (flags period : Nat) : Bool :=
  decide (flags < 4) && (decide (flags / 2 % 2 = 0) || (decide (1 ≤ period) && decide (period ≤ 604800)))
/-- The thread's source is the schedule table (R159). -/
def schedThreadOk (b : Body) (k : Nat) : Bool := decide (threadSrc b k = some (0x45, 0))
/-- A non-secure tile arms only threads whose every destination is a non-secure tile or Q16 to Q23 (R159). -/
def nsThreadOk (b : Body) (k : Nat) : Bool :=
  (threadDests b k).all fun d => (decide (d.1 < 64) && tileNs b d.1) || (decide (0x50 ≤ d.1) && decide (d.1 ≤ 0x57))
/-- The free entry with the highest index (R158). -/
def highestFree (b : Body) : Nat → Option Nat
  | 0 => none
  | n + 1 => if (schedOf b n).owner = .free then some n else highestFree b n
/-- An entry is armed: its next occurrence is its ACTION_TIME. -/
def armEntry (e : Nat) (o : SchedOwner) (b : Body) : Body := setSched b e { owner := o, next := schedAction b e }
/-- An entry is free again. -/
def freeEntry (e : Nat) (b : Body) : Body := setSched b e SchedSt.free
def SchedOwner.armed : SchedOwner → Bool
  | .pattern => true
  | .tile _ => true
  | .host => true
  | _ => false

/-- The entry is due: its next occurrence is at or before a time that is valid for it (R153). -/
def entryDue (b : Body) (e : Nat) : Bool :=
  (schedOf b e).owner.armed && decide ((schedOf b e).next ≤ airTime b) &&
  (ntv b || (rtcv b && decide (schedFlags b e % 2 = 1)))

/-! ### The commit of R139 -/

def timerSet (l : List (Nat × Nat)) (i : Nat) (v : Nat) : List (Nat × Nat) := tabSet (fun _ => 0) l i v

def commitOp (t : Nat) (o : TileOp) (b : Body) : Body := match o with
  | .ceWrite v n g f => ceWrite v n g f b
  | .emit payload port tag =>
    if threadsFrom b t port = [] then b.bump LOOM.TILE_DROP.UNBOUND 1 t else emitEv t port payload tag b
  | .arm e => if (schedOf b e).owner = .reserved t then armEntry e (.tile t) b else b
  | .cancel e => if (schedOf b e).owner = .tile t then freeEntry e b else b
  | .timer i ms =>
    let x := tileOf b t
    setTile b t { x with timers := timerSet x.timers i (if ms = 0 then 0 else b.clock.cyc + msCyc ms) }

/-- HALT: the buffer commits in issue order, and the activation ends. -/
def tileHalt (t : Nat) (a : Act) (b : Body) : Body :=
  let b := setTile b t { tileOf b t with act := none }
  let b := b.each a.buf fun b o => commitOp t o b
  applyWrites t (b.put LOOM.TILE_STAT.CONSEC 0 t)

/-- One instruction of tile `t`'s running activation, if the word at its PC is the one `f` takes: budget (R137), the
instruction's own effect, and its fault. A command whose instruction is not the one fetched has not happened. -/
def tileRow (t cost : Nat) (f : TileInstr → Option (Body → Act → TRes)) (b : Body) : Body :=
  match (tileOf b t).act with
  | none => b
  | some a =>
    if codeWords b t ≤ a.pc then b else
    match decodeTile (codeWord b t a.pc) with
    | none => b
    | some i => match f i with
      | none => b
      | some run =>
        if a.spent + cost > 512 then tileFault t 1 b else
        match run b { a with pc := a.pc + 1, spent := a.spent + cost } with
        | .go b a => setTile b t { tileOf b t with act := some a }
        | .halt b a => tileHalt t a b
        | .fault c => tileFault t c b

/-- A register-only operation: GD takes a value computed from the tile's registers. -/
def setD (t d : Nat) (v : Word) : Body → Act → TRes := fun b a => .go (setG t d v b) a

def boolWord (x : Bool) : Word := if x then 1 else 0
/-- IMM14 sign-extended and zero-extended. -/
def sext14 (n : Nat) : Word := BitVec.ofInt 32 (sgn 14 n)
def zext14 (n : Nat) : Word := BitVec.ofNat 32 (n % 16384)

/-- GA, GB and GD of a format-R instruction of one operation. -/
def row3 (t cost : Nat) (op : Op3) (f : Word → Word → Word → Word) (b : Body) : Body :=
  tileRow t cost (fun i => match i with
    | .alu o d x y => if o = op then some fun b a => setD t d (f (gReg b t d) (gReg b t x) (gReg b t y)) b a else none
    | _ => none) b

/-- GA and IMM14 of a format-I instruction of one operation. -/
def rowI (t cost : Nat) (op : OpI) (f : Word → Nat → Word) (b : Body) : Body :=
  tileRow t cost (fun i => match i with
    | .alui o d x imm => if o = op then some fun b a => setD t d (f (gReg b t x) imm) b a else none
    | _ => none) b

/-- The local byte address GA + sext(IMM14), if aligned and inside bytes 0 to 4,095 for `n` bytes. -/
def localAddr (g : Word) (imm n : Nat) : Option Nat :=
  let a := (g + sext14 imm).toNat
  if a % 4 = 0 ∧ a + n ≤ 4096 then some a else none

/-- Whether the tile may reach a CE field (R148). -/
def ceReach (b : Body) (t : Nat) (secureField : Bool) : Bool := !tileNs b t || (!secureField && ceNs b)

/-- Schedule operations already buffered (R138). -/
def schedOps (a : Act) : Nat := (a.buf.filter fun o => match o with
  | .arm _ => true
  | .cancel _ => true
  | _ => false).length
def ceOps (a : Act) : Nat := (a.buf.filter fun o => match o with
  | .ceWrite _ _ _ _ => true
  | _ => false).length
def emitOps (a : Act) : Nat := (a.buf.filter fun o => match o with
  | .emit _ _ _ => true
  | _ => false).length
def timerOps (a : Act) : Nat := (a.buf.filter fun o => match o with
  | .timer _ _ => true
  | _ => false).length
def Act.push (a : Act) (o : TileOp) : Act := { a with buf := a.buf ++ [o] }

/-- The instant TIME captures (R146); words 0 to 2 read 0 while neither clock is valid. -/
def timeNow (b : Body) : TimeCap :=
  let f := (if ntv b then 1 else 0) + (if rtcv b then 2 else 0)
  if f = 0 then ⟨0, 0, 0⟩ else ⟨tSec b, airTime b % 65536, f⟩

def TimeCap.wordAt (c : TimeCap) : Nat → Nat
  | 0 => c.sec % 2 ^ 32
  | 1 => c.sec / 2 ^ 32 % 2 ^ 16
  | 2 => c.frac
  | _ => c.flags

end Sys2Proof.Machine
end

