-- ==== Sys2Proof/Machine/Power.lean ====
section
/-! DEFINITION. Machine/Power.lean: supply, cold start, boot, gating, core sleep and the clock monitor (R40, R75 to R94, R512 to R514,
R563, R564). -/

namespace Sys2Proof.Machine

open Host

/-! ### Supply (R40) -/

/-- Main power rises through 19.0 V. -/
def execColdStart (s : State) : Outcome State Fault Refusal :=
  onAny (fun b => if mainPower b then b else coldStart b) s

/-- After an overvoltage stop the input falls through 61.0 V. -/
def execOvervoltageRestart (s : State) : Outcome State Fault Refusal :=
  onAny (fun b => if b.power = .cellOver then coldStart b else b) s

/-- Main power goes from every domain but AON; nothing is saved (R41). `high`: the supply rose through 63.0 V. -/
def powerStop (high : Bool) (b : Body) : Body :=
  if !mainPower b then b else
  { (coldBody b).mark AON.STAT.MAIN false with power := if high then .cellOver else .cell }

def execPowerStop (high : Bool) (s : State) : Outcome State Fault Refusal := onAny (powerStop high) s

/-! ### Start-up self-test (R563, R564) -/

/-- The reset was released and no boot has run since. -/
def beforeBoot (b : Body) : Bool :=
  b.flag MEMI.STAT.INIT_DONE && !b.upd.booted && decide (b.power = .start ∨ b.power = .hem)

/-- The eight items complete; `fails` has the bits of those that failed. A failure is recorded in the black box and MRAM,
and every other part of the module is held in reset. -/
def selfTest (fails : Nat) (b : Body) : Body :=
  if !beforeBoot b || b.upd.tested then b else
  let f := fails % 256
  let b := b.put SAFE.ST_RES.PASSED (255 - f)
  if f = 0 then { b.mark SAFE.STAT.ST_PASS true with upd := { b.upd with tested := true } } else
  let b := bbDrain (raise 0x0D08 f 0 b)
  let b := { b with nv := { b.nv with stFail := f }, power := .held }
  let b := if bits f 5 1 = 1 then b.mark MEMI.STAT.SELFTEST_FAIL true else b
  (b.put SAFE.ST_RES.LAST_FAIL f).mark SAFE.STAT.ST_PASS false

def execStartupSelfTest (fails : Nat) (s : State) : Outcome State Fault Refusal := onAny (selfTest fails) s

/-! ### Boot (R512 to R514) -/

/-- An image of a complete area as a slot holds it. -/
def imageOf (x : Staging) : Image := { man := x.man, body := x.body }
def putImage (s : Nat) (x : Image) (b : Body) : Body :=
  { b with nv := { b.nv with images := (b.nv.images.filter fun p => decide (p.1 ≠ s)) ++ [(s, x)] } }

/-- In recovery a complete area 0 goes to slot A, or to slot B when only A passes verification; a slot that then passes
boots on trial (R515). -/
def romInstall (b : Body) : Body :=
  if b.power ≠ .recovery ∨ areaState b 0 ≠ 3 then b else
  match stagingOf b 0 with
  | none => b
  | some x =>
    let s := if verifySlot b true 0 && !verifySlot b true 1 then 1 else 0
    let b := putImage s (imageOf x) b
    if verifySlot b true s then coldRestart (writeSlotWord s 1 3 b) else b

/-- The boot ROM runs alone (R514): no frame, no relay, no sign; CCLK runs (R88). It enables X3 and X4 in AUTO, and ETHCLK with
them; X6 has no register. An area 0 that is complete already is installed (R515). -/
def enterRecovery (b : Body) : Body :=
  let b := b.mark SYS.CLK_STAT.CCLK_LOCK true
  let b := { b with power := .recovery, upd := { b.upd with recoveryDue := false, coresDown := false, readyBy := none } }
  let b := (b.mark UPD.STAT.RECOVERY true).mark AIR.CTL.RUN false
  let b := ((b.put SW.CTL.PORT_EN 3).put SW.CTL.MEDIA_A 2).put SW.CTL.MEDIA_B 2
  romInstall (b.mark SYS.CLK_STAT.ETH_LOCK true)

/-- What the application cores held in memory is gone when they restart without a hand-over record (R519). -/
def servicesAfresh (b : Body) : Body :=
  let b := match b.pat.staged with
    | some st => if st.armed.isSome then b.mark LOOM.STAT.HELD false else b
    | none => b
  { b with sha := { b.sha with assocs := [], relayQ := [], fans := [], chains := [], got := 0, fwd := [], chainQ := [] },
           pat := { b.pat with assembly := none, staged := none } }

/-- The boot of an activation takes another slot than the one it was to bring up: it failed (UPD.ACT_STAT.PHASE 5). The slot to
bring up is the one that does not run yet. -/
def bootsOther (s : Nat) (b : Body) : Bool := decide (b.get UPD.ACT_STAT.PHASE = 2 ∧ s = b.get UPD.STAT.ACTIVE)

/-- The boot ROM chooses, verifies and boots a slot, at a cold start once the start-up self-test has passed (R90), or on the
application cores alone. CCLK and ETHCLK lock once an image is verified. -/
def boot (b : Body) : Body :=
  if beforeBoot b then
    if !b.upd.tested then b else
    let b := { b with upd := { b.upd with booted := true } }
    if b.upd.recoveryDue then enterRecovery b else
    match chooseSlot true b with
    | (b, none) => enterRecovery b
    | (b, some s) =>
      let b := (b.mark SYS.CLK_STAT.CCLK_LOCK true).mark SYS.CLK_STAT.ETH_LOCK true
      let b := startWindow ((raiseFloor s b).put UPD.STAT.ACTIVE s)
      if b.power = .start then { b with power := .run } else b
  else if b.upd.coresDown && powered b then
    match chooseSlot false b with
    | (b, none) => enterRecovery b
    | (b, some s) =>
      let b := if bootsOther s b then b.put UPD.ACT_STAT.PHASE 5 else b
      let b := startWindow (b.put UPD.STAT.ACTIVE s)
      { b with upd := { b.upd with coresDown := false, readyBy := some (b.clock.cyc + msCyc 10000) } }
  else b

def execBoot (s : State) : Outcome State Fault Refusal := onAny boot s

/-- The safety cores restart the application cores (R512), whose next step is a boot. -/
def coresRestart (b : Body) : Body :=
  let u := { b.upd with coresDown := true, stopped := true, readyBy := none, hoRecord := none, verifying := false }
  servicesAfresh { b with upd := u }

/-- The runtime runs: started, and its cores not held. -/
def runtimeUp (b : Body) : Bool := decide (b.power = .run ∨ b.power = .hem) && !b.upd.coresDown && !beforeBoot b

/-- The runtime fails its heartbeat for 2 s. -/
def execRuntimeHeartbeatLoss (s : State) : Outcome State Fault Refusal :=
  onBody (fun b => if runtimeUp b && b.upd.readyBy = none then coresRestart b else b) s

/-- A new runtime has not reported ready 10 s after its boot. -/
def execRuntimeReadyTimeout (s : State) : Outcome State Fault Refusal :=
  onBody (fun b => match b.upd.readyBy with
    | some t => if t ≤ b.clock.cyc then coresRestart b else b
    | none => b) s

/-! ### Gating (R75 to R83) -/

/-- Radio `r` would mark stitch `st` for the wake sequencer (R287). -/
def marksStitch (b : Body) (r st : Nat) : Bool :=
  match stitchKind b r st with
  | .beacon => true
  | .anchor => true
  | .down => decide ((queueOf b r).items ≠ []) || decide ((queueOf b r).fill ≠ [])
  | _ => false

/-- The start of radio `r`'s next marked stitch after network time `tn`, in ns. -/
def nextMarked (b : Body) (r tn : Nat) : Nat :=
  let j := (tn - radioOfs b r) / stitchNs b
  let k := ((List.range 257).find? fun k => marksStitch b r ((j + 1 + k) % 256)).getD 0
  (j + 1 + k) * stitchNs b + radioOfs b r

/-- AIR marks stitches on radio `r`: it runs its plan there, on a time base (R91). -/
def airMarks (b : Body) (r : Nat) : Bool := b.flag AIR.CTL.RUN && (ntv b || rtcv b) && radioEn b r

/-- The stitches, by their start, whose wake point has come and that have not ended: the marked ones, and those whose synthesiser
was started or that sent frames, though their bank be empty by now. -/
def liveStitches (b : Body) : List Nat :=
  ((((List.range 5).filter (airMarks b)).map fun r => nextMarked b r (tnNs b - stitchNs b)).filter fun t =>
    decide (t ≤ tnNs b + 50000)) ++
  (b.air.woken.map fun p => p.2 - 1).filter fun t => decide (t ≤ tnNs b + 50000 ∧ tnNs b < t + stitchNs b)

/-- A stitch keeps the gated domain clocked: one whose wake point has come and that has not ended (R75, R81), so also between
two whose starts lie less than 100 µs apart (R82), until the later one ends. -/
def stitchHolds (b : Body) : Bool :=
  (liveStitches b).any fun t => decide (tnNs b < t + stitchNs b) ||
    (liveStitches b).any fun u => decide (t ≤ u ∧ u < t + 100000 ∧ tnNs b < u + stitchNs b)

/-- A timed wake that CE or OFE posted is due (R77): a light-ahead entry, an override or a report of a channel, a presence hold,
a stuck sensor or a track. -/
def engineWakeDue (b : Body) : Bool :=
  (b.ce.chans.any fun p => (decide (p.2.laExp ≠ 0 ∧ p.2.laExp ≤ tnNs b)) ||
    (overridden b p.1 && p.2.ovrEnd.any fun t => decide (t ≤ b.clock.cyc))) ||
  (runsRules b && ((b.ofe.sensors.any fun p => holdOver b p.1 || (!p.2.stuck && stuckDue b p.1)) ||
    b.ofe.tracks.any fun p => p.2.live && dropDue b p.1))

/-- A tile's timer has run out and its activation is due (R151). -/
def tileTimerDue (b : Body) : Bool := b.loom.tiles.any fun p => p.2.timers.any fun t => decide (0 < t.2 ∧ t.2 ≤ b.clock.cyc)

/-- Nothing keeps the gated domain clocked (R75): no stitch, event, activation or request, no descriptor that AIR can build, and
no wake that is due. -/
def gateIdle (b : Body) : Bool :=
  b.flag SYS.GATE_CTL.GATE_EN && !stitchHolds b && decide (b.loom.xbar = []) && !(b.loom.sched.any fun p => entryDue b p.1) &&
  (b.loom.tiles.all fun p => p.2.act.isNone && decide (p.2.fifo = [])) && !tileTimerDue b && !engineWakeDue b &&
  decide (b.ce.jobs = []) && decide (b.ce.inbox = []) && decide (b.ofe.fifo = []) && decide (b.air.cmdIn = []) &&
  !(airMarks b 0 && acting b && b.air.descs.any (canBuild b))

def execGateStop (s : State) : Outcome State Fault Refusal :=
  onBody (fun b => if gateIdle b then b.mark SYS.CLK_STAT.GATED true else b) s

def execOnDemandWake (s : State) : Outcome State Fault Refusal := onBody ungate s

/-- A wake after the start of its stitch (R83): counted, its stitch lost; more than 4 within 1 s raise WAKE_SLIP (R89). -/
def lateWake (r : Nat) (b : Body) : Body :=
  let b := b.bump SYS.WAKE_LATE.COUNT
  let ts := (b.clock.lateTimes.filter fun t => decide (b.clock.cyc - t < 26000000)) ++ [b.clock.cyc]
  let b := { b with clock := { b.clock with lateTimes := ts }, air := { b.air with lateRadios := b.air.lateRadios ++ [r] } }
  if ts.length > 4 then raise 0x0015 (b.get SYS.WAKE_LATE.COUNT) 0 (b.mark SYS.CLK_FAULT.WAKE_SLIP true) else b

/-- The start of the marked stitch radio `r`'s next scheduled wake is for: the first that has not ended, that its synthesiser
was not started for (R81), and whose wake point a step has not passed (R84). -/
def wakeStitch (b : Body) (r : Nat) : Nat :=
  nextMarked b r (max (max (tnNs b - stitchNs b) (tabGet (fun _ => 0) b.air.woken r - 1)) (b.air.wakeFrom - 1))

/-- The wake sequencer starts a transceiver's synthesiser and clocks the gated domain, from 50 µs before a marked stitch on
(R81). Radios whose stitches share one start share one wake. The wake is late when it completes after that start (R83). -/
def scheduledWake (r : Nat) (late : Bool) (b : Body) : Body :=
  let t := wakeStitch b r
  if !airMarks b r || decide (tnNs b + 50000 < t) then b else
  let shared := b.air.woken.any fun p => decide (p.2 = t + 1)
  let b := sliceYield (9 + r) (if shared then ungate b else (ungate b).wrap SYS.WAKE_CNT.COUNT)
  let b := { b with air := { b.air with woken := tabSet (fun _ => 0) b.air.woken r (t + 1) } }
  if late || decide (t < tnNs b) then lateWake r b else b

def execScheduledWake (r : Nat) (late : Bool) (s : State) : Outcome State Fault Refusal := onBody (scheduledWake r late) s

/-! ### Core sleep (R85, R86) -/

/-- Work of the cores (R85, R602): an item in Q5 to Q9 or Q13 to Q31. -/
def coreWork (b : Body) : Bool :=
  (List.range 32).any fun q => (decide (5 ≤ q ∧ q ≤ 9) || decide (13 ≤ q)) && decide ((queueOf b q).items ≠ [])

/-- The AON interrupt stands: of an alarm or a periodic wake that came while main power was present, until its bit is cleared
(R430, R433). -/
def aonInterrupt (b : Body) : Bool :=
  b.aon.irq.any fun i => if i < 4 then b.flag AON.ALM_CTL.FIRED i else b.flag AON.STAT.PWAKE

/-- A timer of the runtime that the state holds has run out: holdover (R263), the confirmation window (R520), a request that is
sent again after the first 250 ms (R479). -/
def runtimeTimer (b : Body) : Bool :=
  (decide (b.get TB.STAT.STATE = 4) && b.sha.holdAt.any fun t => decide (t + msCyc (60000 * b.get TB.LIMITS.HOLD_MIN) ≤ b.clock.cyc)) ||
  (b.upd.winEnd.any fun t => decide (t ≤ b.clock.cyc)) ||
  b.sha.assocs.any fun a => a.sent.any fun r =>
    decide (r.at_ + msCyc ([0, 250, 500, 1000, 2000].getD r.sends 4000) ≤ b.clock.cyc)

/-- A wake cause of R86 that the state holds: an item, a queue timeout, an interrupt of SW (R400), of AON or of an error that is
held, a runtime timer. -/
def coreCause (b : Body) : Bool :=
  coreWork b || decide (b.get QM.TO.FIRED ≠ 0) || b.sw.irq || aonInterrupt b || b.flag SAFE.ERR.VALID 0 || runtimeTimer b

/-- A core that runs takes SW's interrupt, which has no status bit (DESIGN CHOICE, log entry 84). -/
def takeIrq (b : Body) : Body := { b with sw := { b.sw with irq := false } }

def setCore (k : Nat) (v : Bool) (b : Body) : Body :=
  { b with clock := { b.clock with coreSleep := tabSet (fun _ => false) b.clock.coreSleep k v } }

/-- An application core sleeps while no wake cause is pending; a pending one returns it to run at once. -/
def execCoreSleep (k : Nat) (s : State) : Outcome State Fault Refusal :=
  onBody (fun b => if coreCause b then takeIrq b else setCore k true b) s

def execCoreWake (k : Nat) (s : State) : Outcome State Fault Refusal := onBody (fun b => takeIrq (setCore k false b)) s

/-! ### Clock monitor (R89) -/

/-- The monitor runs while main power is present and the module is not held in reset (R564). -/
def onMonitor (f : Body → Body) (s : State) : Outcome State Fault Refusal :=
  onAny (fun b => if monitored b then f b else b) s

def execTcxoFail (s : State) : Outcome State Fault Refusal :=
  onMonitor (fun b => raise 0x0011 0 0 ((b.mark SYS.CLK_FAULT.TCXO_FAIL true).mark SYS.CLK_STAT.TCXO_OK false)) s

def execFclkUnlock (s : State) : Outcome State Fault Refusal :=
  onMonitor (fun b => raise 0x0012 0 0 ((b.mark SYS.CLK_FAULT.FCLK_UNLOCK true).mark SYS.CLK_STAT.FCLK_LOCK false)) s

/-- The application cores stall until CCLK locks again. -/
def execCclkUnlock (s : State) : Outcome State Fault Refusal :=
  onMonitor (fun b => raise 0x0013 0 0 ((b.mark SYS.CLK_FAULT.CCLK_UNLOCK true).mark SYS.CLK_STAT.CCLK_LOCK false)) s

def execCclkRelock (s : State) : Outcome State Fault Refusal := onMonitor (·.mark SYS.CLK_STAT.CCLK_LOCK true) s

end Sys2Proof.Machine
end

