-- ==== Sys2Proof/Machine/TimeOps.lean ====
section
/-! DEFINITION. Machine/TimeOps.lean: steps of network time and what follows from one (R262, R265, R266), the best master comparison
(R249 to R252), and the correlation record (R267 to R269). -/

namespace Sys2Proof.Machine

/-! ### Steps -/

/-- A forward step from `old` that passes radio `r`'s pending wake point, which lay ahead of `old`, makes that wake late
(R84); a stitch whose start is passed as well is skipped (R288). -/
def stepWake (old : Nat) (b : Body) (r : Nat) : Body :=
  let t := nextMarked b r (old + 50000)
  if t < tnNs b + 50000 then
    let b := lateWake r b
    if t ≤ tnNs b then { b with air := { b.air with lateRadios := b.air.lateRadios.dropLast } }
    else { b with air := { b.air with woken := tabSet (fun _ => 0) b.air.woken r (t + 1) } }
  else b

/-- A step of `d` ns takes effect (R262, R265, R266). -/
def timeStep (d : Int) (b : Body) : Body :=
  let old := tnNs b
  let net := (((b.clock.net : Int) + d * 2 ^ 40) % ((2 ^ 48 * 10 ^ 9 * 2 ^ 40 : Nat) : Int)).toNat
  let b := { b with clock := { b.clock with net := net } }
  let b := b.each [0, 1, 2] fun b p => b.mark TB.TXQ_STAT.FLUSHED true p
  let b := { b with tb := { b.tb with txq := [], stepSec := some (tSec b) } }
  let b := record 0x0281 (uns 32 d) (uns 64 d / 2 ^ 32) (b.bump TB.STEPS.COUNT)
  -- R84: the pending wakes are computed anew from the new time
  let b := { b with air := { b.air with woken := [], wakeFrom := tnNs b + 50000 } }
  if d > 0 then b.each ((List.range 5).filter (airMarks b)) (stepWake old) else b

/-- TB.STAT shows a state of R263 with its NTV and RTCV. -/
def setTimeState (n : Nat) (b : Body) : Body :=
  let b := (b.put TB.STAT.STATE n).mark TB.STAT.NTV (decide (n ≥ 2))
  osfDelta (b.mark TB.STAT.RTCV (decide (n = 1)))

/-! ### Masters -/

/-- The module's clockIdentity: its MAC with FF FE in the middle. -/
def clockId (b : Body) : Nat := b.nv.mac / 2 ^ 24 * 2 ^ 40 + 0xFFFE * 2 ^ 24 + b.nv.mac % 2 ^ 24

/-- A foreign master's Announce with the port that received it. -/
abbrev Heard := Nat × AnnounceMsg

/-- The grandmaster fields, in the order that the comparison takes them. -/
def gmKey (a : AnnounceMsg) : List Nat := [a.prio1, a.cls, a.accuracy, a.variance, a.prio2, a.gmId]

/-- The first difference of two lists: some true when the first is lower. -/
def lexLower : List Nat → List Nat → Option Bool
  | x :: t, y :: u => if x < y then some true else if y < x then some false else lexLower t u
  | _, _ => none

/-- The data set comparison of clause 9.3.4: whether `x` is better than `y`, and whether only by topology. -/
def better (b : Body) (x y : Heard) : Bool × Bool :=
  if x.2.gmId ≠ y.2.gmId then ((lexLower (gmKey x.2) (gmKey y.2)).getD false, false)
  else if y.2.steps + 1 < x.2.steps then (false, false)
  else if x.2.steps + 1 < y.2.steps then (true, false)
  else
    let rcv := fun (h : Heard) => [clockId b, h.1 + 1]
    let snd := fun (h : Heard) => [h.2.srcId, h.2.srcPort]
    if y.2.steps < x.2.steps then
      match lexLower (rcv x) (snd x) with
      | some true => (false, false)
      | _ => (false, true)
    else if x.2.steps < y.2.steps then
      match lexLower (rcv y) (snd y) with
      | some true => (true, false)
      | _ => (true, true)
    else match lexLower (snd x) (snd y) with
      | some v => (v, true)
      | none => (decide (x.1 < y.1), true)

def bestOf (b : Body) : List Heard → Option Heard
  | [] => none
  | h :: t => match bestOf b t with
    | none => some h
    | some g => if (better b h g).1 then some h else some g

/-- A foreign master qualifies with two Announces within four intervals (clause 9.3.2.5), or at once during the acquisition
window (R253). -/
def qualified (b : Body) (f : Foreign) : Bool :=
  b.tb.window || decide (2 ≤ (f.times.filter fun t => decide (b.clock.cyc - t ≤ 4 * 26000000)).length)

/-- The qualified masters heard on ring port `p` within the receipt timeout (R249). -/
def mastersOn (b : Body) (p : Nat) : List Heard :=
  (b.tb.foreign.filter fun f => decide (f.port = p) && qualified b f &&
    (f.times.any fun t => decide (b.clock.cyc - t < 3 * 26000000))).map fun f => (f.port, f.ann)

/-- The SEAM port carries time: the pair's seam is up (R252). -/
def seamTime (b : Body) : Bool := twinPresent b && b.flag SEAM.STAT.SEAM_UP

/-- The port and data set that time is taken from. -/
def chooseMaster (b : Body) : Option Heard :=
  if seamTime b && decide (b.get SEAM.STAT.ROLE ≤ 1) then
    (b.tb.foreign.find? fun f => decide (f.port = 2)).map fun f => (2, f.ann)
  else bestOf b (([0, 1].filter fun p => b.bit TB.CTL.PORT_EN p).flatMap (mastersOn b))

/-- The master followed and the slave port are chosen anew; another one starts without a path delay. -/
def reselect (b : Body) : Body :=
  let old := (b.get TB.STAT.SLAVE_PORT, b.tb.parent.map fun a => (a.srcId, a.srcPort))
  let (p, a?) := match chooseMaster b with
    | some (p, a) => (p, some a)
    | none => (3, none)
  let b := { b.put TB.STAT.SLAVE_PORT p with tb := { b.tb with parent := a? } }
  if old = (p, a?.map fun a => (a.srcId, a.srcPort)) then b
  else { b with tb := { b.tb with mpd := none, lastSync := none, dreq := none } }

/-- Port `p` is a master port (R250 to R252). -/
def portMaster (b : Body) (p : Nat) : Bool :=
  b.flag TB.CTL.RUN && b.bit TB.CTL.PORT_EN p && b.tb.parent.isSome && (
    if p = 2 then seamTime b && decide (b.get SEAM.STAT.ROLE = 2)
    else decide (p < 2) && b.flag TB.CTL.BC && decide (b.get TB.STAT.SLAVE_PORT ≠ p) &&
      match chooseMaster b, bestOf b (mastersOn b p) with
      | some e, some h => let r := better b e h; !(r.1 && r.2)
      | _, _ => true)

/-! ### Correlation -/

/-- A rate learnt from two captures, in 2^−10 ppb (R268, R269). -/
def rateOf (raw0 tn0 raw1 tn1 : Nat) : Int :=
  let dr : Int := sgn 48 (uns 48 ((raw1 : Int) - raw0))
  if dr = 0 then 0 else
  Int.tdiv ((((tn1 : Int) - tn0) * 32768 - dr * 10 ^ 9) * (1024 * 10 ^ 9)) (dr * 10 ^ 9)

/-- The network time of the last LFXO edge, in ns: the phase that has passed since, back from now. -/
def edgeNs (b : Body) : Nat :=
  (b.clock.net - b.aon.phase % 26000000 * tickInc (sgn 32 (b.get TB.ADJ_FREQ.ADJ)) / 32768) / 2 ^ 40

/-- The runtime learns RTC_RATE from captures at least 3,600 s apart and averages the last 8 values, in Basic mode. -/
def learnRate (b : Body) : Body :=
  let now := (b.aon.raw, edgeNs b)
  match b.tb.corrBase with
  | none => { b with tb := { b.tb with corrBase := some now } }
  | some (r0, t0) =>
    if edgeNs b < t0 + 3600 * 10 ^ 9 then b else
    let rs := (b.tb.rates ++ [rateOf r0 t0 now.1 now.2])
    let rs := rs.drop (rs.length - 8)
    let b := { b with tb := { b.tb with corrBase := some now, rates := rs } }
    if b.bit SYS.MODE.EXPERT 2 then b else b.put TB.RTC_RATE.RATE (uns 32 (Int.tdiv rs.sum rs.length))

/-- A capture at the LFXO edge that has just arrived (R267). OSF clears once its delta has been applied (R428). -/
def capture (b : Body) : Body :=
  let tn := edgeNs b
  let b := (b.put TB.CORR_TICK_LO.TICK (b.aon.raw % 2 ^ 32)).put TB.CORR_TICK_HI.TICK (b.aon.raw / 2 ^ 32)
  let b := ((b.put TB.CORR_SEC_LO.SEC (tn / 10 ^ 9 % 2 ^ 32)).put TB.CORR_SEC_HI.SEC (tn / 10 ^ 9 / 2 ^ 32)).put TB.CORR_NS.NS (tn % 10 ^ 9)
  let b := learnRate (b.mark TB.CORR_CTL.VALID true)
  if b.aon.osfFix = 2 then { b.mark AON.STAT.OSF false with aon := { b.aon with osfFix := 0 } } else b

/-- The captured record: RAW and TN. -/
def corrNow (b : Body) : Nat × Nat :=
  (b.get TB.CORR_TICK_LO.TICK + b.get TB.CORR_TICK_HI.TICK * 2 ^ 32,
   (b.get TB.CORR_SEC_LO.SEC + b.get TB.CORR_SEC_HI.SEC * 2 ^ 32) * 10 ^ 9 + b.get TB.CORR_NS.NS)

/-- The seed of R269, when it is valid. -/
def rtcSeed (b : Body) : Option Nat := match b.aon.corr with
  | none => none
  | some (raw, ns, rate) =>
    let e := sgn 48 (uns 48 ((b.aon.raw : Int) - raw))
    if b.get AON.RET_TAG.TAG ≠ 0x4B414F4E ∨ b.flag AON.STAT.OSF ∨ e < 0 ∨ e > b.get TB.LIMITS.SEED_MIN * 60 * 32768 then none
    else
      let d := Int.tdiv (e * 10 ^ 9) 32768
      some ((ns : Int) + d + Int.tdiv (d * sgn 32 rate) (1024 * 10 ^ 9)).toNat

end Sys2Proof.Machine
end

