-- ==== Sys2Proof/Machine/Time.lean ====
section
/-! DEFINITION. Machine/Time.lean: the meanings of TB's commands and events (R249 to R269). -/

namespace Sys2Proof.Machine

open Host

/-! ### PTP -/

/-- The runtime's cores stall while CCLK is not locked (R89). -/
def onRuntime (f : Body → Body) (s : State) : Outcome State Fault Refusal :=
  onBody (fun b => if b.flag SYS.CLK_STAT.CCLK_LOCK then f b else b) s

/-- A message that keeps to the profile of R249 counts on an enabled port, in the module's domain, while TB runs. -/
def ptpOn (b : Body) (p domain : Nat) (profile : Bool) : Bool :=
  profile && b.flag TB.CTL.RUN && decide (p < 3) && b.bit TB.CTL.PORT_EN p && decide (domain = b.get TB.CTL.DOMAIN)

/-- The Announces of a foreign master after one more, the four latest. -/
def heardAgain (now : Nat) (p : Nat) (a : AnnounceMsg) : List Foreign → List Foreign
  | [] => [⟨p, a, [now]⟩]
  | f :: t =>
    if f.port = p ∧ f.ann.srcId = a.srcId ∧ f.ann.srcPort = a.srcPort then
      ⟨p, a, (f.times ++ [now]).drop ((f.times.length + 1) - 4)⟩ :: t
    else f :: heardAgain now p a t

/-- ANNOUNCE (R249, R251 to R253): taken into the comparison; the offset to UTC and a flagged leap second of the followed
master are kept (R246, R426). During the acquisition window the first data set stays. -/
def announce (p domain : Nat) (a : AnnounceMsg) (b : Body) : Body :=
  if !ptpOn b p domain a.profile || decide (a.steps ≥ 255) || decide (a.srcId = clockId b) ||
      (decide (p = 2) && !seamTime b) then b else
  let held := b.tb.window && b.tb.parent.isSome
  let b := { b with tb := { b.tb with foreign := heardAgain b.clock.cyc p a b.tb.foreign } }
  let b := if held then (match b.tb.parent with
      | some q => if q.srcId = a.srcId ∧ q.srcPort = a.srcPort then { b with tb := { b.tb with parent := some a } } else b
      | none => b)
    else reselect b
  match b.tb.parent with
  | some q =>
    if q.srcId = a.srcId ∧ q.srcPort = a.srcPort ∧ b.get TB.STAT.SLAVE_PORT = p then
      onAon (fun b => (b.put AON.UTC_OFS.OFS a.utcOffset).put AON.UTC_OFS.LEAP (if a.leap61 then 1 else if a.leap59 then 2 else 0)) b
    else b
  | none => b

def execAnnounce (port domain : Nat) (a : AnnounceMsg) (s : State) : Outcome State Fault Refusal :=
  onRuntime (announce port domain a) s

/-- The message comes from the master followed, on the slave port. -/
def fromParent (b : Body) (p srcId srcPort : Nat) : Bool :=
  decide (b.get TB.STAT.SLAVE_PORT = p) && match b.tb.parent with
  | some q => decide (q.srcId = srcId ∧ q.srcPort = srcPort)
  | none => false

/-- The state machine of R263 after an accepted offset that was not stepped. -/
def offsetState (o : Int) (b : Body) : Body :=
  let good := if o.natAbs ≤ 1000 then b.tb.goodRun + 1 else 0
  let bad := if o.natAbs > 10000 then b.tb.badRun + 1 else 0
  let b := { b with tb := { b.tb with goodRun := good, badRun := bad } }
  match b.get TB.STAT.STATE with
  | 4 => setTimeState 2 b
  | 2 => if good ≥ 16 then { setTimeState 3 b with tb := { b.tb with badRun := 0 } } else b
  | 3 => if bad ≥ 4 then { setTimeState 2 b with tb := { b.tb with goodRun := 0 } } else b
  | _ => b

/-- A step by the runtime: written as TB.STEP_SEC and TB.STEP_NS, and applied (R265). -/
def runtimeStep (d : Int) (b : Body) : Body :=
  timeStep d ((b.put TB.STEP_SEC.SEC (uns 32 (Int.tdiv d (10 ^ 9)))).put TB.STEP_NS.NS (uns 32 (Int.tmod d (10 ^ 9))))

/-- The servo of R264 on an accepted offset. -/
def servo (o : Int) (b : Body) : Body :=
  let b := { b with sha := { b.sha with lastOfs := o } }
  if b.get TB.STAT.STATE ≤ 1 ∨ o.natAbs > b.get TB.STEP_LIM.STEP_US * 1000 then
    let b := setTimeState 2 (runtimeStep (-o) b)
    { b with tb := { b.tb with goodRun := 0, badRun := 0 } }
  else
    let slew : Int := b.get TB.STEP_LIM.SLEW_PPM * 1000
    let i := clampI (b.tb.servoI - Int.tdiv ((b.get TB.SERVO.KI : Int) * o) 65536) (-slew) slew
    let adj := clampI (i - Int.tdiv ((b.get TB.SERVO.KP : Int) * o) 65536) (-slew) slew
    let b := { b.put TB.ADJ_FREQ.ADJ (uns 32 (clampI (adj * 1024) (-1024000000) 1024000000)) with tb := { b.tb with servoI := i } }
    offsetState o b

/-- SYNC_FOLLOW_UP: an accepted pair yields an offset (R257, R258). -/
def syncFollowUp (m : SyncPair) (b : Body) : Body :=
  if !ptpOn b m.port m.domain m.profile || !fromParent b m.port m.srcId m.srcPort || decide (m.queuedMs > 2000) then b else
  let t2 := extendTs b m.rx
  let b := { b with tb := { b.tb with lastSync := some ((m.t1 : Int), t2, m.corr) } }
  match b.tb.mpd.orElse fun _ => if b.tb.window then some 0 else none with
  | none => b
  | some mpd => osfDelta (servo (t2 - m.t1 - m.corr - mpd - Int.tdiv (sgn 32 (b.get TB.ASYM.PS m.port)) 1000) b)

def execSyncFollowUp (m : SyncPair) (s : State) : Outcome State Fault Refusal := onRuntime (syncFollowUp m) s

/-- The transmit time of a pending exchange: noted, or still in the port's queue (R259). -/
def takeT3 (b : Body) (p : Nat) (x : DelayEx) : Option Nat × Body := match x.t3 with
  | some t => (some t, b)
  | none => takeStamp b p (txId 1 x.seq)

/-- DELAY_RESP: the exchange completes (R257). -/
def delayResp (m : DelayResp) (b : Body) : Body :=
  if !ptpOn b m.port m.domain m.profile || !fromParent b m.port m.srcId m.srcPort || decide (m.reqId ≠ clockId b ∨ m.reqPort ≠ m.port + 1) then b
  else match b.tb.dreq with
    | none => b
    | some x =>
      if x.seq ≠ m.seq then b else
      let (t3, b) := takeT3 b m.port x
      let b := { b with tb := { b.tb with dreq := none, logMinDreq := m.logMin } }
      match t3, x.sync with
      | some t3, some (t1, t2, c) =>
        let ms := t2 - t1 - c
        let sm := (m.t4 : Int) - t3 - m.corr
        { b with tb := { b.tb with mpd := some (Int.tdiv (ms + sm) 2) } }
      | _, _ => b

def execDelayResp (m : DelayResp) (s : State) : Outcome State Fault Refusal := onRuntime (delayResp m) s

/-- SYNC_TIMEOUT: ACQUIRE and LOCKED move to HOLDOVER at the last learned frequency (R263, R264); masters not heard within
the receipt timeout leave the comparison. -/
def syncTimeout (b : Body) : Body :=
  let b := { b with tb := { b.tb with foreign := b.tb.foreign.filter fun f => f.times.any fun t => decide (b.clock.cyc - t < 3 * 26000000) } }
  let b := reselect b
  if b.get TB.STAT.STATE = 2 ∨ b.get TB.STAT.STATE = 3 then
    let b := b.put TB.ADJ_FREQ.ADJ (uns 32 (b.tb.servoI * 1024))
    let b := setTimeState 4 b
    { b with tb := { b.tb with goodRun := 0, badRun := 0 }, sha := { b.sha with holdAt := some b.clock.cyc } }
  else b

def execSyncTimeout (s : State) : Outcome State Fault Refusal := onRuntime syncTimeout s

/-- HOLDOVER_EXPIRY: after HOLD_MIN minutes (R263). -/
def holdoverExpiry (b : Body) : Body :=
  match b.sha.holdAt with
  | some t =>
    if b.get TB.STAT.STATE = 4 ∧ t + msCyc (60000 * b.get TB.LIMITS.HOLD_MIN) ≤ b.clock.cyc then setTimeState 1 b else b
  | none => b

def execHoldoverExpiry (s : State) : Outcome State Fault Refusal := onRuntime holdoverExpiry s

/-- SYNC_SEND: a Sync, whose transmit time joins the port's queue, and its Follow_Up with the time the runtime finds there
under its identifier (R249, R259, R260); a Sync whose stamp was dropped has none. -/
def syncSend (p : Nat) (b : Body) : Body :=
  if !portMaster b p then b else
  let n := b.tb.seqSync
  let dom := b.get TB.CTL.DOMAIN
  let int := sgn 4 (b.get TB.CTL.LOG_SYNC)
  let b := { b with tb := { b.tb with seqSync := (n + 1) % 65536 } }
  match takeStamp (txTimestamp p 0 n (b.emit (.ptp p dom (.sync n int)))) p (txId 0 n) with
  | (some t, b) => b.emit (.ptp p dom (.followUp n t int))
  | (none, b) => b

def execSyncSend (port : Nat) (s : State) : Outcome State Fault Refusal := onRuntime (syncSend port) s

/-- ANNOUNCE_SEND: a boundary clock's master port sends the data set of the grandmaster followed, one step further (R250). -/
def announceSend (p : Nat) (b : Body) : Body := match b.tb.parent with
  | none => b
  | some a =>
    if !portMaster b p || !b.flag TB.CTL.BC then b else
    let n := b.tb.seqAnn
    let b := { b with tb := { b.tb with seqAnn := (n + 1) % 65536 } }
    b.emit (.ptp p (b.get TB.CTL.DOMAIN) (.announce n 0 { a with steps := a.steps + 1, srcId := clockId b, srcPort := p + 1 }))

def execAnnounceSend (port : Nat) (s : State) : Outcome State Fault Refusal := onRuntime (announceSend port) s

/-- DELAY_REQ_SEND: from the slave port; a new exchange starts (R257). An ordinary clock sends none from a blocked port (R399). -/
def delayReqSend (b : Body) : Body :=
  let p := b.get TB.STAT.SLAVE_PORT
  if !b.flag TB.CTL.RUN || decide (p ≥ 3) || !b.bit TB.CTL.PORT_EN p || (b.flag SW.PORT_STAT.BLOCKED p && !b.flag TB.CTL.BC) then b else
  let n := b.tb.seqDelay
  let b := { b with tb := { b.tb with seqDelay := (n + 1) % 65536, dreq := some ⟨n, none, b.tb.lastSync⟩ } }
  b.emit (.ptp p (b.get TB.CTL.DOMAIN) (.delayReq n))

def execDelayReqSend (s : State) : Outcome State Fault Refusal := onRuntime delayReqSend s

/-- DELAY_REQ: answered on a master port with its receive time (R249, R258). -/
def delayReq (m : DelayReq) (b : Body) : Body :=
  if !ptpOn b m.port m.domain m.profile || !portMaster b m.port || decide (m.queuedMs > 2000) then b else
  b.emit (.ptp m.port (b.get TB.CTL.DOMAIN) (.delayResp m.seq m.reqId m.reqPort (extendTs b m.rx).toNat m.corr (sgn 4 (b.get TB.CTL.LOG_DREQ))))

def execDelayReq (m : DelayReq) (s : State) : Outcome State Fault Refusal := onRuntime (delayReq m) s

/-! ### Steps and captures -/

/-- TB.STEP_CMD.GO (R265). -/
def stepGo (b : Body) : Body :=
  let ns := clampI (sgn 32 (b.get TB.STEP_NS.NS)) (-999999999) 999999999
  timeStep (sgn 32 (b.get TB.STEP_SEC.SEC) * 10 ^ 9 + ns) b

def execTimeStep (s : State) : Outcome State Fault Refusal := onBody stepGo s

/-- A read of TB.TIME_CAP (R265). -/
def timeCap (b : Body) : Nat × Body :=
  (tNs b, ((b.put TB.TIME_SEC_LO.SEC_LO (tSec b % 2 ^ 32)).put TB.TIME_SEC_HI.SEC_HI (tSec b / 2 ^ 32)).put TB.TIME_FRAC.FRAC (tFrac b))

def execTimeCap (s : State) : Outcome State Fault Refusal := onBody (fun b => let (v, b) := timeCap b; b.answer v) s

/-- TX_TIMESTAMP: a timestamped frame leaves port `port` (R254, R255, R259, R260). -/
def execTxTimestamp (port mtype seq : Nat) (s : State) : Outcome State Fault Refusal := onBody (txTimestamp port mtype seq) s

/-- A read of TB.TXQ_POP[p] (R259). The runtime notes the transmit time of its own pending exchange. -/
def txqPop (p : Nat) (b : Body) : Nat × Body := match txqOf b p with
  | [] => (0, b)
  | e :: t =>
    let b := (setTxq b p t).put TB.TXQ_TS.TS32 e.ts p
    let b := match b.tb.dreq with
      | some x => if e.id = txId 1 x.seq ∧ b.get TB.STAT.SLAVE_PORT = p then
          { b with tb := { b.tb with dreq := some { x with t3 := some (extendTs b e.ts).toNat } } } else b
      | none => b
    (2 ^ 31 + e.id, b)

def execTxqPop (port : Nat) (s : State) : Outcome State Fault Refusal :=
  onBody (fun b => let (v, b) := txqPop (port % 3) b; b.answer v) s

/-- An entry has stood for 2^31 ns (R261). -/
def txqStale (p : Nat) (b : Body) : Body :=
  let old := fun (e : TxTs) => decide ((b.clock.cyc - e.at_) * 1000 ≥ 2 ^ 31 * 26)
  if (txqOf b p).any old then (setTxq b p ((txqOf b p).filter fun e => !old e)).mark TB.TXQ_STAT.STALE true p else b

def execTxqEntryStale (port : Nat) (s : State) : Outcome State Fault Refusal := onBody (txqStale (port % 3)) s

/-- LFXO edges arrive: it runs, and its domain is not held in reset. -/
def edgesArrive (b : Body) : Bool := b.flag AON.STAT.LFXO_RUN && !b.aon.held

/-- CORR_AUTO_CAPTURE at a second boundary (R267), not in the second of a step (R266). -/
def corrAuto (b : Body) : Body :=
  if b.flag TB.CORR_CTL.AUTO && decide (b.get TB.STAT.STATE = 3) && decide (b.tb.stepSec ≠ some (tSec b)) && edgesArrive b then
    capture (toEdge b)
  else b

def execCorrAutoCapture (s : State) : Outcome State Fault Refusal := onBody corrAuto s

/-- CORR_CAP (R267): in any state with NTV = 1. -/
def corrCap (b : Body) : Body := if ntv b && edgesArrive b then capture (toEdge b) else b

def execCorrCap (s : State) : Outcome State Fault Refusal := onBody corrCap s

/-- CORR_SAVE: the latest correlation and RTC_RATE go to retention SRAM (R268), whose contents are then valid (R434). -/
def corrSave (b : Body) : Body :=
  if !b.flag TB.CORR_CTL.VALID then b else
  let (raw, tn) := corrNow b
  onAon (fun b => { b.put AON.RET_TAG.TAG 0x4B414F4E with aon := { b.aon with corr := some (raw, tn, b.get TB.RTC_RATE.RATE) } }) b

def execCorrSave (s : State) : Outcome State Fault Refusal := onRuntime corrSave s

/-- TIME_ACQ_WINDOW_CLOSE (R91, R263, R269): without PTP time the module is seeded, or stays in FREE. -/
def windowClose (b : Body) : Body :=
  if !b.tb.window then b else
  let b := { b with tb := { b.tb with window := false } }
  if b.get TB.STAT.STATE ≠ 0 then b else
  match rtcSeed b with
  | some ns => setTimeState 1 (runtimeStep ((ns : Int) - tnNs b) b)
  | none => b

def execTimeAcqWindowClose (s : State) : Outcome State Fault Refusal := onRuntime windowClose s

end Sys2Proof.Machine
end

