-- ==== Sys2Proof/Machine/Aon.lean ====
section
/-! DEFINITION. Machine/Aon.lean: the meanings of the always-on domain's commands and events (R45, R89, R422 to R439). -/

namespace Sys2Proof.Machine

open Host

/-- Every 64 s while LOCKED: a TICK more than 100 ms off network time is corrected by a delta, and so is one with OSF set that no
delta has corrected yet (R428). -/
def tickCheck (b : Body) : Body :=
  let d := (netTicks b : Int) - b.aon.tick
  if b.get TB.STAT.STATE ≠ 3 then b
  else if osfOpen b then osfDelta b
  else if d.natAbs * 10 > 32768 then writeDelta b
  else b

def execTickCheck (s : State) : Outcome State Fault Refusal := onRuntime tickCheck s

/-- AON.ADJ_CMD.GO (R427). -/
def execAdjCmdGo (s : State) : Outcome State Fault Refusal := onBody adjGo s

/-- The LFXO edge that applies a pending delta (R427). -/
def execTickDelta (s : State) : Outcome State Fault Refusal :=
  onAny (fun b => if b.aon.pend.isSome then toEdge b else b) s

/-- A read of AON.TICK_LO (R425). -/
def tickLoRead (b : Body) : Nat × Body :=
  let b := b.put AON.TICK_HI.TICK (b.aon.tick / 2 ^ 32)
  let b := (b.put AON.RAW_LO.RAW b.aon.raw).put AON.RAW_HI.RAW (b.aon.raw / 2 ^ 32)
  (b.aon.tick % 2 ^ 32, b)

def execTickLoRead (s : State) : Outcome State Fault Refusal :=
  onBody (fun b => let (v, b) := tickLoRead b; b.answer v) s

/-- The next LFXO edge, at which due alarms fire (R430 to R432). -/
def execAlarmFire (s : State) : Outcome State Fault Refusal := onAny toEdge s

/-- The LFXO edge on which the periodic wake falls (R433). -/
def execPeriodicWake (s : State) : Outcome State Fault Refusal :=
  onAny (fun b => if pwakeDue b b.aon.raw 1 then toEdge b else b) s

/-- The end of a UTC day with a flagged leap second (R426). -/
def leapApply (b : Body) : Body := onAon (fun b =>
  let ofs := sgn 16 (b.get AON.UTC_OFS.OFS)
  match b.get AON.UTC_OFS.LEAP with
  | 1 => (b.put AON.UTC_OFS.OFS (uns 16 (ofs + 1))).put AON.UTC_OFS.LEAP 0
  | 2 => (b.put AON.UTC_OFS.OFS (uns 16 (ofs - 1))).put AON.UTC_OFS.LEAP 0
  | _ => b) b

def execLeapApply (s : State) : Outcome State Fault Refusal := onRuntime leapApply s

/-- The always-on domain's registers lie in its own block. -/
def aonAddr (a : Nat) : Bool := decide (0x40100000 ≤ a) && decide (a < 0x40200000)

/-- The domain reset (R422, R436, R437): every AON register at its reset value, OSF set, counters at 0. What the
cover switch and the supply show is sampled anew. -/
def domainReset (b : Body) : Body :=
  let opened := b.flag AON.TAMPER.OPEN
  let main := mainPower b
  let run := b.flag AON.STAT.LFXO_RUN
  let b := { b with regs := b.regs.filter fun p => !aonAddr p.1
                    aon := { Body.reset.aon with held := true, stopDue := b.aon.stopDue } }
  ((b.mark AON.TAMPER.OPEN opened).mark AON.STAT.MAIN main).mark AON.STAT.LFXO_RUN run

def execDomainReset (s : State) : Outcome State Fault Refusal := onAny domainReset s


/-- A cell test measured `mv` (R45, R438). -/
def cellResult (mv : Nat) (b : Body) : Body :=
  let mv := min mv 4095
  ((b.put AON.CELL.MV mv).mark AON.CELL.LOW (decide (mv < 1100))).mark AON.CELL.ABSENT (decide (mv < 500))

/-- The test of every 24 h; one on command replaced it (R438). -/
def execCellTest (mv : Nat) (s : State) : Outcome State Fault Refusal :=
  onAny (fun b => if b.aon.held then b
    else if b.aon.tested then { b with aon := { b.aon with tested := false } } else cellResult mv b) s

/-- AON.CELL.TEST, while main power is present (R438). -/
def execCellTestCmd (mv : Nat) (s : State) : Outcome State Fault Refusal :=
  onBody (onAon fun b => cellResult mv { b with aon := { b.aon with tested := true } }) s

/-- AON samples an open cover (R439): the first opening latches with its TICK, and SAFE acts on it at once when it runs (R585).
While the domain is held in reset nothing latches (R436). -/
def coverSeen (b : Body) : Body :=
  if b.aon.held || b.flag AON.TAMPER.LATCH then b else
  let b := b.mark AON.TAMPER.LATCH true
  let b := (b.put AON.TAMPER_T_LO.TICK b.aon.tick).put AON.TAMPER_T_HI.TICK (b.aon.tick / 2 ^ 32)
  if monitored b then tamper 1 b else b

/-- The cover opens. -/
def coverOpen (b : Body) : Body := coverSeen (b.mark AON.TAMPER.OPEN true)

/-- The domain leaves reset (R436), and the next sample finds a cover that stands open (DESIGN CHOICE, log entry 83: the reset
cleared the latch, so this opening is the first). -/
def domainRelease (b : Body) : Body :=
  let b := { b with aon := { b.aon with held := false } }
  if b.flag AON.TAMPER.OPEN then coverSeen b else b

def execDomainResetRelease (s : State) : Outcome State Fault Refusal := onAny domainRelease s

def execCoverOpen (s : State) : Outcome State Fault Refusal := onAny coverOpen s

/-- The cover closes (R439). -/
def execCoverClose (s : State) : Outcome State Fault Refusal := onAny (fun b => b.mark AON.TAMPER.OPEN false) s

/-- LFXO stops for 1 ms (R89, R429). -/
def lfxoStop (b : Body) : Body :=
  let b := (b.mark AON.STAT.OSF true).mark AON.STAT.LFXO_RUN false
  let b := { b with aon := { b.aon with osfFix := 0 } }
  if monitored b then raise 0x0010 0 0 ((b.mark SYS.CLK_FAULT.LFXO_STOP true).mark SYS.CLK_STAT.LFXO_OK false)
  else { b with aon := { b.aon with stopDue := true } }

def execLfxoStop (s : State) : Outcome State Fault Refusal := onAny lfxoStop s

/-- LFXO edges arrive again (R89). A runtime with valid network time then asks for the delta of R428. -/
def lfxoRunning (b : Body) : Body :=
  let b := b.mark AON.STAT.LFXO_RUN true
  if monitored b then
    let b := b.mark SYS.CLK_STAT.LFXO_OK true
    if powered b && b.flag SYS.CLK_STAT.CCLK_LOCK then osfDelta b else b
  else b

def execLfxoRunning (s : State) : Outcome State Fault Refusal := onAny lfxoRunning s

end Sys2Proof.Machine
end

