-- ==== Sys2Proof/Machine/Safe.lean ====
section
/-! DEFINITION. Machine/Safe.lean: the meanings of SAFE's commands and events: runtime slices (R565 to R569), the error manager's
acknowledgement (R574), hem and restart by command (R577), the black box (R582, R583), world violations (R584), and the
debug unlock (R585, R586). -/

namespace Sys2Proof.Machine

open Host

/-! ### Slices -/

/-- Slice `k` exists (R565). -/
def sliceIdx (k : Nat) : Bool := decide (k ≤ 13) || (decide (16 ≤ k) && decide (k ≤ 79))

/-- Slices are suspended in an emergency and, in both members, during a takeover (R569, R460). -/
def slicesSuspended (b : Body) : Bool := emergency b || b.seam.slicesHeld || b.seam.peerHeld

/-- SAFE.STAT.SLICES_SUSP follows; a running slice is ABORTED when the suspension begins, without counting (R569). -/
def suspendFollow (b : Body) : Body :=
  let v := slicesSuspended b
  let b := if v && !b.flag SAFE.STAT.SLICES_SUSP then
    b.each (List.range 80) fun b k =>
      if b.flag SAFE.SLICE.RUNNING k then (b.mark SAFE.SLICE.RUNNING false k).put SAFE.SLICE.LAST 3 k else b
    else b
  b.mark SAFE.STAT.SLICES_SUSP v

/-- Radio `r` stands in the idle part of a stitch, and 500 µs of it are left (R565, R566): in no stitch that it sends in or whose
synthesiser runs, in an UP stitch after the receive window of 1,200 µs and the SHR, and before the synthesiser starts for the next
stitch that is marked or UP (R287). DESIGN CHOICE (log 103): the SHR counts as the 12 byte times of R281 that stand before a PSDU. -/
def radioIdle (b : Body) (r : Nat) : Bool :=
  let t := tnNs b
  let j := (t - radioOfs b r) / stitchNs b
  let s0 := j * stitchNs b + radioOfs b r
  let up := fun (k : Nat) => match stitchKind b r (k % 256) with
    | .upScheduled => true
    | .upContention => true
    | _ => false
  let used := fun (k : Nat) => up k || marksStitch b r (k % 256)
  let woken := b.air.woken.any fun p => decide (p.1 = r ∧ t < p.2 - 1 + stitchNs b)
  !woken && (if up j then decide (s0 + 1200000 + 12000 * byteUs b r ≤ t) else !marksStitch b r (j % 256)) &&
    (!used (j + 1) || decide (t + 550000 ≤ s0 + stitchNs b))

/-- The target of slice `k` has no work (R566); a radio that AIR runs stands in the idle part of a stitch. -/
def sliceIdle (b : Body) (k : Nat) : Bool :=
  if k = 1 then decide (b.ce.jobs = []) && decide (b.ce.inbox = [])
  else if k = 2 then decide (b.ofe.fifo = [])
  else if k = 3 then decide (b.air.descs = []) && decide (b.air.cmdIn = [])
  else if 9 ≤ k ∧ k ≤ 13 then !airMarks b (k - 9) || radioIdle b (k - 9)
  else if 16 ≤ k then decide ((tileOf b (k - 16)).fifo = []) && (tileOf b (k - 16)).act.isNone
  else true

/-- The target of slice `k` lies in the gated domain (R74). -/
def sliceGated (k : Nat) : Bool := decide (k = 1 ∨ k = 2 ∨ k = 3 ∨ 16 ≤ k)

/-- The period of a slice in the gated domain, in seconds: 10, and one tile of 64 every 2 (R565). -/
def slicePeriod (k : Nat) : Nat := if 16 ≤ k then 128 else 10

/-- A slice whose target lies in the gated domain waits for the domain to be clocked until its period is over, which runs from
its last start or from the start of SAFE (R566). -/
def sliceWaits (b : Body) (k : Nat) : Bool :=
  let from_ : Nat := tabGet (fun _ => b.safe.runAt) b.safe.startAt k
  sliceGated k && b.flag SYS.CLK_STAT.GATED && decide (sinceS b from_ < slicePeriod k)

/-- A slice starts in idle time of its target; one in the gated domain wakes it once its period is over (R565, R566). -/
def sliceStart (k : Nat) (b : Body) : Body :=
  if b.flag SAFE.CTL.RUN && sliceIdx k && !slicesSuspended b && !b.flag SAFE.SLICE.RUNNING k && sliceIdle b k && !sliceWaits b k then
    let b := (if sliceGated k then ungate b else b).mark SAFE.SLICE.RUNNING true k
    { b with safe := { b.safe with startAt := tabIns k b.clock.cyc (tabDel k b.safe.startAt) } }
  else b

def execSliceStart (k : Nat) (s : State) : Outcome State Fault Refusal := onBody (sliceStart k) s

/-- A pass (R567). -/
def slicePass (k : Nat) (b : Body) : Body :=
  let b := (((b.put SAFE.SLICE.LAST 1 k).mark SAFE.SLICE.FAILED_ONCE false k).put SAFE.SLICE.ABORTS 0 k).wrap
    SAFE.SLICE_CNT.PASSES k
  { b with safe := { b.safe with sliceAt := tabIns k b.clock.cyc (tabDel k b.safe.sliceAt) },
           upd := { b.upd with passed := b.upd.passed.filter (· ≠ k) ++ [k] } }

/-- A completed failure: the second in a row raises SLICE_FAIL, and a tile is then disabled (R568, R565, R141);
of equal severities the lower code is placed first (R572). -/
def sliceFail (k : Nat) (b : Body) : Body :=
  let b := (b.put SAFE.SLICE.LAST 2 k).put SAFE.SLICE.ABORTS 0 k
  if !b.flag SAFE.SLICE.FAILED_ONCE k then b.mark SAFE.SLICE.FAILED_ONCE true k else
  let b := if 16 ≤ k then
      let t := k - 16
      raise 0x0603 t 0 ((b.mark LOOM.TILE_CTL.ENABLE false t).mark LOOM.TILE_STAT.OFF true t)
    else b
  raise 0x0D01 k 0 b

/-- An abort (R566, R567). -/
def sliceAbort (k : Nat) (b : Body) : Body := sliceStarved k ((b.put SAFE.SLICE.LAST 3 k).bump SAFE.SLICE.ABORTS 1 k)

def sliceComplete (k : Nat) (aborted ok : Bool) (b : Body) : Body :=
  if !sliceIdx k || !b.flag SAFE.SLICE.RUNNING k then b else
  let b := b.mark SAFE.SLICE.RUNNING false k
  if aborted then sliceAbort k b else if ok then slicePass k b else sliceFail k b

def execSliceComplete (k : Nat) (aborted ok : Bool) (s : State) : Outcome State Fault Refusal :=
  onBody (sliceComplete k aborted ok) s

/-! ### The error manager -/

/-- PRIMARY is cleared and SECONDARY moves up (R574). -/
def errAck (b : Body) : Body :=
  let b := clearSlot 0 b
  if b.flag SAFE.ERR.VALID 1 then
    { clearSlot 1 (copySlot 1 0 b) with safe := { b.safe with primaryAt := b.clock.cyc } }
  else b

def execErrAck (s : State) : Outcome State Fault Refusal := onBody errAck s

/-- PRIMARY has been held for ACK_MS without acknowledgement (R574). -/
def errStuck (b : Body) : Body :=
  if b.flag SAFE.ERR.VALID 0 && decide (msCyc (b.get SAFE.ERR_CFG.ACK_MS) ≤ b.clock.cyc - b.safe.primaryAt) then
    raise 0x0D03 (b.get SAFE.ERR.CODE 0) 0 { b with safe := { b.safe with primaryAt := b.clock.cyc } }
  else b

def execErrStuck (s : State) : Outcome State Fault Refusal := onBody errStuck s
def execHemReq (s : State) : Outcome State Fault Refusal := onBody (raise 0x0D04 0 0) s
def execLockstep (s : State) : Outcome State Fault Refusal := onBody (raise 0x0D02 0 0) s

/-- SAFE.CTL.RESTART (R577): cold, as though main power had risen. -/
def execRestart (s : State) : Outcome State Fault Refusal := onBody coldRestart s

/-! ### World violations (R584) -/

/-- A non-secure access to a secure target: recorded and counted; more than MAX within 1 s raise WORLD_FAULT, at most once
per second. -/
def worldAccess (addr init : Nat) (write : Bool) (b : Body) : Body :=
  let b := record 0x0021 addr (init % 16 + (if write then 16 else 0)) b
  let b := (b.bump SAFE.WORLD_CNT.COUNT).put SAFE.WORLD_LAST.ADDR addr
  let now := b.clock.cyc
  let hits := (b.safe.worldHits.filter fun t => decide (now - t < 26000000)) ++ [now]
  let b := { b with safe := { b.safe with worldHits := hits } }
  let quiet := match b.safe.worldFaultAt with
    | some t => decide (26000000 ≤ now - t)
    | none => true
  if hits.length > b.get SAFE.WORLD_CFG.MAX && quiet then
    raise 0x0020 hits.length addr { b with safe := { b.safe with worldFaultAt := some now } }
  else b

/-- SAFE.HELD bits cleared by the host (R575). Bit 0 ends a MOD conflict, and the stitch plan resumes at the next bolt
(R22). -/
def heldClear (v : Nat) (b : Body) : Body :=
  let b := b.put SAFE.HELD.BLOCK (b.get SAFE.HELD.BLOCK - Nat.land (b.get SAFE.HELD.BLOCK) v)
  if v % 2 = 1 ∧ b.sha.conflict = 1 then { b with sha := { b.sha with conflict := 2 } } else b

/-- SAFE is fixed secure (R32): a non-secure write clears nothing and is a violation. -/
def execHeldClear (v : Nat) (secure : Bool) (s : State) : Outcome State Fault Refusal :=
  onBody (fun b => if secure then heldClear v b else worldAccess SAFE.HELD.word.addr 1 true b) s

/-! ### Black box -/

def execBbRecordWrite (s : State) : Outcome State Fault Refusal := onBody bbWrite s

/-- SAFE.BB_SEL (R583): SAFE.BB_W shows the record. -/
def execBbSel (v : Nat) (s : State) : Outcome State Fault Refusal := onBody (·.put SAFE.BB_SEL.SEQ v) s

/-! ### Debug unlock (R585) -/

/-- A word per 4 bytes, little-endian, into a register array. -/
def putWords (f : Fld) (l : List Nat) (b : Body) : Body :=
  b.each (List.range (l.length / 4)) fun b w => b.put f (u32 l (4 * w)) w

/-- A new challenge: the UID, then 32 bytes that the spec leaves to chance. -/
def debugChal (b : Body) : Body :=
  let b := putWords SAFE.DBG_CHAL.DATA (toLe 16 b.nv.uid) b
  let b := b.each (List.range 8) fun b w =>
    let (v, b) := b.freeWord
    b.put SAFE.DBG_CHAL.DATA v (4 + w)
  { b with safe := { b.safe with chalLive := true } }

def execChal (s : State) : Outcome State Fault Refusal := onBody debugChal s

/-- The bytes of `n` words of a register array. -/
def wordsOf (b : Body) (f : Fld) (n : Nat) : List Nat := (List.range n).flatMap fun w => toLe 4 (b.get f w)

/-- The signature in SAFE.DBG_RESP is judged; each challenge serves one attempt, and 3 failures lock out. -/
def debugUnlock (b : Body) : Body :=
  if b.flag SAFE.STAT.LOCKOUT then b else
  let key := b.nv.dbgKey
  let ok := b.safe.chalLive && sigOk (beNat (key.take 48), beNat (bytesAt key 48 48)) (wordsOf b SAFE.DBG_CHAL.DATA 12)
    (wordsOf b SAFE.DBG_RESP.DATA 24)
  let b := { b with safe := { b.safe with chalLive := false } }
  if ok then tamper 2 (b.mark SAFE.DBG_STAT.UNLOCKED true)
  else
    let b := b.bump SAFE.DBG_STAT.FAILS
    if b.get SAFE.DBG_STAT.FAILS = 3 then b.mark SAFE.STAT.LOCKOUT true else b

def execUnlock (s : State) : Outcome State Fault Refusal := onBody debugUnlock s

/-! ### Health (R466) -/

def slices : List Nat := (List.range 80).filter sliceIdx
/-- Seconds since a slice's last pass. -/
def sliceAge (b : Body) (k : Nat) : Nat := match b.safe.sliceAt.find? fun p => decide (p.1 = k) with
  | some p => min 0xFFFF (sinceS b p.2)
  | none => 0xFFFF

/-- The mirror is current: sets arrive, the last one applied being at most 2 bolts old (DESIGN CHOICE, log entry 98), and none is
missed. -/
def mirrorCurrent (b : Body) : Bool :=
  !b.seam.needFull && decide ((boltIdx b + (2 ^ 32 - b.get SEAM.MIRROR.BOLT)) % 2 ^ 32 ≤ 2)

/-- The mirror is current and the serials agree; a member that acts keeps its own state (R441). -/
def mirrorOk (b : Body) : Bool :=
  decide (b.get SEAM.STAT.ROLE ≥ 2) || (decide (b.get SEAM.STAT.ROLE = 1) && mirrorCurrent b &&
    match b.seam.peer with
    | some h => decide (h.serial = b.get SYS.PAT_SERIAL.SERIAL)
    | none => false)

/-- SEAM.HEALTH as R466 computes it. -/
def healthFollow (b : Body) : Body :=
  let failed := fun k => b.flag SAFE.SLICE.FAILED_ONCE k
  let loops := [4, 5, 6, 7, 9, 10, 11, 12, 13]
  let loopOk := !loops.any failed && decide (b.get GIO.REL_STAT.COIL_FAULT = 0)
  let memOk := !b.flag MEMI.STAT.SELFTEST_FAIL && !b.bit SAFE.HELD.BLOCK 11
  let slicesOk := !slices.any failed
  let age := slices.foldl (fun m k => max m (sliceAge b k)) 0
  let late := decide (age > 600) || slices.any fun k => decide (b.get SAFE.SLICE.ABORTS k ≥ 16)
  let bad := !slicesOk || !loopOk || !memOk || inHem b || (!mirrorOk b && decide (b.seam.sinceFull > 32))
  let b := ((b.put SEAM.HEALTH.CHECK_AGE_S age).mark SEAM.HEALTH.MIRROR_OK (mirrorOk b)).mark SEAM.HEALTH.LOOP_OK loopOk
  ((b.mark SEAM.HEALTH.MEM_OK memOk).mark SEAM.HEALTH.SLICES_OK slicesOk).put SEAM.HEALTH.CLASS (if bad then 2 else if late then 1 else 0)

end Sys2Proof.Machine
end

