-- ==== Sys2Proof/Machine/GioOps.lean ====
section
/-! DEFINITION. Machine/GioOps.lean: what GIO does beside its own events: the emergency (R539, R191, R192), relay positions by rank
(R542 to R544), the sign's brightness factor and lit pixels (R551, R557). -/

namespace Sys2Proof.Machine

/-- The filtered state of input `i`, in the codes of R538. -/
def diState (b : Body) (i : Nat) : Nat := b.get GIO.DI_STAT.STATE / 2 ^ (3 * i) % 8

/-! ### Relays -/

/-- The rank of R543 leaves the position `v` of relay `k` to a request: a member that acts, with a pattern, moves it by its
source, in hem by SOURCE 2 alone; a standby opens it. -/
def relayMay (b : Body) (k : Nat) (v : Bool) : Bool :=
  (acting b && loaded b && (!inHem b || decide (b.get GIO.REL_CFG.SOURCE k = 2))) || (decide (b.get SEAM.STAT.ROLE = 1) && !v)

/-- A relay is asked to move where its rank lets it. Inside the 100 ms of the last change the request is held, the latest one
counting (R544). -/
def relayRequest (k : Nat) (v : Bool) (b : Body) : Body :=
  if !relayMay b k v then b else
  match tabGet (fun _ => (none : Option Nat)) b.gio.relAt k with
  | some t =>
    if b.clock.cyc - t < msCyc 100 then
      { b.setBit GIO.REL_STAT.HELD k true with gio := { b.gio with relHeld := tabIns k v (tabDel k b.gio.relHeld) } }
    else relayNow k v b
  | none => relayNow k v b

/-- A relay of SOURCE 2 closes at once with the emergency and opens after it as requests do (R544). -/
def relayEmergency (k : Nat) (b : Body) : Body := if emergency b then relayNow k true b else relayRequest k false b

/-- The relays of SOURCE 2 follow the emergency, in hem as well (R543, R544). -/
def relaysEmergency (b : Body) : Body :=
  if acting b && loaded b then
    b.each [0, 1, 2, 3] fun b k => if b.get GIO.REL_CFG.SOURCE k = 2 then relayEmergency k b else b
  else b

/-- A member that begins to act, or whose relays were configured anew, takes every relay from its own state; one of SOURCE 1 keeps
its position until an event (R465, R542, R543). -/
def relaysFollow (b : Body) : Body :=
  if !acting b || !loaded b then b
  else if inHem b then relaysEmergency (relaysHem b)
  else b.each [0, 1, 2, 3] fun b k => match b.get GIO.REL_CFG.SOURCE k with
    | 0 => relayRequest k (b.bit GIO.REL_CTL.HOST k) b
    | 2 => relayEmergency k b
    | _ => b

/-- A standby opens every relay (R443), inside the 100 ms of a change when they end (R544). -/
def relaysOpen (b : Body) : Body := b.each [0, 1, 2, 3] fun b k => relayRequest k false b

/-- The relays move to their HEM_POS (R465). -/
def relaysToHem (b : Body) : Body := b.each [0, 1, 2, 3] fun b k => relayNow k (b.flag GIO.REL_CFG.HEM_POS k) b

/-! ### Emergency -/

/-- The emergency follows the contributions (R539): at the edge the emergency frame stands in every radio's bank, and its end
has the release sent (R191, R192, R316); compositions of every channel, SOURCE 2
relays, and the suspension of slices. A silent hem sends no new frame (R579). -/
def emergencyFollow (i : Nat) (b : Body) : Body :=
  let act := decide (b.get GIO.EMERG.CONTRIB ≠ 0)
  if act = b.flag GIO.EMERG.ACTIVE then b else
  let b := (b.mark GIO.EMERG.ACTIVE act).mark CE.STAT.EMERG_ACTIVE act
  let b := if act then b.put CE.STAT.EMERG_DI (i + 1) else b
  let b := ungate b
  let b := if !acting b || b.flag SAFE.STAT.HEM_SILENT then b
    else if act then emergEdge b else addDescs ((enabledRadios b).map Desc.release) b
  let b := if runsRules b then askAll (if act || inHem b then Why.safe else Why.release) b else b
  suspendFollow (relaysEmergency b)

/-- The contribution of each input by its FUNC and its state (R539): an emergency input's is 1 in ACTIVE, 0 in INACTIVE, and
unchanged in a fault state; any other input holds none. -/
def emergencyInputs (b : Body) : Body :=
  let b := b.each (List.range 8) fun b i =>
    if b.get GIO.DI_CFG.FUNC i = 1 then
      if diState b i ≤ 1 then b.setBit GIO.EMERG.CONTRIB i (decide (diState b i = 1)) else b
    else b.setBit GIO.EMERG.CONTRIB i false
  emergencyFollow (((List.range 8).find? fun i => b.bit GIO.EMERG.CONTRIB i).getD 0) b

/-! ### Sign brightness -/

/-- g of R551, shown in SIGN_FACT. -/
def signFactor (b : Body) : Body :=
  let dimF := b.get GIO.SIGN_DRV.DIM_PCT * 65536 / 100
  b.put GIO.SIGN_FACT.G (dimF * b.gio.dT / 65536 * b.gio.dP / 65536)

end Sys2Proof.Machine
end

