-- ==== Sys2Proof/Machine/Gio.lean ====
section
/-! DEFINITION. Machine/Gio.lean: the meanings of GIO's commands and events: inputs (R535 to R541), relays (R542 to R545) and the
guidance sign (R546 to R561). -/

namespace Sys2Proof.Machine

open Host

/-! ### Digital inputs -/

def diRec (b : Body) (i : Nat) : DiSt := tabGet (fun _ => ⟨none, false⟩) b.gio.di i
def setDiRec (b : Body) (i : Nat) (x : DiSt) : Body := { b with gio := { b.gio with di := tabIns i x (tabDel i b.gio.di) } }

/-- GIO emits on the thread its section names, when the thread's source is GIO's port (R538, R131). -/
def gioEmit (thread payload : Nat) (b : Body) : Body :=
  if threadSrc b thread = some (0x44, 0) then
    let e : Ev := { payload := payload % 2 ^ 64, tag := 0, thread := thread, late := false, src := 0x44, srcPort := 0 }
    { ungate b with loom := { b.loom with xbar := b.loom.xbar ++ [e] } }
  else b

/-- DI_EVENT (R538). -/
def diEvent (i st : Nat) (b : Body) : Body :=
  gioEmit (b.get GIO.DI_CFG.THREAD i) (i + st * 8 + airTime b % 2 ^ 32 * 2 ^ 32) b

/-- The OVERRIDE of R540. -/
def diOverride (i : Nat) (set : Bool) (b : Body) : Body :=
  let preset := if set then b.get GIO.DI_OVP.PRESET_SET i else b.get GIO.DI_OVP.PRESET_REL i
  gioEmit (b.get GIO.DI_CFG.THREAD i)
    (b.get GIO.DI_OVR.LEVEL i + b.get GIO.DI_OVR.TARGET i * 2 ^ 16 + b.get GIO.DI_OVR.SCOPE i * 2 ^ 28 +
      (if set then 2 ^ 30 else 0) + preset * 2 ^ 48) b

/-- The class of a ratio k = V(DIn) / V(DI_V24) (R50): 0 INACTIVE, 1 ACTIVE, 2 OPEN, 3 SHORT, 4 INVALID.
While V(DI_V24) is 0 or below, which leaves k without a value, the input reads INVALID (DESIGN CHOICE, log entry 91). -/
def diRatio (m : DiMeas) : Nat :=
  if m.ref ≤ 0 then 4
  else if 100 * m.mv < 10 * m.ref then 2
  else if 25 * m.ref ≤ 100 * m.mv ∧ 100 * m.mv ≤ 50 * m.ref then 0
  else if 80 * m.ref ≤ 100 * m.mv ∧ 100 * m.mv ≤ 93 * m.ref then 1
  else if 96 * m.ref < 100 * m.mv then 3
  else 4

/-- The class of one sample of input `i`: OFF up to 5 V, ON from 15 V, the one before it, `was`, between them on a plain input
(R49); the class of its ratio on a supervised one, OPEN while the field supply is at fault (R48, R50). -/
def diClass (b : Body) (i was : Nat) (m : DiMeas) : Nat :=
  if b.get GIO.DI_CFG.MODE i = 1 then (if m.mv ≤ 5000 then 0 else if 15000 ≤ m.mv then 1 else was)
  else if b.flag GIO.DI_STAT.V24_FAULT then 2 else diRatio m

/-- The classes of samples of input `i`, oldest first. -/
def diClasses (b : Body) (i : Nat) : Nat → List DiMeas → List Nat
  | _, [] => []
  | was, m :: t => diClass b i was m :: diClasses b i (diClass b i was m) t

/-- The state the samples of input `i` give: the one that the latest FILTER_MS of them agree on. An input with MODE 0 is not
classified (R535). -/
def diTaken (b : Body) (i : Nat) (ms : List DiMeas) : Option Nat :=
  let n := b.get GIO.DI_CFG.FILTER_MS i
  if b.get GIO.DI_CFG.MODE i ≠ 1 ∧ b.get GIO.DI_CFG.MODE i ≠ 2 then none else
  match (diClasses b i (diState b i) ms).reverse.take n with
  | [] => none
  | c :: t => if t.length + 1 = n ∧ ∀ x ∈ t, x = c then some c else none

/-- A filtered edge of input `i`, while RUN lets GIO act (R535 to R540). -/
def diEdge (i st : Nat) (b : Body) : Body :=
  if !gioRun b ∨ i > 7 ∨ st = diState b i then b else
  let b := b.put GIO.DI_STAT.STATE (insBits (b.get GIO.DI_STAT.STATE) (3 * i) 3 st)
  let b := setDiRec b i ⟨if st = 1 then some b.clock.cyc else none, false⟩
  let b := if st ≥ 2 then raise 0x0A01 i st (b.setBit GIO.DI_FAULT.FAULT i true) else b
  if b.get GIO.DI_CFG.FUNC i = 2 then
    if st ≤ 1 then diOverride i (decide (st = 1)) b else b
  else
    let b := diEvent i st b
    if b.get GIO.DI_CFG.FUNC i = 1 ∧ st ≤ 1 then emergencyFollow i (b.setBit GIO.EMERG.CONTRIB i (decide (st = 1))) else b

/-- The 1 kHz samples of input `i`, of which FILTER_MS agree on a state (R535). GIO classifies while RUN lets it act. -/
def diSamples (i : Nat) (m : List DiMeas) (b : Body) : Body := match diTaken b i m with
  | some st => diEdge i st b
  | none => b

def execDiFilteredEdge (i : Nat) (m : List DiMeas) (s : State) : Outcome State Fault Refusal := onBody (diSamples i m) s

/-- Input `i` has stood at ON or ACTIVE for TIMEOUT_S (R541). -/
def diTimed (b : Body) (i : Nat) : Bool := match (diRec b i).onAt with
  | some t => decide (b.get GIO.DI_TMO.TIMEOUT_S i * 26000000 ≤ b.clock.cyc - t)
  | none => false

/-- The timeout of R541, once per stand. -/
def diTimeout (i : Nat) (b : Body) : Body :=
  if i > 7 || !gioRun b || decide (b.get GIO.DI_TMO.TIMEOUT_S i = 0) || decide (diState b i ≠ 1) || (diRec b i).timed ||
      !diTimed b i then b else
  let b := setDiRec b i { diRec b i with timed := true }
  let b := raise 0x0A03 i 0 (b.setBit GIO.DI_FAULT.TIMEOUT i true)
  if b.get GIO.DI_CFG.FUNC i = 0 then diEvent i 5 b
  else if b.get GIO.DI_CFG.FUNC i = 2 then diOverride i false b
  else b

def execDiTimeout (i : Nat) (s : State) : Outcome State Fault Refusal := onBody (diTimeout i) s

/-- While the field supply is at fault every supervised input reads OPEN (R48). -/
def supplyFollow (b : Body) : Body :=
  if b.flag GIO.DI_STAT.V24_FAULT then
    b.each (List.range 8) fun b i => if b.get GIO.DI_CFG.MODE i = 2 then diEdge i 2 b else b
  else b

/-- DI_V24 limits its current (R48, R536): DI_SUPPLY once, and every supervised input reads OPEN. -/
def diSupply (b : Body) : Body :=
  if b.flag GIO.DI_STAT.V24_FAULT then b else supplyFollow (raise 0x0A02 0 0 (b.mark GIO.DI_STAT.V24_FAULT true))

def execDiSupply (s : State) : Outcome State Fault Refusal := onBody diSupply s

/-- The current falls again (R48): supervised inputs take their own states at their next filtered edges. -/
def execFieldSupplyRestored (s : State) : Outcome State Fault Refusal := onBody (·.mark GIO.DI_STAT.V24_FAULT false) s

/-! ### Relays -/

/-- A RELAY event (R542). -/
def relayEvent (e : Ev) (b : Body) : Body :=
  if e.payload / 256 ≠ 0 then b.bump GIO.COUNT.BAD_EVENT else
  b.each [0, 1, 2, 3] fun b k =>
    if e.payload / 2 ^ k % 2 = 1 ∧ b.get GIO.REL_CFG.SOURCE k = 1 ∧ b.get GIO.REL_CFG.THREAD k = e.thread then
      relayRequest k (decide (e.payload / 2 ^ (4 + k) % 2 = 1)) b
    else b

/-- GIO takes the oldest event waiting at a destination port, when it is one of the wanted ones. -/
def gioTake (port : Nat) (want : Ev → Bool) (f : Ev → Body → Body) (b : Body) : Body := match takePort port b.gio.inbox with
  | none => b
  | some (e, rest) => if gioRun b && want e then f e { b with gio := { b.gio with inbox := rest } } else b

def execRelay (s : State) : Outcome State Fault Refusal := onBody (gioTake 1 (fun _ => true) relayEvent) s

/-- GIO.REL_CTL.HOST (R542). -/
def hostRelay (v : Nat) (b : Body) : Body :=
  let b := b.put GIO.REL_CTL.HOST v
  if !gioRun b then b else
  b.each [0, 1, 2, 3] fun b k =>
    if b.get GIO.REL_CFG.SOURCE k = 0 ∧ (b.bit GIO.REL_CTL.HOST k ≠ b.bit GIO.REL_STAT.STATE k ∨ b.bit GIO.REL_STAT.HELD k) then
      relayRequest k (b.bit GIO.REL_CTL.HOST k) b
    else b

def execHostRelayWrite (v : Nat) (s : State) : Outcome State Fault Refusal := onBody (hostRelay v) s

/-- The 100 ms interval of relay `k` runs (R544). -/
def relayBusy (b : Body) (k : Nat) : Bool := match tabGet (fun _ => (none : Option Nat)) b.gio.relAt k with
  | some t => decide (b.clock.cyc - t < msCyc 100)
  | none => false

/-- A relay's 100 ms interval ends: the latest held request is applied (R544). -/
def relayHoldEnd (k : Nat) (b : Body) : Body :=
  if relayBusy b k then b else
  let held := b.gio.relHeld.find? fun p => decide (p.1 = k)
  let b := { b.setBit GIO.REL_STAT.HELD k false with
    gio := { b.gio with relAt := tabSet (fun _ => none) b.gio.relAt k none, relHeld := tabDel k b.gio.relHeld } }
  match held with
  | some (_, v) => relayRequest k v b
  | none => b

def execRelayHoldEnd (k : Nat) (s : State) : Outcome State Fault Refusal := onBody (relayHoldEnd (k % 4)) s

/-- A coil's current is measured (R545). -/
def relayCoil (k : Nat) (current : Bool) (b : Body) : Body :=
  if relayClosed b k = current then b else raise 0x0A04 k 0 (b.setBit GIO.REL_STAT.COIL_FAULT k true)

def execRelayCoil (k : Nat) (current : Bool) (s : State) : Outcome State Fault Refusal := onBody (relayCoil (k % 4) current) s

/-! ### The sign: checks -/

/-- A pixel is open whose column's current in µA, in the list under its number, stays below half of I_COL_MA (R555). -/
def pixOpen (cur : List (Nat × Nat)) (b : Body) (n : Nat) : Bool :=
  decide (2 * tabGet (fun _ => 0) cur n < 1000 * b.get GIO.SIGN_DRV.I_COL_MA)

/-- A checked pixel was good, or open: the first finding sets its bit and raises SIGN_OPEN (R555, R557). -/
def pixChecked (cur : List (Nat × Nat)) (b : Body) (p : Nat × Nat) : Body :=
  let n := 64 * p.1 + p.2
  if pixOpen cur b n then
    if b.bit GIO.PIX_OPEN.OPEN (p.2 % 32) p.1 (p.2 / 32) then b
    else raise 0x0A05 p.1 p.2 (b.setBit GIO.PIX_OPEN.OPEN (p.2 % 32) true p.1 (p.2 / 32))
  else { b with gio := { b.gio with goodAt := tabIns n b.clock.cyc (tabDel n b.gio.goodAt) } }

/-- The blanks that the open pixels ask for (R557). -/
def blankFollow (b : Body) : Body :=
  let opens := (allPix b).filter fun p => b.bit GIO.PIX_OPEN.OPEN (p.2 % 32) p.1 (p.2 / 32)
  if opens = [] then b
  else if b.get GIO.SIGN_CFG.BLANK = 1 then b.mark GIO.SIGN_STAT.WHOLE_BLANK true
  else
    let b := b.each (signFields b) fun b f =>
      if opens.any fun p => inField b f p.1 p.2 then b.setBit GIO.SIGN_BLANK.FIELD f true else b
    if opens.any fun p => !(signFields b).any fun f => inField b f p.1 p.2 then b.mark GIO.SIGN_STAT.WHOLE_BLANK true else b

/-- Each field whose every lit pixel has been checked good takes the oldest of those checks as its age base (R558). -/
def agesFollow (b : Body) : Body :=
  b.each (signFields b) fun b f =>
    let lit := (allPix b).filter fun p => inField b f p.1 p.2 && pixLit b p.1 p.2
    let at_ := lit.map fun p => tabGet (fun _ => (none : Option Nat)) (b.gio.goodAt.map fun x => (x.1, some x.2)) (64 * p.1 + p.2)
    if lit = [] || at_.any (·.isNone) then b
    else { b with gio := { b.gio with ageAt := tabIns f ((at_.filterMap id).foldl min b.clock.cyc) (tabDel f b.gio.ageAt) } }

/-- D_T of R552 from the NTC reading, with its flags. -/
def signTemp (t : Int) (b : Body) : Body :=
  let k : Int := (b.get GIO.SIGN_DRV.KNEE_C : Nat) - 40
  let bad := decide (t < -40) || decide (t > 150)
  let hot := decide (t > k + 25) || (b.gio.hot && decide (t > k + 20))
  let d := if bad then 32768 else if hot then 0 else if t ≤ k then 65536
    else if t ≤ k + 15 then 65536 - (32768 * (t - k) / 15).toNat else 32768
  let b := { b with gio := { b.gio with dT := d, hot := if bad then b.gio.hot else hot } }
  let b := (b.mark GIO.SIGN_STAT.NTC_FAULT bad).mark GIO.SIGN_STAT.THERMAL (decide (d < 65536))
  signFactor (b.put GIO.SIGN_STAT.TEMP_C (uns 9 t))

/-- Supply setpoints (R548): each row by its least headroom, at most 0.2 V a frame. -/
def signSupply (head : List (Nat × Nat)) (b : Body) : Body :=
  let rowMin := fun (b : Body) r =>
    ((head.filter fun x => decide (x.1 / 64 = r) && pixLit b r (x.1 % 64) && decide (500 ≤ onTime b r (x.1 % 64))).map (·.2)).foldl
      (fun (m : Option Nat) v => some (match m with
        | none => v
        | some w => min v w)) none
  let low := fun r => match rowMin b r with
    | some m => decide (m < 400) && decide (b.get GIO.SIGN_VROW.MV r = 9000)
    | none => false
  let runs := (List.range (signRows b)).foldl (fun l r =>
    tabSet (fun _ => 0) l r (if low r then min 16 (tabGet (fun _ => 0) b.gio.lowRun r + 1) else 0)) []
  let b := { b with gio := { b.gio with lowRun := runs } }
  let b := if runs.any fun p => decide (p.2 = 16) then b.mark GIO.SIGN_STAT.COMPLIANCE true else b
  b.each (List.range (signRows b)) fun b r => match rowMin b r with
    | none => b
    | some m =>
      let v : Int := (b.get GIO.SIGN_VROW.MV r : Nat)
      let want := clampI (v - m + 500 + 10 * (b.get GIO.SIGN_SUP.VMARGIN_CV : Nat)) 2800 9000
      b.put GIO.SIGN_VROW.MV (clampI want (v - 200) (v + 200)).toNat r

/-- SIGN_STATUS (R561): emitted when its content changes. -/
def signStatus (b : Body) : Body :=
  if !gioRun b || decide (signRows b = 0) then b else
  let t := sgn 9 (b.get GIO.SIGN_STAT.TEMP_C)
  let f := fun (x : Fld) (k : Nat) => b.get x * 2 ^ k
  let p := b.get GIO.SIGN_BLANK.FIELD + f GIO.SIGN_STAT.WHOLE_BLANK 32 + f GIO.SIGN_STAT.PORT_FAULT 33 +
    f GIO.SIGN_STAT.THERMAL 34 + f GIO.SIGN_STAT.COMPLIANCE 35 + f GIO.SIGN_STAT.SENSOR_LOST 36 +
    (clampI (t + 40) 0 255).toNat * 2 ^ 40 + b.get GIO.SIGN_FACT.G * 100 / 65536 * 2 ^ 48
  if p = b.gio.status then b else emitEv 0x44 1 p 0 { b with gio := { b.gio with status := p } }

/-- The back buffer is copied into the front buffer (R550). -/
def copyFront (b : Body) : Body :=
  b.each (List.range 16) fun b r => b.each (List.range 16) fun b w => b.put GIO.FB_FRONT.PIX (b.get GIO.FB_BACK.PIX r w) r w

/-- CLEAR_OPEN takes effect (R557). -/
def clearOpens (b : Body) : Body :=
  let b := b.each (List.range 16) fun b r => (b.put GIO.PIX_OPEN.OPEN 0 r 0).put GIO.PIX_OPEN.OPEN 0 r 1
  (b.put GIO.SIGN_BLANK.FIELD 0).mark GIO.SIGN_STAT.WHOLE_BLANK false

/-- A frame starts (R546 to R557): what the frame that ends showed is judged, then a waiting commit and CLEAR_OPEN take
effect, and the blanks last. -/
def signFrame (m : SignMeas) (b : Body) : Body :=
  if !gioRun b || decide (signRows b = 0) then b else
  let b := if signOn b then
      let seen := (allPix b).filter fun p => pixLit b p.1 p.2 && decide (500 ≤ onTime b p.1 p.2)
      agesFollow (signSupply m.head (b.each seen (pixChecked m.cur)))
    else b
  let b := signTemp m.temp b
  let b := if b.gio.commitDue then copyFront { b with gio := { b.gio with commitDue := false } } else b
  let b := if b.gio.clearDue then clearOpens { b with gio := { b.gio with clearDue := false } } else b
  signStatus (blankFollow b)

def execSignFrameStart (m : SignMeas) (s : State) : Outcome State Fault Refusal := onBody (signFrame m) s

/-- One row slot is stretched (R556): its dim pixels run for 500 cycles and are checked. `cur`: the currents in µA by column. -/
def rowStretch (cur : List (Nat × Nat)) (b : Body) : Body :=
  if !signOn b then b else
  let r := b.gio.row % signRows b
  let dim := (List.range (signCols b)).filter fun c =>
    pixLit b r c && decide (1 ≤ onTime b r c) && decide (onTime b r c < 500)
  let b := b.each (dim.map fun c => (r, c)) (pixChecked (cur.map fun x => (64 * r + x.1, x.2)))
  agesFollow { b with gio := { b.gio with row := (r + 1) % signRows b } }

def execRowStretch (cur : List (Nat × Nat)) (s : State) : Outcome State Fault Refusal := onBody (rowStretch cur) s

/-- The mean power of a second in 0.1 W (R553), and the ambient temperature in °C of R71, by which the runtime writes CAP_DW
in Basic mode (R562). -/
def signPower (p : Nat) (amb : Int) (b : Body) : Body :=
  if !gioRun b then b else
  let b := { b with gio := { b.gio with ambHot := decide (amb > 60) } }
  let b := if expert b 6 then b else signCap b
  let b := b.put GIO.SIGN_PWR.P_DW (min p 65535)
  let cap := b.get GIO.SIGN_PWR.CAP_DW
  let d := if p > cap then b.gio.dP * cap / p else if 10 * p < 9 * cap then min 65536 (b.gio.dP + 655) else b.gio.dP
  signStatus (signFactor { b with gio := { b.gio with dP := d } })

def execSignPowerCheck (p : Nat) (amb : Int) (s : State) : Outcome State Fault Refusal := onBody (signPower p amb) s

/-- The colour sensor's eight bytes, or a failed read (R554). -/
def colourRead (v : Option (List Nat)) (b : Body) : Body :=
  if !gioRun b then b else
  match v with
  | none =>
    let b := { b with gio := { b.gio with lostRun := min 3 (b.gio.lostRun + 1) } }
    signStatus (if b.gio.lostRun = 3 then b.mark GIO.SIGN_STAT.SENSOR_LOST true else b)
  | some l =>
    let b := { b.mark GIO.SIGN_STAT.SENSOR_LOST false with gio := { b.gio with lostRun := 0 } }
    let clear := u16 l 6
    let b := b.each [0, 1, 2] fun b k =>
      let lit := (allPix b).any fun p => decide (pixClass b p.2 = k) && pixLit b p.1 p.2
      if !lit || decide (clear = 0) then b else
      let m : Int := (256 * u16 l (2 * k) / clear : Nat)
      let tgt : Int := (b.get GIO.SIGN_CTGT.TGT / 2 ^ (8 * k) % 256 : Nat)
      let t := classTrim b k
      let t := if m > tgt + 4 then max (t - 1) 192 else if m < tgt - 4 then min (t + 1) 256 else t
      b.put GIO.SIGN_TRIM.TRIM (insBits (b.get GIO.SIGN_TRIM.TRIM) (8 * k) 8 (t - 192))
    signStatus b

def execColourSensorRead (v : Option (List Nat)) (s : State) : Outcome State Fault Refusal := onBody (colourRead v) s

/-! ### The sign: content -/

/-- A pixel of the back buffer; one outside the sign is ignored (R549). -/
def putBack (r c v : Nat) (b : Body) : Body :=
  if signRows b ≤ r ∨ signCols b ≤ c then b
  else b.put GIO.FB_BACK.PIX (insBits (b.get GIO.FB_BACK.PIX r (c / 4)) (8 * (c % 4)) 8 v) r (c / 4)

/-- A SIGN_CONTENT event (R549): six columns, a rectangle, a commit, or a payload that is none of them. -/
def signContent (e : Ev) (b : Body) : Body :=
  let p := e.payload
  let bad := b.bump GIO.COUNT.BAD_EVENT
  if e.tag = 0 then
    if bits p 10 6 ≠ 0 then bad else
    b.each (List.range 6) fun b k => putBack (bits p 0 4) (bits p 4 6 + k) (bits p (16 + 8 * k) 8) b
  else if e.tag = 1 then
    if bits p 28 36 ≠ 0 then bad else
    b.each ((List.range 16).filter fun r => decide (bits p 0 4 ≤ r ∧ r ≤ bits p 4 4)) fun b r =>
      b.each ((List.range 64).filter fun c => decide (bits p 8 6 ≤ c ∧ c ≤ bits p 14 6)) fun b c => putBack r c (bits p 20 8) b
  else if e.tag = 2 then
    if p ≠ 0 then bad else { b with gio := { b.gio with commitDue := true } }
  else bad

/-- The event is of the tag, or of no tag of R549. -/
def signWants (tag : Nat) (e : Ev) : Bool := decide (e.tag = tag) || decide (e.tag > 2)

def execPixels (s : State) : Outcome State Fault Refusal := onBody (gioTake 0 (signWants 0) signContent) s
def execFill (s : State) : Outcome State Fault Refusal := onBody (gioTake 0 (signWants 1) signContent) s
def execSignCommit (s : State) : Outcome State Fault Refusal := onBody (gioTake 0 (signWants 2) signContent) s

def signCmdCommit (b : Body) : Body := { b with gio := { b.gio with commitDue := true } }
def signCmdClear (b : Body) : Body := { b with gio := { b.gio with clearDue := true } }
def execSignCmdCommit (s : State) : Outcome State Fault Refusal := onBody signCmdCommit s
def execClearOpen (s : State) : Outcome State Fault Refusal := onBody signCmdClear s

/-! ### The sign: port faults (R560) -/

/-- A short of R58: VSIGN goes off. -/
def signPort (b : Body) : Body :=
  if !signOn b then b else
  let b := { b.mark GIO.SIGN_STAT.PORT_FAULT true with gio := { b.gio with portOff := true, latched := false, portAt := b.clock.cyc } }
  signStatus (raise 0x0A06 b.gio.retries 0 b)

def execSignPort (s : State) : Outcome State Fault Refusal := onBody signPort s

/-- VSIGN is on again and the fault is gone. -/
def portClear (b : Body) : Body :=
  signStatus { b.mark GIO.SIGN_STAT.PORT_FAULT false with gio := { b.gio with portOff := false, latched := false, retries := 0 } }

/-- A retry 10 s after the fault or the last retry: it holds, or it fails; after the third the fault is latched. -/
def signPortRetry (ok : Bool) (b : Body) : Body :=
  if !b.gio.portOff || b.gio.latched || decide (sinceS b b.gio.portAt < 10) then b
  else if ok then portClear b
  else
    let n := b.gio.retries + 1
    raise 0x0A06 n 0 { b with gio := { b.gio with retries := n, latched := decide (n ≥ 3), portAt := b.clock.cyc } }

def execSignPortRetry (ok : Bool) (s : State) : Outcome State Fault Refusal := onBody (signPortRetry ok) s

/-- GIO.SIGN_CMD.RETRY. -/
def signRetry (b : Body) : Body := if b.gio.portOff then portClear b else b

def execRetry (s : State) : Outcome State Fault Refusal := onBody signRetry s

end Sys2Proof.Machine
end

