-- ==== Sys2Proof/Machine/Ring.lean ====
section
/-! DEFINITION. Machine/Ring.lean: ring protection (R397 to R400): the ERPS engine with the options of R397. The state
machine is that of ITU-T G.8032, clause 10 (PRESUMED where R397 to R400 do not state it). -/

namespace Sys2Proof.Machine

/-! ### Frames -/

/-- The other ring port. -/
def otherPort (p : Nat) : Nat := 1 - p

/-- An R-APS message of the module (R397): request, RB, DNF and BPR. -/
def rapsFrame (b : Body) (req : Nat) (rb dnf : Bool) (bpr : Nat) : List Nat :=
  [0x01, 0x19, 0xA7, 0, 0, b.get SW.ERPS_CTL.RING_ID] ++ toBe 6 b.nv.mac ++ [0x81, 0x00] ++
    toBe 2 (7 * 2 ^ 13 + b.get SW.ERPS_CTL.RAPS_VID) ++ [0x89, 0x02] ++
    [b.get SW.ERPS_CTL.MEL * 32 + 1, 40, 0, 32] ++
    [req * 16, (if rb then 128 else 0) + (if dnf then 64 else 0) + bpr * 32] ++ toBe 6 b.nv.mac ++
    List.replicate 24 0 ++ [0]

/-- The module's R-APS goes out on every ring port whose link is up, blocked or not (R399), in the high class (R393). -/
def sendRaps (req : Nat) (rb dnf : Bool) (bpr : Nat) (b : Body) : Body :=
  b.each [0, 1] fun b p => if portUp b p then sendOut p true false false (withFcs (rapsFrame b req rb dnf bpr)) b else b

/-! ### The engine -/

abbrev rNR := 0
abbrev rMS := 7
abbrev rSF := 11
abbrev rFS := 13

def flushFdb (b : Body) : Body := { b with sw := { b.sw with fdb := [] } }
def blockPort (p : Nat) (v : Bool) (b : Body) : Body := b.mark SW.PORT_STAT.BLOCKED v p
def erpsState (b : Body) : Nat := b.get SW.ERPS_STAT.STATE

/-- A state is entered: a change is counted, recorded and raises SW's interrupt (R400). -/
def setErps (n : Nat) (b : Body) : Body :=
  if erpsState b = n then b else
  let b := blockRecord 4 0x002C n ((b.put SW.ERPS_STAT.STATE n).bump SW.ERPS_STAT.CHANGES)
  { b with sw := { b.sw with irq := true } }

/-- Ring port `p` is failed: a signal failure is declared for it. -/
def portFailed (b : Body) (p : Nat) : Bool := b.sw.erps.failed.contains p

/-- Every port that is not failed is unblocked. -/
def unblockGood (b : Body) : Body := b.each [0, 1] fun b p => if portFailed b p then b else blockPort p false b

def stopTimers (b : Body) : Body := (b.mark SW.ERPS_STAT.WTR false).mark SW.ERPS_STAT.WTB false
def startGuard (b : Body) : Body := { b with sw := { b.sw with erps := { b.sw.erps with guard := some b.clock.cyc } } }
/-- `ms` milliseconds have passed since TCXO cycle `t`. -/
def elapsed (b : Body) (t ms : Nat) : Bool := decide (t + msCyc ms ≤ b.clock.cyc)
/-- GUARD in ms. -/
def guardMs (b : Body) : Nat := 10 * b.get SW.ERPS_TMR.GUARD
/-- The guard timer runs. -/
def guardRuns (b : Body) : Bool := b.sw.erps.guard.any fun t => !elapsed b t (guardMs b)
/-- WTR or WTB starts. -/
def startWait (f : Fld) (b : Body) : Body :=
  { b.mark f true with sw := { b.sw with erps := { b.sw.erps with wait := b.clock.cyc } } }
def setCommand (c : Option Nat) (b : Body) : Body := { b with sw := { b.sw with erps := { b.sw.erps with command := c } } }
def ringOwner (b : Body) : Bool := b.flag SW.ERPS_CTL.OWNER
def revertive (b : Body) : Bool := b.flag SW.ERPS_CTL.REVERTIVE
def rplPort (b : Body) : Nat := b.get SW.ERPS_CTL.RPL_PORT
/-- A ring port is blocked. -/
def anyBlocked (b : Body) : Bool := b.flag SW.PORT_STAT.BLOCKED 0 || b.flag SW.PORT_STAT.BLOCKED 1
/-- The owner of a revertive ring starts wait-to-restore, or wait-to-block after a command. -/
def startWtr (b : Body) : Body := if ringOwner b && revertive b then startWait SW.ERPS_STAT.WTR b else b
def startWtb (b : Body) : Body := if ringOwner b && revertive b then startWait SW.ERPS_STAT.WTB b else b

/-- The port a switch or failure names is blocked and the other one passes. A port that was blocked already leaves no path to
learn anew: the message says so with DNF, and only a failure flushes the table all the same (R397, R400). -/
def blockOnly (p req : Nat) (b : Body) : Body :=
  let o := otherPort p
  let was := b.flag SW.PORT_STAT.BLOCKED p
  let b := blockPort p true b
  let b := if portFailed b o then b else blockPort o false b
  let b := sendRaps req false was p b
  if was && decide (req ≠ rSF) then b else flushFdb b

/-- A local signal failure on port `p` (R400): below a forced switch, local or remote, it waits. -/
def localSf (p : Nat) (b : Body) : Body :=
  if erpsState b = 0 ∨ erpsState b = 4 then b
  else setErps 2 (setCommand none (stopTimers (blockOnly p rSF b)))

/-- An operator command ends: the node goes to PENDING, and a failure that stands is taken next. -/
def endCommand (b : Body) : Body :=
  let b := setCommand none b
  let b := if anyBlocked b then startWtb (sendRaps rNR false false 0 (startGuard b)) else startWtb b
  let b := setErps 5 b
  match b.sw.erps.failed with
  | p :: _ => localSf p b
  | [] => b

/-- The engine starts (R398): the owner blocks its RPL port, another node one ring port, and a failure that stands is taken. -/
def ringStart (b : Body) : Body :=
  let b := { b with sw := { b.sw with erps := { b.sw.erps with guard := none, command := none, pairs := [] } } }
  let p := if ringOwner b then rplPort b else 0
  let b := blockPort (otherPort p) false (blockPort p true b)
  let b := setErps 5 (startWtr (sendRaps rNR false false p (stopTimers b)))
  b.each b.sw.erps.failed fun b p => localSf p b

/-- The engine stops with EN 0. -/
def ringStop (b : Body) : Body :=
  let b := { b with sw := { b.sw with erps := { b.sw.erps with guard := none, command := none, pairs := [] } } }
  setErps 0 (blockPort 0 false (blockPort 1 false (stopTimers b)))

/-- The engine follows SW.ERPS_CTL.EN. -/
def ringFollow (b : Body) : Body :=
  if b.flag SW.ERPS_CTL.EN && decide (erpsState b = 0) then ringStart b
  else if !b.flag SW.ERPS_CTL.EN && decide (erpsState b ≠ 0) then ringStop b
  else b

/-- The RPL owner blocks its RPL port and the ring is idle again. -/
def ringRestore (b : Body) : Body :=
  let p := rplPort b
  let b := stopTimers b
  if b.flag SW.PORT_STAT.BLOCKED p then setErps 1 (blockPort (otherPort p) false (sendRaps rNR true true p b))
  else
    let b := sendRaps rNR true false p (blockPort p true b)
    setErps 1 (flushFdb (blockPort (otherPort p) false b))

/-! ### Events -/

/-- Port `p`'s failure clears. -/
def clearSf (p : Nat) (b : Body) : Body :=
  let was := portFailed b p
  let b := { b with sw := { b.sw with erps := { b.sw.erps with
    failed := b.sw.erps.failed.filter (· ≠ p), holdoff := b.sw.erps.holdoff.filter fun x => decide (x.1 ≠ p) } } }
  if was && decide (erpsState b = 2) && decide (b.sw.erps.failed = []) then
    setErps 5 (startWtr (sendRaps rNR false false 0 (startGuard b)))
  else b

/-- The hold-off time of port `p` has passed (R400): the failure is declared. -/
def declareSf (p : Nat) (b : Body) : Body :=
  let b := { b with sw := { b.sw with erps := { b.sw.erps with
    holdoff := b.sw.erps.holdoff.filter fun x => decide (x.1 ≠ p), failed := b.sw.erps.failed.filter (· ≠ p) ++ [p] } } }
  if b.flag SW.ERPS_CTL.EN then localSf p b else b

/-- Ring port `p` lost its link: the hold-off timer starts, or the failure is declared at once when it is 0. -/
def ringLoss (p : Nat) (b : Body) : Body :=
  if b.get SW.ERPS_TMR.HOLDOFF = 0 then declareSf p b
  else { b with sw := { b.sw with erps := { b.sw.erps with holdoff := (b.sw.erps.holdoff.filter fun x => decide (x.1 ≠ p)) ++ [(p, b.clock.cyc)] } } }

/-- Forced switch on port `p`: above everything but a clear. -/
def forcedSwitch (p : Nat) (b : Body) : Body :=
  if erpsState b = 0 then b else setErps 4 (setCommand (some p) (stopTimers (blockOnly p rFS b)))

/-- Manual switch on port `p`: only in IDLE or PENDING. -/
def manualSwitch (p : Nat) (b : Body) : Body :=
  if erpsState b = 1 ∨ erpsState b = 5 then setErps 3 (setCommand (some p) (stopTimers (blockOnly p rMS b))) else b

/-- Clear: an operator command ends; in PENDING the owner restores the ring at once. -/
def ringClear (b : Body) : Body :=
  if (erpsState b = 3 ∨ erpsState b = 4) ∧ b.sw.erps.command.isSome then endCommand b
  else if erpsState b = 5 && ringOwner b then ringRestore b
  else b

/-- Wait-to-restore or wait-to-block expires in the owner. -/
def waitExpiry (b : Body) : Body := if erpsState b = 5 && ringOwner b then ringRestore b else stopTimers b

def guardExpiry (b : Body) : Body :=
  if guardRuns b then b else { b with sw := { b.sw with erps := { b.sw.erps with guard := none } } }

/-- HOLDOFF has passed for port `p`. -/
def holdoffDue (b : Body) (p : Nat) : Bool :=
  b.sw.erps.holdoff.any fun x => decide (x.1 = p) && elapsed b x.2 (100 * b.get SW.ERPS_TMR.HOLDOFF)
/-- WTR_MIN minutes of wait-to-restore have passed. -/
def wtrDue (b : Body) : Bool := b.flag SW.ERPS_STAT.WTR && elapsed b b.sw.erps.wait (60000 * b.get SW.ERPS_TMR.WTR_MIN)
/-- Wait-to-block has passed: the guard time and 5 s. -/
def wtbDue (b : Body) : Bool := b.flag SW.ERPS_STAT.WTB && elapsed b b.sw.erps.wait (guardMs b + 5000)

/-- The flush rule of clause 10.1.10: a new pair of node ID and BPR on a port flushes, unless the other port holds it or
DNF is set; a plain NR deletes the port's pair. -/
def rapsFlush (m : Raps) (b : Body) : Body :=
  let held := fun q => (b.sw.erps.pairs.find? fun x => decide (x.1 = q)).map (·.2)
  let rest := b.sw.erps.pairs.filter fun x => decide (x.1 ≠ m.port)
  let put := fun (l : List (Nat × Nat × Nat)) (b : Body) => { b with sw := { b.sw with erps := { b.sw.erps with pairs := l } } }
  if m.req = rNR ∧ !m.rb then put rest b
  else if held m.port = some (m.node, m.bpr) then b
  else
    let b1 := put (rest ++ [(m.port, m.node, m.bpr)]) b
    if m.dnf ∨ held (otherPort m.port) = some (m.node, m.bpr) then b1 else flushFdb b1

/-- A remote request in each state. -/
def rapsState (m : Raps) (b : Body) : Body :=
  let st := erpsState b
  if m.req = rFS then
    if st = 4 then b else setErps 4 (setCommand none (stopTimers (blockPort 0 false (blockPort 1 false b))))
  else if m.req = rSF then
    if st = 4 ∨ (st = 2 ∧ b.sw.erps.failed ≠ []) then b
    else setErps 2 (setCommand none (stopTimers (unblockGood b)))
  else if m.req = rMS then
    if st = 1 ∨ st = 5 then setErps 3 (stopTimers (unblockGood b))
    else if st = 3 ∧ b.sw.erps.command.isSome then endCommand b
    else b
  else if m.req = rNR ∧ m.rb then
    if st = 1 then (if ringOwner b then b else unblockGood b)
    else if st = 5 then (if ringOwner b then b else setErps 1 (unblockGood b))
    else if b.sw.erps.command.isSome ∨ b.sw.erps.failed ≠ [] then b
    else setErps 5 b
  else if m.req = rNR then
    if st = 1 ∨ st = 5 then (if !ringOwner b ∧ m.node > b.nv.mac then unblockGood b else b)
    else if b.sw.erps.command.isSome ∨ b.sw.erps.failed ≠ [] then b
    else if st = 2 then setErps 5 (startWtr b)
    else setErps 5 (startWtb b)
  else b

/-- The message is of the configured channel (R397). -/
def rapsMine (b : Body) (m : Raps) : Bool :=
  decide (m.vid = b.get SW.ERPS_CTL.RAPS_VID) && decide (m.mel = b.get SW.ERPS_CTL.MEL) && decide (m.ring = b.get SW.ERPS_CTL.RING_ID)

/-- The R-APS message that a frame carries on ring port `p`, in the layout of G.8032. -/
def rapsOf (p : Nat) (f : List Nat) : Raps :=
  { port := p, req := u8 f 22 / 16, rb := decide (bits (u8 f 23) 7 1 = 1), dnf := decide (bits (u8 f 23) 6 1 = 1),
    bpr := bits (u8 f 23) 5 1, node := b48 f 24, vid := b16 f 14 % 4096, mel := u8 f 18 / 32, ring := frameDst f % 256 }

/-- An R-APS message: not while the guard timer runs, not the module's own, and only of the configured channel. Event
messages are not supported (R397). -/
def raps (m : Raps) (b : Body) : Body :=
  if erpsState b = 0 || guardRuns b || !rapsMine b m || decide (m.node = b.nv.mac) || decide (m.port > 1)
      || !portUp b m.port || decide (m.req ∉ [rNR, rMS, rSF, rFS]) then b
  else rapsState m (rapsFlush m b)

end Sys2Proof.Machine
end

