-- ==== Sys2Proof/Machine/Sw.lean ====
section
/-! DEFINITION. Machine/Sw.lean: the meanings of SW's commands and events (R62, R64, R89, R391 to R400). -/

namespace Sys2Proof.Machine

open Host

/-! ### Frames -/

/-- TB stamps Sync and Delay_Req (R254). -/
def stamped (b : Body) (p : Nat) (f : List Nat) : Bool :=
  isPtp f && decide (u8 f 14 % 16 ≤ 1) && b.flag TB.CTL.RUN && b.bit TB.CTL.PORT_EN p

/-- The corrected receive time on port `p`, in ns, of a frame of `n` bytes with its FCS that stands whole there now (R255): its SFD
passed 8 ns per byte earlier at 1 Gbit/s (R254). -/
def inStamp (b : Body) (p n : Nat) : Int := (((tnNs b - 8 * n) * 1000 : Nat) - sgn 32 (b.get TB.ING_LAT.PS p) + 500) / 1000

/-! ### Forwarding -/

/-- The learned addresses that have not aged out (R392). -/
def fdbLive (b : Body) : List FdbEntry :=
  b.sw.fdb.filter fun e => decide (b.clock.cyc - e.seen < b.get SW.FDB.AGE_S * 26000000)

/-- SW learns a source address from a ring port (R392): a full table learns nothing new. -/
def fdbLearn (p : Nat) (f : List Nat) (b : Body) : Body :=
  if p > 1 ∨ u8 f 6 % 2 = 1 then b else
  let m := frameSrc f
  let rest := (fdbLive b).filter fun e => decide (e.mac ≠ m)
  if rest.length ≥ 4096 then b
  else { b with sw := { b.sw with fdb := rest ++ [⟨m, p, b.clock.cyc⟩] } }

def fdbPort (b : Body) (mac : Nat) : Option Nat := ((fdbLive b).find? fun e => decide (e.mac = mac)).map (·.port)

/-- A transit frame joins the class of ring port `q`, or finds no room in the 256 KiB of which a port holds at most 128 KiB
(R393). -/
def transitSend (q : Nat) (wire : List Nat) (b : Body) : Body :=
  if transitHeld b q + wire.length > 131072 ∨ transitHeld b 0 + transitHeld b 1 + wire.length > 262144 then b.bump SW.DROP.BUF 1 q
  else sendOut q (highFrame b wire) true false wire b

/-- The network part that a Router Advertisement's options (RFC 4861) offer for autoconfiguration; `n` bounds their number. -/
def netPartIn : Nat → List Nat → Option (List Nat)
  | 0, _ => none
  | n + 1, l =>
    if l = [] ∨ u8 l 1 = 0 then none
    else if u8 l 0 = 3 ∧ u8 l 1 = 4 ∧ u8 l 2 = 64 ∧ bits (u8 l 3) 6 1 = 1 then some (bytesAt l 16 8)
    else netPartIn n (l.drop (8 * u8 l 1))

/-- Stateless autoconfiguration learns the network part from a Router Advertisement (R476). -/
def routerAdv (f : List Nat) (b : Body) : Body :=
  if frameType f = 0x86DD ∧ u8 f 20 = 58 ∧ u8 f 54 = 134 then
    let l := (f.take (54 + b16 f 18)).drop 70
    match netPartIn l.length l with
    | some p => { b with sha := { b.sha with learnt := p } }
    | none => b
  else b

/-- A frame reaches the CPU port: an item of Q13 (R395), or one more refused by it (R385). -/
def toCpu (p : Nat) (f : List Nat) (flood : Bool) (b : Body) : Body :=
  let ts := stamped b p f
  let flags := (if isPtp f then 1 else 0) + (if ts then 2 else 0) + (if isRaps b f then 4 else 0) + (if flood then 8 else 0)
  let item := toLe 2 f.length ++ [p, flags] ++ toLe 4 (if ts then uns 32 (inStamp b p (f.length + 4)) else 0) ++ List.replicate 8 0 ++ f
  let (b, ok) := qPut 13 item b
  if ok then (if coresServe b then routerAdv f b else b) else b.bump SW.DROP2.QUEUE 1 p

/-- Whether a frame received on ring port `p` may leave by the other one (R398, R399, R251). -/
def mayForward (b : Body) (p : Nat) (f : List Nat) : Bool :=
  b.flag SW.ERPS_CTL.EN && !b.flag SW.PORT_STAT.BLOCKED p && !b.flag SW.PORT_STAT.BLOCKED (otherPort p) &&
  portUp b (otherPort p) && !(isPtp f && b.flag TB.CTL.BC)

/-- A frame stands whole at port `p`. `frame` runs from the destination address to the last payload byte (R391 to R399). A group
frame goes to every allowed port and is a flooded one; PTP that a boundary clock terminates goes nowhere else (R251). -/
def frameIn (p : Nat) (frame : List Nat) (fcsOk : Bool) (b : Body) : Body :=
  if p > 2 || !portUp b p then b
  else if !fcsOk || decide (frame.length < 60) || decide (frame.length > 1518) || isPause frame then b.bump SW.DROP.ERR 1 p
  else
    let ctrl := isPtp frame || isRaps b frame
    -- R399: the ERPS engine takes R-APS too, once the frame has gone where the port allowed it
    let engine := fun (b : Body) => if p < 2 && isRaps b frame && decide (u8 frame 19 = 40) then raps (rapsOf p frame) b else b
    if p < 2 && b.flag SW.PORT_STAT.BLOCKED p then (if ctrl then engine (toCpu p frame false b) else b)
    else
      let b := fdbLearn p frame b
      let wire := frame ++ toLe 4 (crc32 frame)
      let fwd := decide (p < 2) && mayForward b p frame
      if ctrl || isGroup frame then
        let b := if fwd then transitSend (otherPort p) wire b else b
        engine (toCpu p frame (isGroup frame && !(isPtp frame && b.flag TB.CTL.BC)) b)
      else if frameDst frame = b.nv.mac then toCpu p frame false b
      else match fdbPort b (frameDst frame) with
        | some q => if p = 2 then b else if q ≠ p ∧ fwd then transitSend q wire b else b
        | none =>
          let b := if fwd then transitSend (otherPort p) wire b else b
          toCpu p frame true b

def execSwFrameReceive (port : Nat) (frame : List Nat) (fcsOk : Bool) (s : State) : Outcome State Fault Refusal :=
  onRom (frameIn port (frame.map (· % 256)) fcsOk) s

/-- SW takes the oldest item of Q10 + p (R396): a bad header is counted, data for a blocked port is dropped (R399), and a
frame whose link is down goes nowhere. -/
def frameOut (p : Nat) (b : Body) : Body :=
  if p > 2 then b else
  match qTake (10 + p) b with
  | (none, b) => b
  | (some item, b) =>
    let len := u16 item 0
    let flags := u8 item 3
    let f := (item.drop 16).take len
    if u8 item 2 ≠ 0 || decide (flags > 3) || (bytesAt item 4 12).any (· ≠ 0) || decide (len < 14) || decide (len > 1518)
        || decide (item.length < 16 + len) then b.bump SW.DROP.ERR 1 p
    else if !mayLeave b p f then b.bump SW.DROP2.QUEUE 1 p
    else if !portUp b p then b
    else sendOut p (decide (flags ≥ 2) || highFrame b f) false (decide (flags % 2 = 1)) (withFcs f) b

def execCpuFrameTransmit (port : Nat) (s : State) : Outcome State Fault Refusal := onRom (frameOut port) s

/-! ### Links -/

/-- MEDIA of ring port `p`: 0 COPPER, 1 FIBRE; 2 and 3 are AUTO (R62). It is SW.CTL's alone: R62 lets the pattern set the medium,
but no section of a pattern carries it (DESIGN CHOICE, log entry 92). -/
def mediaOf (b : Body) (p : Nat) : Nat := if p = 0 then b.get SW.CTL.MEDIA_A else b.get SW.CTL.MEDIA_B

/-- An SFP module stands in the cage and is powered (R64). -/
def cageOn (b : Body) (p : Nat) : Bool := b.flag SW.PORT_STAT.SFP p && !b.flag SW.PORT_STAT.SFP_PWR p

/-- Port `p` takes a medium. TIME's latencies follow it in Basic mode (R277). -/
def setMedium (p : Nat) (fibre : Bool) (b : Body) : Body :=
  if b.flag SW.PORT_STAT.FIBRE p = fibre then b else
  let b := b.mark SW.PORT_STAT.FIBRE fibre p
  if expert b 2 then b else portLatency p b

/-- Without a link a ring port uses the cage with MEDIA FIBRE alone (R62). -/
def mediumFollow (p : Nat) (b : Body) : Body :=
  if p > 1 || b.flag SW.PORT_STAT.LINK p then b else setMedium p (decide (mediaOf b p = 1)) b

/-- The medium of port `p`'s link is one that MEDIA selects. -/
def linkFits (b : Body) (p : Nat) : Bool :=
  decide (p > 1) || !b.flag SW.PORT_STAT.LINK p ||
    (if b.flag SW.PORT_STAT.FIBRE p then decide (mediaOf b p ≠ 0) else decide (mediaOf b p ≠ 1))

/-- Port `p`'s link goes down, and what waited there is gone (DESIGN CHOICE, log entry 78); on the SEAM port the seam with it
(R454). -/
def linkDown (p : Nat) (b : Body) : Body :=
  if !b.flag SW.PORT_STAT.LINK p then b else
  let b := dropWaiting p (mediumFollow p (b.mark SW.PORT_STAT.LINK false p))
  if p < 2 then ringLoss p b else if seamRun b then reselect (seamDown b) else b

def execLinkLoss (port : Nat) (s : State) : Outcome State Fault Refusal :=
  onRom (fun b => if port < 3 then linkDown port b else b) s

def execHoldoffExpiry (port : Nat) (s : State) : Outcome State Fault Refusal :=
  onBody (fun b => if holdoffDue b port && !b.flag SW.PORT_STAT.LINK port then declareSf port b else b) s

/-- The medium a port's link may come up on (R62). -/
def mediumOk (b : Body) (p : Nat) (fibre : Bool) : Bool :=
  if p = 2 then !fibre
  else if fibre then cageOn b p && decide (mediaOf b p ≥ 1)
  else decide (mediaOf b p = 0) || (decide (mediaOf b p ≥ 2) && !(b.flag SW.PORT_STAT.LINK p && b.flag SW.PORT_STAT.FIBRE p))

/-- The link of port `p` comes up on a medium. -/
def linkUp (p : Nat) (fibre : Bool) (b : Body) : Body :=
  if p > 2 || !b.bit SW.CTL.PORT_EN p || !b.flag SYS.CLK_STAT.ETH_LOCK || !mediumOk b p fibre then b else
  let b := setMedium p fibre (b.mark SW.PORT_STAT.LINK true p)
  if p < 2 then clearSf p b else b

def execLinkUp (port : Nat) (fibre : Bool) (s : State) : Outcome State Fault Refusal := onRom (linkUp port fibre) s

/-- An SFP module stands in the cage; one above 1.0 W stays powered off and is reported (R64). -/
def sfpInsert (p : Nat) (high : Bool) (b : Body) : Body :=
  if p > 1 then b else (b.mark SW.PORT_STAT.SFP true p).mark SW.PORT_STAT.SFP_PWR high p

def execSfpInsert (port : Nat) (high : Bool) (s : State) : Outcome State Fault Refusal := onRom (sfpInsert port high) s

def sfpRemove (p : Nat) (b : Body) : Body :=
  if p > 1 then b else
  let b := if b.flag SW.PORT_STAT.FIBRE p then linkDown p b else b
  (b.mark SW.PORT_STAT.SFP false p).mark SW.PORT_STAT.SFP_PWR false p

def execSfpRemove (port : Nat) (s : State) : Outcome State Fault Refusal := onRom (sfpRemove port) s

/-- ETHCLK loses lock (R89): every port goes down until it relocks. -/
def ethUnlock (b : Body) : Body :=
  let up := ([0, 1, 2].filter fun p => b.flag SW.PORT_STAT.LINK p).map fun p => (p, b.flag SW.PORT_STAT.FIBRE p)
  let b := raise 0x0014 0 0 ((b.mark SYS.CLK_FAULT.ETH_UNLOCK true).mark SYS.CLK_STAT.ETH_LOCK false)
  let b := { b with sw := { b.sw with noLink := up } }
  b.each up fun b p => linkDown p.1 b

def execEthUnlock (s : State) : Outcome State Fault Refusal :=
  onMonitor (fun b => if b.flag SYS.CLK_STAT.ETH_LOCK then ethUnlock b else b) s

/-- The ports that went down return on the medium they had. -/
def ethRelock (b : Body) : Body :=
  if b.flag SYS.CLK_STAT.ETH_LOCK then b else
  let l := b.sw.noLink
  let b := { b.mark SYS.CLK_STAT.ETH_LOCK true with sw := { b.sw with noLink := [] } }
  b.each l fun b p => linkUp p.1 p.2 b

def execEthRelock (s : State) : Outcome State Fault Refusal := onMonitor ethRelock s

/-! ### Ring protection and the address table -/

def execRapsReceived (m : Raps) (s : State) : Outcome State Fault Refusal := onBody (raps m) s
def execForcedSwitch (port : Nat) (s : State) : Outcome State Fault Refusal := onBody (forcedSwitch (port % 2)) s
def execManualSwitch (port : Nat) (s : State) : Outcome State Fault Refusal := onBody (manualSwitch (port % 2)) s
def execClear (s : State) : Outcome State Fault Refusal := onBody ringClear s
def execWtrExpiry (s : State) : Outcome State Fault Refusal :=
  onBody (fun b => if wtrDue b then waitExpiry b else b) s
def execWtbExpiry (s : State) : Outcome State Fault Refusal :=
  onBody (fun b => if wtbDue b then waitExpiry b else b) s
def execGuardExpiry (s : State) : Outcome State Fault Refusal := onBody guardExpiry s
def execFdbFlush (s : State) : Outcome State Fault Refusal := onBody flushFdb s

/-- A learned address ages out AGE_S seconds after it was last seen (R392). -/
def fdbAge (mac : Nat) (b : Body) : Body :=
  let old := fun (e : FdbEntry) => decide (e.mac = mac) && decide (b.get SW.FDB.AGE_S * 26000000 ≤ b.clock.cyc - e.seen)
  { b with sw := { b.sw with fdb := b.sw.fdb.filter fun e => !old e } }

def execFdbAgeing (mac : Nat) (s : State) : Outcome State Fault Refusal := onBody (fdbAge mac) s

end Sys2Proof.Machine
end

