-- ==== Sys2Proof/Machine/Chain.lean ====
section
/-! DEFINITION. Machine/Chain.lean: image pieces handed on along a chain through Q28 (R496, R508). -/

namespace Sys2Proof.Machine

/-- The payload of an IMAGE_PIECE with CHAIN set (R485). -/
def chainPiece (x : Staging) (k : Nat) : List Nat :=
  let d := (x.piece k).getD []
  toBe 4 x.id ++ toBe 4 k ++ toBe 4 x.cnt ++ toBe 2 d.length ++ [1, 0] ++ d

/-- Pieces that wait enter Q28 while it admits them; an item there is the successor's MOD and the payload. -/
def chainFill : Nat → Body → Body
  | 0, b => b
  | n + 1, b => match b.sha.chainQ with
    | [] => b
    | (m, k, i) :: t =>
      let rest := { b with sha := { b.sha with chainQ := t } }
      match stagingOf b k with
      | none => chainFill n rest
      | some x =>
        if !x.holds i then chainFill n rest else
        let l := toBe 2 m ++ chainPiece x i
        if qAdmits b 28 (cellsFor l.length) then chainFill n (qPut 28 l rest).1 else b

/-- The runtime takes the oldest item of Q28 into the send queue of its successor, which holds at most 256 (R495). -/
def chainTake (b : Body) : Option Body :=
  if !coresServe b then none else
  match (queueOf b 28).items with
  | [] => none
  | it :: _ =>
    let m := beNat ((itemBytes b it).take 2)
    if (queueFor b m).length ≥ 256 then none else
    match qTake 28 b with
    | (some l, b) => some (shRequest m 0x04 (l.drop 2) b)
    | (none, _) => none

def chainPumpN : Nat → Body → Body
  | 0, b => b
  | n + 1, b => match chainTake (chainFill b.sha.chainQ.length b) with
    | some b => chainPumpN n b
    | none => b

def chainPump (b : Body) : Body := chainPumpN (b.sha.chainQ.length + (queueOf b 28).items.length) (chainFill b.sha.chainQ.length b)

/-- The modules this one forwards pieces to: the successor of UPD.CHAIN, and the heads of the chains it started. -/
def chainDests (b : Body) : List Nat :=
  let own := if b.flag UPD.CHAIN.EN then [b.get UPD.CHAIN.NEXT] else []
  own ++ (b.sha.chains.filterMap fun c => c.members[1]?).filter fun m => !own.contains m

/-- A piece was marked (R508). -/
def chainMark (area k : Nat) (b : Body) : Body :=
  chainPump { b with sha := { b.sha with chainQ := b.sha.chainQ ++ (chainDests b).map fun m => (m, area, k) } }

/-- Every marked piece goes to a new successor, from the lowest upward (R508). -/
def chainAll (m : Nat) (b : Body) : Body :=
  let l := b.nv.staging.flatMap fun p => ((List.range p.2.cnt).filter p.2.holds).map fun i => (m, p.1, i)
  chainPump { b with sha := { b.sha with chainQ := (b.sha.chainQ.filter fun q => decide (q.1 ≠ m)) ++ l } }

/-- Forwarding to a module ends. -/
def chainStop (m : Nat) (b : Body) : Body :=
  { b with sha := { b.sha with chainQ := b.sha.chainQ.filter fun q => decide (q.1 ≠ m) } }

/-- A REG_WRITE of UPD.CHAIN to a module: it forwards to `next`, or ends its chain. -/
def chainTell (m : Nat) (next : Option Nat) (b : Body) : Body :=
  let v := match next with
    | some k => 2 ^ 16 + k
    | none => 0xFFFF
  if m = modNo b then b else
  shRequest m 0x02 (toBe 4 (UPD.CHAIN.word.at 0 0) ++ toBe 2 1 ++ toBe 2 0 ++ toBe 4 v) b

/-- Each member is told its successor. -/
def chainTellAll : List Nat → Body → Body
  | [], b => b
  | [m], b => chainTell m none b
  | m :: k :: t, b => chainTellAll (k :: t) (chainTell m (some k) b)

/-- UPD.CHAIN was written: a new successor is sent every marked piece; a manager whose successor is one of its managed
modules starts a chain of those from there on, in record order. -/
def chainFollow (b : Body) : Body :=
  let next := if b.flag UPD.CHAIN.EN then b.get UPD.CHAIN.NEXT else 0xFFFF
  if next = b.sha.chainNext then b else
  let old := b.sha.chainNext
  let b := chainStop old { b with sha := { b.sha with chainNext := next, chains := b.sha.chains.filter fun c => decide (c.members[1]? ≠ some old) } }
  if next = 0xFFFF then b else
  let ms := (managedMods b).dropWhile (· ≠ next)
  let b := if ms = [] then b else
    chainTellAll ms { b with sha := { b.sha with chains := b.sha.chains ++ [{ members := modNo b :: ms, counts := [], slow := [] }] } }
  chainAll next b

end Sys2Proof.Machine
end

