-- ==== Sys2Proof/Machine/LoomEvents.lean ====
section
/-! DEFINITION. Machine/LoomEvents.lean: the meanings of the Loom's own events: crossbar delivery, activations, timers, the
schedule table and tile control. -/

namespace Sys2Proof.Machine

open Host

/-- The Loom starts activations: RUN, not in hem, not standby (R135, R143), and no switch holds events (R115). -/
def loomRuns (b : Body) : Bool := b.flag LOOM.CTL.RUN && !inHem b && runsRules b && !b.flag LOOM.STAT.HELD

/-- The oldest event in the crossbar stands at every destination of its thread (R130). While a switch holds events at
ingress, nothing is delivered (R115). -/
def deliverNext (b : Body) : Body := match b.loom.xbar with
  | [] => b
  | e :: t =>
    if b.flag LOOM.STAT.HELD then b
    else { b with loom := { b.loom with xbar := t } }.each (threadDests b e.thread) fun b d => deliverTo e d b

def execEventDelivery (s : State) : Outcome State Fault Refusal := onBody deliverNext s

/-- The oldest event of an enabled tile's FIFO starts an activation: G0 to G2 are loaded (R135, R136). -/
def activate (t : Nat) (b : Body) : Body :=
  let x := tileOf b t
  if !loomRuns b || !b.flag LOOM.TILE_CTL.ENABLE t || x.act.isSome then b else
  match x.fifo with
  | [] => b
  | it :: rest =>
    let (g0, g1, g2, thr) := match it with
      | .event e port => (e.payload % 2 ^ 32, e.payload / 2 ^ 32, e.tag % 256 + port % 16 * 2 ^ 8 +
          (if e.late then 2 ^ 15 else 0) + e.thread % 256 * 2 ^ 16, e.thread)
      | .timer n => (0, 0, 2 ^ 12 + n % 4 * 2 ^ 13, 0)
    let b := setTile b t { x with fifo := rest, act := some { pc := 0, spent := 0, thread := thr, buf := [], cap := none } }
    let b := setG t 2 (BitVec.ofNat 32 g2) (setG t 1 (BitVec.ofNat 32 g1) (setG t 0 (BitVec.ofNat 32 g0) b))
    b.wrap LOOM.TILE_ACT.COUNT t

def execTileActivation (t : Nat) (s : State) : Outcome State Fault Refusal := onBody (activate t) s

/-- Timer `i` is the next of its tile to reach 0 and its count has run out: timers of one cycle go in ascending number. -/
def timerDue (b : Body) (t i : Nat) : Bool :=
  let at_ := tabGet (fun _ => 0) (tileOf b t).timers i
  decide (0 < at_ ∧ at_ ≤ b.clock.cyc) &&
  (tileOf b t).timers.all fun p => decide (p.2 = 0) || decide (at_ < p.2) || (decide (at_ = p.2) && decide (i ≤ p.1))

/-- A running timer reaches 0: it stops and its activation enters the FIFO, subject to R133 and R134 (R151). -/
def timerFires (t i : Nat) (b : Body) : Body :=
  if !timerDue b t i then b else
  let x := tileOf b t
  let b := setTile (ungate b) t { x with timers := timerSet x.timers i 0 }
  if inHem b || !runsRules b then b
  else if !b.flag LOOM.TILE_CTL.ENABLE t then b.bump LOOM.TILE_DROP.INGRESS 1 t
  else if x.fifo.length ≥ 16 then
    let b := b.bump LOOM.TILE_DROP.INGRESS 1 t
    if x.dropSeen then b else raise 0x0601 t 0 (setTile b t { tileOf b t with dropSeen := true })
  else setTile (sliceYield (16 + t) b) t { tileOf b t with fifo := x.fifo ++ [.timer i] }

def execTileTimer (t i : Nat) (s : State) : Outcome State Fault Refusal := onBody (timerFires t i) s

/-- The due entry whose occurrence is earliest, ties to the lower index (R157). -/
def firstDue (b : Body) : Option Nat :=
  (b.loom.sched.map (·.1)).foldl (fun r e =>
    if entryDue b e then match r with
      | none => some e
      | some f => if (schedOf b e).next < (schedOf b f).next ∨ ((schedOf b e).next = (schedOf b f).next ∧ e < f) then some e else some f
    else r) none

/-- One due entry fires, or is freed as expired (R154 to R157). It does not fire while the Loom starts no activation
(R161). LATE is a delay of more than 1 ms, which is 65.536 units of A. -/
def fireDue (b : Body) : Body := match firstDue b with
  | none => b
  | some e =>
    if inHem b || !runsRules b then b else
    let now := airTime b
    let occ := (schedOf b e).next
    let exp := schedExpiry b e
    if exp ≠ 0 ∧ exp ≤ now then
      blockRecord 6 e (schedThread b e) ((freeEntry e (ungate b)).bump LOOM.SCHED_STAT.EXPIRED)
    else
      let late := decide (now - occ ≥ 66)
      let ev : Ev := { payload := schedPayload b e, tag := schedTag b e, thread := schedThread b e, late := late,
                       src := 0x45, srcPort := 0 }
      let b := { ungate b with loom := { b.loom with xbar := b.loom.xbar ++ [ev] } }
      let b := if late then b.bump LOOM.SCHED_STAT.LATE else b
      if schedFlags b e / 2 % 2 = 0 then freeEntry e b
      else
        let p := schedPeriod b e * 65536
        let nxt := occ + ((now - occ) / p + 1) * p
        if exp ≠ 0 ∧ exp ≤ nxt then freeEntry e b
        else setSched b e { schedOf b e with next := nxt }

def execScheduleFire (s : State) : Outcome State Fault Refusal := onBody fireDue s

/-- LOOM.SCHED_CMD OP 1: arms entry `e` from its window words as a host entry; RESULT tells how it went. -/
def schedArmCmd (e : Nat) (b : Body) : Body :=
  if (schedOf b e).owner ≠ .free then b.put LOOM.SCHED_RES.RESULT 1
  else if !recordOk (schedFlags b e) (schedPeriod b e) || !schedThreadOk b (schedThread b e) then
    b.put LOOM.SCHED_RES.RESULT 2
  else (armEntry e .host b).put LOOM.SCHED_RES.RESULT 0

def execSchedArm (e : Nat) (s : State) : Outcome State Fault Refusal := onBody (coreAccess (schedArmCmd (e % 1024))) s

/-- LOOM.SCHED_CMD OP 2: cancels an armed entry of any owner. -/
def schedCancelCmd (e : Nat) (b : Body) : Body :=
  if (schedOf b e).owner.armed then (freeEntry e b).put LOOM.SCHED_RES.RESULT 0 else b.put LOOM.SCHED_RES.RESULT 3

def execSchedCancel (e : Nat) (s : State) : Outcome State Fault Refusal := onBody (coreAccess (schedCancelCmd (e % 1024))) s

/-- Clears the registers, local data, timers, FIFO and tile-armed entries of a tile (R127). -/
def clearTile (t : Nat) (b : Body) : Body :=
  let b := { b with regs := b.regs.filter fun p =>
    !(decide (LOOM.TILE_G.word.at t 0 ≤ p.1) && decide (p.1 < LOOM.TILE_G.word.at t 64)) &&
    !(decide (LOOM.DATA.word.at t 0 ≤ p.1) && decide (p.1 < LOOM.DATA.word.at t 1024)) }
  let b := setTile b t { tileOf b t with fifo := [], timers := [], writes := [] }
  b.each (b.loom.sched.map (·.1)) fun b e => if (schedOf b e).owner = .tile t then freeEntry e b else b

/-- LOOM.TILE_CTL.RESET: accepted only while ENABLE is 0. -/
def tileReset (t : Nat) (b : Body) : Body := if b.flag LOOM.TILE_CTL.ENABLE t then b else clearTile t b

def execTileReset (t : Nat) (s : State) : Outcome State Fault Refusal := onBody (coreAccess (tileReset (t % 64))) s

/-- LOOM.TILE_CTL.ENABLE: setting it resets CONSEC (R141). -/
def tileEnable (t : Nat) (v : Bool) (b : Body) : Body :=
  let b := b.mark LOOM.TILE_CTL.ENABLE v t
  if v then b.put LOOM.TILE_STAT.CONSEC 0 t else b

def execTileEnable (t : Nat) (v : Bool) (s : State) : Outcome State Fault Refusal := onBody (coreAccess (tileEnable (t % 64) v)) s

/-- A host write of code word `w`: refused while the tile is enabled, else stored, raising CODE_WORDS (R145). -/
def tileCodeWrite (t w v : Nat) (b : Body) : Body :=
  if b.flag LOOM.TILE_CTL.ENABLE t then b.mark LOOM.TILE_STAT.WR_REJ true t
  else (b.put LOOM.CODE.WORD v t w).put LOOM.TILE_CTL.CODE_WORDS (max (b.get LOOM.TILE_CTL.CODE_WORDS t) (w + 1)) t

def execTileCodeWrite (t w v : Nat) (s : State) : Outcome State Fault Refusal :=
  onBody (coreAccess (tileCodeWrite (t % 64) (w % 1024) v)) s

end Sys2Proof.Machine
end

