-- ==== Sys2Proof/Machine/Pattern.lean ====
section
/-! DEFINITION. Machine/Pattern.lean: the pattern container and its validation (R95 to R112): the checks of R109 in their order, with the
code, directory index and offset of R110. -/

namespace Sys2Proof.Machine

/-- A directory entry (R96): TYPE, INST, SVER, OFFSET, LENGTH, WORLD, the reserved bytes and DIGEST. -/
structure DirEnt where
  ty : Nat
  inst : Nat
  sver : Nat
  ofs : Nat
  len : Nat
  world : Nat
  rsv : Nat
  digest : List Nat
  deriving DecidableEq, Repr

/-- A failed check: code of R111, directory index, container offset (R110). -/
abbrev PatErr := Nat × Nat × Nat

def dirEnt (l : List Nat) (i : Nat) : DirEnt :=
  let e := bytesAt l (64 + 64 * i) 64
  ⟨u8 e 0, u8 e 1, u16 e 2, u32 e 4, u32 e 8, u8 e 12, u24 e 13, bytesAt e 16 48⟩
def dirOf (l : List Nat) : List DirEnt := (List.range (u16 l 0x0C)).map (dirEnt l)
def entBytes (l : List Nat) (e : DirEnt) : List Nat := bytesAt l e.ofs e.len
/-- The index of the first entry of a type. -/
def entIdx (es : List DirEnt) (ty inst : Nat) : Option Nat := es.findIdx? fun e => decide (e.ty = ty ∧ e.inst = inst)

/-- The first condition that fails, with its local offset. -/
def firstBad : List (Bool × Nat) → Option Nat
  | [] => none
  | (ok, o) :: t => if ok then firstBad t else some o

/-- ASCII order of the checks: the first error. -/
def firstErr : List (Unit → Option PatErr) → Option PatErr
  | [] => none
  | f :: t => match f () with
    | some e => some e
    | none => firstErr t

def zeros (l : List Nat) : Bool := l.all fun x => decide (x % 256 = 0)

/-! ### Steps 1 and 2 -/

def isPartial (l : List Nat) : Bool := decide (u16 l 6 % 2 = 1)

/-- Step 1: the header. DESIGN CHOICE (log entry 73): of several fields that fail, the first in this order gives the offset. -/
def stepHeader (l : List Nat) : Option PatErr :=
  (firstBad [
    (decide (64 ≤ l.length), 0), (decide (u32 l 0 = 0x5441504B), 0), (decide (u16 l 4 = 1), 4),
    (decide (u32 l 0x3C = crc32 (l.take 60)), 0x3C), (decide (u16 l 0x0E = 64), 0x0E),
    (decide (u32 l 8 = l.length ∧ l.length ≤ 2 ^ 20), 8),
    (decide (2 ≤ u16 l 0x0C ∧ u16 l 0x0C ≤ 96 ∧ 64 + 64 * u16 l 0x0C ≤ l.length), 0x0C),
    (decide (u16 l 6 ≤ 1), 6), (zeros (bytesAt l 0x34 8), 0x34),
    (decide (1 ≤ u32 l 0x10 ∧ u32 l 0x10 ≤ 0xFFFFFFFE), 0x10),
    (decide ((u32 l 0x14 = 0) = (u16 l 6 = 0)), 0x14)]).map fun o => (0x01, 0xFF, o)

/-- Whether a section is reached from the secure world by world word `blk` and the tile words (R98). -/
def sectWorld (blk tlo thi : Nat) (modesNs : Bool) (ty inst : Nat) : Option Nat :=
  let ce := bits blk 7 1
  let ofe := bits blk 8 1
  let gio := bits blk 10 1
  let w := fun s => some (1 - s)
  match ty with
  | 0x01 => none
  | 0x7F => none
  | 0x05 => w ce
  | 0x06 => w ce
  | 0x07 => some (if ce = 1 ∨ ofe = 1 then 0 else 1)
  | 0x08 => w ofe
  | 0x09 => w ofe
  | 0x0A => w (if inst < 32 then bits tlo inst 1 else bits thi (inst - 32) 1)
  | 0x10 => w gio
  | 0x14 => some (if modesNs then 1 else 0)
  | _ => some 0

/-- Every function a MODES section lists is non-secure (R98, R118); one whose COUNT does not fit counts as secure. -/
def modesNs (blk : Nat) (m : List Nat) : Bool :=
  decide (m.length = 4 + 2 * u8 m 0) &&
  (List.range (u8 m 0)).all fun i =>
    let f := u8 m (4 + 2 * i)
    decide (f = 0 ∧ bits blk 7 1 = 0) || decide (f = 1 ∧ bits blk 8 1 = 0) ||
      decide ((f = 6 ∨ f = 7) ∧ bits blk 10 1 = 0)

/-- The world map that judges a container: its own for a full pattern, the running one for a partial (R98). -/
def judgeMap (b : Body) (l : List Nat) (es : List DirEnt) : Nat × Nat × Nat :=
  if isPartial l then (b.get SYS.WORLD_BLK.word, b.get SYS.WORLD_TILE_LO.TILE, b.get SYS.WORLD_TILE_HI.TILE)
  else match entIdx es 0x02 0 with
    | some i => let s := entBytes l (es.getD i ⟨0, 0, 0, 0, 0, 0, 0, []⟩); (u32 s 0, u32 s 4, u32 s 8)
    | none => (0x7FFF, 0xFFFFFFFF, 0xFFFFFFFF)

/-- The required world of an entry (R98). -/
def reqWorld (b : Body) (l : List Nat) (es : List DirEnt) (e : DirEnt) : Option Nat :=
  let m := judgeMap b l es
  sectWorld m.1 m.2.1 m.2.2 (modesNs m.1 (entBytes l e)) e.ty e.inst

/-- A valid signature of a world under an enrolled key (R106). -/
def hasSig (b : Body) (l : List Nat) (sig : DirEnt) (w : Nat) : Bool :=
  let s := entBytes l sig
  let msg := l.take sig.ofs
  (List.range (u8 s 0)).any fun i =>
    let r := bytesAt s (8 + 104 * i) 104
    decide (u8 r 0 = w ∧ u8 r 1 ≤ 3) &&
    match b.nv.keys.pat.find? fun k => decide (k.1 = w * 4 + u8 r 1) with
    | some k => sigOk k.2 msg (r.drop 8)
    | none => false

/-- Step 2: the signature section and the signatures (R106, R107). -/
def stepSig (b : Body) (l : List Nat) : Option PatErr :=
  let es := dirOf l
  let n := es.length - 1
  let e := dirEnt l n
  let at_ := 64 + 64 * n
  let s := entBytes l e
  match firstBad [
    (decide (e.ty = 0x7F), at_), (decide (e.ofs + e.len ≤ l.length), at_ + 4), (decide (e.ofs % 8 = 0), at_ + 4),
    (decide (u8 s 0 = 1 ∨ u8 s 0 = 2) && decide (1 ≤ e.len), e.ofs), (decide (e.len = 8 + 104 * u8 s 0), at_ + 8)] with
  | some o => some (0x05, n, o)
  | none =>
    let nsOk := isPartial l && es.all fun x =>
      decide (x.ty = 0x01 ∨ x.ty = 0x7F) || decide (reqWorld b l es x = some 1)
    if hasSig b l e 0 || (nsOk && hasSig b l e 1) then none else some (0x02, 0xFF, 0)

/-! ### Steps 3 to 10 -/

/-- A module UID as 16 bytes. -/
def uidBytes (u : Nat) : List Nat := toLe 16 u

/-- Step 3: the target. -/
def stepTarget (b : Body) (l : List Nat) : Option PatErr :=
  let es := dirOf l
  let find := fun ty => (entIdx es ty 0).bind fun i =>
    let e := es.getD i ⟨0, 0, 0, 0, 0, 0, 0, []⟩
    if e.ofs + e.len ≤ l.length then some e else none
  let idn := match find 0x01 with
    | some e => firstBad [
        (decide (u16 l e.ofs = 0x4B53), e.ofs), (decide (u16 l (e.ofs + 2) = 0x0512), e.ofs + 2),
        (decide (u8 l (e.ofs + 4) ≤ b.get SYS.REV.REV), e.ofs + 4)]
    | none => none
  let bind := firstBad [(zeros (bytesAt l 0x20 16) || decide (bytesAt l 0x20 16 = uidBytes b.nv.uid), 0x20)]
  let twin := match find 0x12 with
    | some e =>
      let s := entBytes l e
      firstBad [(decide (u8 s 0 ≠ 1) || decide (bytesAt s 8 16 = uidBytes b.nv.uid) ||
        decide (bytesAt s 24 16 = uidBytes b.nv.uid), e.ofs + 8)]
    | none => none
  (idn <|> bind <|> twin).map fun o => (0x03, 0xFF, o)

/-- Section types of R98. -/
def knownTy (ty : Nat) : Bool := decide (1 ≤ ty ∧ ty ≤ 0x14) || decide (ty = 0x7F)

/-- Step 5: each entry in turn (R96, R97). `prev` is the end of what came before. DESIGN CHOICE (log entry 73): an INST above
63 or not 0 outside TILE, reserved bytes of an entry and bytes after SIGNATURE fail here too. -/
def stepDir (l : List Nat) (n : Nat) : Nat → Nat → List DirEnt → Option PatErr
  | _, prev, [] => if prev = l.length then none else some (0x05, n, 64 + 64 * n + 8)
  | i, prev, e :: t =>
    let at_ := 64 + 64 * i
    match firstBad [
      (knownTy e.ty && decide ((e.ty = 0x7F) = (i = n)), at_), (decide (e.sver = 1), at_ + 2), (decide (e.rsv = 0), at_ + 13),
      (decide (e.inst = 0) || decide (e.ty = 0x0A ∧ e.inst ≤ 63), at_ + 1),
      (decide (e.ofs % 8 = 0 ∧ prev ≤ e.ofs) && zeros (bytesAt l prev (e.ofs - prev)), at_ + 4),
      (decide (e.ofs + e.len ≤ l.length), at_ + 8)] with
    | some o => some (0x05, i, o)
    | none => stepDir l n (i + 1) (e.ofs + e.len) t

/-- Step 6: mandatory sections (R98). -/
def stepMissing (l : List Nat) : Option PatErr :=
  let es := dirOf l
  let has := fun ty => es.any fun e => decide (e.ty = ty)
  let used := match entIdx es 0x03 0 with
    | some i => let s := entBytes l (dirEnt l i); decide (u16 s 0 + u16 s 2 > 0)
    | none => false
  let need := if isPartial l then [0x01, 0x7F] else [0x01, 0x02, 0x03, 0x13, 0x7F] ++ (if used then [0x0D, 0x0E] else [])
  if need.all has then none else some (0x06, 0xFF, 0)

/-- Step 7: no type, or TILE INST, twice. -/
def stepDup : Nat → List DirEnt → List (Nat × Nat) → Option PatErr
  | _, [], _ => none
  | i, e :: t, seen =>
    if seen.contains (e.ty, e.inst) then some (0x07, i, 64 + 64 * i) else stepDup (i + 1) t ((e.ty, e.inst) :: seen)

/-- Step 8: each DIGEST. -/
def stepDigest (l : List Nat) : Nat → List DirEnt → Option PatErr
  | _, [] => none
  | i, e :: t =>
    let want := if e.ty = 0x7F then List.replicate 48 0 else sha384 (entBytes l e)
    if e.digest = want then stepDigest l (i + 1) t else some (0x08, i, 64 + 64 * i + 16)

/-- Step 9: BASE_SERIAL and SERIAL of a partial. Log entry 73: where both fail, BASE_SERIAL gives the offset. -/
def stepBase (running : Option Pat) (l : List Nat) : Option PatErr :=
  if !isPartial l then none else match running with
  | none => some (0x0F, 0xFF, 0x14)
  | some p =>
    if u32 l 0x14 ≠ p.serial then some (0x0F, 0xFF, 0x14)
    else if u32 l 0x10 ≤ p.serial then some (0x0F, 0xFF, 0x10) else none

/-- Step 10: no section refused in partials. -/
def stepPartial (l : List Nat) : Nat → List DirEnt → Option PatErr
  | _, [] => none
  | i, e :: t =>
    if isPartial l ∧ e.ty ∈ [0x02, 0x03, 0x0D, 0x0E, 0x12, 0x13] then some (0x10, i, 64 + 64 * i) else stepPartial l (i + 1) t

/-! ### Step 11: worlds -/

/-- R101 over a WORLDMAP section. `st` is the STRUCTURE section. -/
def worldmapBad (s st : List Nat) : Option Nat :=
  let lo := 0x20200000 + (u8 st 8 + u8 st 9 + u8 st 10) * 0x10000
  firstBad ([(decide (u32 s 0 % 2 ^ 15 / 2 ^ 11 = 15 ∧ bits (u32 s 0) 9 1 = 1 ∧ bits (u32 s 0) 0 7 = 0x7F ∧ u32 s 0 < 2 ^ 15), 0)] ++
    (List.range (u8 s 12)).flatMap fun k =>
      let o := 16 + 8 * k
      let ba := u32 s o
      let tp := u32 s (o + 4)
      let base := ba / 4096 * 4096
      let top := tp / 4096 * 4096 + 4095
      [(decide (bits ba 1 11 = 0), o), (decide (bits tp 1 11 = 0), o + 4),
       (decide (bits ba 0 1 = 0) || decide (bits tp 0 1 = 0) || decide (top < base) ||
        decide (lo ≤ base ∧ top ≤ 0x207FFFFF) || decide (0x80000000 ≤ base), o)])

/-- Step 11: R101, then each entry's WORLD byte (R108). -/
def stepWorld (b : Body) (l : List Nat) : Option PatErr :=
  let es := dirOf l
  let wm := (entIdx es 0x02 0).bind fun i =>
    let e := dirEnt l i
    let st := match entIdx es 0x03 0 with
      | some j => entBytes l (dirEnt l j)
      | none => []
    (worldmapBad (entBytes l e) st).map fun o => (0x09, i, e.ofs + o)
  wm <|> ((List.range es.length).findSome? fun i =>
    let e := dirEnt l i
    if e.world = (reqWorld b l es e).getD 0 then none else some (0x09, i, 64 + 64 * i + 12))

/-! ### Step 12: ranges -/

def within (x lo hi : Nat) : Bool := decide (lo ≤ x ∧ x ≤ hi)

/-- What a section is judged with: channel and slot counts, its INST, and the zones whose BAY flag is 1. -/
structure RangeCtx where
  cc : Nat
  sc : Nat
  inst : Nat
  bays : List Nat
  deriving DecidableEq, Repr

/-- A section holds `n` records of `k` bytes from offset `o` on, and nothing more. -/
def sized (s : List Nat) (o k n : Nat) : Bool := decide (s.length = o + k * n)

/-- ASCII padded with 0: no byte above 127, and nothing after the first 0. -/
def asciiPadded (l : List Nat) : Bool := l.all (fun x => decide (x < 128)) && zeros (l.dropWhile fun x => decide (x ≠ 0))

def recs (n : Nat) (f : Nat → List (Bool × Nat)) : List (Bool × Nat) := (List.range n).flatMap f

/-- Source ports and destination ports of an endpoint (R124, R129). -/
def srcPorts (e : Nat) : Nat :=
  if e < 64 then 16 else match e with
  | 0x40 => 2
  | 0x41 => 3
  | 0x42 => 5
  | 0x43 => 2
  | 0x44 => 2
  | 0x45 => 1
  | 0x48 => 16
  | _ => 0
def dstPorts (e : Nat) : Nat :=
  if e < 64 then 16 else match e with
  | 0x40 => 4
  | 0x41 => 3
  | 0x42 => 1
  | 0x44 => 2
  | _ => if 0x50 ≤ e ∧ e ≤ 0x57 then 1 else 0

/-- How many channels CHAN_SAFE places on a circuit, up to record `k`. -/
def circuitUse (s : List Nat) (k c : Nat) : Nat :=
  ((List.range (k + 1)).filter fun j => decide (u8 s (8 + 8 * j + 2) = c)).length

/-- The range checks of a section, in the order of its layout (R98, R99, R355, R539). DESIGN CHOICE (log entry 74): flag bits
that CHAN_SAFE, ZONES and TILE do not name are 0, as are bits [7:5] of STITCH_PLAN's RADIO_EN; TWIN's PRESENT is at most 1; and
NEIGHBOUR and NEAR_CHAN name a channel of the pattern. -/
def rangeChecks (c : RangeCtx) (ty : Nat) (s : List Nat) : List (Bool × Nat) := match ty with
  | 0x01 => [(sized s 32 0 0, 0), (zeros (bytesAt s 5 3), 5), (asciiPadded (bytesAt s 8 24), 8)]
  | 0x02 => [(within (u8 s 12) 0 64 && sized s 16 8 (u8 s 12), 12), (zeros (bytesAt s 13 3), 13)]
  | 0x03 => [(sized s 16 0 0, 0), (within (u16 s 0) 0 512, 0), (within (u16 s 2) 0 2048, 2), (within (u8 s 4) 0 3, 4),
      (within (u8 s 5) 0 6, 5), (within (u8 s 6) 0 1, 6), (decide (u8 s 7 = 0), 7), (within (u8 s 8) 16 32, 8),
      (within (u8 s 9) 8 16, 9), (within (u8 s 10) 8 16, 10), (zeros (bytesAt s 11 5), 11)]
  | 0x04 => [(decide (u16 s 0 = c.cc) && sized s 8 8 (u16 s 0), 0), (zeros (bytesAt s 2 6), 2)] ++ recs (u16 s 0) fun k =>
      let o := 8 + 8 * k
      [(within (u8 s o) 0 3, o), (within (u8 s (o + 1)) 0 63, o + 1),
       (within (u8 s (o + 2)) 0 24 && (decide (u8 s (o + 2) = 0) || decide (circuitUse s k (u8 s (o + 2)) ≤ 128)), o + 2),
       (within (u8 s (o + 3)) 0 1, o + 3)]
  | 0x05 => [(decide (u16 s 0 = c.cc) && sized s 72 20 (u16 s 0), 0), (zeros (bytesAt s 2 2), 2),
      (within (u32 s 4) 10 86400, 4)] ++
      (recs 16 fun i => [(within (u8 s (10 + 4 * i)) 0 1, 10 + 4 * i), (decide (u8 s (11 + 4 * i) = 0), 11 + 4 * i)]) ++
      recs (u16 s 0) fun k =>
      let o := 72 + 20 * k
      [(decide (u16 s (o + 2) = 0) || within (u16 s (o + 2)) 1000 20000, o + 2), (within (u8 s (o + 8)) 0 190, o + 8),
       (within (u8 s (o + 9)) 0 190 && decide (u8 s (o + 8) + 15 ≤ u8 s (o + 9)), o + 9), (within (u8 s (o + 10)) 0 15, o + 10),
       (within (u8 s (o + 11)) 0 1, o + 11), (within (u16 s (o + 16)) 1 65535, o + 16), (zeros (bytesAt s (o + 18) 2), o + 18)]
  | 0x06 => [(within (u16 s 0) 0 256 && sized s 4 68 (u16 s 0), 0), (zeros (bytesAt s 2 2), 2)] ++ recs (u16 s 0) fun k =>
      let o := 4 + 68 * k
      [(zeros (bytesAt s (o + 1) 3), o + 1)]
  | 0x07 => [(within (u8 s 0) 0 64 && sized s 12 72 (u8 s 0), 0), (zeros (bytesAt s 1 3), 1), (within (u8 s 8) 1 100, 8),
      (zeros (bytesAt s 9 3), 9)] ++ recs (u8 s 0) fun k =>
      let o := 12 + 72 * k
      [(within (u8 s o) 0 63, o), (within (u8 s (o + 1)) 0 1, o + 1), (zeros (bytesAt s (o + 2) 2), o + 2)]
  | 0x08 => [(decide (u16 s 0 = c.cc) && sized s 4 24 (u16 s 0), 0), (zeros (bytesAt s 2 2), 2)] ++ recs (u16 s 0) fun k =>
      recs 8 fun j =>
      let o := 4 + 24 * k
      let n := u16 s (o + 2 * j)
      [(decide (n = 0xFFFF) || decide (n < c.cc), o + 2 * j), (decide ((n = 0xFFFF) = (u8 s (o + 16 + j) = 0)), o + 16 + j)]
  | 0x09 => [(decide (u16 s 0 = c.sc) && sized s 8 8 (u16 s 0), 0), (within (u16 s 2) 60 65535, 2), (within (u8 s 4) 0 15, 4),
      (zeros (bytesAt s 6 2), 6)] ++ recs (u16 s 0) fun k =>
      let o := 8 + 8 * k
      [(within (u8 s o) 0 3, o),
       ((within (u8 s (o + 1)) 0 63 || decide (u8 s (o + 1) = 0xFF)) && (decide (u8 s o ≠ 1) || c.bays.contains (u8 s (o + 1))), o + 1),
       (decide (u16 s (o + 2) = 0xFFFF) || decide (u16 s (o + 2) < c.cc), o + 2), (within (u16 s (o + 4)) 10 3600, o + 4),
       (within (u8 s (o + 6)) 0 4, o + 6), (decide (u8 s (o + 7) = 0), o + 7)]
  | 0x0A => [(decide (u8 s 0 = c.inst), 0), (within (u8 s 1) 0 1, 1), (within (u16 s 2) 1 1024, 2),
      (within (u16 s 4) 0 4096 && decide (u16 s 4 % 4 = 0), 4), (zeros (bytesAt s 6 2), 6),
      (decide (s.length = 8 + 4 * u16 s 2 + u16 s 4), 2)]
  | 0x0B => [(within (u16 s 0) 0 1024 && sized s 8 8 (u16 s 0), 0), (zeros (bytesAt s 2 6), 2)] ++ recs (u16 s 0) fun k =>
      let o := 8 + 8 * k
      [(decide (0 < srcPorts (u8 s (o + 1))), o + 1), (decide (u8 s (o + 2) < srcPorts (u8 s (o + 1))), o + 2),
       (decide (0 < dstPorts (u8 s (o + 3))), o + 3), (decide (u8 s (o + 4) < dstPorts (u8 s (o + 3))), o + 4),
       (zeros (bytesAt s (o + 5) 3), o + 5)]
  | 0x0C => [(within (u16 s 0) 0 1024 && sized s 8 32 (u16 s 0), 0), (zeros (bytesAt s 2 6), 2)] ++ recs (u16 s 0) fun k =>
      let o := 8 + 32 * k
      [(within (u8 s (o + 18)) 0 3, o + 18), (decide (u8 s (o + 19) = 0), o + 19),
       (decide (u8 s (o + 18) / 2 % 2 = 0) || within (u32 s (o + 20)) 1 604800, o + 20)]
  | 0x0D => [(within (u8 s 0) 0 3, 0), (within (u8 s 1) 0 1, 1), (within (u8 s 2) 1 128 && sized s 32 4 (u8 s 2), 2),
      (decide (u8 s 3 < u8 s 2), 3), (within (u8 s 4) 0 3, 4), (decide (u8 s 7 = 0), 7), (zeros (bytesAt s 14 2), 14),
      (zeros (bytesAt s 26 6), 26)] ++ recs (u8 s 2) fun k => [(within (u24 s (32 + 4 * k)) 779000 960000, 32 + 4 * k)]
  | 0x0E => [(sized s 8 0 0, 0), (within (u8 s 0) 0 127, 0), (within (u8 s 1) 0 127, 1), (within (u8 s 2) 0 127, 2),
      (within (u8 s 3) 0 126, 3), (within (u8 s 4) 0 127, 4), (within (u8 s 5) 0 31, 5), (within (u8 s 6) 1 32, 6),
      (decide (u8 s 7 = 0), 7)]
  | 0x0F => [(sized s 220 0 0, 0), (decide (u8 s 0 = 0 ∨ u8 s 0 = 50 ∨ u8 s 0 = 60), 0), (within (u8 s 1) 0 3, 1),
      (within (u16 s 2) 1 1024, 2), (within (u16 s 4) 1 3600, 4), (within (u8 s 6) 0 50, 6), (decide (u8 s 7 = 0), 7),
      (within (u16 s 8) 0 10000, 8), (zeros (bytesAt s 10 2), 10)] ++ recs 24 fun k =>
      let o := 28 + 8 * k
      let on := decide (u8 s o > 0)
      [(within (u8 s o) 0 2, o), (!on || within (u8 s (o + 1)) 1 3, o + 1), (zeros (bytesAt s (o + 2) 2), o + 2),
       (!on || within (u32 s (o + 4)) 1000 4000000, o + 4)]
  | 0x10 => [(within (u8 s 0) 1 16, 0), (within (u8 s 1) 1 64, 1), (within (u8 s 2) 0 1, 2),
      (within (u8 s 3) 0 32 && sized s 8 8 (u8 s 3), 3), (within (u8 s 4) 1 40, 4), (within (u8 s 5) 0 100, 5),
      (within (u8 s 6) 0 190, 6), (decide (u8 s 7 = 0), 7)] ++ recs (u8 s 3) fun k =>
      let o := 8 + 8 * k
      [(zeros (bytesAt s (o + 5) 3), o + 5)]
  | 0x11 => [(sized s 80 0 0, 0)] ++ (recs 8 fun k =>
      let o := 8 * k
      [(within (u8 s o) 0 2, o), (within (u8 s (o + 1)) 0 2 && (decide (u8 s (o + 1) ≠ 1) || decide (u8 s o = 2)), o + 1),
       (within (u8 s (o + 3)) 1 255, o + 3), (zeros (bytesAt s (o + 6) 2), o + 6)]) ++ recs 4 fun k =>
      let o := 64 + 4 * k
      [(within (u8 s o) 0 2, o), (within (u8 s (o + 2)) 0 1, o + 2), (decide (u8 s (o + 3) = 0), o + 3)]
  | 0x12 => [(sized s 40 0 0, 0), (within (u8 s 0) 0 1, 0), (within (u8 s 1) 0 1, 1), (within (u16 s 2) 500 10000, 2),
      (within (u16 s 4) 50 2000 && decide (u16 s 4 < u16 s 2), 4), (zeros (bytesAt s 6 2), 6)]
  | 0x13 => [(within (u8 s 0) 0 63, 0), (within (u8 s 1) 0 2, 1), (decide (u16 s 2 < 2 ^ 14), 2), (zeros (bytesAt s 6 2), 6),
      (decide (u16 s 40 ≤ (if u8 s 1 = 0 then 0 else if u8 s 1 = 1 then 127 else 254)) && sized s 44 20 (u16 s 40), 40),
      (zeros (bytesAt s 42 2), 42)] ++ recs (u16 s 40) fun k => [(zeros (bytesAt s (44 + 20 * k + 2) 2), 44 + 20 * k + 2)]
  | 0x14 => [(within (u8 s 0) 0 8 && sized s 4 2 (u8 s 0), 0), (zeros (bytesAt s 1 3), 1)] ++ recs (u8 s 0) fun k =>
      [(within (u8 s (4 + 2 * k)) 0 7, 4 + 2 * k), (within (u8 s (5 + 2 * k)) 0 1, 5 + 2 * k)]
  | _ => [(zeros (bytesAt s 1 7), 1)] ++ recs (u8 s 0) fun k =>
      [(within (u8 s (8 + 104 * k)) 0 1, 8 + 104 * k), (within (u8 s (9 + 104 * k)) 0 3, 9 + 104 * k),
       (zeros (bytesAt s (10 + 104 * k) 6), 10 + 104 * k)]

/-- The sections that would run: a partial's in place of the running ones of the same type and INST (R100). -/
def merge (old new : List Sect) : List Sect :=
  (old.filter fun s => !new.any fun n => decide (n.ty = s.ty ∧ n.inst = s.inst)) ++ new

/-- The sections of a container, SIGNATURE left out. -/
def sectsOf (l : List Nat) : List Sect :=
  ((dirOf l).filter fun e => decide (e.ty ≠ 0x7F)).map fun e => ⟨e.ty, e.inst, entBytes l e⟩

/-- The sections that would run after a container takes effect. -/
def viewOf (running : Option Pat) (l : List Nat) : List Sect :=
  if isPartial l then merge (match running with
    | some p => p.sects
    | none => []) (sectsOf l) else sectsOf l

/-- Zones whose BAY flag is 1. -/
def bayZones (v : List Sect) : List Nat :=
  let s := (sectIn v sZONES 0).getD []
  ((List.range (u8 s 0)).filter fun k => decide (u8 s (12 + 72 * k + 1) % 2 = 1)).map fun k => u8 s (12 + 72 * k)

def ctxOf (v : List Sect) (inst : Nat) : RangeCtx :=
  let st := (sectIn v sSTRUCTURE 0).getD []
  ⟨u16 st 0, u16 st 2, inst, bayZones v⟩

/-- A breach of a running SENSORS record by a partial's ZONES: the partial's field that takes part (R109). -/
def bayBreach (v : List Sect) (l : List Nat) : Option PatErr :=
  let es := dirOf l
  match entIdx es sZONES 0, sectIn v sSENSORS 0 with
  | some i, some s =>
    let zo := (dirEnt l i).ofs
    let z := entBytes l (dirEnt l i)
    (List.range (u16 s 0)).findSome? fun k =>
      let zn := u8 s (8 + 8 * k + 1)
      if u8 s (8 + 8 * k) = 1 ∧ !(bayZones v).contains zn then
        match (List.range (u8 z 0)).find? fun j => decide (u8 z (12 + 72 * j) = zn) with
        | some j => some (0x0A, i, zo + 12 + 72 * j + 1)
        | none => some (0x0A, i, zo)
      else none
  | _, _ => none

/-- Step 12: every section of the container, then what a partial breaks in a running one. -/
def stepRange (running : Option Pat) (l : List Nat) : Option PatErr :=
  let es := dirOf l
  let v := viewOf running l
  ((List.range es.length).findSome? fun i =>
    let e := dirEnt l i
    (firstBad (rangeChecks (ctxOf v e.inst) e.ty (entBytes l e))).map fun o => (0x0A, i, e.ofs + o)) <|>
  (if isPartial l ∧ entIdx es sSENSORS 0 = none then bayBreach v l else none)

/-! ### Steps 13 to 17 -/

/-- Where a field of a section stands in the container, when the container carries the section. -/
def whereIs (l : List Nat) (ty o : Nat) : Nat × Nat := match entIdx (dirOf l) ty 0 with
  | some i => (i, (dirEnt l i).ofs + o)
  | none => (0xFF, 0)
def failAt (code : Nat) (l : List Nat) (ty o : Nat) : PatErr := let w := whereIs l ty o; (code, w.1, w.2)

/-- Step 13: ROLE and MGR_MOD (R19 to R21). -/
def stepRole (v : List Sect) (l : List Nat) : Option PatErr :=
  let h := (sectIn v sHIERARCHY 0).getD []
  let mod := u16 h 2
  let want := roleOf mod
  let mgr := if want = 2 then 0xFFFF else if want = 1 then 0 else mod / 128 * 128
  if u8 h 1 ≠ want then some (failAt 0x0B l sHIERARCHY 1)
  else if u16 h 4 ≠ mgr then some (failAt 0x0B l sHIERARCHY 4) else none

/-- Step 14: GRAPH is symmetric, without loops or repeats (R103). -/
def stepGraph (v : List Sect) (l : List Nat) : Option PatErr :=
  let s := (sectIn v sGRAPH 0).getD []
  let nb := fun a j => u16 s (4 + 24 * a + 2 * j)
  let ed := fun a j => u8 s (4 + 24 * a + 16 + j)
  (List.range (u16 s 0)).findSome? fun a => (List.range 8).findSome? fun j =>
    let n := nb a j
    if n = 0xFFFF then none
    else if n = a ∨ (List.range j).any fun i => decide (nb a i = n) then some (failAt 0x0C l sGRAPH (4 + 24 * a + 2 * j))
    else if (List.range 8).any fun q => decide (nb n q = a ∧ ed n q = ed a j) then none
    else some (failAt 0x0C l sGRAPH (4 + 24 * a + 16 + j))

/-- Step 15: one source for a thread, one thread at a tile's ports (R104). -/
def stepThread (v : List Sect) (l : List Nat) : Option PatErr :=
  let rs := routesOf ((sectIn v sTHREADS 0).getD [])
  (List.range rs.length).findSome? fun k =>
    let r := rs.getD k (0, 0, 0, 0, 0)
    let before := rs.take k
    if before.any fun q => decide (q.1 = r.1 ∧ (q.2.1 ≠ r.2.1 ∨ q.2.2.1 ≠ r.2.2.1)) then some (failAt 0x0D l sTHREADS (8 + 8 * k + 1))
    else if r.2.1 < 64 ∧ before.any fun q => decide (q.2.1 = r.2.1 ∧ q.2.2.1 = r.2.2.1 ∧ q.1 ≠ r.1) then
      some (failAt 0x0D l sTHREADS (8 + 8 * k + 2))
    else if r.2.2.2.1 < 64 ∧ before.any fun q => decide (q.2.2.2 = r.2.2.2 ∧ q.1 ≠ r.1) then
      some (failAt 0x0D l sTHREADS (8 + 8 * k + 4))
    else none

/-- The ceilings of R292 on a REGION section: (holds, offset). -/
def regionCeil (s : List Nat) : List (Bool × Nat) :=
  let pm := sgn 8 (u8 s 5)
  (match u8 s 0 with
  | 0 => [(within (u8 s 2) 51 128, 2), (decide (pm ≤ 36), 5), (decide (u16 s 8 ≤ 400), 8), (decide (20 ≤ u16 s 10), 10)]
  | 1 => [(decide (pm ≤ 29), 5), (decide (u16 s 8 ≤ 1000), 8), (decide (u16 s 10 = 3600), 10), (within (u16 s 12) 1 100, 12)]
  | 2 => [(decide (pm ≤ 29), 5), (decide (u16 s 8 ≤ 4000), 8), (decide (u16 s 10 = 3600), 10), (within (u16 s 12) 1 28, 12)]
  | _ => [(decide (pm ≤ 16), 5), (decide (u16 s 8 ≤ 400), 8), (decide (u16 s 10 = 3600), 10), (within (u16 s 12) 1 100, 12)]) ++
  (if u8 s 1 = 1 then [(decide (sgn 8 (u8 s 6) ≤ 20), 6)] else [])

/-- How many sub-GHz radios RADIO_EN enables. -/
def subRadios (en : Nat) : Nat := ([0, 1, 2, 3].filter fun r => decide (bits en r 1 = 1)).length

/-- Step 16: REGION (R105, R281, R291, R292). -/
def stepRegion (v : List Sect) (l : List Nat) : Option PatErr := match sectIn v sREGION 0 with
  | none => none
  | some s =>
    let en := match sectIn v sSTITCH_PLAN 0 with
      | some p => u8 p 5
      | none => 0
    let stitch := 2500000 * 2 ^ u8 ((sectIn v sSTRUCTURE 0).getD []) 4
    let n := subRadios en
    (firstBad (regionCeil s ++ [
      (decide (n = 0) || decide (64 ≤ maxPsduOf stitch ([160, 80, 40, 20].getD (u8 s 4) 40) 0), 4),
      (decide (bits en 4 1 = 0) || decide (u8 s 1 = 0) || decide (64 ≤ maxPsduOf stitch 32 4), 1),
      (decide ((if n ≥ 2 then 8 else if n = 1 then 1 else 0) ≤ u8 s 2 - 1), 2)])).map fun o => failAt 0x0E l sREGION o

/-- Step 17: room in the active pattern slot (R112, R526). -/
def stepChain (b : Body) (l : List Nat) : Option PatErr :=
  if !isPartial l then none else
  match b.nv.pats.find? fun p => decide (p.1 = b.get UPD.STAT.PAT_SLOT) with
  | none => none
  | some (_, p) =>
    if p.partials.length ≥ 8 ∨ p.full.length + (p.partials.map List.length).sum + l.length > 4 * 2 ^ 20 then some (0x12, 0xFF, 0)
    else none

/-- R109: the checks in order over a received container, against the pattern that runs. `floor` makes step 4; at cold start
the chain's own check stands for it (R112). -/
def validate (b : Body) (running : Option Pat) (floor chain : Bool) (l : List Nat) : Option PatErr :=
  firstErr [
    fun _ => stepHeader l, fun _ => stepSig b l, fun _ => stepTarget b l,
    fun _ => if floor && (decide (u32 l 0x10 < b.get UPD.PAT_FLOOR.FLOOR) || !b.nv.patFloorOk) then some (0x04, 0xFF, 0x10) else none,
    fun _ => stepDir l (u16 l 0x0C - 1) 0 (64 + 64 * u16 l 0x0C) (dirOf l), fun _ => stepMissing l, fun _ => stepDup 0 (dirOf l) [],
    fun _ => stepDigest l 0 (dirOf l), fun _ => stepBase running l, fun _ => stepPartial l 0 (dirOf l), fun _ => stepWorld b l,
    fun _ => stepRange running l, fun _ => stepRole (viewOf running l) l, fun _ => stepGraph (viewOf running l) l,
    fun _ => stepThread (viewOf running l) l, fun _ => stepRegion (viewOf running l) l,
    fun _ => if chain then stepChain b l else none]

/-- The pattern in force after a valid container. -/
def patOf (running : Option Pat) (l : List Nat) : Pat :=
  { serial := u32 l 0x10, isPartial := isPartial l, base := u32 l 0x14, sects := viewOf running l }

end Sys2Proof.Machine
end

