-- ==== Sys2Proof/Machine/PatternLoad.lean ====
section
/-! DEFINITION. Machine/PatternLoad.lean: a valid pattern takes effect (R98 to R102, R112 to R123): the sections one by one, at cold
start and at a switch, and the cold load of R112 and R526. -/

namespace Sys2Proof.Machine

open Host

/-! ### Sections -/

/-- A write of a world-map register: ignored with a record once the lock is set (R34). -/
def worldWrite (f : Fld) (i v : Nat) (b : Body) : Body :=
  if b.flag SYS.WORLD_LOCK.LOCK then blockRecord 0 (f.at i 0 % 2 ^ 20) v b else b.put f v i

/-- WORLDMAP: the image of the world-map registers (R34, R98). -/
def takeWorldmap (b : Body) : Body :=
  let s := sectD b sWORLDMAP
  let b := worldWrite SYS.WORLD_TILE_HI.TILE 0 (u32 s 8) (worldWrite SYS.WORLD_TILE_LO.TILE 0 (u32 s 4)
    (worldWrite SYS.WORLD_BLK.word 0 (u32 s 0) b))
  b.each (List.range (u8 s 12)) fun b m =>
    worldWrite SYS.WORLD_RGN_TOP.word m (u32 s (20 + 8 * m)) (worldWrite SYS.WORLD_RGN_BASE.word m (u32 s (16 + 8 * m)) b)

/-- STRUCTURE, REGION and STITCH_PLAN as registers show them (R271, R281, R282). -/
def takeStructure (b : Body) : Body :=
  let b := b.put TB.PWM.F_SEL (fPwm b)
  let b := ((b.put AIR.PROFILE.PHY (phyCode b)).put AIR.PROFILE.STITCH (stitchCode b)).put AIR.PROFILE.FRESH_W_QS (freshW b / 16384)
  let b := (b.put AIR.PROFILE.MAX_PSDU (maxPsdu b 0)).put AIR.PROFILE.MAX_PSDU_24 (maxPsdu b 4)
  showPower b

/-- CHAN_SAFE (R162). -/
def takeChanSafe (b : Body) : Body :=
  b.each (List.range (chanCnt b)) fun b n =>
    let (h, f, c, e, el, hl) := match sect b sCHAN_SAFE with
      | some s => let o := 8 + 8 * n
        (u8 s o, u8 s (o + 1), u8 s (o + 2), u8 s (o + 3) % 2, u16 s (o + 4), u16 s (o + 6))
      | none => (n % 4, 0, 0, 1, 65535, 65535)
    let b := ((b.put CE.SAFE_CFG.HOME_TRX h n).put CE.SAFE_CFG.FEED_GRP f n).put CE.SAFE_CFG.CIRCUIT c n
    ((b.put CE.SAFE_CFG.EMERGENCY e n).put CE.SAFE.EMERG_LVL el n).put CE.SAFE.HEM_LVL hl n

/-- CHANNELS: the rule fields it sets (R163). -/
def takeChannels (b : Body) : Body :=
  b.each (List.range (chanCnt b)) fun b n =>
    setRuleCct n (pCct b n) ((b.put CE.CCT_FLR.RULE_FLOOR (pFloor b n) n).put CE.LVL_TGT.RULE_PRESET (pPreset b n) n)

/-- KNEE_C and TMAX_C took new values: the factor follows them where the temperature report is not stale (R185, R186). -/
def derateAll (b : Body) : Body := b.each (List.range (chanCnt b)) fun b n => if tempStale b n then b else derateNow n b

/-- A switch that replaces CHANNELS ends every override (R180). -/
def endOverrides (b : Body) : Body :=
  b.each (List.range (chanCnt b)) fun b n =>
    if overridden b n then ask [n] .rule none (setChan (b.mark CE.CH_STAT.OVR false n) n { chanOf b n with ovrEnd := none })
    else b

/-- ZONES: the caps, and RAMP_PCT. -/
def takeZones (b : Body) : Body :=
  let s := sectD b sZONES
  let b := (b.put CE.SEG_CAP.CAP_W (u32 s 4)).put CE.RAMP.RAMP_PCT (if s = [] then 5 else u8 s 8)
  let b := b.each (List.range 64) fun b z => b.put CE.ZONE_CAP.CAP_W 0 z
  b.each (zoneRecs b) fun b z => b.put CE.ZONE_CAP.CAP_W z.2.2.1 z.1

/-- At a switch, a slot whose KIND, ZONE and NEAR_CHAN are unchanged keeps its state; every other starts anew, and every
stuck mark clears (R238). -/
def sensorsSwitched (old new : List Sect) (b : Body) : Body :=
  let r := fun v k => match sectIn v sSENSORS 0 with
    | some s => bytesAt s (8 + 8 * k) 4
    | none => [0, 0xFF, 0xFF, 0xFF]
  let b := b.each (b.ofe.sensors.map (·.1)) fun b i => setStuck i false b
  b.each (List.range (sensCnt b)) fun b k =>
    if r old k = r new k then b else setSensor b (512 + k) { Sensor.init with passedAt := b.clock.cyc }

/-- CODE_WORDS of a tile's section, 0 without one (R145). -/
def codeCount (n : List Sect) (t : Nat) : Nat := match sectIn n sTILE t with
  | some s => u16 s 2
  | none => 0

/-- A TILE section: code, initial data and ENABLE; its reload resets CONSEC (R141). Without one the tile is disabled. Code words
from CODE_WORDS on are cleared to 0 with the rest: the rules state so only of the local data beyond DATA_BYTES (DESIGN CHOICE, log
entry 88). -/
def takeTile (t : Nat) (b : Body) : Body :=
  let b := clearTile t (dropAct t b)
  let b := { b with regs := b.regs.filter fun p =>
    !(decide (LOOM.CODE.word.at t 0 ≤ p.1) && decide (p.1 < LOOM.CODE.word.at t 1024)) }
  match sectIn (runSects b) sTILE t with
  | none => (b.put LOOM.TILE_CTL.CODE_WORDS 0 t).mark LOOM.TILE_CTL.ENABLE false t
  | some s =>
    let n := u16 s 2
    let b := b.each (List.range n) fun b w => b.put LOOM.CODE.WORD (u32 s (8 + 4 * w)) t w
    let b := b.each (List.range (u16 s 4 / 4)) fun b w => b.put LOOM.DATA.WORD (u32 s (8 + 4 * n + 4 * w)) t w
    let b := b.put LOOM.TILE_CTL.CODE_WORDS n t
    (b.mark LOOM.TILE_CTL.ENABLE (decide (u8 s 1 % 2 = 1)) t).put LOOM.TILE_STAT.CONSEC 0 t

/-- The tiles of which a section is changed or of which one stands. -/
def tileInsts (old new : List Sect) : List Nat :=
  (List.range 64).filter fun t => decide (sectIn old sTILE t ≠ sectIn new sTILE t)

/-- The 32 bytes of pattern schedule entry `e`. -/
def schedBytes (s : List Nat) (e : Nat) : List Nat := bytesAt s (8 + 32 * e) 32

/-- SCHEDULES: the pattern entries are replaced; a surviving entry whose index is needed is freed with a record (R160). -/
def takeSchedules (b : Body) : Body :=
  let s := sectD b sSCHEDULES
  let b := b.each (b.loom.sched.map (·.1)) fun b e => if (schedOf b e).owner = .pattern then freeEntry e b else b
  b.each (List.range (u16 s 0)) fun b e =>
    let b := if (schedOf b e).owner.armed then blockRecord 6 e 0 b else b
    armEntry e .pattern (setSchedRec e (schedBytes s e) b)

/-- METER (R99). Without the section metering ends, and starts anew at the first valid crossing after one is loaded (R347). -/
def takeMeter (b : Body) : Body := match sect b sMETER with
  | some s =>
    let b := ((b.put MET.CFG.LINE_HZ (u8 s 0)).put MET.CFG.UNIT (u8 s 1)).put MET.CFG.LATCH_N (u16 s 2)
    let b := (b.put MET.SAVE.SAVE_S (u16 s 4)).put MET.ATT_CTL.DEPTH (u8 s 6)
    if expert b 4 then b.put MET.TUNE.CREEP_PPM (u16 s 8) else b
  | none =>
    let b := { b with met := { b.met with started := false } }
    ((resetReg MET.SAVE.word.addr (resetReg MET.CFG.word.addr b)).put MET.ATT_CTL.DEPTH 50).put MET.TUNE.CREEP_PPM 1000

/-- SIGN (R99). -/
def takeSign (b : Body) : Body := match sect b sSIGN with
  | some s =>
    let b := ((b.put GIO.SIGN_CFG.ROWS (u8 s 0)).put GIO.SIGN_CFG.COLS (u8 s 1)).put GIO.SIGN_CFG.BLANK (u8 s 2)
    let b := (b.put GIO.SIGN_CFG.FIELD_CNT (u8 s 3)).put GIO.SIGN_DRV.I_COL_MA (u8 s 4)
    signFactor ((b.put GIO.SIGN_DRV.DIM_PCT (u8 s 5)).put GIO.SIGN_DRV.KNEE_C (u8 s 6))
  | none => signFactor (resetReg GIO.SIGN_DRV.word.addr (resetReg GIO.SIGN_CFG.word.addr b))

/-- The fields of LOCAL_IO (R99). -/
def loadLocalIo (b : Body) : Body := match sect b sLOCAL_IO with
  | some s =>
    let b := b.each (List.range 8) fun b i =>
      let o := 8 * i
      let b := ((b.put GIO.DI_CFG.MODE (u8 s o) i).put GIO.DI_CFG.FUNC (u8 s (o + 1)) i).put GIO.DI_CFG.THREAD (u8 s (o + 2)) i
      (b.put GIO.DI_CFG.FILTER_MS (u8 s (o + 3)) i).put GIO.DI_TMO.TIMEOUT_S (u16 s (o + 4)) i
    b.each (List.range 4) fun b k =>
      let o := 64 + 4 * k
      ((b.put GIO.REL_CFG.SOURCE (u8 s o) k).put GIO.REL_CFG.THREAD (u8 s (o + 1)) k).put GIO.REL_CFG.HEM_POS (u8 s (o + 2)) k
  | none =>
    let b := b.each (List.range 8) fun b i => (resetReg (GIO.DI_CFG.word.at i 0) b).put GIO.DI_TMO.TIMEOUT_S 0 i
    b.each (List.range 4) fun b k => resetReg (GIO.REL_CFG.word.at k 0) b

/-- LOCAL_IO: an input whose MODE changed starts from OFF or INACTIVE, and reads OPEN at once when it is supervised while the
field supply is at fault (R48, R535). -/
def takeLocalIo (b : Body) : Body :=
  let modes := (List.range 8).map fun i => b.get GIO.DI_CFG.MODE i
  supplyFollow ((loadLocalIo b).each (List.range 8) fun b i =>
    if b.get GIO.DI_CFG.MODE i = modes.getD i 0 then b else
    (setDiRec b i ⟨none, false⟩).put GIO.DI_STAT.STATE (insBits (b.get GIO.DI_STAT.STATE) (3 * i) 3 0))

/-- This module's member number: the UID of TWIN that equals its own (R440). -/
def memberNo (b : Body) : Nat := if bytesAt (sectD b sTWIN) 8 16 = uidBytes b.nv.uid then 0 else 1

/-- The witness of the pair (R450): the manager, or the first area manager of the root; 0xFFFF for none. -/
def witMod (b : Body) : Nat :=
  let h := sectD b sHIERARCHY
  if u8 h 1 = 2 then
    match ((List.range (u16 h 40)).map fun k => u16 h (44 + 20 * k)).find? fun m => decide (m % 128 = 0 ∧ m ≠ 0) with
    | some m => m
    | none => 0xFFFF
  else u16 h 4

/-- TWIN (R440, R449, R450): a member of a pair starts PASSIVE, a module alone acts. -/
def takeTwin (b : Body) : Body :=
  if twinPresent b then
    let s := sectD b sTWIN
    let b := (b.put SEAM.TIMING.T_L_MS (u16 s 2)).put SEAM.TIMING.T_G_MS (u16 s 4)
    let b := ((b.put SEAM.STAT.MEMBER (memberNo b)).put SEAM.STAT.ROLE 0).put SEAM.WITNESS.WIT_MOD (witMod b)
    let b := (b.mark GIO.DI_STAT.TWIN_MODE true).mark GIO.DI_STAT.SINK_SOLO true
    seamStart false { b.mark SEAM.CTL.RUN true with seam := { b.seam with needFull := true } }
  else b.put SEAM.STAT.ROLE 3

/-- The EXPERT image of MODES; a function not listed is Basic (R118). -/
def modesImage (v : List Sect) : Nat :=
  let s := (sectIn v sMODES 0).getD []
  (List.range (u8 s 0)).foldl (fun m k => insBits m (u8 s (4 + 2 * k)) 1 (u8 s (5 + 2 * k))) 0

/-- The modes after a pattern takes effect: MODES decides where the container carries it; elsewhere a mode set through
SYS.MODE lasts, and one that the last pattern set takes its default (R99, R123). -/
def takeModes (decides : Bool) (new : List Sect) (b : Body) : Body :=
  if decides then { b.put SYS.MODE.EXPERT (modesImage new) with pat := { b.pat with hostModes := 0 } } else
  b.put SYS.MODE.EXPERT ((List.range 8).foldl (fun m f =>
    if bits b.pat.hostModes f 1 = 1 then m else insBits m f 1 (bits (modesImage new) f 1)) (b.get SYS.MODE.EXPERT))

/-- Every Basic function of the list takes its derived values (R119, R121). -/
def deriveAll (fs : List Nat) (b : Body) : Body := b.each fs fun b f => if expert b f then b else deriveBasic f b

/-- At a cold start an Expert function starts from the reset values, of which the map calls some derived (R119). -/
def deriveCold (b : Body) : Body := b.each (List.range 8) fun b f => if expert b f then deriveReset f b else deriveBasic f b

/-- BANK_CELLS of Q0 to Q4 and their limits (R379, R599). -/
def airQueues (b : Body) : Body :=
  b.each (List.range 5) fun b r =>
    let n := min 64 ((stitchNs b / 1000 - 208) / (44 * byteUs b r + 192))
    let b := b.put QM.Q_CFG.BANK_CELLS n r
    (b.put QM.Q_LIM.QUOTA (2 * n) r).put QM.Q_LIM.RESERVE (2 * n) r

/-! ### Switch -/

/-- A section's bytes differ between two patterns. -/
def changedSect (o n : List Sect) (ty : Nat) : Bool := decide (sectIn o ty 0 ≠ sectIn n ty 0)

/-- Nodes whose configuration changed are sent CONFIG frames (R116). -/
def configsChanged (before : List (Nat × List (List Nat))) (b : Body) : Body :=
  b.each before fun b p => if configRecords b p.1 = p.2 then b
    else { b with air := { b.air with configDue := (b.air.configDue.filter (· ≠ p.1)) ++ [p.1] } }

/-- The tiles of a switch: a changed one starts anew and loses what stands in its FIFO, counted (R116, R160). -/
def switchTile (b : Body) (t : Nat) : Body :=
  takeTile t (b.bump LOOM.TILE_DROP.INGRESS (tileOf b t).fifo.length t)

/-- The commit of R115: every section that `repl` names takes effect, and SYS.PAT_SERIAL takes the new SERIAL. `repl`: a full
pattern replaces every section, a partial those it carries (R100). `loads`: the tiles whose section it carries, each of which takes
CODE_WORDS from it, changed or not (R145). A tile, a graph or a schedule that did not change goes on
as it runs (R116, R160, R227). -/
def commitSwitch (repl : Nat → Bool) (carriesModes : Bool) (loads : Nat → Bool) (new : Pat) (b : Body) : Body :=
  let o := runSects b
  let n := new.sects
  let before := (nodeUnits b).map fun u => (u, configRecords b u)
  let ch := changedSect o n
  let m0 := (List.range 24).map (members b)
  let meterKey : List Sect → Nat × Nat := fun v => match sectIn v sMETER 0 with
    | some s => (u8 s 0, u8 s 6)
    | none => (0, 50)
  let was := (List.range 8).filter (expert b)
  let b := if repl sMETER then meterCommit (decide (meterKey o ≠ meterKey n)) b else b
  let b := commitSpan b
  let b := if ch sGRAPH then dropTracks b else b
  let tiles := tileInsts o n
  let b := takeModes carriesModes n { b with pat := { b.pat with run := some new } }
  let b := b.each tiles switchTile
  let b := b.each ((List.range 64).filter loads) fun b t => b.put LOOM.TILE_CTL.CODE_WORDS (codeCount n t) t
  let b := if ch sSCHEDULES then takeSchedules b else b
  let b := if repl sCHAN_SAFE then takeChanSafe b else b
  let b := if repl sCHANNELS then derateAll (takeChannels (endOverrides b)) else b
  let b := if repl sZONES then takeZones b else b
  let b := if repl sSENSORS then sensorsSwitched o n (takeSensors b) else b
  let b := if repl sZONES || repl sSENSORS then { b with ofe := { b.ofe with refresh := true } } else b
  let b := if repl sMETER || (expert b 4 && !was.contains 4) then takeMeter b else b
  let b := if repl sMETER then unitFollow (marksFrom b.clock.cyc b) else b
  let b := if (meterKey o).1 ≠ (meterKey n).1 then lineHzSet b else b
  let b := if ch sMETER || ch sCHAN_SAFE then assignCodes b else b
  let moved := (List.range 24).filter fun c => decide (members b c ≠ m0.getD c [])
  let b := b.each moved emptyWindow
  let b := if repl sSIGN then takeSign b else b
  let b := if repl sLOCAL_IO then relaysFollow (emergencyInputs (takeLocalIo b)) else b
  -- TIME has no section; its derived values follow only its return to Basic (R121)
  let b := deriveAll ([0, 1, 3, 4, 5, 6] ++ if was.contains 2 then [2] else []) b
  let b := b.put SYS.PAT_SERIAL.SERIAL new.serial
  let b := if repl sCHAN_SAFE || repl sCHANNELS then askAll .rule b else b
  configsChanged before b

/-! ### Cold start -/

/-- Every section of the pattern takes effect at cold start (R90, R98, R119). -/
def coldSections (b : Body) : Body :=
  let n := runSects b
  let b := takeModes true n b
  let b := takeZones (takeChannels (takeChanSafe (takeStructure b)))
  let b := takeSensors b
  let b := b.each ((List.range 64).filter fun t => decide ((sectIn n sTILE t).isSome)) fun b t => takeTile t b
  let b := takeSchedules b
  let b := assignCodes (lineHzSet (unitFollow (takeMeter b)))
  let b := takeTwin (takeLocalIo (takeSign b))
  b

/-- MET restores its accumulators (R347, R371). -/
def meterRestore (b : Body) : Body :=
  match b.met.saves.find? fun p => b.met.saves.all fun q => decide (q.2.seq ≤ p.2.seq) with
  | some (_, s) =>
    let l := { Latch.zero with acc := s.acc, ecum := s.ecum }
    let b := { b with met := { b.met with acc := s.acc, gapDue := true, restored := (s.seq, s.time), latest := l },
                      att := { b.att with ecum := s.ecum, unattr := s.unattr } }
    let b := b.each s.ecum fun b p => (b.put MET.ATT_E_LO.E_CUM (p.2 % 2 ^ 32) p.1).put MET.ATT_E_HI.E_CUM (p.2 / 2 ^ 32) p.1
    b.each s.unattr fun b p => b.put MET.ATT_UNATTR.WH (uns 32 (Int.tdiv p.2 1000000)) p.1
  | none => { b.mark MET.STAT.SAVE_BAD true with met := { b.met with noSave := true, gapDue := true } }

/-- GIO starts: it reads every input anew. SAFE starts: the slices' periods run from now. -/
def gioSafeStart (b : Body) : Body :=
  let b := supplyFollow (b.mark GIO.CTL.RUN true)
  let x := { b.safe with runAt := b.clock.cyc }
  { b.mark SAFE.CTL.RUN true with safe := x }

/-- The RUN bits the runtime sets after pattern load; AIR.CTL.RUN in a module that acts (R90, R449). -/
def setRuns (b : Body) : Body :=
  let b := ((b.mark LOOM.CTL.RUN true).mark CE.CTL.RUN true).mark OFE.CTL.RUN true
  let b := gioSafeStart (b.mark MET.CTL.RUN true)
  let b := if b.get SEAM.STAT.ROLE = 3 ∧ !b.flag SAFE.STAT.HEM_SILENT then b.mark AIR.CTL.RUN true else b
  if bits (u8 (sectD b sSTRUCTURE) 6) 0 1 = 1 then b else b.mark SYS.GATE_CTL.GATE_EN true

/-- The world map locks (R34). -/
def lockWorld (b : Body) : Body := b.mark SYS.WORLD_LOCK.LOCK true

/-- The ring ports come up, and the SEAM port of a pair, and TB starts sending and stamping, which opens the acquisition
window (R90, R91). -/
def openWindow (b : Body) : Body :=
  let b := if b.get SW.CTL.PORT_EN = 0 then b.put SW.CTL.PORT_EN (if twinPresent b then 7 else 3) else b
  let b := ringFollow b
  { b.mark TB.CTL.RUN true with tb := { b.tb with window := true } }

/-- UPD.PAT_STAT and UPD.PAT_OFS of a check, and its black-box record on failure, which holds the code, the
index and the offset (R110). DESIGN CHOICE (log entry 73): a pattern that passes shows index 0 and offset 0. -/
def patResult (isPart : Bool) (e : PatErr) (b : Body) : Body :=
  let b := ((b.mark UPD.PAT_STAT.PARTIAL isPart).put UPD.PAT_STAT.SECT e.2.1).put UPD.PAT_STAT.CODE e.1
  let b := b.put UPD.PAT_OFS.OFFSET e.2.2
  if e.1 = 0 then b else blockRecord 12 (e.1 + e.2.1 * 256) e.2.2 b

def patOk : PatErr := (0, 0, 0)

def patSlot (b : Body) (s : Nat) : Option PatSlot := (b.nv.pats.find? fun p => decide (p.1 = s)).map (·.2)

/-- A write of the pattern-slot word (R500, R526): ACTIVE, PENDING, the next generation, CRC-16 and mark. -/
def patWord (active : Nat) (pending : Bool) (b : Body) : Body :=
  let lo := active % 2 + (if pending then 2 else 0) + (b.nv.patLo / 2 ^ 16 + 1) % 2 ^ 16 * 2 ^ 16
  { (b.put UPD.STAT.PAT_SLOT active).mark UPD.STAT.PAT_PENDING pending with
      nv := { b.nv with patLo := lo, patHi := crc16 (toLe 4 lo) + 0x4B53 * 2 ^ 16 } }

/-- The pattern-slot word as a cold start reads it. One whose CRC or mark fails names slot A and nothing pending, as the rules name
no other default (DESIGN CHOICE, log entry 95). -/
def patWordRead (b : Body) : Body :=
  let ok := decide (b.nv.patHi = crc16 (toLe 4 b.nv.patLo) + 0x4B53 * 2 ^ 16)
  (b.put UPD.STAT.PAT_SLOT (if ok then b.nv.patLo % 2 else 0)).mark UPD.STAT.PAT_PENDING (ok && decide (b.nv.patLo / 2 % 2 = 1))

/-- A pending pattern is judged first (R526). Answers whether a failed check stands recorded. -/
def judgePending (b : Body) : Body × Bool :=
  if !b.flag UPD.STAT.PAT_PENDING then (b, false) else
  let act := b.get UPD.STAT.PAT_SLOT
  match patSlot b (1 - act) with
  | none => (patWord act false b, false)
  | some p => match validate b none true false p.full with
    | some e => (patWord act false (patResult false e b), true)
    | none => (patWord (1 - act) false (patResult false patOk b), false)

/-- The partials of a chain, each validated against what runs before it; the first failure ends the chain (R112). -/
def chainOf (b : Body) : Pat → List (List Nat) → Pat × Option (Bool × PatErr)
  | p, [] => (p, none)
  | p, l :: t => match validate b (some p) false false l with
    | some e => (p, some (true, e))
    | none => chainOf b (patOf (some p) l) t

/-- The chain of the active slot (R109, R112): the pattern in force, and the failure that a check found. -/
def loadChain (b : Body) : Option Pat × Option (Bool × PatErr) :=
  match patSlot b (b.get UPD.STAT.PAT_SLOT) with
  | none => (none, none)
  | some s => match validate b none false false s.full with
    | some e => (none, some (false, e))
    | none =>
      let (p, r) := chainOf b (patOf none s.full) s.partials
      if p.serial < b.get UPD.PAT_FLOOR.FLOOR ∨ !b.nv.patFloorOk then (none, some (p.isPartial, (0x04, 0xFF, 0x10)))
      else (some p, r)

/-- Partials of a chain are judged against the world map they would run under, which is the full pattern's (R98). -/
def withMap (b : Body) : Body := match patSlot b (b.get UPD.STAT.PAT_SLOT) with
  | none => b
  | some s => takeWorldmap { b with pat := { b.pat with run := some (patOf none s.full) } }

/-- Loads the pattern of the active slot into a module whose runtime has started (R90, R93, R112). -/
def loadPattern (b : Body) : Body :=
  let (b, failed) := judgePending (patWordRead (calLoad (meterRestore b)))
  let (p?, r) := loadChain (withMap b)
  let b := match r with
    | some (part, e) => patResult part e b
    | none => match p? with
      | some p => if failed then b else patResult p.isPartial patOk b
      | none => b
  match p? with
  | none => openWindow (loadSettings (deriveAll [2] (lockWorld b)))
  | some p =>
    let b := lockWorld (takeWorldmap { b with pat := { b.pat with run := some p } })
    let b := coldSections b
    let b := deriveCold b
    let b := loadSettings (airQueues b)
    let b := marksFrom b.clock.cyc b
    let b := b.put SYS.PAT_SERIAL.SERIAL p.serial
    let b := { b with air := { b.air with configDue := nodeUnits b }, seam := { b.seam with witQuiet := some b.clock.cyc } }
    let b := b.each (List.range (sensCnt b)) fun b k => setSensor b (512 + k) { Sensor.init with passedAt := b.clock.cyc }
    openWindow (relaysFollow (setRuns b))

/-- PATTERN_LOAD: once, in a module that has booted (R90), whose runtime runs and whose pattern is not loaded. -/
def execPatternLoad (s : State) : Outcome State Fault Refusal :=
  onBody (fun b => if (b.power = .run ∨ b.power = .hem) ∧ b.upd.booted ∧ !loaded b ∧ !b.flag TB.CTL.RUN then loadPattern b else b) s

/-- WORLD_LOCK: the runtime's step of R34, or a write of 1 to the lock. -/
def execWorldLock (s : State) : Outcome State Fault Refusal := onBody lockWorld s

end Sys2Proof.Machine
end

