-- ==== Sys2Proof/Machine/PatternSwitch.lean ====
section
/-! DEFINITION. Machine/PatternSwitch.lean: receiving a pattern, staging it, the switch at a bolt boundary (R113 to R117, R526), and
the modes of R118 to R123. -/

namespace Sys2Proof.Machine

open Host

/-! ### Receiving -/

/-- A full pattern changes a restart section of R98. -/
def changesRestart (o n : List Sect) : Bool :=
  [sWORLDMAP, sSTRUCTURE, sREGION, sSTITCH_PLAN, sTWIN, sHIERARCHY].any fun ty => changedSect o n ty

/-- A complete container is checked (R109, R110, R114) and, when it passes, staged (R113). Answers the code and the
directory index and the offset. -/
def receivePattern (l : List Nat) (b : Body) : Body × PatErr :=
  match validate b b.pat.run true true l with
  | some e => (patResult (isPartial l) e b, e)
  | none =>
    if b.pat.staged.isSome then (patResult (isPartial l) (0x11, 0xFF, 0) b, (0x11, 0xFF, 0))
    else
      let p := patOf b.pat.run l
      let restart := !isPartial l && changesRestart (runSects b) p.sects
      let st : Staged := { container := l, pat := p, restart := restart, armed := none }
      (patResult (isPartial l) patOk { b with pat := { b.pat with staged := some st } }, patOk)

/-- A container is written to a pattern slot (R526). -/
def storeFull (s : Nat) (l : List Nat) (b : Body) : Body :=
  { b with nv := { b.nv with pats := (b.nv.pats.filter fun p => decide (p.1 ≠ s)) ++ [(s, { full := l, partials := [] })] } }

/-- Staging is done: the switch is armed, or a changed restart section goes to the inactive slot (R113, R526). -/
def stageDone (b : Body) : Body := match b.pat.staged with
  | none => b
  | some st =>
    if st.armed.isSome then b else
    let s := 1 - b.get UPD.STAT.PAT_SLOT
    if st.restart then
      patWord (b.get UPD.STAT.PAT_SLOT) true (storeFull s st.container { b with pat := { b.pat with staged := none } })
    else
      let b := if isPartial st.container then b else storeFull s st.container b
      { b with pat := { b.pat with staged := some { st with armed := some (boltAfter b 100) } } }

/-- An incomplete assembly not fed for 60 s is dropped (R484). -/
def assemblyTimeout (b : Body) : Body := match b.pat.assembly with
  | none => b
  | some a => if sinceS b a.fedCyc < 60 then b else { b with pat := { b.pat with assembly := none } }

def execPatternAssemblyTimeout (s : State) : Outcome State Fault Refusal := onBody assemblyTimeout s

/-! ### Switch -/

/-- An image activation falls due at this boundary or is in progress: from Ta until the new runtime has taken over at Tb (R518). -/
def activating (b : Body) : Bool :=
  decide (b.get UPD.ACT_STAT.PHASE = 2 ∨ b.get UPD.ACT_STAT.PHASE = 3) || match b.upd.act with
    | some a => decide (a.bolt ≤ boltIdx b)
    | none => false

/-- What keeps a switch from its boundary: an emergency, hem, a takeover, an image activation there (R117, R576). -/
def switchBlocked (b : Body) : Bool := emergency b || inHem b || takeover b || activating b

/-- Tile activations still run (R115). -/
def anyActive (b : Body) : Bool := b.loom.tiles.any fun p => p.2.act.isSome

/-- The slots after a commit: a partial is appended to the active slot, a full pattern's slot becomes active (R526). -/
def commitSlot (l : List Nat) (b : Body) : Body :=
  let s := b.get UPD.STAT.PAT_SLOT
  if isPartial l then
    { b with nv := { b.nv with pats := b.nv.pats.map fun p => if p.1 = s then (p.1, { p.2 with partials := p.2.partials ++ [l] }) else p } }
  else patWord (1 - s) false b

/-- The container carries a section of the type. -/
def carries (l : List Nat) (ty : Nat) : Bool := (dirOf l).any fun e => decide (e.ty = ty)

/-- The container carries the TILE section of tile `t`. -/
def carriesTile (l : List Nat) (t : Nat) : Bool := (dirOf l).any fun e => decide (e.ty = sTILE ∧ e.inst = t)

/-- The switch at its bolt boundary: events are held; when no activation runs any more the pattern commits. Blocked, it
moves to the next boundary (R115, R117). -/
def patternSwitch (b : Body) : Body := match b.pat.staged with
  | some ⟨l, p, r, some k⟩ =>
    if boltIdx b < k then b
    else if switchBlocked b then
      { b with pat := { b.pat with staged := some ⟨l, p, r, some (boltIdx b + 1)⟩ } }.mark LOOM.STAT.HELD b.upd.taking
    else
      let b := b.mark LOOM.STAT.HELD true
      if anyActive b then b
      else commitSlot l (commitSwitch (fun ty => !isPartial l || carries l ty) (carries l sMODES) (carriesTile l) p { b with pat := { b.pat with staged := none } })
  | _ => b

/-- A switch has begun and not committed. -/
def switchUnderWay (b : Body) : Bool := match b.pat.staged with
  | some st => match st.armed with
    | some k => b.flag LOOM.STAT.HELD && decide (k ≤ boltIdx b)
    | none => false
  | none => false

/-- The release of held events: from here on each source port's events move again (R115, R518). -/
def heldRelease (b : Body) : Body := if switchUnderWay b || b.upd.taking then b else b.mark LOOM.STAT.HELD false

def execHeldEventRelease (s : State) : Outcome State Fault Refusal := onBody heldRelease s

/-- Every tile is reloaded from the running pattern as a changed tile (R116, R419), and tile- and host-armed entries are
freed. -/
def tileReload (b : Body) : Body :=
  if !(b.memi.reload.any fun k => decide (k ≤ boltIdx b)) then b else
  let b := { b with memi := { b.memi with reload := none } }
  let b := b.each ((List.range 64).filter fun t => decide ((sectIn (runSects b) sTILE t).isSome) || b.flag LOOM.TILE_CTL.ENABLE t)
    switchTile
  b.each (b.loom.sched.map (·.1)) fun b e => match (schedOf b e).owner with
    | .tile _ => freeEntry e b
    | .host => freeEntry e b
    | _ => b

def execTileReloadUe (s : State) : Outcome State Fault Refusal := onBody tileReload s

/-! ### Modes -/

/-- The function's block is non-secure (R118). -/
def fnNs (b : Body) (f : Nat) : Bool := match f with
  | 0 => ceNs b
  | 1 => ofeNs b
  | 6 => gioNs b
  | 7 => gioNs b
  | _ => false

/-- A write of SYS.MODE (R120, R121): entering Expert freezes the values in force; returning to Basic refuses Expert writes
at once and recomputes at the next bolt boundary. A mode that the write changes is set through SYS.MODE from here on (R123, log
entry 87). A non-secure write reaches only the bits of non-secure functions (R9). -/
def modeWrite (v : Nat) (ns : Bool) (b : Body) : Body :=
  b.each (List.range 8) fun b f =>
    if ns && !fnNs b f then b else
    let was := expert b f
    let now := decide (bits v f 1 = 1)
    let b := b.setBit SYS.MODE.EXPERT f now
    let b := if was = now then b else { b with pat := { b.pat with hostModes := insBits b.pat.hostModes f 1 1 } }
    if was && !now then { b with pat := { b.pat with owe := insBits b.pat.owe f 1 1 } }
    else if now then { b with pat := { b.pat with owe := insBits b.pat.owe f 1 0 } }
    else b

def execModeWrite (v : Nat) (ns : Bool) (s : State) : Outcome State Fault Refusal := onBody (modeWrite v ns) s

/-- The recompute of R121 at a bolt boundary. -/
def basicRecompute (b : Body) : Body :=
  let fs := (List.range 8).filter fun f => decide (bits b.pat.owe f 1 = 1)
  deriveAll fs { b with pat := { b.pat with owe := 0 } }

end Sys2Proof.Machine
end

