-- ==== Sys2Proof/Machine/Mirror.lean ====
section
/-! DEFINITION. Machine/Mirror.lean: the mirror set of a twin pair (R455, R456): what the holder puts into it and how the standby
applies it. Instants travel as ages and ends as times left, since each member has its own TCXO. -/

namespace Sys2Proof.Machine

/-- The block of R455 that a register word belongs to: 0 CE, 2 Loom, 3 AIR. -/
def mirrorBlock (a : Nat) : Option Nat :=
  if (0x40700100 ≤ a ∧ a < 0x40702100) ∨ (0x40704100 ≤ a ∧ a < 0x40706100) then some 0
  else if 0x40702100 ≤ a ∧ a < 0x40704100 ∧ a % 16 = 12 then some 0
  else if 0x40610000 ≤ a ∧ a < 0x40618000 then some 2
  else if 0x40640000 ≤ a ∧ a < 0x40648000 ∧ a % 512 ≥ 256 then some 2
  else if 0x40680000 ≤ a ∧ a < 0x40700000 ∧ a % 8192 ≥ 4096 then some 2
  else if 0x40310000 ≤ a ∧ a < 0x40330000 then some 3
  else none

/-- Seconds since the last accepted frame of a UNIT (AIR.LINK.HEARD_S). -/
def heardS (b : Body) (u : Nat) : Nat := match tabGet (fun _ => (none : Option Int)) b.air.heard u with
  | none => b.get AIR.LINK.HEARD_S u
  | some t => min 0xFFFF (sinceS b t)

/-- An instant of TCXO as an age at `now`, and an age as an instant. -/
def asAge (now : Nat) (t : Int) : Int := (now : Int) - t
/-- A channel's instants as ages, and back; an end is the time left. -/
def chanAge (now : Nat) (c : Chan) : Chan :=
  { c with repAt := c.repAt.map (asAge now), luxAt := c.luxAt.map (asAge now), verAt := c.verAt.map (asAge now),
           cctAt := asAge now c.cctAt, tempAt := asAge now c.tempAt, stretchAt := c.stretchAt.map (asAge now),
           sent := c.sent.map fun s => { s with at_ := asAge now s.at_ } }
def chanOut (now : Nat) (c : Chan) : Chan := { chanAge now c with ovrEnd := c.ovrEnd.map (· - now) }
def chanIn (now : Nat) (c : Chan) : Chan := { chanAge now c with ovrEnd := c.ovrEnd.map (now + ·) }
/-- A sensor's instants as ages, and back. -/
def sensorAge (now : Nat) (x : Sensor) : Sensor :=
  { x with tokAt := asAge now x.tokAt, roseAt := asAge now x.roseAt, takenAt := asAge now x.takenAt, passedAt := asAge now x.passedAt }
/-- A witness record's instants as ages, and back. -/
def witAge (now : Nat) (r : WitRec) : WitRec :=
  { r with votedFor := r.votedFor.map fun v => (v.1, asAge now v.2), health := r.health.map fun h => (h.1, asAge now h.2.1, h.2.2) }

/-- The bolt of an armed switch, as the holder knows it: a boundary that carries an image activation has the switch one later
(R117). -/
def switchBolt (b : Body) (k : Nat) : Nat := match b.upd.act with
  | some a => if a.bolt = k then k + 1 else k
  | none => k

/-- Everything of R455, as a full set. -/
def mirrorAll (b : Body) : MirrorSet :=
  let now := b.clock.cyc
  let link := b.air.heard.map fun p => (AIR.LINK.word.at p.1 0,
    insBits (b.word (AIR.LINK.word.at p.1 0)).toNat AIR.LINK.HEARD_S.lo 16 (heardS b p.1))
  let ws := (b.regs.filter fun p => (mirrorBlock p.1).isSome).map fun p => (p.1, p.2.toNat)
  { bolt := boltIdx b, full := true, intact := true, handover := false, extra := false, has := [0, 1, 2, 3, 4, 5, 6, 7]
    words := link.foldl (fun l p => tabIns p.1 p.2 (tabDel p.1 l)) ws
    chans := b.ce.chans.map fun p => (p.1, chanOut now p.2)
    sensors := b.ofe.sensors.map fun p => (p.1, sensorAge now p.2)
    tracks := b.ofe.tracks
    serialNext := b.ofe.serialNext
    timers := b.loom.tiles.flatMap fun p => p.2.timers.map fun t => (p.1, t.1, (t.2 - now) / 26000)
    sched := b.loom.sched
    marks := b.air.marks
    stamp := b.air.lastStamp
    cfgSeq := b.air.cfgSeq
    ecum := b.att.ecum
    circs := b.att.circs
    spans := b.att.spans
    moves := b.att.moves
    staged := b.pat.staged.bind fun st => st.armed.map fun k => (st.container, switchBolt b k)
    settings := settingWords b
    wit := b.seam.wit.map (witAge now) }

/-- The words of one block. -/
def blockWords (k : Nat) (l : List (Nat × Nat)) : List (Nat × Nat) := l.filter fun p => decide (mirrorBlock p.1 = some k)

/-- The blocks in which two sets differ. -/
def changedBlocks (o n : MirrorSet) : List Nat :=
  (if o.chans ≠ n.chans ∨ blockWords 0 o.words ≠ blockWords 0 n.words then [0] else []) ++
  (if o.sensors ≠ n.sensors ∨ o.tracks ≠ n.tracks ∨ o.serialNext ≠ n.serialNext then [1] else []) ++
  (if o.timers ≠ n.timers ∨ o.sched ≠ n.sched ∨ blockWords 2 o.words ≠ blockWords 2 n.words then [2] else []) ++
  (if o.marks ≠ n.marks ∨ o.stamp ≠ n.stamp ∨ o.cfgSeq ≠ n.cfgSeq ∨ blockWords 3 o.words ≠ blockWords 3 n.words then [3] else []) ++
  (if o.ecum ≠ n.ecum ∨ o.circs ≠ n.circs ∨ o.spans ≠ n.spans ∨ o.moves ≠ n.moves then [4] else []) ++
  (if o.settings ≠ n.settings then [5] else []) ++
  (if o.wit ≠ n.wit then [6] else []) ++
  (if o.staged ≠ n.staged then [7] else [])

/-- What a partial set carries of a full one: the blocks named. -/
def mirrorPart (ks : List Nat) (m : MirrorSet) : MirrorSet :=
  let c := fun k => ks.contains k
  { bolt := m.bolt, full := false, intact := true, handover := false, extra := false, has := ks
    words := m.words.filter fun p => (mirrorBlock p.1).any c
    chans := if c 0 then m.chans else []
    sensors := if c 1 then m.sensors else []
    tracks := if c 1 then m.tracks else []
    serialNext := if c 1 then m.serialNext else 0
    timers := if c 2 then m.timers else []
    sched := if c 2 then m.sched else []
    marks := if c 3 then m.marks else []
    stamp := if c 3 then m.stamp else 0
    cfgSeq := if c 3 then m.cfgSeq else []
    ecum := if c 4 then m.ecum else []
    circs := if c 4 then m.circs else []
    spans := if c 4 then m.spans else []
    moves := if c 4 then m.moves else []
    staged := if c 7 then m.staged else none
    settings := if c 5 then m.settings else []
    wit := if c 6 then m.wit else [] }

/-- The standby takes the holder's armed switch, to apply it at the same bolt boundary (R441); one that the holder dropped
goes. The holder has checked the container, which differs in DEV_BIND alone; a partial needs its base here too. -/
def stagedIn (m : MirrorSet) (b : Body) : Body :=
  if !m.has.contains 7 then b else
  match m.staged with
  | some (l, k) =>
    if isPartial l && decide (u32 l 0x14 ≠ b.get SYS.PAT_SERIAL.SERIAL) then b
    else if !isPartial l && decide (u32 l 0x10 = b.get SYS.PAT_SERIAL.SERIAL) then b
    else
      let b := if isPartial l then b else storeFull (1 - b.get UPD.STAT.PAT_SLOT) l b
      { b with pat := { b.pat with staged := some { container := l, pat := patOf b.pat.run l, restart := false, armed := some k } } }
  | none => match b.pat.staged.bind (·.armed) with
    | some k => if m.bolt < k then { b with pat := { b.pat with staged := none } } else b
    | none => b

/-- The standby takes the blocks of a set (R456). -/
def mirrorApply (m : MirrorSet) (b : Body) : Body :=
  let c := fun k => m.has.contains k
  let now := b.clock.cyc
  let b := { b with regs := b.regs.filter fun p => !(mirrorBlock p.1).any c }
  let b := b.each (m.words.filter fun p => (mirrorBlock p.1).any c) fun b p => b.setWord p.1 (BitVec.ofNat 32 p.2)
  let b := if c 0 then { b with ce := { b.ce with chans := m.chans.map fun p => (p.1, chanIn now p.2) } } else b
  let b := if c 1 then { b with ofe := { b.ofe with sensors := m.sensors.map fun p => (p.1, sensorAge now p.2), tracks := m.tracks,
                                                    serialNext := m.serialNext } } else b
  let b := if c 1 then b.each (List.range 80) fun b w => b.put OFE.STUCK_W.STUCK
      (((List.range 32).map fun k => if (sensorOf b (32 * w + k)).stuck then 2 ^ k else 0).sum) w else b
  let b := if c 2 then
      let ts := (b.loom.tiles.map (·.1)) ++ (m.timers.map (·.1)).filter fun t => !(b.loom.tiles.map (·.1)).contains t
      let b := b.each ts fun b t => setTile b t { tileOf b t with
        timers := (m.timers.filter fun x => decide (x.1 = t)).map fun x => (x.2.1, now + msCyc x.2.2) }
      { b with loom := { b.loom with sched := m.sched } }
    else b
  let b := if c 3 then
      let hs := (blockWords 3 m.words).filterMap fun p =>
        if p.1 < 0x40320000 then
          let s : Nat := p.2 / 2 ^ AIR.LINK.HEARD_S.lo % 2 ^ 16
          if s = 0xFFFF then none else some ((p.1 - 0x40310000) / 4, some ((now : Int) - s * 26000000))
        else none
      { b with air := { b.air with marks := m.marks, lastStamp := m.stamp, heard := hs, cfgSeq := m.cfgSeq } }
    else b
  let b := if c 4 then
      { b with att := { b.att with ecum := m.ecum, circs := m.circs, spans := m.spans, moves := m.moves } }.each (List.range 24) fun b k =>
        showCirc k b
    else b
  let b := if c 5 ∧ m.settings ≠ settingWords b then restoreWords m.settings (writeSettings m.settings b) else b
  let b := if c 6 then { b with seam := { b.seam with wit := m.wit.map (witAge now) } } else b
  b.put SEAM.MIRROR.BOLT m.bolt

end Sys2Proof.Machine
end

