-- ==== Sys2Proof/Machine/SeamFrame.lean ====
section
/-! DEFINITION. Machine/SeamFrame.lean: the frames of the seam (R453): EtherType 0x88B5, a header of UID, role, epoch and
counter, and AES-128-CCM with a 16-byte MIC under the pair key. The spec gives the messages no byte layout: the one here is the
model's (DESIGN CHOICE, log entry 97). -/

namespace Sys2Proof.Machine

/-! ### Bytes of a message -/

/-- A number in 8 bytes, an integer in 16. -/
def encN (n : Nat) : List Nat := toBe 8 n
def encI (i : Int) : List Nat := toBe 16 (uns 128 i)
def encB (x : Bool) : List Nat := [if x then 1 else 0]
/-- A list behind its length. -/
def encL {α : Type} (f : α → List Nat) (l : List α) : List Nat := toBe 4 l.length ++ l.flatMap f
def encO {α : Type} (f : α → List Nat) (o : Option α) : List Nat := match o with
  | some x => 1 :: f x
  | none => [0]
def encP {α β : Type} (f : α → List Nat) (g : β → List Nat) (p : α × β) : List Nat := f p.1 ++ g p.2

def encSent (x : Sent) : List Nat :=
  encN x.level ++ encN x.cct ++ encN x.phase ++ encN x.fadeMs ++ encN x.curve ++ encN x.start ++ encN x.flags ++ encI x.at_
def encChan (x : Chan) : List Nat :=
  encN x.laExp ++ encO encN x.ovrEnd ++ encN x.dlI ++ encN x.dlRem ++ encO encI x.repAt ++ encO encI x.luxAt ++ encO encI x.verAt ++
  encO encI x.temp ++ encI x.tempAt ++ encB x.hot ++ encO encN x.cctMeas ++ encI x.cctAt ++ encO encSent x.sent ++ encN x.planned ++
  encB x.phaseDue ++ encO encI x.stretchAt
def encSensor (x : Sensor) : List Nat :=
  encB x.p ++ encO encN x.tc ++ encO encN x.ta ++ encN x.tokens ++ encI x.tokAt ++ encB x.stuck ++ encB x.lost ++ encB x.heard ++
  encN x.bay ++ encI x.roseAt ++ encI x.takenAt ++ encI x.passedAt
def encTrack (x : Track) : List Nat :=
  encB x.live ++ encN x.node ++ encN x.prev ++ encN x.tLast ++ encN x.vq ++ encN x.cls ++ encN x.hits ++ encN x.serial ++ encN x.band
def encSched (x : SchedSt) : List Nat :=
  (match x.owner with
    | .free => [0]
    | .pattern => [1]
    | .tile t => 2 :: encN t
    | .host => [3]
    | .reserved t => 4 :: encN t) ++ encN x.next
def encMark (x : Mark) : List Nat := encN x.unit ++ encN x.cls ++ encN x.stamp ++ encL encN x.hdr ++ encL encN x.mic
def encChip (x : Chip) : List Nat :=
  encN x.q ++ encI x.sum ++ encN x.n ++ encB x.bad ++ encL encN x.refs ++ encL encB x.noRef
def encCirc (x : AttCirc) : List Nat :=
  encL encChip x.chips ++ encL (encL encI) x.gram ++ encL (encL encI) x.prod ++ encI x.yy ++ encI x.weight ++ encN x.periods ++
  encN x.lag ++ encB x.locked ++ encL encN x.runs ++ encL encB x.noRef ++ encN x.last ++ encB x.due
def encWit (x : WitMsg) : List Nat :=
  encN x.op ++ encN x.mod ++ encN x.member ++ encN x.role ++ encN x.voteFor ++ toBe 16 x.uid ++ encN x.epoch ++ encN x.time ++
  encN x.health ++ encN x.remain ++ encN x.seq
def encWitRec (x : WitRec) : List Nat :=
  encN x.mod ++ encO (encP encN encI) x.votedFor ++ encN x.epoch ++ encO encWit x.held ++
  encL (encP (toBe 16) (encP encI encN)) x.health
/-- The bytes of a mirror set. -/
def encMirror (m : MirrorSet) : List Nat :=
  encN m.bolt ++ encB m.full ++ encB m.handover ++ encB m.extra ++ encL encN m.has ++ encL (encP (toBe 4) (toBe 4)) m.words ++
  encL (encP encN encChan) m.chans ++ encL (encP encN encSensor) m.sensors ++ encL (encP encN encTrack) m.tracks ++
  encN m.serialNext ++ encL (encP encN (encP encN encN)) m.timers ++ encL (encP encN encSched) m.sched ++ encL encMark m.marks ++
  encN m.stamp ++ encL (encP encN encN) m.cfgSeq ++ encL (encP encN encN) m.ecum ++ encL (encP encN encCirc) m.circs ++
  encL (encP encN encN) m.spans ++ encL (encP encN (encP encN encN)) m.moves ++ encO (encP (encL encN) encN) m.staged ++
  encL (encP (toBe 4) (toBe 4)) m.settings ++ encL encWitRec m.wit

/-- What every seam message carries beside its header: the health report, SERIAL, RENEW, vote, and the marks of a hand-over, of
hem and of suspended slices. -/
def encBeat (h : SeamBeat) : List Nat :=
  toBe 4 h.health ++ toBe 4 h.serial ++ encO encN h.renew ++ encO encN h.vote ++ encB h.applied ++ encB h.hem ++ encB h.held ++
  encB h.back

/-! ### Frames -/

/-- The kinds of seam message: 0 HEARTBEAT, 1 RELEASE, 2 MIRROR. -/
def seamBeatKind : Nat := 0
def seamReleaseKind : Nat := 1
def seamMirrorKind : Nat := 2

/-- A message in pieces that fit into a frame; `n` bounds their number. A message without bytes is one piece. -/
def seamPieces : Nat → List Nat → List (List Nat)
  | 0, l => [l.take 1400]
  | n + 1, l => if l.length ≤ 1400 then [l] else l.take 1400 :: seamPieces n (l.drop 1400)
def piecesOf (l : List Nat) : List (List Nat) := seamPieces (l.length / 1400) l

/-- The header of a frame, which is authenticated and not encrypted. -/
def seamHeader (kind : Nat) (h : SeamBeat) (counter : Nat) : List Nat :=
  [kind, h.role] ++ toBe 16 h.uid ++ toBe 4 h.epoch ++ toBe 8 counter
/-- The nonce of a frame: the counter and the low bytes of the sender's UID. -/
def seamNonce (h : SeamBeat) (counter : Nat) : List Nat := toBe 8 counter ++ toBe 5 h.uid
/-- The MIC of one frame. -/
def seamMic (key : List Nat) (kind : Nat) (h : SeamBeat) (counter : Nat) (piece : List Nat) : List Nat :=
  ccmTag16 key (seamNonce h counter) (seamHeader kind h counter) piece

/-- The bytes of a message: those of every seam message, then those of its kind. -/
def beatBytes (h : SeamBeat) : List Nat := encBeat h
def releaseBytes (h : SeamBeat) (member : Nat) : List Nat := encBeat h ++ [member]
def mirrorBytes (h : SeamBeat) (m : MirrorSet) : List Nat := encBeat h ++ encMirror m

/-- The MICs of a message's frames, whose counters rise from `h.counter`. -/
def seamMics (key : List Nat) (kind : Nat) (h : SeamBeat) (bytes : List Nat) : List Nat :=
  (piecesOf bytes).zipIdx.flatMap fun p => seamMic key kind h (h.counter + p.2) p.1

/-- One frame between the SEAM ports, to the twin where its address is known. -/
def seamFrame (key : List Nat) (dst src kind : Nat) (h : SeamBeat) (counter : Nat) (piece : List Nat) : List Nat :=
  toBe 6 dst ++ toBe 6 src ++ [0x88, 0xB5] ++ seamHeader kind h counter ++ ccmCrypt key (seamNonce h counter) piece ++
    seamMic key kind h counter piece

/-- The frames of a message. -/
def seamFrames (b : Body) (kind : Nat) (h : SeamBeat) (bytes : List Nat) : List (List Nat) := match b.nv.keys.pair with
  | some key =>
    let dst := match b.seam.peer with
      | some p => p.mac
      | none => 0xFFFFFFFFFFFF
    (piecesOf bytes).zipIdx.map fun p => seamFrame key dst b.nv.mac kind h (h.counter + p.2) p.1
  | none => []

/-- How many counters a message takes. -/
def seamCount (bytes : List Nat) : Nat := (piecesOf bytes).length

/-- The message's MICs hold under the pair key. -/
def seamAuthentic (b : Body) (kind : Nat) (h : SeamBeat) (bytes : List Nat) : Bool := match b.nv.keys.pair with
  | some key => decide (h.mic = seamMics key kind h bytes)
  | none => false

end Sys2Proof.Machine
end

