-- ==== Sys2Proof/Machine/Seam.lean ====
section
/-! DEFINITION. Machine/Seam.lean: twin operation (R440 to R470): votes, lease and epoch, the witness, heartbeat and mirror, hand-over and
takeover. -/

namespace Sys2Proof.Machine

open Host

/-! ### Members and votes (R444) -/

def healthWord (b : Body) : Nat := b.get SEAM.HEALTH.word

def member (b : Body) : Nat := b.get SEAM.STAT.MEMBER
/-- The twin's UID in TWIN. -/
def twinUid (b : Body) : Nat := leNat (bytesAt (sectD b sTWIN) (8 + 16 * (1 - member b)) 16)

/-! ### Conflict of addresses (R22) -/

/-- A sign of another module under the own MOD: raised once while the conflict stands. -/
def modConflict (b : Body) : Body :=
  if b.sha.conflict = 1 then b else raise 0x0001 (modNo b) 0 { b with sha := { b.sha with conflict := 1 } }

/-- A UID that is the twin's. -/
def isTwin (b : Body) (uid : Nat) : Bool := twinPresent b && decide (uid = twinUid b)

/-- A message, not marked RELAYED, that names the own MOD as its source while its peer's UID is not the twin's. -/
def srcConflict (src uid : Nat) (b : Body) : Body :=
  if loaded b && decide (src = modNo b) && !isTwin b uid then modConflict b else b

/-! ### Votes of this member -/

/-- The own vote is bound to member `m`. -/
def boundTo (b : Body) (m : Nat) : Bool := match b.seam.bound with
  | some (k, e) => decide (k = m) && decide (b.clock.cyc < e)
  | none => false

/-- The own vote may go to member `m`: the hold-off of R449 has ended and no binding to the other member runs. -/
def mayVote (b : Body) (m : Nat) : Bool := !b.seam.quiet && !boundTo b (1 - m)

/-- The own vote is cast for member `m` now. -/
def castVote (m : Nat) (b : Body) : Body :=
  { b with seam := { b.seam with bound := some (m, b.clock.cyc + tL b + tG b) } }

/-- The serials agree, so far as the twin was heard (R441). -/
def serialOk (b : Body) : Bool := match b.seam.peer with
  | some h => decide (h.serial = b.get SYS.PAT_SERIAL.SERIAL)
  | none => true

/-- The member may take the lease (R441, R448, R449). -/
def mayTake (b : Body) : Bool :=
  seamRun b && decide (seamRole b ≤ 1) && mayVote b (member b) && b.seam.learn.isNone && serialOk b &&
  decide (b.get UPD.STAT.ENROL = 1)

/-! ### What is sent -/

/-- The head of a seam message: the member's UID, role, epoch and next counter, and what every message carries (R453). -/
def seamHead (b : Body) (renew vote : Option Nat) (applied back : Bool) : SeamBeat :=
  { uid := b.nv.uid, role := seamRole b, epoch := b.get SEAM.EPOCH.EPOCH, counter := b.seam.tx + 1, health := healthWord b,
    serial := b.get SYS.PAT_SERIAL.SERIAL, renew := renew, vote := vote, applied := applied, hem := inHem b,
    held := b.seam.slicesHeld, back := back, mic := [], mac := b.nv.mac }

/-- The message with its MICs. -/
def seamSigned (b : Body) (kind : Nat) (h : SeamBeat) (bytes : List Nat) : SeamBeat := match b.nv.keys.pair with
  | some key => { h with mic := seamMics key kind h bytes }
  | none => h

/-- A message takes its counters; it leaves with a pair key and over a link that is up. -/
def seamSend (n : Nat) (e : Emission) (b : Body) : Body :=
  let b := { b with seam := { b.seam with tx := b.seam.tx + n } }
  if b.nv.keys.pair.isSome && portUp b 2 then b.emit e else b

/-- A HEARTBEAT leaves over the seam (R453, R454). -/
def sendBeat (renew vote : Option Nat) (applied : Bool) (b : Body) : Body :=
  let b := healthFollow b
  let h := seamHead b renew vote applied false
  let l := beatBytes h
  seamSend (seamCount l) (.seam (seamSigned b seamBeatKind h l) (seamFrames b seamBeatKind h l)) b

/-- A RELEASE that names a member leaves over the seam (R453, R458). -/
def sendRelease (dst : Nat) (back : Bool) (b : Body) : Body :=
  let b := healthFollow b
  let h := seamHead b none none false back
  let l := releaseBytes h dst
  seamSend (seamCount l) (.release (seamSigned b seamReleaseKind h l) dst (seamFrames b seamReleaseKind h l)) b

/-- One frame of a mirror set: its piece stands in Q29, and the frame passes Q12 behind the header of R396 (R455). Whether both
queues took it. -/
def mirrorFrame (piece frame : List Nat) (b : Body) : Bool × Body :=
  match qPut 29 piece b with
  | (b, false) => (false, b)
  | (b, true) =>
    let b := (qTake 29 b).2
    match qPut 12 (toLe 2 frame.length ++ [0, 0] ++ List.replicate 12 0 ++ frame) b with
    | (b, false) => (false, b)
    | (b, true) => (true, (qTake 12 b).2)

/-- The frames of a set that both queues took. -/
def mirrorFrames : List (List Nat × List Nat) → Body → List (List Nat) × Body
  | [], b => ([], b)
  | p :: t, b =>
    let (ok, b) := mirrorFrame p.1 p.2 b
    let (l, b) := mirrorFrames t b
    (if ok then p.2 :: l else l, b)

/-- A mirror set leaves over the seam (R453, R455). -/
def sendMirror (m : MirrorSet) (b : Body) : Body :=
  let b := healthFollow b
  let h := seamHead b none none false false
  let l := mirrorBytes h m
  let (fs, b) := mirrorFrames ((piecesOf l).zip (seamFrames b seamMirrorKind h l)) b
  seamSend (seamCount l) (.mirror (seamSigned b seamMirrorKind h l) m fs) b

/-- The 40 bytes of R489. -/
def witBytes (b : Body) (op voteFor epoch time health remain : Nat) : List Nat :=
  [op, member b, seamRole b, voteFor] ++ uidBytes b.nv.uid ++ toBe 4 epoch ++ toBe 8 time ++ toBe 4 health ++ toBe 4 remain

def witnessMod (b : Body) : Nat := b.get SEAM.WITNESS.WIT_MOD

/-- A LEASE_WITNESS request to a peer: outside the window of 8 and never resent (R479, R495). -/
def witSend (dst : Nat) (p : List Nat) (b : Body) : Body := match assocOf b dst with
  | none => b
  | some a =>
    let next := if a.nextSeq = 0xFFFFFFFF then 1 else a.nextSeq + 1
    let b := setAssoc { a with nextSeq := next } b
    shEmit dst (shMsg 0x0A a.nextSeq (modNo b) dst 0 0 0 p) b

/-- Now, in µs of the own TCXO. -/
def nowUs (b : Body) : Nat := b.clock.cyc / 26

def askWitness (op voteFor : Nat) (b : Body) : Body :=
  if witnessMod b = 0xFFFF then b
  else witSend (witnessMod b) (witBytes b op voteFor (b.get SEAM.EPOCH.EPOCH) (nowUs b) (healthWord b) 0) b

/-! ### Taking the lease -/

/-- The network part of IPv6 addresses in force: the one learned by autoconfiguration, before it the link-local one (DESIGN CHOICE, log entry 100). -/
def ipNet (b : Body) : List Nat := if b.sha.learnt = [] then [0xFE, 0x80, 0, 0, 0, 0, 0, 0] else b.sha.learnt

/-- The IPv6 pair address (R476). -/
def pairAddr (b : Body) : Nat :=
  let own := bytesAt (sectD b sHIERARCHY) 24 16
  if own.all (· = 0) then beNat (ipNet b ++ [0x02, 0x4B, 0x53, 0, 0, netNo b] ++ toBe 2 (modNo b))
  else beNat own

/-- The IPv6 member address, formed from the own MAC as RFC 4291 forms an interface identifier (R476). -/
def memberAddr (b : Body) : Nat :=
  let m := toBe 6 b.nv.mac
  beNat (ipNet b ++ [Nat.xor (u8 m 0) 2, u8 m 1, u8 m 2, 0xFF, 0xFE, u8 m 3, u8 m 4, u8 m 5])

/-- One's complement sum of 16-bit words. -/
def sum16 (l : List Nat) : Nat :=
  let s := ((List.range ((l.length + 1) / 2)).map fun i => 256 * l.getD (2 * i) 0 + l.getD (2 * i + 1) 0).sum
  let s := s % 65536 + s / 65536
  s % 65536 + s / 65536

/-- The unsolicited Neighbor Advertisement for the pair address (R476, RFC 4861). -/
def neighborFrame (b : Body) : List Nat :=
  let src := toBe 16 (pairAddr b)
  let all := [0xFF, 0x02, 0, 0, 0, 0, 0, 0, 0, 0, 0, 0, 0, 0, 0, 1]
  let rest := [0x20, 0, 0, 0] ++ src ++ [2, 1] ++ toBe 6 b.nv.mac
  let ck := 65535 - sum16 (src ++ all ++ [0, 0, 0, 32, 0, 0, 0, 58, 136, 0, 0, 0] ++ rest)
  [0x33, 0x33, 0, 0, 0, 1] ++ toBe 6 b.nv.mac ++ [0x86, 0xDD, 0x60, 0, 0, 0, 0, 32, 58, 255] ++ src ++ all ++
    [136, 0] ++ toBe 2 ck ++ rest

/-- The channels whose node the last mirror set had heard within 120 s (R468). -/
def expectedChans (b : Body) : List Nat := (List.range (chanCnt b)).filter fun n => decide (b.get AIR.LINK.HEARD_S (n + 1) ≤ 120)

/-- The first stitch boundary at least 1 ms ahead (R460). -/
def firstStitch (b : Body) : Nat := (tnNs b + 1000000 + stitchNs b - 1) / stitchNs b * stitchNs b

/-- The associations at the pair address end; those at the member's own address go on (R476). -/
def dropPair (b : Body) : Body := { b with sha := { b.sha with assocs := b.sha.assocs.filter (·.own) } }

/-- The member becomes holder on votes for the send time `s` (R447, R460, R468): a new epoch before it acts, then outputs
from its own state, and every channel sent again. -/
def takeLease (s : Nat) (b : Body) : Body :=
  let takeover := decide (seamRole b = 1) && !b.seam.named
  let peerEpoch := match b.seam.peer with
    | some h => h.epoch
    | none => 0
  let e := (max (b.get SEAM.EPOCH.EPOCH) (max peerEpoch b.seam.witEpoch) + 1) % 2 ^ 32
  let b := (b.put SEAM.EPOCH.EPOCH e).put AIR.EPOCH.EPOCH (e % 2 ^ 14)
  let b := castVote (member b) b
  let ex := expectedChans b
  let b := (b.put SEAM.STAT.ROLE 2).mark AIR.CTL.RUN (!b.flag SAFE.STAT.HEM_SILENT)
  let b := (b.put SEAM.TAKEOVER.EXPECTED ex.length).put SEAM.TAKEOVER.HEARD 0
  let b := if takeover then (b.mark SEAM.EVENT.TAKEOVER true).wrap SEAM.COUNT.TAKEOVERS else b
  let m := { b.seam with leaseEnd := some (s + tL b), lapsedAt := none, granted := false, gotBack := b.seam.named && b.seam.gotBack }
  let m := { m with named := false, returned := false, refusedMs := 0, lastSet := none, mirSets := [], mirBolt := none }
  let m := { m with airFrom := firstStitch b, test := if ex = [] then none else some ⟨firstStitch b, ex, []⟩, slicesHeld := m.slicesHeld && decide (ex ≠ []) }
  let b := dropPair { b with seam := { m with witQuiet := some b.clock.cyc, sinceFull := 15 } }
  let b := relaysFollow b
  let b := if emergency b && !b.flag SAFE.STAT.HEM_SILENT then addDescs ((enabledRadios b).map .emerg) b else b
  let why := if emergency b || inHem b then Why.safe else Why.refresh
  let b := askAll why b
  let f := withFcs (neighborFrame b)
  let b := b.each [0, 1] fun b p => if portUp b p then sendOut p false false false f b else b
  suspendFollow (reselect b)

/-- A vote for the send time `s` arrived: a holder's lease is extended, a member that asked takes the lease. -/
def voteFor (s : Nat) (b : Body) : Body :=
  if seamRole b = 2 then
    let e := s + tL b
    { b with seam := { b.seam with leaseEnd := some (match b.seam.leaseEnd with
      | some o => max o e
      | none => e) } }
  else if mayTake b && decide (b.clock.cyc < s + tL b) then takeLease s b
  else b

/-! ### Lease events -/

/-- LEASE_RENEW_SEND (R445): to the twin in a HEARTBEAT and to the witness. In silent hem with no GOOD twin, renewals stop
(R579). -/
def renewSend (b : Body) : Body :=
  if !seamRun b || decide (seamRole b ≠ 2) || (b.flag SAFE.STAT.HEM_SILENT && !twinGood b) then b else
  let now := b.clock.cyc
  let b := castVote (member b) { b with seam := { b.seam with lastRenew := some now } }
  askWitness 1 0 (sendBeat (some now) none false b)

def execLeaseRenewSend (s : State) : Outcome State Fault Refusal := onBody renewSend s

/-- LEASE_EXPIRY (R446). -/
def leaseExpiry (b : Body) : Body := match b.seam.leaseEnd with
  | some e =>
    if seamRole b = 2 ∧ e ≤ b.clock.cyc then
      let b := (stopActing b).mark SEAM.EVENT.LAPSED true
      suspendFollow (raise 0x0E03 (b.get SEAM.EPOCH.EPOCH) 0 b)
    else b
  | none => b

def execLeaseExpiry (s : State) : Outcome State Fault Refusal := onBody leaseExpiry s

/-- VOTE_BINDING_END (R444). -/
def bindingEnd (b : Body) : Body := match b.seam.bound with
  | some (_, e) => if e ≤ b.clock.cyc then { b with seam := { b.seam with bound := none } } else b
  | none => b

def execVoteBindingEnd (s : State) : Outcome State Fault Refusal := onBody bindingEnd s

/-- VOTE_HOLDOFF_END (R449). -/
def holdoffEnd (b : Body) : Body := match b.seam.startAt with
  | some t => if t + tL b + tG b ≤ b.clock.cyc then { b with seam := { b.seam with quiet := false } } else b
  | none => b

def execVoteHoldoffEnd (s : State) : Outcome State Fault Refusal := onBody holdoffEnd s

/-- The other member than PREFER waits a further T_L / 2 after a cold start (R449). -/
def mayAsk (b : Body) : Bool :=
  decide (u8 (sectD b sTWIN) 1 = member b) || match b.seam.startAt with
    | some t => decide (t + tL b + tG b + tL b / 2 ≤ b.clock.cyc)
    | none => true

/-- ACQUIRE_SEND (R460, R464): a standby that lost its twin, or a passive member, asks the witness, and a passive one its twin over
the seam. A takeover suspends the slices of both members: the twin learns it from the seam (DESIGN CHOICE, log entry 97). -/
def acquireSend (b : Body) : Body :=
  let lostPeer := decide (seamRole b = 1) && !b.flag SEAM.STAT.SEAM_UP
  if !mayTake b || !(lostPeer || (decide (seamRole b = 0) && mayAsk b)) then b else
  let now := b.clock.cyc
  let b := { b with seam := { b.seam with lastRenew := some now, slicesHeld := b.seam.slicesHeld || lostPeer } }
  let b := suspendFollow b
  let b := sendBeat (if seamRole b = 0 then some now else none) none false b
  askWitness 2 0 (healthFollow b)

def execAcquireSend (s : State) : Outcome State Fault Refusal := onBody acquireSend s

/-- A LEASE_WITNESS message arrives from a module: a record of its association, and a sign of its MOD (R22, R473). -/
def witIn (m : WitMsg) (b : Body) : Body := srcConflict m.mod m.uid (recordOn m.mod b)

/-- The witness answered: it is reached, and its figures are taken. -/
def witHeard (m : WitMsg) (vote : Bool) (b : Body) : Body :=
  let b := (b.mark SEAM.STAT.WIT_REACH true).mark SEAM.STAT.WIT_VOTE vote
  let learn := match b.seam.learn with
    | some e => if m.epoch > e then none else some e
    | none => none
  let w := if vote then some (m.time * 26) else b.seam.witVote
  { b with seam := { b.seam with witSeen := some b.clock.cyc, witEpoch := max b.seam.witEpoch m.epoch, learn := learn, witVote := w } }

/-- GRANT (R445, R447): a vote for the echoed send time. -/
def grant (m : WitMsg) (b : Body) : Body :=
  if !seamRun b || decide (m.mod ≠ witnessMod b) then b else
  voteFor (m.time * 26) (witHeard m true { b with seam := { b.seam with granted := true } })

def execGrant (m : WitMsg) (s : State) : Outcome State Fault Refusal := onBody (fun b => grant m (witIn m b)) s

/-- REFUSE (R451). -/
def refuse (m : WitMsg) (b : Body) : Body :=
  if !seamRun b || decide (m.mod ≠ witnessMod b) then b else
  witHeard m false { b with seam := { b.seam with refusedMs := m.remain, granted := false } }

def execRefuse (m : WitMsg) (s : State) : Outcome State Fault Refusal := onBody (fun b => refuse m (witIn m b)) s

/-- WIT_LOST: no answer for T_L. -/
def witLost (b : Body) : Body :=
  if !seamRun b || decide (witnessMod b = 0xFFFF) then b else
  let due := match b.seam.witSeen, b.seam.startAt with
    | some t, _ => decide (t + tL b ≤ b.clock.cyc)
    | none, some t => decide (t + tL b ≤ b.clock.cyc)
    | none, none => false
  if !due || (b.flag SEAM.EVENT.WIT_LOST && !b.flag SEAM.STAT.WIT_REACH) then b else
  let b := ((b.mark SEAM.EVENT.WIT_LOST true).mark SEAM.STAT.WIT_REACH false).mark SEAM.STAT.WIT_VOTE false
  raise 0x0E06 (b.get SEAM.EPOCH.EPOCH) 0 b

def execWitLost (s : State) : Outcome State Fault Refusal := onBody witLost s

/-- HEALTH_SEND (R452). -/
def healthSend (b : Body) : Body := if seamRun b then askWitness 4 0 (healthFollow b) else b

def execHealthSend (s : State) : Outcome State Fault Refusal := onBody healthSend s

/-! ### The witness (R450, R451) -/

/-- This module is the witness of the pair at `mod`, in its own holder. -/
def witnesses (b : Body) (mod : Nat) : Bool := acting b && loaded b && ((managedMods b).contains mod || decide (mod = mgrMod b))

def witRec (b : Body) (mod : Nat) : WitRec :=
  (b.seam.wit.find? fun r => decide (r.mod = mod)).getD ⟨mod, none, 0, none, []⟩
def setWitRec (r : WitRec) (b : Body) : Body :=
  { b with seam := { b.seam with wit := (b.seam.wit.filter fun x => decide (x.mod ≠ r.mod)) ++ [r] } }

/-- The time left, in cycles, of a binding to another member than `k`. -/
def witRemain (b : Body) (r : WitRec) (k : Nat) : Nat := match r.votedFor with
  | some (v, t) => if v = k then 0 else (t + tL b + tG b - b.clock.cyc).toNat
  | none => 0

/-- The time left of the 12 s in which a witness grants nothing. -/
def witQuietLeft (b : Body) : Nat := match b.seam.witQuiet with
  | some t => t + msCyc 12000 - b.clock.cyc
  | none => 0

/-- An answer to a RENEW or ACQUIRE: it echoes SEQ and TIME, and is kept (R480). -/
def witAnswer (m : WitMsg) (op epoch remain : Nat) (b : Body) : Body :=
  shReply m.mod m.seq (shMsg 0x0A m.seq (modNo b) m.mod 1 0 0 (witBytes b op 0 epoch m.time (healthWord b) remain)) b

/-- A vote is granted to the sender. -/
def witGrant (m : WitMsg) (b : Body) : Body :=
  let r := witRec b m.mod
  let e := max r.epoch m.epoch
  witAnswer m 0x81 e 0 (setWitRec { r with votedFor := some (m.member, (b.clock.cyc : Int)), epoch := e, held := none } b)

/-- REFUSE carries the witness's own epoch (R489) and the time left, in ms, rounded up. -/
def witRefuse (m : WitMsg) (left : Nat) (b : Body) : Body := witAnswer m 0x82 (b.get SEAM.EPOCH.EPOCH) ((left + 25999) / 26000) b

/-- A RENEW or ACQUIRE arrives: granted, refused with the time that remains, or an ACQUIRE held to the end of a binding that
lasts at most T_G. -/
def witTake (hold : Bool) (m : WitMsg) (b : Body) : Body :=
  if !witnesses b m.mod then b else
  let r := witRec b m.mod
  let q := witQuietLeft b
  let left := witRemain b r m.member
  if q > 0 then witRefuse m (max q left) b
  else if left = 0 then witGrant m b
  else if hold ∧ left ≤ tG b then setWitRec { r with held := some m } b
  else witRefuse m left b

def execRenew (m : WitMsg) (s : State) : Outcome State Fault Refusal := onBody (fun b => shOnce m.mod m.seq (witTake false m) (witIn m b)) s
def execAcquire (m : WitMsg) (s : State) : Outcome State Fault Refusal := onBody (fun b => shOnce m.mod m.seq (witTake true m) (witIn m b)) s

/-- WITNESS_HELD_GRANT: the binding has ended. A witness grants in its holder alone, and not in its 12 s (R451). -/
def heldGrant (mod : Nat) (b : Body) : Body := match (witRec b mod).held with
  | some m =>
    if witnesses b mod && decide (witQuietLeft b = 0) && decide (witRemain b (witRec b mod) m.member = 0) then witGrant m b else b
  | none => b

def execWitnessHeldGrant (mod : Nat) (s : State) : Outcome State Fault Refusal := onBody (heldGrant mod) s

/-- WITNESS_QUIET_END (R451). -/
def witQuietEnd (b : Body) : Body := if witQuietLeft b = 0 then { b with seam := { b.seam with witQuiet := none } } else b

def execWitnessQuietEnd (s : State) : Outcome State Fault Refusal := onBody witQuietEnd s

/-- HEALTH: a witness keeps the report and passes it to the pair; a member takes what its witness reports of its twin. -/
def witHealth (m : WitMsg) (b : Body) : Body :=
  if seamRun b && decide (m.mod = witnessMod b) then
    if m.uid = twinUid b then
      let good := if m.health % 4 = 0 then some b.clock.cyc else b.seam.witGood
      let b := { b.put SEAM.PEER_HEALTH.word m.health with seam := { b.seam with witAlive := some b.clock.cyc, witGood := good } }
      if b.flag SEAM.EVENT.PEER_LOST && !b.flag SEAM.STAT.SEAM_UP then reselect (seamLost b) else b
    else b
  else if witnesses b m.mod then
    let r := witRec b m.mod
    let b := setWitRec { r with health := (r.health.filter fun x => decide (x.1 ≠ m.uid)) ++ [(m.uid, (b.clock.cyc : Int), m.health)] } b
    witSend m.mod ([4, m.member, m.role, 0] ++ uidBytes m.uid ++ toBe 4 m.epoch ++ toBe 8 m.time ++ toBe 4 m.health ++ toBe 4 0) b
  else b

def execHealth (m : WitMsg) (s : State) : Outcome State Fault Refusal := onBody (fun b => witHealth m (witIn m b)) s

/-! ### The seam (R453, R454) -/

/-- The frames of a seam message count: their MICs hold under the pair key, the sender is the twin, and the counter is above the
last one accepted. -/
def beatOk (b : Body) (kind : Nat) (h : SeamBeat) (bytes : List Nat) : Bool :=
  twinPresent b && seamAuthentic b kind h bytes && decide (h.uid = twinUid b) && decide (h.counter > b.seam.rx)

/-- A message is discarded: one that fails its MIC or repeats a counter is recorded (R453). -/
def beatBad (kind : Nat) (h : SeamBeat) (bytes : List Nat) (b : Body) : Body :=
  if twinPresent b && b.nv.keys.pair.isSome && (!seamAuthentic b kind h bytes || decide (h.counter ≤ b.seam.rx)) then
    blockRecord 14 0 (h.counter % 2 ^ 32) b
  else b

/-- Any valid seam message of `n` frames: the twin is heard (R454, R537), and says whether slices are suspended (R460). -/
def beatHeard (n : Nat) (h : SeamBeat) (b : Body) : Body :=
  let b := { b with seam := { b.seam with rx := h.counter + n - 1, peerSeen := some b.clock.cyc, peerHeld := h.held } }
  suspendFollow (b.mark SEAM.STAT.SEAM_UP true)

/-- The twin's role decides the own one: beside a holder a member is STANDBY, and a standby whose twin holds no lease is
PASSIVE (R464, R465). -/
def roleFollow (h : SeamBeat) (b : Body) : Body :=
  if h.role = 2 ∧ seamRole b = 0 then
    let b := relaysOpen (b.put SEAM.STAT.ROLE 1)
    dropPair { b with seam := { b.seam with lapsedAt := none, needFull := true, sinceFull := 0, mirSets := [], mirBolt := none } }
  else if h.role = 0 ∧ seamRole b = 1 then b.put SEAM.STAT.ROLE 0
  else b

/-- The full set that goes ahead of an armed hand-over, at once where the boundary one bolt before it has passed (R458). -/
def handSet (b : Body) : Body := match b.seam.hand with
  | some x =>
    if seamRun b && decide (seamRole b = 2) && appsRun b && !x.sentSet && decide (x.tb ≤ boltIdx b + 1) then
      let all := mirrorAll b
      let b := sendMirror { all with handover := true } b
      { b with seam := { b.seam with lastSet := some all, sinceFull := 0, hand := some { x with sentSet := true } } }
    else b
  | none => b

/-- A HEARTBEAT (R444, R454, R458). -/
def heartbeat (h : SeamBeat) (b : Body) : Body :=
  let l := beatBytes h
  if !beatOk b seamBeatKind h l then beatBad seamBeatKind h l b else
  let b := beatHeard (seamCount l) h b
  let b := (b.mark SEAM.EVENT.PEER_LOST false).mark SEAM.EVENT.SEAM_LOST false
  let b := (b.put SEAM.PEER_HEALTH.word h.health).mark GIO.DI_STAT.SINK_SOLO false
  let learn := match b.seam.learn with
    | some e => if h.epoch > e then none else some e
    | none => none
  let hand := b.seam.hand.map fun x => { x with confirmed := x.confirmed || (x.sentSet && h.applied) }
  let b := { b with seam := { b.seam with peer := some h, learn := learn, hand := hand } }
  let b := if seamRole b ≤ 1 then suspendFollow { b with seam := { b.seam with slicesHeld := false } } else b
  let b := b.put SEAM.EPOCH.EPOCH (max (b.get SEAM.EPOCH.EPOCH) h.epoch)
  let b := handSet (hemHand (roleFollow h b))
  let b := match h.renew with
    | some s => if seamRun b && decide (seamRole b ≠ 2) && mayVote b (1 - member b) then
        sendBeat none (some s) false (castVote (1 - member b) b) else b
    | none => b
  let b := match h.vote with
    | some s => if seamRun b && (b.seam.lastRenew.any fun l => decide (s ≤ l)) then
        voteFor s { b.mark SEAM.STAT.PEER_VOTE true with seam := { b.seam with peerVote := some s } } else b
    | none => b
  reselect b

def execHeartbeat (h : SeamBeat) (s : State) : Outcome State Fault Refusal := onBody (heartbeat h) s

/-- HEARTBEAT_SEND (R454): the holder's carries its last RENEW. -/
def heartbeatSend (b : Body) : Body :=
  if seamRun b then sendBeat (if seamRole b = 2 then b.seam.lastRenew else none) none false b else b

def execHeartbeatSend (s : State) : Outcome State Fault Refusal := onBody heartbeatSend s

/-- PEER_LOST (R454): no valid seam message for T_L / 2; SEAM_LOST too while the witness reports the twin alive, by a HEALTH of
the last T_L / 4, which a twin that died before sends no more (DEDUCED, log entry 99); the lower code is placed first (R572). -/
def peerLost (b : Body) : Body :=
  let due := match b.seam.peerSeen, b.seam.startAt with
    | some t, _ => decide (t + tL b / 2 ≤ b.clock.cyc)
    | none, some t => decide (t + tL b / 2 ≤ b.clock.cyc)
    | none, none => false
  if !seamRun b || !due then b else
  let was := b.flag SEAM.EVENT.PEER_LOST && !b.flag SEAM.STAT.SEAM_UP
  let b := (b.mark SEAM.STAT.SEAM_UP false).mark SEAM.STAT.PEER_VOTE false
  let b := (b.mark SEAM.EVENT.PEER_LOST true).mark GIO.DI_STAT.SINK_SOLO true
  let b := match b.seam.witAlive with
    | some t => if b.clock.cyc < t + tL b / 4 then seamLost b else b
    | none => b
  let b := suspendFollow { b with seam := { b.seam with peerHeld := false } }
  reselect (if was then b else raise 0x0E02 (b.get SEAM.EPOCH.EPOCH) 0 b)

def execPeerLost (s : State) : Outcome State Fault Refusal := onBody peerLost s

/-- SEAM_LINK_DOWN (R454). -/
def seamLinkDown (b : Body) : Body :=
  let b := linkDown 2 b
  if seamRun b then reselect (seamDown b) else b

def execSeamLinkDown (s : State) : Outcome State Fault Refusal := onBody seamLinkDown s

/-! ### Mirror -/

/-- Sets that were lost count in DROPPED, and every later partial set is dropped up to the next full one (R456). -/
def mirrorMissed (n : Nat) (b : Body) : Body :=
  { b.bump SEAM.MIRROR_STAT.DROPPED n with seam := { b.seam with needFull := true } }

/-- A set of `b`'s holder that came whole, in order (R456). A full set sent for a hand-over takes force at once and is confirmed;
any other waits for the next bolt boundary. -/
def mirrorTake (m : MirrorSet) (b : Body) : Body :=
  let gap := match b.seam.mirBolt with
    | some k => m.bolt - (k + 1)
    | none => 0
  let b := if gap > 0 then mirrorMissed gap b else b
  let b := { b with seam := { b.seam with mirBolt := some m.bolt } }
  if m.full then
    if m.handover then sendBeat none none true (mirrorApply m { b with seam := { b.seam with mirSets := [], needFull := false } })
    else { b with seam := { b.seam with mirSets := b.seam.mirSets ++ [m], needFull := false } }
  else if b.seam.needFull then b.bump SEAM.MIRROR_STAT.DROPPED
  else { b with seam := { b.seam with mirSets := b.seam.mirSets ++ [m] } }

/-- A mirror set arrives in the standby (R456). An armed switch is taken at once, whichever set brings it (R441); a set that is
sent for one alone is none of the sets of R455. -/
def mirrorIn (h : SeamBeat) (m : MirrorSet) (b : Body) : Body :=
  let l := mirrorBytes h m
  if !beatOk b seamMirrorKind h l then beatBad seamMirrorKind h l b else
  let b := beatHeard (seamCount l) h b
  if seamRole b ≠ 1 then b
  else if !m.intact then
    if m.extra then b else mirrorMissed 1 { b with seam := { b.seam with mirBolt := some m.bolt } }
  else
    let b := stagedIn m b
    if m.extra then b else mirrorTake m b

def execMirror (h : SeamBeat) (m : MirrorSet) (s : State) : Outcome State Fault Refusal := onBody (mirrorIn h m) s

/-- The set of a bolt boundary: full every 16 bolts and where a full set is owed, else the blocks that changed (R455). -/
def mirrorSend (b : Body) : Body :=
  let all := mirrorAll b
  let full := decide (b.seam.sinceFull ≥ 15)
  let set := match b.seam.lastSet with
    | some o => if full then all else mirrorPart (changedBlocks o all) all
    | none => all
  let b := sendMirror set (b.put SEAM.MIRROR.BOLT all.bolt)
  { b with seam := { b.seam with lastSet := some all, sinceFull := if set.full then 0 else b.seam.sinceFull + 1 } }

/-- At a bolt boundary: the holder sends its set, or the full one of a hand-over; the standby applies the complete ones that wait,
in order (R455, R456, R458). The application cores do both (R518). -/
def mirrorBolt (b : Body) : Body :=
  if !seamRun b || !appsRun b then b
  else if seamRole b = 2 then
    let c := handSet b
    if c.seam.hand = b.seam.hand then mirrorSend b else c.put SEAM.MIRROR.BOLT (boltIdx b)
  else
    let sets := if seamRole b = 1 then b.seam.mirSets else []
    let b := { b with seam := { b.seam with mirSets := [] } }.each sets fun b m => mirrorApply m b
    { b with seam := { b.seam with sinceFull := if mirrorOk b then 0 else b.seam.sinceFull + 1 } }

/-- PATTERN_STAGE_DONE: an armed switch of a holder goes over the seam at once (R441). -/
def stageDoneTwin (b : Body) : Body :=
  let was := b.pat.staged.bind (·.armed)
  let b := stageDone b
  if seamRun b && decide (seamRole b = 2) && was.isNone && (b.pat.staged.bind (·.armed)).isSome then
    sendMirror { mirrorPart [7] (mirrorAll b) with extra := true } b
  else b

def execPatternStageDone (s : State) : Outcome State Fault Refusal := onBody stageDoneTwin s

/-! ### Hand-over (R458, R459) -/

/-- SEAM.CTL.HANDOVER: armed when the twin reports GOOD and the same SERIAL, else refused. -/
def handover (b : Body) : Body :=
  if seamRun b && decide (seamRole b = 2) && b.seam.hand.isNone && twinGood b && serialOk b then handSet (armHand false b)
  else if b.seam.hand.isSome then b
  else b.mark SEAM.CTL.HANDOVER false

def execHandover (s : State) : Outcome State Fault Refusal := onBody handover s

/-- A pattern switch or an image activation falls on bolt `k`. -/
def boundaryTaken (b : Body) (k : Nat) : Bool :=
  (match b.pat.staged with
    | some st => decide (st.armed = some k)
    | none => false) ||
  (match b.upd.act with
    | some a => decide (a.bolt = k)
    | none => false)

/-- The twin says that it is in hem. -/
def twinHem (b : Body) : Bool := b.seam.peer.any (·.hem)

/-- What moves an armed hand-over to the next boundary (R459). -/
def handBlocked (b : Body) (k : Nat) : Bool := emergency b || twinHem b || boundaryTaken b k

/-- The hand-over moves on by one bolt: its full set is sent again. -/
def handDefer (b : Body) : Body := match b.seam.hand with
  | some x => { b with seam := { b.seam with hand := some { x with tb := max (x.tb + 1) (boltIdx b + 1), sentSet := false, confirmed := false }, stopBuild := false } }
  | none => b

/-- HANDOVER_STOP_BUILD, 10 ms before Tb. A full set that is still owed, the hand-over being armed at hem entry, leaves first. -/
def handStop (b : Body) : Body :=
  let b := handSet b
  match b.seam.hand with
  | some x =>
    if x.tb ≤ boltIdx b + 1 ∧ x.sentSet ∧ !handBlocked b x.tb then { b with seam := { b.seam with stopBuild := true } } else b
  | none => b

def execHandoverStopBuild (s : State) : Outcome State Fault Refusal := onBody handStop s

/-- HANDOVER_RELEASE, 5 ms before Tb: AIR stops, RELEASE names the twin over the seam and to the witness, and the holder
becomes STANDBY with its own vote given to the twin. Without the standby's confirmation it moves on. -/
def handRelease (b : Body) : Body := match b.seam.hand with
  | none => b
  | some x =>
    if x.tb > boltIdx b + 1 then b
    else if !x.confirmed || handBlocked b x.tb then handDefer b
    else
      let other := 1 - member b
      let b := askWitness 3 other (sendRelease other x.returning (b.mark AIR.CTL.RUN false))
      let b := ((b.put SEAM.STAT.ROLE 1).mark SEAM.CTL.HANDOVER false).mark SEAM.STAT.HO_ARMED false
      let b := (b.mark SEAM.EVENT.HANDOVER_DONE true).wrap SEAM.COUNT.HANDOVERS
      let b := if x.returning then b.mark SEAM.EVENT.RETURNED true else b
      let m := { b.seam with leaseEnd := none, hand := none, stopBuild := false, needFull := true, test := none }
      let b := castVote other { b with seam := { m with sinceFull := 0, slicesHeld := false, mirSets := [], mirBolt := none } }
      suspendFollow (reselect (relaysOpen (dropPair b)))

def execHandoverRelease (s : State) : Outcome State Fault Refusal := onBody handRelease s

/-- RELEASE (R452, R458). With a seam header it is the holder's to its twin: the member named takes the lease on the old
holder's vote. Without one it reaches the witness, whose vote then goes to the member named. -/
def release (m : WitMsg) (h : Option SeamBeat) (b : Body) : Body := match h with
  | some h =>
    let l := releaseBytes h m.voteFor
    if !beatOk b seamReleaseKind h l then beatBad seamReleaseKind h l b else
    let b := beatHeard (seamCount l) h b
    if m.voteFor = member b ∧ seamRole b ≤ 1 then
      let b := { b with seam := { b.seam with named := true, gotBack := h.back, bound := none, peer := some h } }
      let b := b.put SEAM.EPOCH.EPOCH (max (b.get SEAM.EPOCH.EPOCH) h.epoch)
      if mayTake b then takeLease b.clock.cyc b else { b with seam := { b.seam with named := false } }
    else b
  | none =>
    if !witnesses b m.mod then b else
    let r := witRec b m.mod
    if (match r.votedFor with
      | some (v, _) => decide (v = m.member)
      | none => true) then setWitRec { r with votedFor := some (m.voteFor, (b.clock.cyc : Int)), epoch := max r.epoch m.epoch } b
    else b

def execRelease (m : WitMsg) (h : Option SeamBeat) (s : State) : Outcome State Fault Refusal :=
  onBody (fun b => release m h (if h.isNone then witIn m b else b)) s

/-! ### After a takeover -/

/-- TAKEOVER_CHECK (R468, R470), 3 bolts after the first stitch. A holder to which the lease was returned keeps it. -/
def takeoverCheck (b : Body) : Body := match b.seam.test with
  | none => b
  | some t =>
    if tnNs b < t.start + 3 * boltNs b then b else
    let heard := t.heard.length
    let exp := t.expected.length
    let b := b.put SEAM.TAKEOVER.HEARD heard
    let b := suspendFollow { b with seam := { b.seam with test := none, slicesHeld := false } }
    if heard * 10 ≥ exp ∨ seamRole b ≠ 2 then b else
    let b := raise 0x0E05 heard exp (b.mark SEAM.EVENT.TAKEOVER_DEGRADED true)
    let good := b.seam.witGood.any fun a => decide (b.clock.cyc < a + tL b)
    if good && !b.seam.gotBack && !b.seam.returned && b.seam.hand.isNone then handSet <| armHand true { b with seam := { b.seam with returned := true } } else b

def execTakeoverCheck (s : State) : Outcome State Fault Refusal := onBody takeoverCheck s

/-- LAPSE_OUTPUT_TIMEOUT (R465): HOLD_T_S after lapsing, relays move to HEM_POS and the sign goes dark. -/
def lapseTimeout (b : Body) : Body := match b.seam.lapsedAt with
  | some t =>
    if seamRole b = 0 ∧ t + 26000000 * holdTS b ≤ b.clock.cyc then
      relaysToHem { b with seam := { b.seam with lapsedAt := none } }
    else b
  | none => b

def execLapseOutputTimeout (s : State) : Outcome State Fault Refusal := onBody lapseTimeout s

end Sys2Proof.Machine
end

