-- ==== Sys2Proof/Machine/Upd.lean ====
section
/-! DEFINITION. Machine/Upd.lean: download, verification, activation, confirmation, enrolment and node campaigns (R505 to R534). -/

namespace Sys2Proof.Machine

open Host

/-- UPD.CMD_RES: the result of the last UPD.CMD write. -/
def cmdRes (code : Nat) (b : Body) : Body := b.put UPD.CMD_RES.CODE code

/-! ### Download (R505 to R507) -/

/-- The checks of R506, in order: 0 when the manifest passes. -/
def manCheck (b : Body) (x : Staging) : Nat :=
  let m := x.man
  if !manFormat m x.cnt then 0x01
  else if !manSigned b m then 0x02
  else if manKind m = 0 ∧ (u16 m 0x10 ≠ b.get SYS.ID.FAMILY ∨ u16 m 0x12 ≠ b.get SYS.ID.PART ∨ u8 m 0x14 > b.get SYS.REV.REV) then 0x03
  else if manKind m = 0 ∧ (!b.nv.imgFloorOk ∨ manVersion m < b.get UPD.IMG_FLOOR.FLOOR) then 0x04
  else 0

/-- The area of an IMAGE_ID. -/
def areaOf (b : Body) (id : Nat) : Option (Nat × Staging) := b.nv.staging.find? fun p => decide (p.2.id = id)

/-- A free area of the KIND that piece 0 names: 0 for module images, 1 to 4 for node images; recovery takes module images
only (R501, R505, R515). -/
def freeAreaFor (b : Body) (data : List Nat) : Option Nat :=
  let ks := match manKind data with
    | 0 => [0]
    | 1 => if b.power = Power.recovery then [] else [1, 2, 3, 4]
    | _ => []
  ks.find? fun k => (stagingOf b k).isNone

/-- A piece is marked, and forwarded along a chain. -/
def markPiece (k i : Nat) (x : Staging) (data : List Nat) (b : Body) : Body :=
  chainMark k i (setArea k { x with pieces := x.pieces ++ [(i, data)] } b)

/-- A piece for the area that holds its image (R506, R507). Answers the code. -/
def areaPiece (k : Nat) (x : Staging) (i cnt : Nat) (data : List Nat) (b : Body) : Body × Nat :=
  if cnt ≠ x.cnt then (b, 0x01)
  else if i ≥ cnt then (b, 0x0A)
  else if x.holds i then (b, 0)
  else if i ≠ 0 ∧ !x.holds 0 then (b, 0x11)
  else
    let y := { x with pieces := x.pieces ++ [(i, data)] }
    if i < y.manPieces then
      if y.manHeld then
        match manCheck b y with
        | 0 => (markPiece k i x data b, 0)
        | e => (freeArea k b, e)
      else (markPiece k i x data b, 0)
    else if !x.manHeld then (b, 0x11)
    else if !pieceOk x.man (i - x.manPieces) data then (b, 0x08)
    else (markPiece k i x data b, 0)

/-- An image piece arrives. -/
def imagePiece (id i cnt : Nat) (data : List Nat) (b : Body) : Body × Nat :=
  match areaOf b id with
  | some (k, x) => if b.power = .recovery ∧ k ≠ 0 then (b, 0x11) else areaPiece k x i cnt data b
  | none =>
    if i ≠ 0 then (b, 0x11) else
    match freeAreaFor b data with
    | none => (b, 0x11)
    | some k => areaPiece k { id := id, cnt := cnt, pieces := [] } 0 cnt data b

def eraseImage (s : Nat) (b : Body) : Body :=
  { b with nv := { b.nv with images := b.nv.images.filter fun p => decide (p.1 ≠ s) } }

/-! ### Verification (R509, R510) -/

def inactive (b : Body) : Nat := 1 - b.get UPD.STAT.ACTIVE
def onTrial (b : Body) : Bool := slotWordOk b && decide (wordState b = 1)

/-- UPD.CMD.VERIFY: the inactive slot is erased and the copy starts. -/
def verify (b : Body) : Body :=
  if onTrial b || b.upd.act.isSome || b.upd.verifying then cmdRes 0x11 b
  else if areaState b 0 ≠ 3 then cmdRes 0x06 b
  else
    let b := (cmdRes 0 (eraseImage (inactive b) b)).mark UPD.STG_STAT.VERIFIED false 0
    { b with upd := { b.upd with verifying := true } }

def execVerify (s : State) : Outcome State Fault Refusal := onBody verify s

/-- The slot is written, read back and checked. -/
def verifyDone (b : Body) : Body :=
  if !b.upd.verifying then b else
  let b := { b with upd := { b.upd with verifying := false } }
  match stagingOf b 0 with
  | none => cmdRes 0x08 b
  | some x =>
    let m := imageOf x
    let b := putImage (inactive b) m b
    if appDigestOk m && safeDigestOk m && manSigned b m.man then (cmdRes 0 b).mark UPD.STG_STAT.VERIFIED true 0
    else cmdRes 0x08 b

def execVerifyDone (s : State) : Outcome State Fault Refusal := onBody verifyDone s

/-! ### Activation (R516 to R519) -/

/-- Slot `s` holds another safety part than the one that runs. -/
def restartTo (b : Body) (s : Nat) : Bool := decide (safeDigest (imageMan b s) ≠ safeDigest (imageMan b (b.get UPD.STAT.ACTIVE)))

def setPhase (p : Nat) (b : Body) : Body := b.put UPD.ACT_STAT.PHASE p

/-- An activation is armed for bolt `k`. -/
def armAct (a : Activation) (b : Body) : Body :=
  let b := ((setPhase 1 b).mark UPD.ACT_STAT.RESTART a.restart).put UPD.ACT_BOLT.BOLT a.bolt
  { b with upd := { b.upd with act := some a } }

/-- UPD.CMD.ACTIVATE. -/
def activateCmd (b : Body) : Body :=
  if onTrial b || b.upd.act.isSome then cmdRes 0x11 b
  else if !b.flag UPD.STG_STAT.VERIFIED 0 then cmdRes 0x06 b
  else cmdRes 0 (armAct ⟨boltAfter b 100, inactive b, restartTo b (inactive b), false⟩ b)

def execActivate (s : State) : Outcome State Fault Refusal := onBody activateCmd s

/-- ACTIVATION_PREPARE: 100 ms before Ta of a hitless activation the runtime starts no more Shalan work (R518). -/
def prepare (b : Body) : Body := match b.upd.act with
  | some a =>
    if a.restart ∨ tnNs b + 100000000 < a.bolt * boltNs b then b else { b with upd := { b.upd with stopped := true } }
  | none => b

def execActivationPrepare (s : State) : Outcome State Fault Refusal := onBody prepare s

/-- What keeps an activation from its boundary (R516). -/
def actBlocked (b : Body) : Bool := emergency b || inHem b || takeover b

/-- The activation waits for a later boundary; Shalan work resumes until 100 ms before it. -/
def actDefer (a : Activation) (k : Nat) (b : Body) : Body :=
  let b := { b with upd := { b.upd with stopped := false } }
  armAct { a with bolt := k } b

/-- What is in force before an activation, which its confirmation asks for again (R520). -/
def actRemember (b : Body) : Body :=
  { b with upd := { b.upd with oldSerial := b.get SYS.PAT_SERIAL.SERIAL, hostsHeld := (b.sha.assocs.filter fun a => isHost a.id).map (·.id) } }

/-- The slot-state word of an activation: (new slot, TRIAL, 3); a fallback's word was written before (R517, R521). -/
def actWord (a : Activation) (b : Body) : Body := if a.fallback then b else writeSlotWord a.slot 1 3 (actRemember b)

/-- IMAGE_ACTIVATION, at Ta: blocked, it moves to the next boundary; a restart restarts the module cold, after the holder
of a pair handed its lease over; a hitless one leaves the hand-over record and resets the application cores. -/
def imageActivation (b : Body) : Body := match b.upd.act with
  | none => b
  | some a =>
    if boltIdx b < a.bolt then b
    else if actBlocked b then actDefer a (boltIdx b + 1) b
    else if a.restart then
      if twinPresent b && decide (b.get SEAM.STAT.ROLE = 2) && twinGood b then
        let b := if b.seam.hand.isNone then handSet (armHand false b) else b
        match b.seam.hand with
        | some h => actDefer a (h.tb + 1) b
        | none => b
      else coldRestart (actWord a b)
    else
      let b := setPhase 2 (actWord a b)
      { b with upd := { b.upd with act := none, stopped := true, hoRecord := some b.sha, coresDown := true, readyBy := none } }

def execImageActivation (s : State) : Outcome State Fault Refusal := onBody imageActivation s

/-- The new runtime takes what the hand-over record holds (R518). -/
def handedOver (h : Shalan) (b : Body) : Body :=
  { b with sha := { b.sha with assocs := h.assocs, relayQ := h.relayQ, fans := h.fans, hist := h.hist, chains := h.chains, got := h.got,
                               fwd := h.fwd, chainNext := h.chainNext, chainQ := h.chainQ, busy := h.busy } }

/-- The registers that hold settings take the defaults of their chapters (R524): the reset values, and what the pattern and Basic
mode derive from them (R119, R121, R379). The ports of SW stay enabled as the runtime enables them (R91). -/
def settingDefaults (b : Body) : Body :=
  let b := b.each (b.regs.map (·.1)) fun b a =>
    let m := settingMask a
    if m = 0 then b else
    let old := (b.word a).toNat
    b.setWord a (BitVec.ofNat 32 (old - Nat.land old m + Nat.land (resetWord a) m))
  let b := b.put SW.CTL.PORT_EN (if twinPresent b then 7 else 3)
  let b := b.each [1, 2] fun b f => if expert b f then deriveReset f b else deriveBasic f b
  if loaded b then airQueues b else b

/-- RUNTIME_READY: a booted runtime reads the hand-over record and its settings. `recBad`: the record's CRC or format
fails. -/
def runtimeReady (recBad : Bool) (b : Body) : Body :=
  if b.upd.readyBy.isNone then b else
  let act := decide (b.get UPD.ACT_STAT.PHASE = 2)
  let r := if recBad then none else b.upd.hoRecord
  let bad := r.isNone
  let b := { b with upd := { b.upd with readyBy := none, hoRecord := none } }
  let b := match r with
    | none => servicesAfresh b
    | some h => handedOver h b
  let b := if bad && act then b.mark UPD.ACT_STAT.HO_LOST true else b
  let b := if act then setPhase 3 b else b
  loadSettings (settingDefaults b)

def execRuntimeReady (recBad : Bool) (s : State) : Outcome State Fault Refusal := onBody (runtimeReady recBad) s

/-- Tb, the first bolt boundary after ready (R518): the sequence of R115 begins with no changed section, so events are held. -/
def runtimeTakes (b : Body) : Body :=
  if b.upd.stopped && !b.upd.coresDown && b.upd.readyBy.isNone && b.upd.act.isNone && !b.upd.taking then
    { b with upd := { b.upd with taking := true } }.mark LOOM.STAT.HELD true
  else b

/-- The take-over ends once no activation runs: tile state went through the hand-over block and came back as it was, the runtime
serves again, an activation is done, and held events may move. The window of an image on trial runs from here. -/
def runtimeTaken (b : Body) : Body :=
  if !b.upd.taking || anyActive b then b else
  let b := { b with upd := { b.upd with stopped := false, taking := false } }
  startWindow (if b.get UPD.ACT_STAT.PHASE = 3 then setPhase 4 b else b)

/-- PATTERN_SWITCH: the steps of R115 that wait for running activations, of a switch and of a take-over. -/
def execPatternSwitch (s : State) : Outcome State Fault Refusal := onBody (fun b => runtimeTaken (patternSwitch b)) s

/-! ### Confirmation and fallback (R520, R521) -/

/-- (same slot, CONFIRMED, 0), the floor rises to the image's VERSION, and staging area 0 is free. -/
def confirmImage (b : Body) : Body :=
  let s := wordActive b
  let b := writeSlotWord s 0 0 b
  let v := manVersion (imageMan b s)
  let b := if b.nv.imgFloorOk then b.put UPD.IMG_FLOOR.FLOOR (max (b.get UPD.IMG_FLOOR.FLOOR) v) else b
  freeArea 0 { b with upd := { b.upd with winEnd := none } }

/-- UPD.CMD.CONFIRM. -/
def confirmCmd (b : Body) : Body := if onTrial b then cmdRes 0 (confirmImage b) else cmdRes 0x06 b

def execConfirm (s : State) : Outcome State Fault Refusal := onBody confirmCmd s

/-- The association with the collector is up; the root: every host session held before the activation. -/
def peersUp (b : Body) : Bool := match collector b with
  | some id => (assocOf b id).isSome
  | none => b.upd.hostsHeld.all fun id => (assocOf b id).isSome

/-- The conditions of R520. -/
def mayConfirm (b : Body) : Bool :=
  b.flag UPD.CONF.AUTO && onTrial b && !inHem b && decide (b.get SYS.PAT_SERIAL.SERIAL = b.upd.oldSerial) &&
  (((List.range 80).filter sliceIdx).all fun k => b.upd.passed.contains k) && peersUp b &&
  match b.upd.winEnd with
  | some t => decide (b.clock.cyc ≤ t)
  | none => false

def execAutoConfirm (s : State) : Outcome State Fault Refusal :=
  onBody (fun b => if mayConfirm b then confirmImage b else b) s

/-- (old slot, FELL_BACK, 0), and the old slot is activated at the next permitted boundary. -/
def fallBack (b : Body) : Body :=
  let old := 1 - wordActive b
  let b := fellBack old b
  let b := armAct ⟨boltAfter b 100, old, restartTo b old, true⟩ b
  { b with upd := { b.upd with winEnd := none } }

/-- UPD.CMD.REJECT. -/
def rejectCmd (b : Body) : Body := if onTrial b then cmdRes 0 (fallBack b) else cmdRes 0x06 b

def execReject (s : State) : Outcome State Fault Refusal := onBody rejectCmd s

/-- The confirmation window ends unconfirmed. -/
def windowEnd (b : Body) : Body := match b.upd.winEnd with
  | some t => if onTrial b && decide (t ≤ b.clock.cyc) then fallBack b else b
  | none => b

def execConfirmWindowEnd (s : State) : Outcome State Fault Refusal := onBody windowEnd s

/-! ### Other commands of UPD.CMD -/

/-- The campaign that uses area `k` ends; its waiting pieces go. -/
def campaignEnd (b : Body) : Body :=
  let b := b.put UPD.NC_STAT.STATE 0
  { b with air := { b.air with descs := b.air.descs.filter fun d => match d with
    | .image .. => false
    | _ => true } }

def campaignRuns (b : Body) : Bool := decide (b.get UPD.NC_STAT.STATE = 1 ∨ b.get UPD.NC_STAT.STATE = 2)

/-- UPD.CMD.ABORT of area `k`. -/
def abortArea (k : Nat) (b : Body) : Body :=
  if k > 4 then cmdRes 0x0A b else
  let b := cmdRes 0 (freeArea k b)
  let b := match b.upd.act with
    | some a => if k = 0 ∧ !a.fallback then
        { (setPhase 0 b).mark UPD.ACT_STAT.RESTART false with upd := { b.upd with act := none, stopped := false } }
      else b
    | none => b
  let b := if k = 0 then { b with upd := { b.upd with verifying := false } } else b
  if campaignRuns b && decide (b.upd.nc.area = k) then campaignEnd b else b

def execAbort (k : Nat) (s : State) : Outcome State Fault Refusal := onRom (abortArea k) s

/-- UPD.CMD.PAT_FLOOR: the pattern floor rises to SYS.PAT_SERIAL and never falls (R522). -/
def patFloor (b : Body) : Body :=
  let b := if b.nv.patFloorOk then
      b.put UPD.PAT_FLOOR.FLOOR (max (b.get UPD.PAT_FLOOR.FLOOR) (b.get SYS.PAT_SERIAL.SERIAL))
    else b
  cmdRes 0 b

def execPatFloor (s : State) : Outcome State Fault Refusal := onBody patFloor s

/-- UPD.CMD.RECOVERY: the runtime restarts the module cold, and the next boot enters recovery mode (R514). -/
def recoveryCmd (b : Body) : Body := coldRestart { cmdRes 0 b with upd := { b.upd with recoveryDue := true } }

def execRecovery (s : State) : Outcome State Fault Refusal := onBody recoveryCmd s

/-! ### Enrolment (R527 to R530) -/

/-- The runtime generates an identity key when the store holds none (R528). -/
def keygen (b : Body) : Body :=
  if b.nv.keys.identity.isSome then b else
  let (k, b) := b.freeWord
  { b.put UPD.STAT.ENROL 0 with nv := { b.nv with keys := { b.nv.keys with identity := some k } } }

def execIdentityKeygen (s : State) : Outcome State Fault Refusal := onBody keygen s

/-- The bytes of UPD.ENR_BUF. -/
def enrBytes (b : Body) : List Nat :=
  ((List.range 1024).flatMap fun w => toLe 4 (b.get UPD.ENR_BUF.DATA w)).take (b.get UPD.ENR_LEN.LEN)

/-- The record type of UPD.ENR_CMD: any record ends what a CSR record showed. -/
def enrStart (t : Nat) (b : Body) : Body :=
  let b := (b.put UPD.ENR_CMD.TYPE t).mark UPD.ENR_STAT.BUSY false
  { b with upd := { b.upd with csrShown := false } }
/-- The result of a record. -/
def enrRes (code : Nat) (b : Body) : Body := b.put UPD.ENR_STAT.RESULT code

/-- Whether a record is taken (R528, R529): while ENROL is OPEN types 1 to 8, from X6; once ENROLLED types 3 to 7 and 9,
from secure sessions. -/
def enrTaken (t : Nat) (x6 secure : Bool) (b : Body) : Bool :=
  if b.get UPD.STAT.ENROL = 0 then x6 && secure && decide (1 ≤ t ∧ t ≤ 8)
  else secure && (decide (3 ≤ t ∧ t ≤ 7) || decide (t = 9))

/-- A record with its length: `f` answers the code. -/
def enrol (t : Nat) (x6 secure : Bool) (len : Nat → Bool) (f : List Nat → Body → Body × Nat) (b : Body) : Body :=
  let b := enrStart t b
  if !enrTaken t x6 secure b then enrRes 0x09 b
  else if !len (b.get UPD.ENR_LEN.LEN) then enrRes 0x01 b
  else
    let (b, c) := f (enrBytes b) b
    enrRes c b

def keysOf (f : KeyStore → KeyStore) (b : Body) : Body := { b with nv := { b.nv with keys := f b.nv.keys } }

/-- A 97-byte uncompressed P-384 public key. -/
def pubKey (l : List Nat) : Option (Nat × Nat) :=
  let q := (beNat (bytesAt l 1 48), beNat (bytesAt l 49 48))
  if u8 l 0 = 4 ∧ l.length = 97 ∧ ecOn q then some q else none

/-- Fills the buffer with `n` words that the spec does not state. -/
def fillFree : Nat → Nat → Body → Body
  | 0, _, b => b
  | n + 1, w, b =>
    let (v, b) := b.freeWord
    fillFree n (w + 1) (b.put UPD.ENR_BUF.DATA v w)

/-- CSR: the buffer takes a certification request for the identity key, in a form the spec does not give, and holds nothing else:
it alone is read back (R529), and no key written before it (R527). -/
def csr (_ : List Nat) (b : Body) : Body × Nat :=
  let b := b.each (List.range 1024) fun b w => b.put UPD.ENR_BUF.DATA 0 w
  let (k, b) := b.choose 1024
  let b := (fillFree (k + 1) 0 b).put UPD.ENR_LEN.LEN (4 * (k + 1))
  ({ b with upd := { b.upd with csrShown := true } }, 0)

def enrCsr (x6 secure : Bool) : Body → Body := enrol 1 x6 secure (fun _ => true) csr
def execCsr (x6 secure : Bool) (s : State) : Outcome State Fault Refusal := onBody (enrCsr x6 secure) s

/-- CERT: the certificate chain. -/
def enrCert (x6 secure : Bool) : Body → Body :=
  enrol 2 x6 secure (fun n => decide (1 ≤ n ∧ n ≤ 4096)) fun l b => (keysOf (fun k => { k with cert := l }) b, 0)
def execCert (x6 secure : Bool) (s : State) : Outcome State Fault Refusal := onBody (enrCert x6 secure) s

/-- ANCHOR: index 0 or 1, and a key. -/
def anchorRec (l : List Nat) (b : Body) : Body × Nat :=
  let i := u8 l 0
  if i > 1 then (b, 0x0A) else
  match pubKey (l.drop 1) with
  | none => (b, 0x01)
  | some q => (keysOf (fun k => { k with anchors := (k.anchors.filter fun p => decide (p.1 ≠ i)) ++ [(i, q)] }) b, 0)

def enrAnchor (x6 secure : Bool) : Body → Body := enrol 3 x6 secure (fun n => decide (n = 98)) anchorRec
def execAnchor (x6 secure : Bool) (s : State) : Outcome State Fault Refusal := onBody (enrAnchor x6 secure) s

def allZero (l : List Nat) : Bool := l.all fun x => decide (x % 256 = 0)

/-- PAT_KEY: world, slot and key; an all-zero key empties the slot. -/
def patKeyRec (l : List Nat) (b : Body) : Body × Nat :=
  let w := u8 l 0
  let i := u8 l 1
  let k := l.drop 2
  if w > 1 ∨ i > 3 then (b, 0x0A) else
  let drop := fun (s : KeyStore) => s.pat.filter fun p => decide (p.1 ≠ 4 * w + i)
  if allZero k then (keysOf (fun s => { s with pat := drop s }) b, 0) else
  match pubKey k with
  | none => (b, 0x01)
  | some q => (keysOf (fun s => { s with pat := drop s ++ [(4 * w + i, q)] }) b, 0)

def enrPatKey (x6 secure : Bool) : Body → Body := enrol 4 x6 secure (fun n => decide (n = 99)) patKeyRec
def execPatKey (x6 secure : Bool) (s : State) : Outcome State Fault Refusal := onBody (enrPatKey x6 secure) s

/-- NIMG_KEY: slot and key. -/
def nimgKeyRec (l : List Nat) (b : Body) : Body × Nat :=
  let i := u8 l 0
  if i > 3 then (b, 0x0A) else
  match pubKey (l.drop 1) with
  | none => (b, 0x01)
  | some q => (keysOf (fun s => { s with nimg := (s.nimg.filter fun p => decide (p.1 ≠ i)) ++ [(i, q)] }) b, 0)

def enrNimgKey (x6 secure : Bool) : Body → Body := enrol 5 x6 secure (fun n => decide (n = 98)) nimgKeyRec
def execNimgKey (x6 secure : Bool) (s : State) : Outcome State Fault Refusal := onBody (enrNimgKey x6 secure) s

/-- PAIR_KEY. -/
def enrPairKey (x6 secure : Bool) : Body → Body :=
  enrol 6 x6 secure (fun n => decide (n = 16)) fun l b => (keysOf (fun s => { s with pair := some l }) b, 0)
def execPairKey (x6 secure : Bool) (s : State) : Outcome State Fault Refusal := onBody (enrPairKey x6 secure) s

/-- NODE_KEY: UNIT and key; the store holds 64. The KEY records under it go out in CONFIG frames (R530). -/
def nodeKeyRec (l : List Nat) (b : Body) : Body × Nat :=
  let u := u16 l 0
  let old := b.nv.keys.node.filter fun p => decide (p.1 ≠ u)
  if old.length ≥ 64 then (b, 0x11) else
  let b := keysOf (fun s => { s with node := old ++ [(u, l.drop 2)] }) b
  -- R319: a sensor node sleeps, and is listed for what waits
  let b := if u ≥ 1024 ∧ unitOk b u then
      { b with air := { b.air with sleepers := tabSet (fun _ => 0) b.air.sleepers u 8 } } else b
  (if u ≠ 0 ∧ unitOk b u ∧ acting b then nodeKeySend u b else b, 0)

def enrNodeKey (x6 secure : Bool) : Body → Body := enrol 7 x6 secure (fun n => decide (n = 18)) nodeKeyRec
def execNodeKey (x6 secure : Bool) (s : State) : Outcome State Fault Refusal := onBody (enrNodeKey x6 secure) s

/-- CLOSE: needs CERT, an anchor and an S pattern key. -/
def closeRec (_ : List Nat) (b : Body) : Body × Nat :=
  let k := b.nv.keys
  if k.cert = [] ∨ k.anchors = [] ∨ !(k.pat.any fun p => decide (p.1 < 4)) then (b, 0x06) else (b.put UPD.STAT.ENROL 1, 0)

def enrClose (x6 secure : Bool) : Body → Body := enrol 8 x6 secure (fun _ => true) closeRec
def execClose (x6 secure : Bool) (s : State) : Outcome State Fault Refusal := onBody (enrClose x6 secure) s

/-- The least image floor a repair may set. -/
def imgBound (b : Body) : Nat := if slotWordOk b ∧ wordState b = 0 then manVersion (imageMan b (wordActive b)) else 0
/-- The least pattern floor a repair may set: the SERIAL of the full pattern in the active slot. -/
def patBound (b : Body) : Nat := match patSlot b (b.get UPD.STAT.PAT_SLOT) with
  | some p => (patOf none p.full).serial
  | none => 0

/-- FLOORS: repairs the floor words that read invalid, within their bounds (R500, R529). -/
def floorsRec (l : List Nat) (b : Body) : Body × Nat :=
  let i := u32 l 0
  let p := u32 l 4
  if b.nv.imgFloorOk && b.nv.patFloorOk then (b, 0x0A)
  else if (!b.nv.imgFloorOk && decide (i < imgBound b)) || (!b.nv.patFloorOk && decide (p < patBound b)) then (b, 0x0A)
  else
    let b := if b.nv.imgFloorOk then b else b.put UPD.IMG_FLOOR.FLOOR i
    let b := if b.nv.patFloorOk then b else b.put UPD.PAT_FLOOR.FLOOR p
    ({ b with nv := { b.nv with imgFloorOk := true, patFloorOk := true } }, 0)

/-- In recovery the boot ROM restarts the module cold once it accepted the record (R515). -/
def floorsCmd (x6 secure : Bool) (b : Body) : Body :=
  let b := enrol 9 x6 secure (fun n => decide (n = 8)) floorsRec b
  if b.power = .recovery ∧ b.get UPD.ENR_STAT.RESULT = 0 then coldRestart b else romInstall b

def execFloors (x6 secure : Bool) (s : State) : Outcome State Fault Refusal := onRom (floorsCmd x6 secure) s

/-- A write of UPD.ENR_CMD: the record type starts (R529). -/
def enrCommand (t : Nat) (x6 secure : Bool) (b : Body) : Body := match t with
  | 1 => enrCsr x6 secure b
  | 2 => enrCert x6 secure b
  | 3 => enrAnchor x6 secure b
  | 4 => enrPatKey x6 secure b
  | 5 => enrNimgKey x6 secure b
  | 6 => enrPairKey x6 secure b
  | 7 => enrNodeKey x6 secure b
  | 8 => enrClose x6 secure b
  | 9 => floorsCmd x6 secure b
  | _ => enrRes 0x01 (enrStart t b)

/-! ### Node image campaigns (R531 to R533) -/

/-- The targets: declared nodes of the group, or all; of a CLASS the image is for; with another FW_VERSION; sensor nodes
only with SENSORS. -/
def campaignTargets (b : Body) (sel : Nat) : List Nat :=
  let all := b.flag UPD.NC_CTL.ALL
  let grp := (groupMembers b (b.get UPD.NC_CTL.GROUP)).getD []
  (nodeUnits b).filter fun u =>
    (all || (decide (u ≤ 512) && grp.contains (u - 1))) && (decide (u ≤ 512) || b.flag UPD.NC_CTL.SENSORS) &&
    (match tabGet (fun _ => 2) b.air.classes u with
      | 0 => decide (bits sel 16 1 = 1)
      | 1 => decide (bits sel 17 1 = 1)
      | _ => false) &&
    decide (b.get AIR.NODE_CFG.FW_VERSION u ≠ sel % 65536)

/-- UPD.NC_CTL.START. -/
def ncStart (b : Body) : Body :=
  if campaignRuns b then cmdRes 0x11 b else
  let k := b.get UPD.NC_CTL.STG
  match stagingOf b k with
  | none => cmdRes 0x06 b
  | some x =>
    if k = 0 ∨ k > 4 ∨ !x.complete then cmdRes 0x06 b else
    let m := x.man
    let ts := campaignTargets b (manNodeSel m)
    let len := match (ts.map fun u => maxPsdu b (homeTrx b u)) with
      | [] => 0
      | n :: l => l.foldl min n - 33
    let cnt := if len = 0 then 0 else (manBodyLen m + len - 1) / len
    let nc : Campaign := { area := k, id := manId m, cnt := cnt, len := len, sensors := b.flag UPD.NC_CTL.SENSORS,
                           targets := ts, have_ := [], next := 0, acted := [], results := [] }
    let b := { b with upd := { b.upd with nc := nc }, air := { b.air with configDue := (b.air.configDue.filter fun u => !ts.contains u) ++ ts } }
    let b := (cmdRes 0 b).put UPD.NC_STAT.PIECE_LEN len
    let b := ((b.put UPD.NC_STAT.STATE (if ts = [] then 3 else 1)).put UPD.NC_CNT_A.TARGETS ts.length).put UPD.NC_CNT_A.COMPLETE 0
    campaignFeed ((b.put UPD.NC_CNT_B.ACTIVATED 0).put UPD.NC_CNT_B.FAILED 0)

def execNcStart (s : State) : Outcome State Fault Refusal := onBody ncStart s

/-- UPD.NC_CTL.STOP. -/
def execNcStop (s : State) : Outcome State Fault Refusal := onBody campaignEnd s

/-- The write of UPD.NC_ACT_HI arms the activation when it lies at least 64 bolts ahead; targets that hold every piece
are sent IMAGE_ACT. -/
def ncActArm (v : Nat) (b : Body) : Body :=
  let b := b.put UPD.NC_ACT_HI.ACT_TIME v
  if campaignRuns b && decide (airIn b 64 ≤ actTime b) then
    let b := b.put UPD.NC_STAT.STATE 2
    let ok := b.upd.nc.targets.filter (targetDone b)
    { b with upd := { b.upd with nc := { b.upd.nc with acted := ok } },
             air := { b.air with configDue := (b.air.configDue.filter fun u => !ok.contains u) ++ ok } }
  else b

def execNcActArm (v : Nat) (s : State) : Outcome State Fault Refusal := onBody (ncActArm v) s

end Sys2Proof.Machine
end

