-- ==== Sys2Proof/Machine/View.lean ====
section
/-! DEFINITION. Machine/View.lean: what a register reads as: its stored fields, and the fields that show what stands beside the
registers. -/

namespace Sys2Proof.Machine

/-- A field of a word replaced. -/
def Fld.into (f : Fld) (v w : Nat) : Nat := insBits w f.lo f.w v

/-- The first index of the register at `a`, when it is one of `n` of the array. -/
def Fld.idx (f : Fld) (n a : Nat) : Option Nat :=
  if f.addr ≤ a ∧ (a - f.addr) % f.s1 = 0 ∧ (a - f.addr) / f.s1 < n then some ((a - f.addr) / f.s1) else none

/-- Both indices of the register at `a`. -/
def Fld.idx2 (f : Fld) (n m a : Nat) : Option (Nat × Nat) :=
  let d := a - f.addr
  if f.addr ≤ a ∧ d / f.s1 < n ∧ d % f.s1 % f.s2 = 0 ∧ d % f.s1 / f.s2 < m then some (d / f.s1, d % f.s1 / f.s2) else none

/-- `f` applied to an index, when there is one. -/
def atIdx (o : Option Nat) (f : Nat → Nat) (w : Nat) : Nat := match o with
  | some i => f i
  | none => w

/-! ### SYS, TB, AIR, SW, QM -/

/-- The number of application cores, which the spec does not give. -/
def coreCount : Nat := 1 + Config.value 11 []

/-- Some application core is awake. -/
def coreAwake (b : Body) : Bool := decide ((b.clock.coreSleep.filter fun p => decide (p.1 < coreCount)).length < coreCount)

/-- CCLK runs while an application core is awake, ETHCLK while a port is enabled (R72). -/
def viewSys (b : Body) (a w : Nat) : Nat :=
  if a = SYS.CLK_STAT.word.addr then
    SYS.CLK_STAT.CCLK_LOCK.into (if b.flag SYS.CLK_STAT.CCLK_LOCK && coreAwake b then 1 else 0)
      (SYS.CLK_STAT.ETH_LOCK.into (if b.flag SYS.CLK_STAT.ETH_LOCK && decide (b.get SW.CTL.PORT_EN ≠ 0) then 1 else 0) w)
  else w

def viewTb (b : Body) (a w : Nat) : Nat :=
  if a = TB.TIME_CAP.word.addr then tNs b
  else if a = TB.TS32.word.addr then ts32 b
  else if a = TB.PWM.word.addr then TB.PWM.PERIOD_IDX.into (periodIdx b) w
  else atIdx (TB.TXQ_STAT.word.idx 3 a) (fun p => TB.TXQ_STAT.COUNT.into (txqOf b p).length w) w

def viewAir (b : Body) (a w : Nat) : Nat :=
  if a = AIR.CTL.word.addr then AIR.CTL.RUN.into (if airRuns b 0 then 1 else 0) w else
  if a = AIR.STAT.word.addr then
    AIR.STAT.RADIO_ON.into ((List.range 5).map fun r => if airOn b r then 2 ^ r else 0).sum w
  else if a = AIR.BOLT.word.addr then boltNo b
  else
    let sum := fun (r : Nat) (p : Dwell → Bool) => min 0xFFFFFFFF (dwellSum b r p)
    atIdx (AIR.DWELL.word.idx 128 a) (fun c => AIR.DWELL.US.into (sum 0 fun d => decide (d.chan = c)) w)
      (atIdx (AIR.SUBB.word.idx 256 a) (fun s => AIR.SUBB.US.into (sum 0 fun d => decide (d.subband = s)) w)
        (atIdx (AIR.DW24.word.idx 16 a) (fun c => AIR.DW24.US.into (sum 4 fun d => decide (d.chan = c)) w)
          (atIdx (AIR.LINK.word.idx 4096 a) (fun u => if unitOk b u then AIR.LINK.HEARD_S.into (heardS b u) w else 0)
            (atIdx (AIR.NODE_CFG.word.idx 4096 a) (fun u => if unitOk b u then w else 0) w))))

/-- Energy Efficient Ethernet idles a copper ring link when its PHY chooses, which the spec leaves open (R63). -/
def portLpi (b : Body) (p : Nat) : Nat :=
  if b.flag SW.PORT_STAT.LINK p && !b.flag SW.PORT_STAT.FIBRE p then Config.value 12 [b.clock.cyc, p] % 2 else 0

def viewSw (b : Body) (a w : Nat) : Nat :=
  if a = SW.FDB.word.addr then SW.FDB.ENTRIES.into (fdbLive b).length w
  else if a = SW.MAC_LO.word.addr then b.nv.mac % 2 ^ 32
  else if a = SW.MAC_HI.word.addr then b.nv.mac / 2 ^ 32 % 2 ^ 16
  else atIdx (SW.PORT_STAT.word.idx 2 a) (fun p => SW.PORT_STAT.LPI.into (portLpi b p) w) w

/-- The cells of an item as QM.LINK shows them: (cell, last, next). -/
def linkOf (c : Nat) : List Nat → Option (Bool × Nat)
  | [] => none
  | [x] => if x = c then some (true, 0) else none
  | x :: y :: t => if x = c then some (false, y) else linkOf c (y :: t)

def itemsLink (c : Nat) (l : List (List Nat)) : Option (Bool × Nat) := (l.filterMap (linkOf c)).head?

def queueLink (x : Queue) (c : Nat) : Option (Bool × Nat) :=
  itemsLink c ((x.items ++ x.fill ++ x.popped).map Item.cells ++ [x.opened])

def viewLink (b : Body) (c : Nat) : Nat :=
  match (b.qm.queues.filterMap fun p => (queueLink p.2 c).map fun r => (p.1, r)).head? with
  | some (q, last, next) =>
    QM.LINK.VALID.into 1 (QM.LINK.OWNER.into q (QM.LINK.LAST.into (if last then 1 else 0) (QM.LINK.NEXT.into next 0)))
  | none => 0

def viewQm (b : Body) (a w : Nat) : Nat :=
  if a = QM.POOL.word.addr then
    QM.POOL.FREE.into (qFree b) (QM.POOL.RES_SUM.into ((List.range 32).map fun q => b.get QM.Q_LIM.RESERVE q).sum w)
  else
    atIdx (QM.Q_STAT.word.idx 32 a) (fun q =>
        let x := queueOf b q
        QM.Q_STAT.ITEMS.into (x.items.length + x.fill.length) (QM.Q_STAT.USED.into (qUsed b q) w))
      (atIdx (QM.LINK.word.idx 16384 a) (viewLink b) w)

/-! ### LOOM, CE, OFE -/

def stateByte (b : Body) (e : Nat) : Nat := match (schedOf b e).owner with
  | .free => 0
  | .pattern => 1
  | .tile t => 2 + 4 * t
  | .host => 3
  | .reserved t => 2 + 4 * t

/-- An armed REPEAT entry (FLAGS bit 1) reads its next occurrence; byte 19 reads as STATE. -/
def viewSched (b : Body) (e k w : Nat) : Nat :=
  let x := schedOf b e
  let rep := x.owner.armed && decide (schedFlags b e / 2 % 2 = 1)
  if k = 4 then insBits w 24 8 (stateByte b e)
  else if k = 0 ∧ rep then x.next % 2 ^ 32
  else if k = 1 ∧ rep then x.next / 2 ^ 32 % 2 ^ 32
  else w

/-- What reads of the Loom's registers show. REMAIN_MS of a running timer rounds a part of a millisecond up, so that it reads 0 only
when the timer is stopped (DESIGN CHOICE, log entry 90). -/
def viewLoom (b : Body) (a w : Nat) : Nat :=
  if a = LOOM.STAT.word.addr then
    LOOM.STAT.IDLE.into (if b.loom.tiles.all fun p => p.2.act.isNone && decide (p.2.fifo = []) then 1 else 0) w
  else if a = LOOM.SCHED_CNT.word.addr then
    let l := b.loom.sched.map (·.2.owner)
    LOOM.SCHED_CNT.PATTERN.into (l.filter fun o => decide (o = .pattern)).length
      (LOOM.SCHED_CNT.USED.into (l.filter fun o => decide (o ≠ .free)).length w)
  else match LOOM.SCHED_W.word.idx2 1024 8 a with
    | some (e, k) => viewSched b e k w
    | none => match LOOM.TILE_TMR.word.idx2 64 4 a with
      | some (t, i) => match (tileOf b t).timers.find? fun p => decide (p.1 = i) with
        | some p => (p.2 - b.clock.cyc + 25999) / 26000
        | none => 0
      | none =>
        atIdx (LOOM.TILE_STAT.word.idx 64 a) (fun t =>
          LOOM.TILE_STAT.FIFO.into (tileOf b t).fifo.length
            (LOOM.TILE_STAT.BUSY.into (if (tileOf b t).act.isSome then 1 else 0) w)) w

def viewCe (b : Body) (a w : Nat) : Nat :=
  atIdx (CE.VERIFY.word.idx 512 a) (fun n => match (chanOf b n).verAt with
      | some t => min 0xFFFFFFFF (sinceS b t)
      | none => 0xFFFFFFFF)
    (atIdx (CE.OVR.word.idx 512 a) (fun n => CE.OVR.REMAIN_MIN.into (match (chanOf b n).ovrEnd with
        | some e => (e - b.clock.cyc + 60 * 26000000 - 1) / (60 * 26000000)
        | none => 0) w) w)

def viewZone (b : Body) (z : Nat) : Nat × Nat × Nat × Nat × Nat :=
  match (zoneRecs b).find? fun r => decide (r.1 = z) with
  | some r => let v := zoneNow b z r.2.1 r.2.2.2
    (v.1, v.2.1, v.2.2.1, v.2.2.2, if r.2.1 then 1 else 0)
  | none => (0, 0, 0, 0, 0)

def viewOfe (b : Body) (a w : Nat) : Nat :=
  if a = OFE.STAT.word.addr then
    OFE.STAT.FIFO.into b.ofe.fifo.length (OFE.STAT.TRACKS.into (b.ofe.tracks.filter fun p => p.2.live).length w)
  else
    atIdx (OFE.TRK_A.word.idx 256 a) (fun k =>
        let x := trackOf b k
        OFE.TRK_A.LIVE.into (if x.live then 1 else 0) (OFE.TRK_A.CLASS.into x.cls (OFE.TRK_A.PREV.into x.prev
          (OFE.TRK_A.NODE.into x.node w))))
    (atIdx (OFE.TRK_B.word.idx 256 a) (fun k =>
        let x := trackOf b k
        OFE.TRK_B.SERIAL.into x.serial (OFE.TRK_B.HITS.into x.hits (OFE.TRK_B.V_DMS.into (x.vq / 16) w)))
    (atIdx (OFE.TRK_C.word.idx 256 a) (fun k => OFE.TRK_C.T_LAST.into (trackOf b k).tLast w)
    (atIdx (OFE.ZN_A.word.idx 64 a) (fun z => OFE.ZN_A.OCC.into (viewZone b z).2.2.1 (OFE.ZN_A.FREE.into (viewZone b z).2.1 w))
    (atIdx (OFE.ZN_B.word.idx 64 a) (fun z =>
        OFE.ZN_B.BAY.into (viewZone b z).2.2.2.2 (OFE.ZN_B.PRES.into (viewZone b z).1 (OFE.ZN_B.UNKNOWN.into (viewZone b z).2.2.2.1 w)))
    (atIdx (OFE.SENSOR.word.idx 2048 a) (fun s =>
        let x := sensorOf b (512 + s)
        let f := fun (v : Bool) => if v then 1 else 0
        OFE.SENSOR.HEARD_S.into (if !x.heard then 0xFFFF else min 0xFFFF (sinceS b x.passedAt)) (OFE.SENSOR.LOST.into (f x.lost)
          (OFE.SENSOR.STUCK.into (f x.stuck) (OFE.SENSOR.P.into (f x.p) (OFE.SENSOR.BAY_STATE.into x.bay w))))) w)))))

/-! ### AON, GIO, MEMI, UPD, SAFE, SEAM -/

/-- RET_MV is a measured voltage the spec gives no value of. -/
def viewAon (b : Body) (a w : Nat) : Nat :=
  if a = AON.MON.word.addr then Config.value 7 [b.clock.cyc] % 2 ^ 12
  else if a = AON.TICK_LO.word.addr then b.aon.tick % 2 ^ 32
  else w

def viewGio (b : Body) (a w : Nat) : Nat :=
  if a = GIO.SIGN_STAT.word.addr then GIO.SIGN_STAT.DARK.into (if signLit b then 0 else 1) w
  else
    atIdx (GIO.DI_TMO.word.idx 8 a) (fun i => GIO.DI_TMO.ELAPSED_S.into (match (diRec b i).onAt with
        | some t => min (2 ^ GIO.DI_TMO.ELAPSED_S.w - 1) (sinceS b t)
        | none => 0) w)
      (atIdx (GIO.FIELD_AGE.word.idx 32 a) (fun f => match b.gio.ageAt.find? fun p => decide (p.1 = f) with
        | some p => min 0xFFFFFFFF (sinceS b p.2)
        | none => 0xFFFFFFFF) w)

/-- SCRUB, PASS and LAST_CE of the boot ROM read 0. -/
def viewMemi (b : Body) (a w : Nat) : Nat :=
  if a = MEMI.SCRUB.word.at 5 0 ∨ a = MEMI.PASS.word.at 5 0 ∨ a = MEMI.LAST_CE.word.at 5 0 then 0
  else if a = MEMI.DRAM_FILL.word.addr then MEMI.DRAM_FILL.PAGES.into (pagesFilled b) w
  else w

def viewUpd (b : Body) (a w : Nat) : Nat :=
  if a = UPD.IMG_FLOOR.word.addr then (if b.nv.imgFloorOk then w else 0xFFFFFFFF)
  else if a = UPD.PAT_FLOOR.word.addr then (if b.nv.patFloorOk then w else 0xFFFFFFFF)
  else
    atIdx (UPD.SLOT_ID.word.idx 2 a) (fun s => match imageIn b s with
        | some x => manId x.man
        | none => 0)
    (atIdx (UPD.SLOT_VER.word.idx 2 a) (fun s => match imageIn b s with
        | some x => manVersion x.man
        | none => 0)
    (atIdx (UPD.STG_ID.word.idx 5 a) (fun k => match stagingOf b k with
        | some x => x.id
        | none => 0)
    (atIdx (UPD.STG_STAT.word.idx 5 a) (fun k =>
        UPD.STG_STAT.KIND.into (if k = 0 then 0 else 1) (UPD.STG_STAT.STATE.into (areaState b k) w))
    (atIdx (UPD.STG_HAVE.word.idx 5 a) (fun k => match stagingOf b k with
        | some x => UPD.STG_HAVE.CNT.into x.cnt (UPD.STG_HAVE.HAVE.into x.pieces.length w)
        | none => 0)
    (atIdx (UPD.STG_MISS.word.idx 5 a) (fun k => match stagingOf b k with
        | some x => x.firstMissing
        | none => 0xFFFF)
    (atIdx (UPD.ENR_BUF.word.idx 1024 a) (fun _ => if b.upd.csrShown then w else 0) w))))))

/-- The words of the record SAFE.BB_SEL selects; 0 when it is not held. -/
def viewBb (b : Body) (k : Nat) : Nat := match bbFind b (b.get SAFE.BB_SEL.SEQ) with
  | some r => u32 r.bytes (4 * k)
  | none => 0

def viewSafe (b : Body) (a w : Nat) : Nat :=
  if a = SAFE.BB_SEQ.word.addr then (match b.nv.bb.getLast? with
    | some r => r.seq
    | none => 0)
  else if a = SAFE.BB_OLD.word.addr then (match b.nv.bb.head? with
    | some r => r.seq
    | none => 0)
  else
    atIdx (SAFE.BB_W.word.idx 8 a) (viewBb b)
      (atIdx (SAFE.SLICE.word.idx 80 a) (fun k => SAFE.SLICE.AGE_S.into (sliceAge b k) w) w)

/-- A vote is current for T_L from the send instant it answers. -/
def voteCurrent (b : Body) (v : Option Nat) : Nat := match v with
  | some s => if b.clock.cyc < s + tL b then 1 else 0
  | none => 0

def msSince (b : Body) (t : Option Nat) : Nat := match t with
  | some t => min 0xFFFF ((b.clock.cyc - t) / 26000)
  | none => 0xFFFF

def viewSeam (b : Body) (a w : Nat) : Nat :=
  if a = SEAM.STAT.word.addr then
    SEAM.STAT.PEER_VOTE.into (b.get SEAM.STAT.PEER_VOTE * voteCurrent b b.seam.peerVote)
      (SEAM.STAT.WIT_VOTE.into (b.get SEAM.STAT.WIT_VOTE * voteCurrent b b.seam.witVote) w)
  else if a = SEAM.LEASE.word.addr then
    SEAM.LEASE.REMAIN_MS.into (match b.seam.leaseEnd with
      | some e => (e - b.clock.cyc) / 26000
      | none => 0) (SEAM.LEASE.PEER_MS.into (msSince b b.seam.peerSeen) w)
  else if a = SEAM.HEALTH.word.addr then (healthFollow b).get SEAM.HEALTH.word
  else if a = SEAM.WITNESS.word.addr then SEAM.WITNESS.ANS_MS.into (msSince b b.seam.witSeen) w
  else if a = SEAM.MIRROR_STAT.word.addr then
    SEAM.MIRROR_STAT.LAG.into (min 0xFFFF (boltNo b - b.get SEAM.MIRROR.BOLT)) w
  else w

/-! ### MET -/

/-- The code period that runs (R356). -/
def viewMet (b : Body) (a w : Nat) : Nat :=
  if a = MET.ATT_PERIOD.word.addr ∧ b.att.lineHz ≠ 0 then chipAt b.att.lineHz (tnNs b) / 1023 % 2 ^ 32 else w

/-! ### The word a read returns -/

/-- The stored word with its live fields. -/
def liveWord (b : Body) (a : Nat) : Nat :=
  let w := (b.word a).toNat
  match (a - 0x40000000) / 0x100000 with
  | 0 => viewSys b a w
  | 1 => viewAon b a w
  | 2 => viewTb b a w
  | 3 => viewAir b a w
  | 4 => viewSw b a w
  | 5 => viewQm b a w
  | 6 => viewLoom b a w
  | 7 => viewCe b a w
  | 8 => viewOfe b a w
  | 9 => viewMet b a w
  | 10 => viewGio b a w
  | 11 => viewMemi b a w
  | 12 => viewUpd b a w
  | 13 => viewSafe b a w
  | 14 => viewSeam b a w
  | _ => w

end Sys2Proof.Machine
end

