-- ==== Sys2Proof/Machine/Bus.lean ====
section
/-! DEFINITION. Machine/Bus.lean: accesses to the address space (R587, R588): memory and its worlds (R33), the register window
(R6 to R12), the access codes and side effects of R8, and what a write of each register starts. -/

namespace Sys2Proof.Machine

open Host

/-! ### The memory map -/

/-- The regions of R587 beside the register window. -/
inductive Region | rom | sram | pool | mram | nor | ret | dram
  deriving DecidableEq, Repr

/-- The memory regions: first address, address past the last, region (R587). -/
def regionTab : List (Nat × Nat × Region) :=
  [(0, 0x20000, .rom), (0x10000000, 0x10100000, .sram), (0x20000000, 0x20800000, .pool), (0x30000000, 0x30400000, .mram),
   (0x38000000, 0x3C000000, .nor), (0x4F000000, 0x4F010000, .ret), (0x80000000, 0x100000000, .dram)]

def regionOf (a : Nat) : Option Region :=
  (regionTab.find? fun x => decide (x.1 ≤ a) && decide (a < x.2.1)).map (·.2.2)

/-- The region of `n` bytes that all lie in it. -/
def regionSpan (a n : Nat) : Option Region := if regionOf a = regionOf (a + n - 1) then regionOf a else none

/-- A write to the boot ROM or the NOR window is a bus error (R588). -/
def Region.writable : Region → Bool
  | .rom => false
  | .nor => false
  | _ => true

/-- The enabled regions of R33 that cover `a`. -/
def regionsAt (b : Body) (a : Nat) : List Nat :=
  (List.range 64).filter fun m => b.flag SYS.WORLD_RGN_BASE.EN m &&
    decide (b.get SYS.WORLD_RGN_BASE.BASE m ≤ a / 4096) && decide (a / 4096 ≤ b.get SYS.WORLD_RGN_TOP.TOP m)

/-- An address of pool SRAM or LPDDR4X is non-secure when enabled regions cover it and none of them is secure (R33). -/
def memNs (b : Body) (a : Nat) : Bool := match regionOf a with
  | some .pool => decide (regionsAt b a ≠ []) && (regionsAt b a).all fun m => b.flag SYS.WORLD_RGN_TOP.NS m
  | some .dram => decide (regionsAt b a ≠ []) && (regionsAt b a).all fun m => b.flag SYS.WORLD_RGN_TOP.NS m
  | _ => false

/-- A byte that the spec places and does not state: the boot ROM, the factory record, flash behind what a slot holds. -/
def unstated (a : Nat) : Nat := Config.value 10 [a] % 256

/-- A byte of the NOR read window (R499), by its window offset. -/
def norByte (b : Body) (o : Nat) : Nat :=
  let free := unstated (0x38000000 + o)
  if o < 0x200000 then free
  else if o < 0x3200000 then
    match imageIn b ((o - 0x200000) / 0x1800000) with
    | some x =>
      let i := (o - 0x200000) % 0x1800000
      if i < 0x80000 then x.man.getD i free % 256 else x.body.getD (i - 0x80000) free % 256
    | none => free
  else if o < 0x3A00000 then
    match patSlot b ((o - 0x3200000) / 0x400000) with
    | some x => (x.full ++ x.partials.flatten).getD ((o - 0x3200000) % 0x400000) free % 256
    | none => free
  else free

/-- What a memory address reads as. -/
def spaceByte (b : Body) (a : Nat) : Nat := match regionOf a with
  | some .rom => unstated a
  | some .nor => norByte b (a - 0x38000000)
  | _ => memByte b a

/-- The protected word at `a`: its memory and its address there (R402); the NOR window carries no code. -/
def protectedWord (a : Nat) : Option (Nat × Nat) := match regionOf a with
  | some .rom => some (5, a - a % 4)
  | some .sram => some (0, a - a % 8)
  | some .pool => some (1, a - a % 8)
  | some .mram => some (3, a - a % 8)
  | some .ret => some (4, a - a % 8)
  | some .dram => some (2, a - a % 8 - 0x80000000)
  | _ => none

/-- The check of the word at `a` as an access reads it, and whether it holds an uncorrectable error (R408, R418). -/
def touch (x : BusAcc) (a : Nat) (b : Body) : Body × Bool := match protectedWord a with
  | none => (b, false)
  | some (m, u) =>
    let b := if m = 2 then fillPage a b else b
    (readWord m u x.found false x.mramRec b, decide (2 ≤ foundAt b m u x.found))

/-- The check of every word that the access's `n` bytes touch. -/
def touchAll (x : BusAcc) (n : Nat) (b : Body) : Body × Bool :=
  let (b, u) := touch x x.addr b
  if protectedWord (x.addr + n - 1) = protectedWord x.addr then (b, u)
  else
    let (b, v) := touch x (x.addr + n - 1) b
    (b, u || v)

/-- A read of `n` bytes of memory; no value is a bus error. -/
def memRead (x : BusAcc) (n : Nat) (b : Body) : Body × Option Nat := match regionSpan x.addr n with
  | none => (b, none)
  | some _ =>
    if x.ns && !(memNs b x.addr && memNs b (x.addr + n - 1)) then (worldAccess x.addr x.init false b, none)
    else
      let v := leNat ((List.range n).map fun i => spaceByte b (x.addr + i))
      let (b, bad) := touchAll x n b
      (b, if bad then none else some v)

/-- A write of `n` bytes of memory; no value is a bus error. One narrower than its protected words reads them first, and an
uncorrectable error then leaves them unwritten (R404). -/
def memWrite (x : BusAcc) (n v : Nat) (b : Body) : Body × Option Nat := match regionSpan x.addr n with
  | none => (b, none)
  | some r =>
    let a := x.addr
    if x.ns && !(memNs b a && memNs b (a + n - 1)) then (worldAccess a x.init true b, none)
    else if !r.writable then (b, none)
    else
      let (b, bad) := if a % 8 = 0 ∧ n = 8 then (b, false) else touchAll x n b
      if bad then (b, none) else
      let b := if r = .dram then fillPage a b else b
      let b := wordWritten a (setMemBytes a (toLe n v) b)
      (if (a + n - 1) / 8 = a / 8 then b else wordWritten (a + n - 1) b, some 0)

/-! ### Worlds of a register (R9, R32) -/

/-- The tile whose control page, register page or memory page holds `a`. -/
def tileOfAddr (a : Nat) : Nat := if a < 0x40680000 then (a - 0x40640000) / 0x200 else (a - 0x40680000) / 0x2000

/-- The bits of SYS.MODE and SYS.MODE_ERR of non-secure functions. -/
def modeMask (b : Body) : Nat := ((List.range 8).map fun f => if fnNs b f then 2 ^ f else 0).sum

/-- The bits of a field that a non-secure access reaches. -/
def reachNs (b : Body) (a : Nat) (f : FieldRow) : Nat :=
  let all := (2 ^ f.w - 1) * 2 ^ f.lo
  let one := fun (v : Bool) => if v then all else 0
  match f.world with
  | .s => 0
  | .ns => all
  | .map => match (a - 0x40000000) / 0x100000 with
    | 0 => modeMask b
    | 6 => one (tileNs b (tileOfAddr a))
    | 7 => one (ceNs b)
    | 8 => one (ofeNs b)
    | 10 => one (gioNs b)
    | _ => 0

/-- The bits of the register at `a` that an access reaches; reserved bits are none of them. -/
def reach (b : Body) (a : Nat) (r : RegRow) (ns : Bool) : Nat :=
  (r.fields.map fun f => if ns then reachNs b a f else (2 ^ f.w - 1) * 2 ^ f.lo).sum

/-- A register access from a core to a gated block ungates the domain (R76). -/
def wakeBlock (a : Nat) (b : Body) : Body :=
  let k := (a - 0x40000000) / 0x100000
  if k = 3 ∨ k = 6 ∨ k = 7 ∨ k = 8 then ungate b else b

/-! ### Reads -/

/-- The read value and side effect of an RS register that is no plain counter. -/
def readSpecial (a : Nat) (b : Body) : Option (Nat × Body) :=
  if a = AON.TICK_LO.word.addr then some (tickLoRead b)
  else if a = TB.TIME_CAP.word.addr then some (timeCap b)
  else if a = MET.LATCH_SEQ.word.addr then some (latchSeqRead b)
  else match TB.TXQ_POP.word.idx 3 a with
    | some p => some (txqPop p b)
    | none => match QM.Q_POP.word.idx 32 a with
      | some q => some (qPop q b)
      | none => (QM.ALLOC.word.idx 32 a).map fun q => qAlloc q b

/-- The bits of the fields with an access code. -/
def codeMask (r : RegRow) (c : Acc) : Nat := (r.fields.map fun f => if f.acc = c then (2 ^ f.w - 1) * 2 ^ f.lo else 0).sum

/-- A read of the register `r` at `a` that reaches the bits `m`: the value, and the side effects of the RS fields reached
(R8). -/
def readReg (r : RegRow) (a m : Nat) (b : Body) : Nat × Body :=
  let rs := Nat.land (codeMask r .rs) m
  let shown := Nat.land m (2 ^ 32 - 1 - codeMask r .wo)
  match if rs = 0 then none else readSpecial a b with
  | some (v, b) => (Nat.land v m, b)
  | none =>
    let w := (b.word a).toNat
    let v := Nat.land (liveWord b a) shown
    (v, if rs = 0 then b else b.setWord a (BitVec.ofNat 32 (w - Nat.land w rs)))

/-- A read of the register window; no value is a bus error. -/
def regRead (a : Nat) (ns : Bool) (init : Nat) (b : Body) : Body × Option Nat := match rowAt a with
  | none => (b, none)
  | some r =>
    let m := reach b a r ns
    if m = 0 then (worldAccess a init false b, none)
    else
      let (v, b) := readReg r a m (wakeBlock a b)
      (b, some v)

/-- The register window of R6. -/
def inWindow (a : Nat) : Bool := decide (0x40000000 ≤ a) && decide (a < 0x41000000)

/-- A read on the bus (R7, R587, R588). -/
def busRead (x : BusAcc) (b : Body) : Body × Option Nat :=
  if inWindow x.addr then
    if x.width = 32 ∧ x.addr % 4 = 0 then regRead x.addr x.ns x.init b else (b, none)
  else memRead x (max 1 (x.width / 8)) b

/-! ### Writes -/

/-- Whether the write of value `v` counts as a write of an Expert field of a function in Basic mode (R122). -/
def expertRefused (b : Body) (a v m : Nat) (f : FieldRow) : Bool :=
  decide (f.fn < 8) && decide (f.acc = .rw) && !expert b f.fn && decide (Nat.land m (2 ^ f.lo) ≠ 0) &&
    decide (bits v f.lo f.w ≠ bits (b.word a).toNat f.lo f.w)

/-- One field under its access code: RW fields take the bits reached, W1C bits clear; the others are what a register's own
rule makes of them. -/
def writeField (v m : Nat) (w : Nat) (f : FieldRow) : Nat :=
  let all := (2 ^ f.w - 1) * 2 ^ f.lo
  let k := Nat.land all m
  match f.acc with
  | .rw => w - Nat.land w k + Nat.land v k
  | .w1c => w - Nat.land w (Nat.land v k)
  | _ => w

/-- The register with every field written but refused Expert fields, whose MODE_ERR bits are set; whether any was refused. -/
def writeFields (r : RegRow) (a v m : Nat) (b : Body) : Body × Bool :=
  let bad := r.fields.filter (expertRefused b a v m)
  let good := r.fields.filter fun f => !expertRefused b a v m f
  let w := good.foldl (writeField v m) (b.word a).toNat
  let b := b.setWord a (BitVec.ofNat 32 w)
  (b.each bad fun b f => b.setBit SYS.MODE_ERR.FUNC f.fn true, decide (bad ≠ []))

/-- A signed field saturates at ± `lim`. -/
def saturate (f : Fld) (lim : Nat) (b : Body) : Body :=
  b.put f (uns 32 (clampI (sgn 32 (b.get f)) (-(lim : Int)) lim))

/-- Actions in turn, each when its bit of the value written is 1. -/
def onBits (v : Nat) (l : List (Nat × (Body → Body))) (b : Body) : Body :=
  b.each l fun b p => if bits v p.1 1 = 1 then p.2 b else b

/-- A CONTROL payload of the host at OFE (R213). -/
def hostControl (v : Nat) (b : Body) : Body :=
  deliverTo { payload := v, tag := 0, thread := 0, late := false, src := 0x41, srcPort := 0 } (0x41, 2) b

/-- A disabled port's link goes down, and so does one on a medium that its MEDIA field no longer selects (R62). -/
def portsFollow (b : Body) : Body :=
  b.each [0, 1, 2] fun b p => if b.bit SW.CTL.PORT_EN p && linkFits b p then mediumFollow p b else mediumFollow p (linkDown p b)

/-- Writes of SYS. Once the world map is locked, a write to one of its registers is ignored with a record (R34). A write to
SYS.WORLD_LOCK itself is no write to the map: it leaves LOCK as it stands and no record (DESIGN CHOICE, log entry 93). -/
def writeSys (a v : Nat) (ns : Bool) (b : Body) : Option Body :=
  if (SYS.WORLD_BLK.word.addr ≤ a ∧ a ≤ SYS.WORLD_TILE_HI.word.addr) ∨ (0x40000100 ≤ a ∧ a < 0x40000300) then
    if b.flag SYS.WORLD_LOCK.LOCK then some (blockRecord 0 (a % 2 ^ 20) v b) else none
  else if a = SYS.WORLD_LOCK.word.addr then some (if v % 2 = 1 then lockWorld b else b)
  else if a = SYS.MODE.word.addr then some (modeWrite v ns b)
  else none

def writeLoom (a v : Nat) (b : Body) : Option Body :=
  if a = LOOM.SCHED_CMD.word.addr then
    some (match bits v 16 2 with
      | 1 => schedArmCmd (bits v 0 10) b
      | 2 => schedCancelCmd (bits v 0 10) b
      | _ => b)
  else match LOOM.SCHED_W.word.idx2 1024 8 a with
    | some (e, _) => if (schedOf b e).owner = .free then none else some b
    | none => match LOOM.TILE_CTL.word.idx 64 a with
      | some t => some (tileEnable t (decide (v % 2 = 1)) (if bits v 8 1 = 1 then tileReset t b else b))
      | none => match LOOM.TILE_G.word.idx2 64 64 a with
        | some (t, _) => if b.flag LOOM.TILE_CTL.ENABLE t then some b else none
        | none => match LOOM.CODE.word.idx2 64 1024 a with
          | some (t, w) => some (tileCodeWrite t w v b)
          | none => match LOOM.DATA.word.idx2 64 1024 a with
            | some (t, w) =>
              let x := tileOf b t
              if x.act.isSome then some (setTile b t { x with writes := x.writes ++ [(w, v)] }) else none
            | none => none

/-- A host write of CE.CCT_FLR[n] (R175): a composition follows for a declared channel. -/
def cctFlrWrite (n v : Nat) (b : Body) : Body :=
  let b := ceFirst ceInputs b
  let b := setRuleCct n (bits v 0 16) (b.put CE.CCT_FLR.RULE_FLOOR (bits v 16 16) n)
  if n < chanCnt b then ask [n] .rule none b else b

def writeCe (a v : Nat) (b : Body) : Option Body :=
  if a = CE.HOST_LO.word.addr then some (b.put CE.HOST_LO.PAYLOAD v)
  else if a = CE.HOST_HI.word.addr then some (b.put CE.HOST_HI.PAYLOAD v)
  else if a = CE.HOST_CMD.word.addr then
    some (match bits v 0 2 with
      | 1 => ceLevelEvent (hostPayload b) (ceFirst ceInputs b)
      | 2 => ceOverride (hostPayload b) (ceFirst ceInputs b)
      | _ => b)
  else match CE.LVL_TGT.word.idx 512 a with
    | some n => some (lvlTgtWrite n v b)
    | none => match CE.CCT_FLR.word.idx 512 a with
      | some n => some (cctFlrWrite n v b)
      | none => none

/-- CE.SAFE[n] under R210; a non-secure access does not reach it. -/
def writeCeSafe (a v : Nat) (b : Body) : Option Body := (CE.SAFE.word.idx 512 a).map fun n => safeLvlWrite n v b

def writeTb (a v : Nat) (b : Body) : Option Body :=
  if a = TB.STEP_CMD.word.addr then some (if v % 2 = 1 then stepGo b else b) else none

def writeAir (a v : Nat) (b : Body) : Option Body :=
  if a = AIR.KEY_SW.word.addr then (if b.flag AIR.STAT.SW_ARMED then some b else none)
  else if a = AIR.KEY_ARM.word.addr then (if bits v 2 1 = 1 then some (keyArm (bits v 0 2) b) else none)
  else if a = AIR.HOP_ARG.word.addr then some (hopQuery (bits v 8 3) (bits v 0 8) b)
  else (AIR.KEY_W.word.idx2 4 4 a).map fun p => keyWrite p.1 p.2 v b

def writeMet (a v : Nat) (b : Body) : Option Body :=
  if a = MET.CAL_CMD.word.addr then some (onBits v [(0, calMode), (2, calCommit), (3, calRevert)] b)
  else if 0x40900200 ≤ a ∧ a < 0x409003C0 ∧ !b.flag MET.CAL_CMD.MODE then some b
  else none

def writeQm (a v : Nat) (b : Body) : Option Body :=
  match QM.Q_CFG.word.idx 32 a with
  | some q => some (qCfgWrite q v b)
  | none => match QM.Q_LIM.word.idx 32 a with
    | some q => some (qLimWrite q v b)
    | none => match QM.Q_CMD.word.idx 32 a with
      | some q => some (onBits v [(0, qFlush q), (1, qSwap q), (2, dropFill q)] b)
      | none => match QM.Q_REL.word.idx 32 a with
        | some q => some (qRel q (bits v 0 14) b)
        | none => (QM.PUSH.word.idx 32 a).map fun q =>
          if bits v 1 1 = 1 then pushAbort q b else if bits v 0 1 = 1 then pushCommit q b else b

def writeSw (a v : Nat) (b : Body) : Option Body :=
  if a = SW.ERPS_CMD.word.addr then
    some (match bits v 0 2 with
      | 1 => forcedSwitch (bits v 2 1) b
      | 2 => manualSwitch (bits v 2 1) b
      | 3 => ringClear b
      | _ => b)
  else if a = SW.FDB_FLUSH.word.addr then some (if v % 2 = 1 then flushFdb b else b)
  else none

def writeAon (a v : Nat) (b : Body) : Option Body :=
  if a = AON.ADJ_CMD.word.addr then some (if v % 2 = 1 then adjGo b else b)
  else if a = AON.TAMPER.word.addr then (if b.flag SAFE.STAT.ZEROISED then none else some b)
  else
    let armed := fun (i : Nat) => if b.flag AON.ALM_CTL.ARM i then some (b.mark AON.ALM_CTL.WR_REJ true i) else none
    match AON.ALM_LO.word.idx 4 a with
    | some i => armed i
    | none => match AON.ALM_HI.word.idx 4 a with
      | some i => armed i
      | none => none

def writeUpd (a v : Nat) (x6 secure : Bool) (b : Body) : Option Body :=
  if a = UPD.CMD.word.addr then
    some (onBits v [(0, verify), (1, activateCmd), (2, confirmCmd), (3, rejectCmd), (4, abortArea (bits v 8 3)), (5, patFloor),
      (6, recoveryCmd)] b)
  else if a = UPD.ENR_CMD.word.addr then some (enrCommand (bits v 0 4) x6 secure b)
  else if a = UPD.NC_ACT_HI.word.addr then some (ncActArm (bits v 0 16) b)
  else none

def writeGio (a v : Nat) (b : Body) : Option Body :=
  if a = GIO.REL_CTL.word.addr then some (hostRelay (bits v 0 4) b)
  else if a = GIO.SIGN_CMD.word.addr then some (onBits v [(0, signCmdCommit), (1, signCmdClear), (2, signRetry)] b)
  else none

def writeSafe (a v : Nat) (b : Body) : Option Body :=
  if a = SAFE.ERR_ACK.word.addr then some (if v % 2 = 1 then errAck b else b)
  else if a = SAFE.HELD.word.addr then some (heldClear (bits v 0 15) b)
  else if a = SAFE.DBG_CMD.word.addr then some (onBits v [(0, debugChal), (1, debugUnlock)] b)
  else match SAFE.DBG_RESP.word.idx 24 a with
    | some w => some (b.put SAFE.DBG_RESP.DATA v w)
    | none => none

/-- Registers whose writes have a rule of their own in place of the access codes. -/
def writeSpecial (a v : Nat) (ns : Bool) (init : Nat) (b : Body) : Option Body :=
  match (a - 0x40000000) / 0x100000 with
  | 0 => writeSys a v ns b
  | 1 => writeAon a v b
  | 2 => writeTb a v b
  | 3 => writeAir a v b
  | 4 => writeSw a v b
  | 5 => writeQm a v b
  | 6 => writeLoom a v b
  | 7 => match writeCe a v b with
    | some b => some b
    | none => writeCeSafe a v b
  | 8 => if a = OFE.HOST_CTL.word.addr then some (hostControl v b) else none
  | 9 => writeMet a v b
  | 10 => writeGio a v b
  | 11 => if a = MEMI.INJ_CTL.word.addr then some (injCtl v b) else none
  | 12 => writeUpd a v (decide (init = 2)) (!ns) b
  | 13 => writeSafe a v b
  | _ => none

/-- What a write under the access codes starts beside: `o` is the body before it. -/
def writeAfter (a v : Nat) (o b : Body) : Body :=
  if a = SYS.GATE_CTL.word.addr then (if b.flag SYS.GATE_CTL.GATE_EN then b else ungate b)
  else if a = TB.CTL.word.addr then (if b.flag TB.CTL.RUN && !o.flag TB.CTL.RUN then { b with tb := { b.tb with window := true } } else b)
  else if a = TB.ADJ_FREQ.word.addr then saturate TB.ADJ_FREQ.ADJ 1024000000 b
  else if a = TB.STEP_NS.word.addr then saturate TB.STEP_NS.NS 999999999 b
  else if a = TB.CORR_CTL.word.addr then (if v % 2 = 1 then corrCap b else b)
  else if a = AIR.TUNE.word.addr then showPower b
  else if a = SW.CTL.word.addr then portsFollow b
  else if a = SW.ERPS_CTL.word.addr then ringFollow b
  else if a = AON.PWAKE.word.addr then { b with aon := { b.aon with pwakeRaw := b.aon.raw } }
  else if a = GIO.SIGN_DRV.word.addr then signFactor b
  else if a = GIO.CTL.word.addr then supplyFollow b
  else if (UPD.ENR_BUF.word.idx 1024 a).isSome then { b with upd := { b.upd with csrShown := false } }
  else if a = SEAM.CTL.word.addr then
    let b := seamStart (o.flag SEAM.CTL.RUN) b
    if bits v 1 1 = 1 then handover (b.mark SEAM.CTL.HANDOVER true) else b
  else if a = UPD.CHAIN.word.addr then chainFollow b
  else if a = UPD.NC_CTL.word.addr then onBits v [(1, campaignEnd), (0, ncStart)] b
  else if a = SAFE.CTL.word.addr then
    let b := if b.flag SAFE.CTL.RUN && !o.flag SAFE.CTL.RUN then { b with safe := { b.safe with runAt := b.clock.cyc } } else b
    onBits v [(2, raise 0x0D04 0 0), (1, coldRestart)] b
  else if a = SAFE.ST_RES.word.addr then { b with nv := { b.nv with stFail := b.get SAFE.ST_RES.LAST_FAIL } }
  else match MEMI.BUCKET.word.idx 6 a with
    | some m => b.put MEMI.BUCKET.LEAK_S (max 1 (min 3600 (b.get MEMI.BUCKET.LEAK_S m))) m
    | none => match AON.ALM_CTL.word.idx 4 a with
      | some i =>
        if o.flag AON.ALM_CTL.ARM i && !b.flag AON.ALM_CTL.ARM i then
          { b with aon := { b.aon with armClr := b.aon.armClr ++ [i] } }
        else b
      | none =>
        if 0x40200100 ≤ a ∧ a < 0x40200160 ∧ (a % 0x20 = 0 ∨ a % 0x20 = 4) ∧ expert b 2 then
          b.setBit TB.STAT.NOMINAL ((a - 0x40200100) / 0x20) false
        else b

/-- A write that reaches the bits `m` of the register `r` at `a`; whether an Expert field was refused (R122). The AON registers
keep their reset values while their domain is held in reset (R436). -/
def writeReg (r : RegRow) (a v m : Nat) (ns : Bool) (init : Nat) (b : Body) : Body × Bool :=
  if b.aon.held && decide ((a - 0x40000000) / 0x100000 = 1) then (b, false) else
  match if Nat.land m (2 ^ 32 - 1 - codeMask r .ro) = 0 then none else writeSpecial a (Nat.land v m) ns init b with
  | some b' => (keepChanged a b b', false)
  | none =>
    let (b', bad) := writeFields r a v m b
    (keepChanged a b (writeAfter a (Nat.land v m) b b'), bad)

/-- A write to the register window: the body, whether it completed and whether an Expert field was refused. -/
def regWrite (a v : Nat) (ns : Bool) (init : Nat) (b : Body) : Body × Bool × Bool := match rowAt a with
  | none => (b, false, false)
  | some r =>
    let m := reach b a r ns
    if m = 0 then (worldAccess a init true b, false, false)
    else
      let (b, bad) := writeReg r a (v % 2 ^ 32) m ns init (wakeBlock a b)
      (b, true, bad)

/-- A write on the bus. -/
def busWrite (x : BusAcc) (b : Body) : Body × Option Nat :=
  if inWindow x.addr then
    if x.width = 32 ∧ x.addr % 4 = 0 then
      let (b, done, _) := regWrite x.addr x.data x.ns x.init b
      (b, if done then some 0 else none)
    else (b, none)
  else
    let n := max 1 (x.width / 8)
    memWrite x n (x.data % 2 ^ (8 * n)) b

/-- The bus answers: the data of a read, 0 of a write, nothing of a bus error. -/
def busAnswer (p : Body × Option Nat) : Body := { p.1 with bus := p.2 }

/-! ### Commands -/

def execRegisterWrite (a : BusAcc) (s : State) : Outcome State Fault Refusal := onBody (fun b => busAnswer (busWrite a b)) s

def execCounterReadClear (a : BusAcc) (s : State) : Outcome State Fault Refusal := onBody (fun b => busAnswer (busRead a b)) s

end Sys2Proof.Machine
end

