-- ==== Sys2Proof/Machine/Delivery.lean ====
section
/-! DEFINITION. Machine/Delivery.lean: associations, answers, resends and relays of Shalan (R22, R472 to R480, R491, R494, R495). -/

namespace Sys2Proof.Machine

open Host

/-! ### Answers -/

/-- An answer of module `mod` to the request `m` of an association. -/
def shAnswerAs (mod id : Nat) (m : List Nat) (status index : Nat) (p : List Nat) (b : Body) : Body :=
  shReply id (msgSeq m) (shMsg (msgType m) (msgSeq m) mod (msgSrc m) 1 status (index % 65536) p) b

def shAnswer (id : Nat) (m : List Nat) (status index : Nat) (p : List Nat) (b : Body) : Body :=
  shAnswerAs (modNo b) id m status index p b

/-! ### Closing and opening associations -/

/-- A member of a pair that does not hold the lease: nothing is answered on the pair address (R26, R446, R476). -/
def holderless (b : Body) : Bool := twinPresent b && decide (b.get SEAM.STAT.ROLE ≤ 1)

/-- Requests in progress no longer go back to an association that has closed. -/
def dropOrigin (id : Nat) (b : Body) : Body :=
  let f := fun (r : ShalReq) => if r.origin.any (fun o => decide (o.1 = id)) then { r with origin := none } else r
  { b with sha := { b.sha with
      assocs := b.sha.assocs.map fun a => { a with sent := a.sent.map f }
      relayQ := b.sha.relayQ.map fun q => (q.1, q.2.map f)
      busy := b.sha.busy.map fun x => (x.1, x.2.1, f x.2.2)
      fans := b.sha.fans.filter fun x => decide (x.assoc ≠ id) } }

/-- What waits to be sent to a module, or was sent and not answered, outlives the association; what waits for a host does not. -/
def closeAssoc (id : Nat) (b : Body) : Body := match assocOf b id with
  | none => b
  | some a =>
    let again := a.sent.map fun r => { r with seq := 0, sends := 0 }
    dropOrigin id (dropAssoc id (setQueueFor id (if isHost id then [] else again ++ queueFor b id) b))

/-- A fresh association: both sides number from 1. -/
def openAssoc (a : Assoc) (b : Body) : Body :=
  let b := closeAssoc a.id b
  let a := { a with nextSeq := 1, sent := [], kept := [], sub := 0, lastAt := b.clock.cyc, records := 0, keys := 0 }
  pump a.id { b with sha := { b.sha with assocs := b.sha.assocs ++ [a] } }

/-! ### METER_RECORD and the historian (R493) -/

/-- Part `k` of a historian record. -/
def meterPart (b : Body) (h : HistRec) (k : Nat) : List Nat :=
  uidBytes b.nv.uid ++ [h.kind, k, (h.bytes.length + 1023) / 1024, 0] ++ toBe 4 h.num ++ toBe 4 h.bytes.length ++
    bytesAt h.bytes (1024 * k) 1024

/-- The runtime takes a record of Q24 (KIND 0) or Q25 (KIND 1): into the historian for 400 days, and out. -/
def meterSend (kind : Nat) (l : List Nat) (b : Body) : Body :=
  let parts := List.range ((l.length + 1023) / 1024)
  let h : HistRec := { kind := kind, num := u32 l 4, bytes := l, left := if (collector b).isSome then parts else [], sec := tSec b,
                        date := utcDate (utcOf b (tSec b)) }
  let b := { b with sha := { b.sha with hist := (b.sha.hist.filter fun (x : HistRec) => decide (tSec b < x.sec + 400 * 86400)) ++ [h] } }
  b.each parts fun b k => shCollect 0x07 (2 + kind) false (meterPart b h k) b

/-- The parts the collector has not answered are sent again, in order of number, when it is reachable again. -/
def meterResend (id : Nat) (b : Body) : Body :=
  b.each (sortBy (fun x y => decide (x.num ≤ y.num)) (b.sha.hist.filter fun h => decide (h.left ≠ []))) fun b h => b.each h.left fun b k =>
    let p := meterPart b h k
    let waits := (queueFor b id).any (fun r => decide (msgBody r.msg = p)) || (match assocOf b id with
      | some a => a.sent.any fun r => decide (msgBody r.msg = p)
      | none => false)
    if waits then b else shRequest id 0x07 p b

/-- The collector answered a part: a record is known by its bytes, as numbers start again with each reset. -/
def meterAnswered (m : List Nat) (b : Body) : Body :=
  let p := msgBody m
  if p.take 16 ≠ uidBytes b.nv.uid then b else
  let hist := b.sha.hist.map fun h =>
    if meterPart b h (u8 p 17) = p then { h with left := h.left.filter fun k => decide (k ≠ u8 p 17) } else h
  { b with sha := { b.sha with hist := hist } }

/-! ### Handshake -/

/-- The peer asks at the member's own address. A session over X6 does so too (R498). -/
def asksOwn (b : Body) (p : Peer) : Bool := p.x6 || decide (p.addr = memberAddr b)

/-- The peer asks at an address at which this module answers: its own, and as holder or alone the pair address (R476). -/
def answersAt (b : Body) (p : Peer) : Bool := asksOwn b p || (!holderless b && decide (p.addr = pairAddr b))

/-- One of at most 8 associations with hosts (R472). -/
def hostRoom (b : Body) (id : Nat) : Bool := decide ((b.sha.assocs.filter fun a => isHost a.id && decide (a.id ≠ id)).length < 8)

/-- The association a peer asks for, when R472 to R476 and R528 admit it. -/
def admitted (b : Body) (p : Peer) : Option Nat :=
  let id := 0x10000 + p.session
  if !p.options || !answersAt b p then none
  else if b.get UPD.STAT.ENROL = 0 then
    if p.host && p.secure && p.x6 && b.nv.keys.identity.isSome && hostRoom b id then some id else none
  else if !p.trusted then none
  else if p.host then if hostRoom b id then some id else none
  else if p.mod = modNo b then none
  else if p.mod = mgrMod b ∨ (managedMods b).contains p.mod then some p.mod
  else none

/-- DTLS_HANDSHAKE. The application cores answer, or the boot ROM in recovery. -/
def handshake (p : Peer) (b : Body) : Body :=
  if !coresServe b && decide (b.power ≠ .recovery) then b else
  let b := if p.host then b else srcConflict p.mod p.uid b
  match admitted b p with
  | none => b
  | some id =>
    let b := openAssoc ⟨id, !p.host || p.secure, p.x6, p.uid, 0, 1, [], [], 0, asksOwn b p, 0, 0⟩ b
    if collector b = some id then meterResend id b else b

def execDtlsHandshake (p : Peer) (s : State) : Outcome State Fault Refusal := onRom (handshake p) s

/-- A Neighbor Advertisement on a ring port: one for the pair address from neither this module nor its twin is a conflict.
The twin's address is that of its seam frames. -/
def neighbor (port addr mac : Nat) (b : Body) : Body :=
  let twin := match b.seam.peer with
    | some h => decide (mac = h.mac)
    | none => false
  if coresServe b && loaded b && decide (port < 2) && decide (addr = pairAddr b) && decide (mac ≠ b.nv.mac) && !twin then modConflict b
  else b

def execNeighborAdvertisement (port addr mac : Nat) (s : State) : Outcome State Fault Refusal := onBody (neighbor port addr mac) s

/-- 300 s without a record close the association (R473). -/
def assocIdle (id : Nat) (b : Body) : Body := match assocOf b id with
  | some a => if 300 ≤ sinceS b a.lastAt then closeAssoc id b else b
  | none => b

def execAssociationIdle (assoc : Nat) (s : State) : Outcome State Fault Refusal := onRom (assocIdle assoc) s

/-! ### Fan-outs and relayed requests (R494) -/

/-- A copy of a fanned-out SCHEDULE was answered or failed; the last one answers the request. -/
def fanStep (oid oseq id code : Nat) (m : List Nat) (b : Body) : Body :=
  match b.sha.fans.find? fun f => decide (f.assoc = oid ∧ f.seq = oseq) with
  | none => b
  | some f =>
    let bad := decide (code ≠ 0)
    let left := f.waiting.filter fun x => decide (x ≠ id)
    let f := { f with waiting := left, failed := f.failed + (if bad then 1 else 0), code := if f.code = 0 then code else f.code }
    let others := b.sha.fans.filter fun x => !(decide (x.assoc = oid) && decide (x.seq = oseq))
    if f.waiting = [] then
      shAnswer oid (withSeq oseq m) f.code f.failed [] { b with sha := { b.sha with fans := others } }
    else { b with sha := { b.sha with fans := others ++ [f] } }

/-- The module may answer on an association: one at the pair address is the holder's (R26). -/
def mayAnswer (b : Body) (id : Nat) : Bool := match assocOf b id with
  | some a => !holderless b || a.own
  | none => false

/-- The outcome of a relayed SCHEDULE goes back to who asked. -/
def relayBack (r : ShalReq) (id status index : Nat) (p : List Nat) (b : Body) : Body := match r.origin with
  | none => b
  | some (oid, oseq) =>
    if !mayAnswer b oid then b
    else if b.sha.fans.any fun f => decide (f.assoc = oid ∧ f.seq = oseq) then fanStep oid oseq id status r.msg b
    else shAnswer oid (withSeq oseq r.msg) status index p b

/-- A request that a module answered with ERR_BUSY is offered again after 1 s (R495). -/
def busyLater (id : Nat) (r : ShalReq) (b : Body) : Body :=
  { b with sha := { b.sha with busy := b.sha.busy ++ [(id, b.clock.cyc, r)] } }

/-- An image piece forwarded along a chain was answered (R496): counted, and the window has room. -/
def chainAnswered (id : Nat) (b : Body) : Body :=
  chainPump { b with sha := { b.sha with fwd := tabSet (fun _ => 0) b.sha.fwd id (tabGet (fun _ => 0) b.sha.fwd id + 1) } }

/-- ERR_BUSY of a SCHEDULE that goes further from there: no entry that failed is named, so a send queue was full (DEDUCED, log
entry 101). -/
def schedBusy (m : List Nat) (status index : Nat) : Bool := decide (status = 0x11 ∧ index = 0 ∧ bits (msgFlags m) 1 1 = 1)

/-- SHALAN_ANSWER (R479): the request leaves the window, and the next one goes out. -/
def answered (id : Nat) (m : List Nat) (b : Body) : Body := match assocOf b id with
  | none => b
  | some a => match a.sent.find? fun r => decide (r.seq = msgSeq m) && decide (msgType r.msg = msgType m) with
    | none => setAssoc { a with lastAt := b.clock.cyc } b
    | some r =>
      let b := setAssoc { a with sent := a.sent.filter fun x => decide (x.seq ≠ r.seq), lastAt := b.clock.cyc } b
      let b := match msgType r.msg with
        | 0x07 => if collector b = some id then meterAnswered r.msg b else b
        | 0x03 => if msgStatus m = 0x11 then busyLater id r b else b
        | 0x04 =>
          if msgStatus m = 0x11 then busyLater id r b
          else if u8 (msgBody r.msg) 14 % 2 = 1 then chainAnswered id b
          else b
        | _ =>
          if schedBusy r.msg (msgStatus m) (msgIndex m) then busyLater id r b
          else relayBack r id (msgStatus m) (msgIndex m) (msgBody m) b
      pump id b

/-- A LEASE_WITNESS message of an association (R489). -/
def witOf (m : List Nat) : WitMsg :=
  let p := msgBody m
  { op := u8 p 0, mod := msgSrc m, member := u8 p 1, role := u8 p 2, voteFor := u8 p 3, uid := leNat (bytesAt p 4 16),
    epoch := b32 p 20, time := b64 p 24, health := b32 p 32, remain := b32 p 36, seq := msgSeq m }

/-- The LEASE_WITNESS operations by OP. -/
def witness (m : List Nat) (b : Body) : Body :=
  let w := witOf m
  match w.op with
  | 1 => shOnce w.mod w.seq (witTake false w) b
  | 2 => shOnce w.mod w.seq (witTake true w) b
  | 3 => release w none b
  | 4 => witHealth w b
  | 0x81 => grant w b
  | 0x82 => refuse w b
  | _ => b

/-- An answer arrives on an association. -/
def takeAnswer (id : Nat) (m : List Nat) (b : Body) : Body :=
  if !coresServe b then b else
  let b := recordOn id b
  if u8 m 0 ≠ 1 ∨ msgFlags m % 2 = 0 then b else
  let b := match assocOf b id with
    | some a => if bits (msgFlags m) 2 1 = 0 then srcConflict (msgSrc m) a.uid b else b
    | none => b
  if msgType m = 0x0A then witness m b
  else answered id m b

def execShalanAnswer (assoc : Nat) (msg : List Nat) (s : State) : Outcome State Fault Refusal := onBody (takeAnswer assoc msg) s

/-- The wait after send `n` (R479): 250 ms, 500 ms, 1 s, 2 s and 4 s, then every 4 s. -/
def resendMs (n : Nat) : Nat := [0, 250, 500, 1000, 2000].getD n 4000

/-- SHALAN_RESEND: the wait for an answer is over. After 8 sends the association closes and a new one opens (R479), and a
relayed SCHEDULE has failed. -/
def resendSent (id seq : Nat) (b : Body) : Body := match assocOf b id with
  | none => b
  | some a => match a.sent.find? fun r => decide (r.seq = seq) with
    | none => b
    | some r =>
      if !coresServe b || decide (b.clock.cyc < r.at_ + msCyc (resendMs r.sends)) then b
      else if r.sends < 8 then
        let r := { r with sends := r.sends + 1, at_ := b.clock.cyc }
        let b := setAssoc { a with sent := a.sent.map (fun x => if x.seq = seq then r else x) } b
        shEmit id r.msg b
      else
        let fails := a.sent.filter fun x => x.origin.isSome
        let b := openAssoc a (setAssoc { a with sent := a.sent.filter fun x => x.origin.isNone } b)
        b.each fails fun b x => relayBack x id 0x24 0 [] b

/-- The send queue of a managed module is full. -/
def queueFull (b : Body) (id : Nat) : Bool := decide ((queueFor b id).length ≥ 256)

/-- SHALAN_RESEND: a request answered with ERR_BUSY is offered again, as a new one, once 1 s has passed (R495), and a second
later where the module's send queue is full; any other follows R479. -/
def resend (id seq : Nat) (b : Body) : Body :=
  match b.sha.busy.find? fun x => decide (x.1 = id ∧ x.2.2.seq = seq) with
  | some x =>
    if !coresServe b || decide (b.clock.cyc < x.2.1 + msCyc 1000) then b
    else
      let rest := { b with sha := { b.sha with busy := b.sha.busy.filter (· ≠ x) } }
      if queueFull b id then busyLater id x.2.2 rest else shAsk id x.2.2.msg x.2.2.origin rest
  | none => resendSent id seq b

def execShalanResend (assoc seq : Nat) (s : State) : Outcome State Fault Refusal := onBody (resend assoc seq) s

/-! ### Relaying down (R494, R495) -/

/-- The request as it goes to a managed module: RELAYED, and for that module. -/
def relayMsg (m : List Nat) (dst : Nat) : List Nat :=
  m.take 10 ++ toBe 2 dst ++ [insBits (msgFlags m) 2 1 1] ++ m.drop 13

/-- A request for one managed module: a piece is answered when it is stored here, a SCHEDULE when its answer comes. -/
def relayDown (id dst : Nat) (m : List Nat) (b : Body) : Body :=
  if queueFull b dst then shAnswer id m 0x11 0 [] b
  else if msgType m = 0x05 then shAsk dst (relayMsg m dst) (some (id, msgSeq m)) b
  else shAsk dst (relayMsg m dst) none (shAnswer id m 0 0 [] b)

/-- A request with FANOUT, already applied here with `status`: it goes to every managed module, a piece once it is answered. -/
def fanOut (id : Nat) (m : List Nat) (status index : Nat) (p : List Nat) (b : Body) : Body :=
  let ms := managedMods b
  if msgType m = 0x05 then
    let f : Fan := { assoc := id, seq := msgSeq m, waiting := ms, failed := if status = 0 then 0 else 1, code := status }
    b.each ms (fun b x => shAsk x (relayMsg m x) (some (id, msgSeq m)) b) |> fun b =>
      { b with sha := { b.sha with fans := b.sha.fans ++ [f] } }
  else (shAnswer id m status index p b).each ms fun b x => shAsk x (relayMsg m x) none b

/-! ### Relaying up (R491) -/

/-- A managed module's message is stored for the own collector, marked RELAYED, and copied to hosts that asked for relayed
messages of its kind. -/
def relayUp (bit : Option Nat) (ns : Bool) (m : List Nat) (b : Body) : Body :=
  let r := m.take 12 ++ [insBits (msgFlags m) 2 1 1] ++ m.drop 13
  let b := match collector b with
    | some id => shAsk id r none b
    | none => b
  match bit with
  | none => b
  | some k =>
    let hosts := (subscribers b k ns).filter fun id => match assocOf b id with
      | some a => decide (bits a.sub 6 1 = 1)
      | none => false
    b.each hosts fun b id => shAsk id r none b

end Sys2Proof.Machine
end

