-- ==== Sys2Proof/Machine/Shalan.lean ====
section
/-! DEFINITION. Machine/Shalan.lean: what the runtime makes of each Shalan request (R478 to R497), the boot ROM's part in recovery
(R515), and what the module sends at fixed times. -/

namespace Sys2Proof.Machine

open Host

/-- What a request is answered with: STATUS, INDEX and payload. -/
abbrev Reply := Nat × Nat × List Nat

/-- The initiator code of a session's accesses (R570). -/
def initOf (a : Assoc) : Nat := if a.x6 then 2 else 1

/-! ### Registers (R482, R483) -/

/-- ADDR, COUNT and MODE of a request. -/
def regAddr (m : List Nat) : Nat := b32 (msgBody m) 0
def regCount (m : List Nat) : Nat := b16 (msgBody m) 4
def regMode (m : List Nat) : Nat := b16 (msgBody m) 6
/-- The address of word `i`. -/
def regWordAt (m : List Nat) (i : Nat) : Nat := if regMode m = 0 then regAddr m + 4 * i else regAddr m

/-- The form of a register request: COUNT 1 to 256, MODE 0 or 1, word-aligned, and within the window. -/
def regFormOk (m : List Nat) : Bool :=
  decide (1 ≤ regCount m ∧ regCount m ≤ 256 ∧ regMode m ≤ 1 ∧ regAddr m % 4 = 0) &&
  inWindow (regAddr m) && inWindow (regWordAt m (regCount m - 1))

/-- Reads words `i` to `i + n − 1`; the words, and the index of a bus error. -/
def readWords (a : Assoc) (m : List Nat) : Nat → Nat → Body → Body × List Nat × Option Nat
  | 0, _, b => (b, [], none)
  | n + 1, i, b => match regRead (regWordAt m i) (!a.secure) (initOf a) b with
    | (b, some v) =>
      let (b, l, e) := readWords a m n (i + 1) b
      (b, toBe 4 v ++ l, e)
    | (b, none) => (b, [], some i)

/-- REG_READ. -/
def regReadMsg (a : Assoc) (m : List Nat) (b : Body) : Body × Reply :=
  if !regFormOk m then (b, 0x0A, 0, (msgBody m).take 8) else
  let (b, l, e) := readWords a m (regCount m) 0 b
  let p := (msgBody m).take 8 ++ l
  match e with
  | some i => (b, 0x21, i, p)
  | none => (b, 0, 0, p)

/-- Writes words `i` to `i + n − 1`; the first word with a refused Expert field, and the index of a bus error. -/
def writeWords (a : Assoc) (m : List Nat) : Nat → Nat → Option Nat → Body → Body × Option Nat × Option Nat
  | 0, _, bad, b => (b, bad, none)
  | n + 1, i, bad, b => match regWrite (regWordAt m i) (b32 (msgBody m) (8 + 4 * i)) (!a.secure) (initOf a) b with
    | (b, true, x) => writeWords a m n (i + 1) (if x && bad.isNone then some i else bad) b
    | (b, false, _) => (b, bad, some i)

/-- REG_WRITE. -/
def regWriteMsg (a : Assoc) (m : List Nat) (b : Body) : Body × Reply :=
  if !regFormOk m then (b, 0x0A, 0, []) else
  match writeWords a m (regCount m) 0 none b with
  | (b, _, some i) => (b, 0x21, i, [])
  | (b, some i, none) => (b, 0x20, i, [])
  | (b, none, none) => (b, 0, 0, [])

/-! ### Patterns (R484) -/

/-- The byte at offset `o` of an assembly, when a piece holds it. -/
def heldByte (ps : List (Nat × List Nat)) (o : Nat) : Option Nat :=
  (ps.find? fun p => decide (p.1 ≤ o ∧ o < p.1 + p.2.length)).bind fun p => p.2[o - p.1]?

/-- How far the pieces reach from offset `o` without a hole. -/
def reachFrom (ps : List (Nat × List Nat)) : Nat → Nat → Nat
  | 0, o => o
  | n + 1, o => match ps.find? fun p => decide (p.1 ≤ o ∧ o < p.1 + p.2.length) with
    | some p => reachFrom ps n (p.1 + p.2.length)
    | none => o

/-- The assembly a piece of this SERIAL joins; another one that is still being fed keeps it out, and one that was not fed for 60 s is
dropped. -/
def assemblyFor (b : Body) (id serial total : Nat) : Option Assembly := match b.pat.assembly with
  | none => some ⟨id, serial, total, [], b.clock.cyc⟩
  | some x =>
    if sinceS b x.fedCyc ≥ 60 then some ⟨id, serial, total, [], b.clock.cyc⟩
    else if x.serial = serial then some x else none

/-- PATTERN_PIECE. DESIGN CHOICE (log entry 73): the offset that R110 returns for a failed check is the answer's payload, u32. -/
def patternPieceMsg (a : Assoc) (m : List Nat) (b : Body) : Body × Reply :=
  let p := msgBody m
  let serial := b32 p 0
  let total := b32 p 4
  let off := b32 p 8
  let data := p.drop 16
  if data.length < 1 ∨ data.length > 1024 ∨ off % 8 ≠ 0 then (b, 0x0A, 0, []) else
  match assemblyFor b a.id serial total with
  | none => (b, 0x11, 0, [])
  | some x =>
    if x.total ≠ total ∨ off + data.length > total then (b, 0x01, 0, [])
    else if (List.range data.length).any (fun i => match heldByte x.pieces (off + i) with
        | some v => decide (v ≠ data.getD i 0)
        | none => false) then (b, 0x01, 0, [])
    else
      let x := { x with pieces := x.pieces ++ [(off, data)], fedCyc := b.clock.cyc }
      if reachFrom x.pieces x.pieces.length 0 < total then ({ b with pat := { b.pat with assembly := some x } }, 0, 0, [])
      else
        let l := (List.range total).map fun o => (heldByte x.pieces o).getD 0
        let (b, code, idx, ofs) := receivePattern l { b with pat := { b.pat with assembly := none } }
        (b, code, idx, if code = 0 then [] else toBe 4 ofs)

/-! ### Images (R485) -/

/-- IMAGE_PIECE. A piece of a chain counts for the rate window (R496). -/
def imagePieceMsg (m : List Nat) (b : Body) : Body × Reply :=
  let p := msgBody m
  let data := p.drop 16
  if data.length < 1 ∨ data.length > 1024 then (b, 0x0A, 0, []) else
  let b := if u8 p 14 % 2 = 1 then { b with sha := { b.sha with got := b.sha.got + 1 } } else b
  let (b, code) := imagePiece (b32 p 0) (b32 p 4) (b32 p 8) data b
  (b, code, 0, [])

/-! ### Schedules (R486) -/

/-- The INDEX of a SCHEDULE request. -/
def schedIdx (m : List Nat) : Nat := b16 (msgBody m) 2

/-- SCHEDULE ARM. -/
def scheduleArm (a : Assoc) (m : List Nat) (b : Body) : Body × Reply :=
  let rec32 := (msgBody m).drop 8
  let i := schedIdx m
  let thread := u8 rec32 16
  if i ≠ 0xFFFF ∧ (i > 1023 ∨ (schedOf b i).owner ≠ .free) then (b, 0x0A, i, [])
  else if !recordOk (u8 rec32 18) (u32 rec32 20) || !schedThreadOk b thread then (b, 0x0A, if i = 0xFFFF then 0 else i, [])
  else if !a.secure && !nsThreadOk b thread then (b, 0x09, if i = 0xFFFF then 0 else i, [])
  else match if i = 0xFFFF then highestFree b 1024 else some i with
    | none => (b, 0x11, 0, [])
    | some e => (armEntry e .host (setSchedRec e rec32 b), 0, e, [])

/-- SCHEDULE CANCEL. -/
def scheduleCancel (m : List Nat) (b : Body) : Body × Reply :=
  let i := schedIdx m
  if i ≤ 1023 ∧ (schedOf b i).owner = .host then (freeEntry i b, 0, i, []) else (b, 0x0A, i, [])

/-- SCHEDULE READ: the record as the schedule window shows it. -/
def scheduleRead (m : List Nat) (b : Body) : Body × Reply :=
  let i := schedIdx m
  if i > 1023 then (b, 0x0A, i, [])
  else (b, 0, i, (List.range 8).flatMap fun k => toLe 4 (viewSched b i k (schedWord b i k)))

/-- SCHEDULE by OP. -/
def scheduleMsg (a : Assoc) (m : List Nat) (b : Body) : Body × Reply := match u8 (msgBody m) 0 with
  | 1 => scheduleArm a m b
  | 2 => scheduleCancel m b
  | 3 => scheduleRead m b
  | _ => (b, 0x0A, schedIdx m, [])

/-! ### Events (R487) -/

/-- An EVENT of a host: onto the thread of its runtime port. -/
def hostEvent (a : Assoc) (m : List Nat) (b : Body) : Body × Reply :=
  let p := msgBody m
  let port := u8 p 0
  if port > 15 then (b, 0x0A, 0, [])
  else match threadsFrom b 0x48 port with
    | [] => (b, 0x0D, 0, [])
    | ks =>
      if !a.secure && ks.any (fun k => (threadDests b k).any fun d => destSecure b d.1) then (b, 0x09, 0, [])
      else (emitEv 0x48 port (b64 p 8) (u8 p 1) b, 0, 0, [])

/-! ### Black box (R490) -/

/-- BLACKBOX_READ: whole records from FIRST on, as many as fit in 1,136 bytes. -/
def blackboxRead (m : List Nat) (b : Body) : Body × Reply :=
  let p := msgBody m
  let count := b16 p 4
  if count < 1 ∨ count > 64 then (b, 0x0A, 0, []) else
  let l := ((b.nv.bb.filter fun r => decide (b32 p 0 ≤ r.seq)).take (min count 35)).map BbRec.bytes
  (b, 0, l.length, l.flatten)

/-! ### Collection (R491 to R493, R496) -/

/-- A managed module sends this. -/
def fromManaged (b : Body) (a : Assoc) : Bool := !isHost a.id && (managedMods b).contains a.id

/-- The chain report of a member: the counts of the chains it belongs to, of the image it names. -/
def chainReport (m : Nat) (item : List Nat) (b : Body) : Body :=
  let img := b32 item 0
  let got := b16 item 4
  let ans := b16 item 6
  let chains := b.sha.chains.map fun c =>
    if c.members.contains m then
      let old := match c.counts.find? fun x => decide (x.1 = m) with
        | some x => if x.2.2.2.2 = img then x.2.2.2.1 else 0
        | none => 0
      { c with counts := (c.counts.filter fun x => decide (x.1 ≠ m)) ++ [(m, got, ans, old + got, img)] }
    else c
  { b with sha := { b.sha with chains := chains } }

/-- A REPORT: a managed module's is stored and sent on; a host's SOURCE 0xFF is a subscription. -/
def reportMsg (a : Assoc) (m : List Nat) (b : Body) : Body × Reply :=
  let p := msgBody m
  if isHost a.id then
    if u8 p 0 = 0xFF ∧ u8 p 1 = 0 ∧ p.length = 8 then
      (match assocOf b a.id with
        | some x => setAssoc { x with sub := b32 p 4 % 128 } b
        | none => b, 0, 0, [])
    else (b, 0x0A, 0, [])
  else if !fromManaged b a then (b, 0x24, 0, [])
  else
    let b := if u8 p 0 = 0x20 then chainReport (msgSrc m) (p.drop 6) b else b
    let bit := if u8 p 0 = 0x1E then some 1 else if 0x10 ≤ u8 p 0 ∧ u8 p 0 ≤ 0x17 then some 0 else none
    (relayUp bit true m b, 0, 0, [])

/-- A METER_RECORD of a managed module. -/
def meterMsg (a : Assoc) (m : List Nat) (b : Body) : Body × Reply :=
  if fromManaged b a then (relayUp (some (if u8 (msgBody m) 16 = 0 then 2 else 3)) false m b, 0, 0, []) else (b, 0x24, 0, [])

/-- A TIME_NOTE of a managed module. -/
def timeNoteMsg (a : Assoc) (m : List Nat) (b : Body) : Body × Reply :=
  if fromManaged b a then (relayUp (some 4) false m b, 0, 0, []) else (b, 0x24, 0, [])

/-- An EVENT: a host's own, or a managed module's error. -/
def eventMsg (a : Assoc) (m : List Nat) (b : Body) : Body × Reply :=
  let p := msgBody m
  if isHost a.id then hostEvent a m b
  else if fromManaged b a then (relayUp (some 5) (errorNs (b16 p 2) (b32 p 8) b) m b, 0, 0, [])
  else (b, 0x24, 0, [])

/-! ### Which requests are served (R476, R478, R515, R579) -/

/-- The items of a REPORT, each after its length, fill its payload (R492). -/
def itemsFill : Nat → List Nat → Bool
  | 0, l => decide (l = [])
  | n + 1, l => decide (2 + b16 l 0 ≤ l.length) && itemsFill n (l.drop (2 + b16 l 0))

/-- The payload size a type gives (R481). -/
def sizeOk (m : List Nat) : Bool :=
  let p := msgBody m
  let n := p.length
  match msgType m with
  | 0x01 => decide (n = 8)
  | 0x02 => decide (n ≥ 8 ∧ n = 8 + 4 * b16 p 4)
  | 0x03 => decide (n ≥ 16 ∧ n = 16 + b16 p 12)
  | 0x04 => decide (n ≥ 16 ∧ n = 16 + b16 p 12)
  | 0x05 => decide (n = if u8 p 0 = 1 then 40 else 8)
  | 0x06 => decide (n ≥ 4) && (if u8 p 0 = 0xFF then decide (n = 8) else itemsFill (u8 p 1) (p.drop 4))
  | 0x07 => decide (n ≥ 28 ∧ n = 28 + min 1024 (b32 p 24 - 1024 * u8 p 17))
  | 0x08 => decide (n = 16)
  | 0x09 => decide (n = 32)
  | 0x0A => decide (n = 40)
  | _ => decide (n = 8)

/-- The types of R481. -/
def knownType (t : Nat) : Bool := decide (1 ≤ t ∧ t ≤ 0x0B)
/-- The types that need a secure session. -/
def needsSecure (t : Nat) : Bool := [0x04, 0x07, 0x09, 0x0A, 0x0B].contains t

/-- A relay type for a managed module (R494). -/
def relays (b : Body) (m : List Nat) : Bool :=
  decide (3 ≤ msgType m ∧ msgType m ≤ 5) && decide (msgDst m ≠ modNo b) && (managedMods b).contains (msgDst m)

/-- The request is meant for this module. A message that a managed module passes on under R491 keeps the DST_MOD it was sent with; a module with
no pattern in force has no MOD yet to compare. -/
def forMe (b : Body) (a : Assoc) (m : List Nat) : Bool :=
  decide (msgDst m = modNo b) || !loaded b ||
    (fromManaged b a && decide (6 ≤ msgType m ∧ msgType m ≤ 9) && decide (bits (msgFlags m) 2 1 = 1))

/-- In hem: REG_READ, BLACKBOX_READ and REG_WRITE to SAFE. LEASE_WITNESS goes its own way. -/
def hemServes (m : List Nat) : Bool := match msgType m with
  | 0x01 => true
  | 0x0A => true
  | 0x0B => true
  | 0x02 => decide (SAFE.CTL.word.addr ≤ regAddr m) && decide (regWordAt m (regCount m - 1) < SAFE.CTL.word.addr + 0x100000)
  | _ => false

/-- The standby's services (R476). The HEALTH that its witness passes on is answered by nobody (R452). -/
def standbyServes (m : List Nat) : Bool :=
  decide (msgType m = 0x01) || decide (msgType m = 0x0B) || (decide (msgType m = 0x0A) && decide (u8 (msgBody m) 0 = 4))

/-- A register the boot ROM reads (R515). -/
def romReads (m : List Nat) : Bool :=
  let ok := fun (x : Nat) => decide (x = SYS.ID.word.addr) || decide (x = SYS.REV.word.addr) ||
    (decide (UPD.STAT.word.addr ≤ x) && decide (x < UPD.STAT.word.addr + 0x100000))
  (List.range (regCount m)).all fun i => ok (regWordAt m i)

/-- A word the boot ROM writes (R515): an ABORT, and a FLOORS record while a floor word reads invalid. -/
def romWrite (b : Body) (x v : Nat) : Bool :=
  (decide (x = UPD.CMD.word.addr) && decide (v % 2 ^ 7 = 2 ^ 4)) ||
  (!(b.nv.imgFloorOk && b.nv.patFloorOk) &&
    (decide (x = UPD.ENR_LEN.word.addr) || (UPD.ENR_BUF.word.idx 1024 x).isSome ||
      (decide (x = UPD.ENR_CMD.word.addr) && decide (v % 16 = 9))))

def romWrites (b : Body) (m : List Nat) : Bool :=
  (List.range (regCount m)).all fun i => romWrite b (regWordAt m i) (b32 (msgBody m) (8 + 4 * i))

/-- The requests of R515. -/
def romServes (b : Body) (m : List Nat) : Bool := match msgType m with
  | 0x01 => !regFormOk m || romReads m
  | 0x02 => !regFormOk m || romWrites b m
  | 0x04 => true
  | 0x0B => true
  | _ => false

/-- Why a request is not taken: the code it is answered with. -/
def refusal (b : Body) (a : Assoc) (m : List Nat) : Option Nat :=
  if b16 m 2 ≠ (msgBody m).length ∨ m.length > 1152 then some 0x23
  else if !knownType (msgType m) then some 0x22
  else if b.power = .recovery ∧ !romServes b m then some 0x22
  else if !sizeOk m then some 0x23
  else if !forMe b a m && !relays b m then some 0x24
  else if needsSecure (msgType m) && !a.secure then some 0x09
  else if holderless b && !standbyServes m then some 0x24
  else if inHem b && !hemServes m then some 0x11
  else none

/-- A request applied to this module. -/
def apply (a : Assoc) (m : List Nat) (b : Body) : Body × Reply := match msgType m with
  | 0x01 => regReadMsg a m b
  | 0x02 => regWriteMsg a m b
  | 0x03 => patternPieceMsg a m b
  | 0x04 => imagePieceMsg m b
  | 0x05 => scheduleMsg a m b
  | 0x06 => reportMsg a m b
  | 0x07 => meterMsg a m b
  | 0x08 => eventMsg a m b
  | 0x09 => timeNoteMsg a m b
  | _ => blackboxRead m b

/-- A request is served: applied, relayed or refused, and answered. -/
def serve (a : Assoc) (m : List Nat) (b : Body) : Body := match refusal b a m with
  | some c => shAnswer a.id m c 0 [] b
  | none =>
    if msgType m = 0x0A then witness m b
    else if relays b m then relayDown a.id (msgDst m) m b
    else
      let fan := decide (3 ≤ msgType m ∧ msgType m ≤ 5) && decide (bits (msgFlags m) 1 1 = 1) && decide (managedMods b ≠ [])
      if fan && (managedMods b).any (queueFull b) then shAnswer a.id m 0x11 0 [] b
      else
        -- a request that restarts the module is answered under the MOD it was sent to
        let mod := modNo b
        let (b, st, ix, p) := apply a m b
        if fan then fanOut a.id m st ix p b else romInstall (shAnswerAs mod a.id m st ix p b)

/-- A request of an association that has been passed on and not been answered yet. -/
def inProgress (b : Body) (id seq : Nat) : Bool :=
  let mine := fun (r : ShalReq) => decide (r.origin = some (id, seq))
  b.sha.fans.any (fun f => decide (f.assoc = id ∧ f.seq = seq)) || b.sha.assocs.any (fun a => a.sent.any mine) ||
    b.sha.relayQ.any (fun q => q.2.any mine) || b.sha.busy.any fun x => mine x.2.2

/-- A request of an association: a repeated SEQ is answered from what was kept, one too old is dropped (R480), and one in progress
waits for its answer. -/
def process (id : Nat) (m : List Nat) (b : Body) : Body := match assocOf b id with
  | none => b
  | some a =>
    let b := recordOn id b
    if m.length < 16 ∨ u8 m 0 ≠ 1 ∨ msgFlags m % 2 = 1 then b else
    let b := if bits (msgFlags m) 2 1 = 0 then srcConflict (msgSrc m) a.uid b else b
    if holderless b && !a.own then b else
    shOnce id (msgSeq m) (fun b => if inProgress b id (msgSeq m) then b else serve a m b) b

/-- A request arrives. The boot ROM serves in recovery; requests that come while an activation has stopped Shalan work wait in
Q15, each with its association before it (R518); without application cores nothing is received. -/
def receiveMsg (id : Nat) (m : List Nat) (b : Body) : Body :=
  if coresServe b || decide (b.power = .recovery) then process id m b
  else if b.upd.stopped ∧ (b.power = .run ∨ b.power = .hem) then (qPut 15 (toLe 4 id ++ m) b).1
  else b

/-! ### The rows: a message's own TYPE and OP decide what it is -/

def execRegRead (assoc : Nat) (msg : List Nat) (s : State) : Outcome State Fault Refusal := onRom (receiveMsg assoc msg) s
def execRegWrite (assoc : Nat) (msg : List Nat) (s : State) : Outcome State Fault Refusal := onRom (receiveMsg assoc msg) s
def execPatternPiece (assoc : Nat) (msg : List Nat) (s : State) : Outcome State Fault Refusal := onRom (receiveMsg assoc msg) s
def execImagePiece (assoc : Nat) (msg : List Nat) (s : State) : Outcome State Fault Refusal := onRom (receiveMsg assoc msg) s
def execScheduleArm (assoc : Nat) (msg : List Nat) (s : State) : Outcome State Fault Refusal := onRom (receiveMsg assoc msg) s
def execScheduleCancel (assoc : Nat) (msg : List Nat) (s : State) : Outcome State Fault Refusal := onRom (receiveMsg assoc msg) s
def execScheduleRead (assoc : Nat) (msg : List Nat) (s : State) : Outcome State Fault Refusal := onRom (receiveMsg assoc msg) s
def execReport (assoc : Nat) (msg : List Nat) (s : State) : Outcome State Fault Refusal := onRom (receiveMsg assoc msg) s
def execSubscribe (assoc : Nat) (msg : List Nat) (s : State) : Outcome State Fault Refusal := onRom (receiveMsg assoc msg) s
def execMeterRecord (assoc : Nat) (msg : List Nat) (s : State) : Outcome State Fault Refusal := onRom (receiveMsg assoc msg) s
def execEvent (assoc : Nat) (msg : List Nat) (s : State) : Outcome State Fault Refusal := onRom (receiveMsg assoc msg) s
def execTimeNote (assoc : Nat) (msg : List Nat) (s : State) : Outcome State Fault Refusal := onRom (receiveMsg assoc msg) s
def execBlackboxRead (assoc : Nat) (msg : List Nat) (s : State) : Outcome State Fault Refusal := onRom (receiveMsg assoc msg) s

/-! ### Queues of the runtime (R378, R380) -/

/-- The item waiting in Q15 is processed (R518). -/
def takeQ15 (b : Body) : Body := match qTake 15 b with
  | (some l, b) => process (u32 l 0) (l.drop 4) b
  | (none, b) => b

/-- Everything waiting in Q15 is processed, in arrival order. -/
def drainQ15 : Nat → Body → Body
  | 0, b => b
  | n + 1, b => if coresServe b && decide ((queueOf b 15).items ≠ []) then drainQ15 n (takeQ15 b) else b

/-- A consumer takes the oldest item: the runtime processes what waits in Q15, forwards pieces from Q28, and sends records
of Q24 and Q25 as METER_RECORDs; any other consumer's use of an item stands in its own row. -/
def dequeue (q : Nat) (b : Body) : Body :=
  if !coresServe b then (qTake q b).2
  else if q = 15 then takeQ15 b
  else if q = 28 then chainPump b
  else if q = 24 ∨ q = 25 then match qTake q b with
    | (some l, b) => meterSend (q - 24) l b
    | (none, b) => b
  else (qTake q b).2

/-- A producer's item is offered to a queue: admitted or refused whole (R383, R385). An access that finds the pointer
copies different resets the queue in its place (R389). -/
def execEnqueue (q : Nat) (bytes : List Nat) (mismatch : Bool) (s : State) : Outcome State Fault Refusal :=
  onQueue q mismatch (fun b => (qPutReport (q % 32) bytes b).1) s

/-- A consumer takes the oldest item (R378, R380), or finds a mismatch (R389). -/
def execDequeue (q : Nat) (mismatch : Bool) (s : State) : Outcome State Fault Refusal :=
  onQueue q mismatch (dequeue (q % 32)) s

/-! ### What the module sends at fixed times -/

/-- The payload of a TIME_NOTE (R488). -/
def timeNoteBody (b : Body) : List Nat :=
  let steps := b.get TB.STEPS.COUNT
  let since := if b.sha.noteSteps ≤ steps then steps - b.sha.noteSteps else steps
  let mpd := match b.tb.mpd with
    | some d => d.toNat
    | none => 0
  let gm := match b.tb.parent with
    | some a => a.gmId
    | none => clockId b
  let hold := match b.sha.holdAt with
    | some t => if b.get TB.STAT.STATE = 4 then sinceS b t else 0
    | none => 0
  [b.get TB.STAT.STATE, b.get TB.STAT.SLAVE_PORT] ++ toBe 2 since ++ toBe 4 (uns 32 b.sha.lastOfs) ++ toBe 4 mpd ++ toBe 8 gm ++
    toBe 2 (b.get AON.UTC_OFS.OFS) ++ [b.get AON.UTC_OFS.LEAP, 0] ++ toBe 4 hold ++ [0, 0, 0, 0]

/-- TIME_NOTE_SEND: every 64 s and at each change of STATE (R488). -/
def timeNoteSend (b : Body) : Body :=
  if !coresServe b then b else
  let p := timeNoteBody b
  shCollect 0x09 4 false p { b with sha := { b.sha with noteSteps := b.get TB.STEPS.COUNT } }

def execTimeNoteSend (s : State) : Outcome State Fault Refusal := onBody timeNoteSend s

/-- CHAIN_REPORT_SEND: a chain member that is not the manager reports its window of 30 s (R496). -/
def chainReportSend (b : Body) : Body :=
  let next := b.get UPD.CHAIN.NEXT
  let on := b.flag UPD.CHAIN.EN
  match collector b with
  | none => b
  | some mgr =>
    if !coresServe b || !(on || decide (b.sha.got > 0)) then b else
    let img := match b.nv.staging.getLast? with
      | some x => x.2.id
      | none => 0
    let ans := if on then tabGet (fun _ => 0) b.sha.fwd next else 0
    let item := toBe 4 img ++ toBe 2 (min 0xFFFF b.sha.got) ++ toBe 2 (min 0xFFFF ans)
    shRequest mgr 0x06 ([0x20, 1, 0, 0, 0, 8] ++ item)
      { b with sha := { b.sha with got := 0, fwd := tabSet (fun _ => 0) b.sha.fwd next 0 } }

def execChainReportSend (s : State) : Outcome State Fault Refusal := onBody chainReportSend s

/-! ### Re-routing of chains (R496, R497) -/

/-- The counts of a member in its chain: received, answered, received in all, and of which image. -/
def Chain.of (c : Chain) (m : Nat) : Nat × Nat × Nat × Nat := match c.counts.find? fun x => decide (x.1 = m) with
  | some x => x.2
  | none => (0, 0, 0, 0)

/-- A member has received every piece of the image it reports. -/
def holdsAll (b : Body) (c : Chain) (m : Nat) : Bool :=
  let x := c.of m
  match b.nv.staging.find? fun p => decide (p.2.id = x.2.2.2) with
  | some p => decide (p.2.cnt ≤ x.2.2.1)
  | none => false

/-- The links of a chain whose receiver still lacks pieces, as (receiver, rate): link 0 from the manager's own count, the
others from the sender's count of answered pieces. -/
def linkRates (b : Body) (c : Chain) : List (Nat × Nat) :=
  ((c.members.zip (c.members.drop 1)).map fun l =>
    (l.2, if l.1 = modNo b then tabGet (fun _ => 0) b.sha.fwd l.2 else (c.of l.1).2.1)).filter
    fun l => !holdsAll b c l.1

/-- The median; of an even number the lower of the two middle values. -/
def lowMedian (l : List Nat) : Nat := let s := sortBy (fun x y => decide (x ≤ y)) l; s.getD ((s.length - 1) / 2) 0

/-- The consecutive slow windows of each link, after this window. -/
def slowNow (b : Body) (c : Chain) : List (Nat × Nat) :=
  let rates := linkRates b c
  let med := lowMedian (rates.map (·.2))
  (rates.filter fun l => decide (4 * l.2 < med)).map fun l =>
    (l.1, (match c.slow.find? fun x => decide (x.1 = l.1) with
      | some x => x.2
      | none => 0) + 1)

/-- The rate of a chain's slowest link. -/
def slowest (b : Body) (c : Chain) : Nat := (linkRates b c).foldl (fun m l => min m l.2) (2 ^ 32)

/-- The existing chain whose slowest link is fastest. -/
def fastChain (b : Body) (l : List Chain) : Option Nat :=
  ((List.range l.length).foldl (fun acc i => match acc, l[i]? with
    | none, some c => some (i, slowest b c)
    | some (j, r), some c => if r < slowest b c then some (i, slowest b c) else some (j, r)
    | acc, none => acc) (none : Option (Nat × Nat))).map (·.1)

/-- A chain is cut before the receiver `r` of a slow link: its sender stops, and the manager feeds `r` as the head of a new
chain, or, with 16 chains, the cut-off members join the chain whose slowest link is fastest. -/
def cutChain (k r : Nat) (b : Body) : Body := match b.sha.chains[k]? with
  | none => b
  | some c =>
    let first := c.members.takeWhile (· ≠ r)
    let rest := c.members.dropWhile (· ≠ r)
    if first.length ≤ 1 ∨ rest = [] then b else
    let b := chainTell (first.getLastD 0) none b
    let l := b.sha.chains.set k { c with members := first, slow := c.slow.filter fun x => first.contains x.1 }
    -- the counts of the other slow links go on in their new chain
    let on := c.slow.filter fun x => decide (x.1 ≠ r) && rest.contains x.1
    if l.length < 16 then
      chainAll r { b with sha := { b.sha with chains := l ++ [{ members := modNo b :: rest, counts := c.counts, slow := on }] } }
    else match fastChain b l with
      | none => b
      | some j => match l[j]? with
        | none => b
        | some d =>
          chainTell (d.members.getLastD 0) (some r)
            { b with sha := { b.sha with chains := l.set j { d with members := d.members ++ rest, counts := d.counts ++ c.counts, slow := d.slow ++ on } } }

/-- The chain in which the link into `r` stands is cut there. -/
def cutInto (b : Body) (r : Nat) : Body := match b.sha.chains.findIdx? fun c => c.members.contains r with
  | some k => cutChain k r b
  | none => b

/-- One chain's rate window: every link that was slow in 3 windows is cut out. -/
def chainWindow (b : Body) (k : Nat) : Body := match b.sha.chains[k]? with
  | none => b
  | some c =>
    let slow := slowNow b c
    let b := { b with sha := { b.sha with chains := b.sha.chains.set k { c with slow := slow } } }
    b.each ((slow.filter fun x => decide (x.2 ≥ 3)).map (·.1)) cutInto

/-- CHAIN_RATE_WINDOW: the manager judges each chain, and the counts of the window start again. -/
def rateWindow (b : Body) : Body :=
  if !coresServe b then b else
  let b := b.each (List.range b.sha.chains.length) chainWindow
  let chains := b.sha.chains.map fun c => { c with counts := c.counts.map fun x => (x.1, 0, 0, x.2.2.2) }
  { b with sha := { b.sha with chains := chains, fwd := [] } }

def execChainRateWindow (s : State) : Outcome State Fault Refusal := onBody rateWindow s

end Sys2Proof.Machine
end

