-- ==== Sys2Proof/Machine/Bolt.lean ====
section
/-! DEFINITION. Machine/Bolt.lean: the bolt boundary (R28), at which every per-bolt action runs, and what falls due together there
(R576). -/

namespace Sys2Proof.Machine

open Host

/-- The TCXO cycles to the next bolt boundary of network time. -/
def cyclesToBolt (b : Body) : Nat :=
  let inc := max 1 (tickInc (sgn 32 (b.get TB.ADJ_FREQ.ADJ)))
  ((boltIdx b + 1) * boltNs b * 2 ^ 40 - b.clock.net + inc - 1) / inc

/-- Each tile may report a drop once per bolt (R133). -/
def tilesBolt (b : Body) : Body :=
  b.each (b.loom.tiles.map (·.1)) fun b t =>
    let x := tileOf b t
    if x.dropSeen then setTile b t { x with dropSeen := false } else b

/-- An armed hand-over whose bolt came without a release moves on (R459). -/
def handMissed (b : Body) : Body := match b.seam.hand with
  | some h => if h.tb ≤ boltIdx b then handDefer b else b
  | none => b

/-- A MOD conflict that a host ended: the stitch plan resumes, with its record (R22). -/
def conflictEnd (b : Body) : Body :=
  if b.sha.conflict = 2 then record 0x0081 (modNo b) 0 { b with sha := { b.sha with conflict := 0 } } else b

/-- The engines and the seam at a bolt boundary. -/
def enginesBolt (b : Body) : Body := tilesBolt (mirrorBolt (healthFollow (attBolt (ofeBolt (ceBolt (airBolt b))))))

/-- The lease changes, activations, switches and hand-overs that fall due here, in the order of R576: each gives way to those
before it. -/
def dueBolt (b : Body) : Body := handMissed (patternSwitch (imageActivation b))

/-- The runtime at a bolt boundary: the end of a conflict, its return after an activation with what
waited in Q15, and a node campaign. -/
def runtimeBolt (b : Body) : Body :=
  let b := runtimeTaken (runtimeTakes (conflictEnd b))
  if !appsRun b then b else campaignFeed (campaignCount (drainQ15 (queueOf b 15).items.length b))

/-- BOLT_BOUNDARY: time passes to the next boundary, the Basic values that are owed take force (R121), and all of it runs. A cold restart there leaves nothing to run. -/
def boltBoundary (b : Body) : Body :=
  let b := dueBolt (enginesBolt (basicRecompute (advance (cyclesToBolt b) b)))
  if b.clock.cyc = 0 then b else runtimeBolt b

def execBoltBoundary (s : State) : Outcome State Fault Refusal := onBody boltBoundary s

end Sys2Proof.Machine
end

