-- ==== Sys2Proof/Machine/LoomRules.lean ====
section
/-! DEFINITION. Machine/LoomRules.lean: the meanings of the tile instructions (R144), each on the running activation of the
tile it names. -/

namespace Sys2Proof.Machine

open Host

/-- NOP. -/
def execTNop (t : Nat) (s : State) : Outcome State Fault Refusal :=
  onBody (tileRow t 1 fun i => match i with
    | .nop => some fun b a => .go b a
    | _ => none) s

/-- HALT (R139). -/
def execTHalt (t : Nat) (s : State) : Outcome State Fault Refusal :=
  onBody (tileRow t 1 fun i => match i with
    | .halt => some fun b a => .halt b a
    | _ => none) s

/-- MOVI: GD = sext(IMM20). -/
def execTMovi (t : Nat) (s : State) : Outcome State Fault Refusal :=
  onBody (tileRow t 1 fun i => match i with
    | .movi d imm => some (setD t d (BitVec.ofInt 32 (sgn 20 imm)))
    | _ => none) s

/-- MOVH: GD[31:16] = IMM16, GD[15:0] kept. -/
def execTMovh (t : Nat) (s : State) : Outcome State Fault Refusal :=
  onBody (tileRow t 1 fun i => match i with
    | .movh d imm => some fun b a => setD t d (BitVec.ofNat 32 ((gReg b t d).toNat % 65536 + imm * 65536)) b a
    | _ => none) s

/-- ADD (R144). -/
def execTAdd (t : Nat) (s : State) : Outcome State Fault Refusal :=
  onBody (row3 t 1 .add fun _ x y => x + y) s

/-- SUB (R144). -/
def execTSub (t : Nat) (s : State) : Outcome State Fault Refusal :=
  onBody (row3 t 1 .sub fun _ x y => x - y) s

/-- MUL (R144). -/
def execTMul (t : Nat) (s : State) : Outcome State Fault Refusal :=
  onBody (row3 t 2 .mul fun _ x y => x * y) s

/-- MULH (R144). -/
def execTMulh (t : Nat) (s : State) : Outcome State Fault Refusal :=
  onBody (row3 t 2 .mulh fun _ x y => BitVec.ofInt 32 (x.toInt * y.toInt / 2 ^ 32)) s

/-- MULHU (R144). -/
def execTMulhu (t : Nat) (s : State) : Outcome State Fault Refusal :=
  onBody (row3 t 2 .mulhu fun _ x y => BitVec.ofNat 32 (x.toNat * y.toNat / 2 ^ 32)) s

/-- AND (R144). -/
def execTAnd (t : Nat) (s : State) : Outcome State Fault Refusal :=
  onBody (row3 t 1 .and_ fun _ x y => x &&& y) s

/-- OR (R144). -/
def execTOr (t : Nat) (s : State) : Outcome State Fault Refusal :=
  onBody (row3 t 1 .or_ fun _ x y => x ||| y) s

/-- XOR (R144). -/
def execTXor (t : Nat) (s : State) : Outcome State Fault Refusal :=
  onBody (row3 t 1 .xor_ fun _ x y => x ^^^ y) s

/-- SHL (R144). -/
def execTShl (t : Nat) (s : State) : Outcome State Fault Refusal :=
  onBody (row3 t 1 .shl fun _ x y => x <<< (y.toNat % 32)) s

/-- SHR (R144). -/
def execTShr (t : Nat) (s : State) : Outcome State Fault Refusal :=
  onBody (row3 t 1 .shr fun _ x y => x >>> (y.toNat % 32)) s

/-- SAR (R144). -/
def execTSar (t : Nat) (s : State) : Outcome State Fault Refusal :=
  onBody (row3 t 1 .sar fun _ x y => x.sshiftRight (y.toNat % 32)) s

/-- MIN (R144). -/
def execTMin (t : Nat) (s : State) : Outcome State Fault Refusal :=
  onBody (row3 t 1 .min_ fun _ x y => if x.toInt ≤ y.toInt then x else y) s

/-- MAX (R144). -/
def execTMax (t : Nat) (s : State) : Outcome State Fault Refusal :=
  onBody (row3 t 1 .max_ fun _ x y => if x.toInt ≤ y.toInt then y else x) s

/-- MINU (R144). -/
def execTMinu (t : Nat) (s : State) : Outcome State Fault Refusal :=
  onBody (row3 t 1 .minu fun _ x y => if x.toNat ≤ y.toNat then x else y) s

/-- MAXU (R144). -/
def execTMaxu (t : Nat) (s : State) : Outcome State Fault Refusal :=
  onBody (row3 t 1 .maxu fun _ x y => if x.toNat ≤ y.toNat then y else x) s

/-- CLAMP (R144). -/
def execTClamp (t : Nat) (s : State) : Outcome State Fault Refusal :=
  onBody (row3 t 1 .clamp fun d x y =>
    let m := if d.toInt ≤ x.toInt then x else d
    if m.toInt ≤ y.toInt then m else y) s

/-- SEQ (R144). -/
def execTSeq (t : Nat) (s : State) : Outcome State Fault Refusal :=
  onBody (row3 t 1 .seq fun _ x y => boolWord (decide (x = y))) s

/-- SLT (R144). -/
def execTSlt (t : Nat) (s : State) : Outcome State Fault Refusal :=
  onBody (row3 t 1 .slt fun _ x y => boolWord (decide (x.toInt < y.toInt))) s

/-- SLTU (R144). -/
def execTSltu (t : Nat) (s : State) : Outcome State Fault Refusal :=
  onBody (row3 t 1 .sltu fun _ x y => boolWord (decide (x.toNat < y.toNat))) s

/-- SEL (R144). -/
def execTSel (t : Nat) (s : State) : Outcome State Fault Refusal :=
  onBody (row3 t 1 .sel fun d x y => if x = 0 then d else y) s

/-- ADDI (R144). -/
def execTAddi (t : Nat) (s : State) : Outcome State Fault Refusal :=
  onBody (rowI t 1 .addi fun x n => x + sext14 n) s

/-- ANDI (R144). -/
def execTAndi (t : Nat) (s : State) : Outcome State Fault Refusal :=
  onBody (rowI t 1 .andi fun x n => x &&& zext14 n) s

/-- ORI (R144). -/
def execTOri (t : Nat) (s : State) : Outcome State Fault Refusal :=
  onBody (rowI t 1 .ori fun x n => x ||| zext14 n) s

/-- XORI (R144). -/
def execTXori (t : Nat) (s : State) : Outcome State Fault Refusal :=
  onBody (rowI t 1 .xori fun x n => x ^^^ zext14 n) s

/-- SHLI (R144). -/
def execTShli (t : Nat) (s : State) : Outcome State Fault Refusal :=
  onBody (rowI t 1 .shli fun x n => x <<< (n % 32)) s

/-- SHRI (R144). -/
def execTShri (t : Nat) (s : State) : Outcome State Fault Refusal :=
  onBody (rowI t 1 .shri fun x n => x >>> (n % 32)) s

/-- SARI (R144). -/
def execTSari (t : Nat) (s : State) : Outcome State Fault Refusal :=
  onBody (rowI t 1 .sari fun x n => x.sshiftRight (n % 32)) s

/-- SLTI (R144). -/
def execTSlti (t : Nat) (s : State) : Outcome State Fault Refusal :=
  onBody (rowI t 1 .slti fun x n => boolWord (decide (x.toInt < (sext14 n).toInt))) s

/-- BZ (R145): the next word is TARGET when GA is 0. -/
def execTBz (t : Nat) (s : State) : Outcome State Fault Refusal :=
  onBody (tileRow t 1 fun i => match i with
    | .bz x tgt => some fun b a => .go b (if gReg b t x = 0 then { a with pc := tgt } else a)
    | _ => none) s

/-- BNZ (R145). -/
def execTBnz (t : Nat) (s : State) : Outcome State Fault Refusal :=
  onBody (tileRow t 1 fun i => match i with
    | .bnz x tgt => some fun b a => .go b (if gReg b t x = 0 then a else { a with pc := tgt })
    | _ => none) s

/-- JMP (R145). -/
def execTJmp (t : Nat) (s : State) : Outcome State Fault Refusal :=
  onBody (tileRow t 1 fun i => match i with
    | .jmp tgt => some fun b a => .go b { a with pc := tgt }
    | _ => none) s

/-- LD: GD takes a local word; MEM on a bad address (R142). -/
def execTLd (t : Nat) (s : State) : Outcome State Fault Refusal :=
  onBody (tileRow t 2 fun i => match i with
    | .alui .ld d x imm => some fun b a => match localAddr (gReg b t x) imm 4 with
      | none => .fault 4
      | some p => setD t d (dataWord b t (p / 4)) b a
    | _ => none) s

/-- ST: a local word takes GD; MEM on a bad address (R142). -/
def execTSt (t : Nat) (s : State) : Outcome State Fault Refusal :=
  onBody (tileRow t 2 fun i => match i with
    | .alui .st d x imm => some fun b a => match localAddr (gReg b t x) imm 4 with
      | none => .fault 4
      | some p => .go (b.setWord (LOOM.DATA.word.at t (p / 4)) (gReg b t d)) a
    | _ => none) s

/-- CERD (R149): CE_ACCESS with G = 1, then CE_WORLD (R148), then CE_RANGE. -/
def execTCerd (t : Nat) (s : State) : Outcome State Fault Refusal :=
  onBody (tileRow t 4 fun i => match i with
    | .cerd d x g f => some fun b a =>
      if g then .fault 7
      else if !ceReach b t (match ceField f with
          | some (_, _, sec) => sec
          | none => true) then .fault 6
      else if chanCnt b ≤ (gReg b t x).toNat then .fault 5
      else setD t d (BitVec.ofInt 32 (ceRead b (gReg b t x).toNat f)) b a
    | _ => none) s

/-- CEWR (R150): buffers a write to one channel, or to every channel of a declared group. -/
def execTCewr (t : Nat) (s : State) : Outcome State Fault Refusal :=
  onBody (tileRow t 4 fun i => match i with
    | .cewr d x g f => some fun b a =>
      let n := (gReg b t x).toNat
      if !(match ceField f with
          | some (_, w, _) => w
          | none => false) then .fault 7
      else if !ceReach b t false then .fault 6
      else if (if g then decide (n ≥ 256) || (groupMap b n).isNone else decide (chanCnt b ≤ n)) then .fault 5
      else if ceOps a ≥ 32 then .fault 8
      else .go b (a.push (.ceWrite (gReg b t d).toNat n g f))
    | _ => none) s

/-- EMIT (R138): buffers an event with payload GB : GA. -/
def execTEmit (t : Nat) (s : State) : Outcome State Fault Refusal :=
  onBody (tileRow t 6 fun i => match i with
    | .emit x y port tag => some fun b a =>
      if emitOps a ≥ 16 then .fault 8
      else .go b (a.push (.emit ((gReg b t x).toNat + (gReg b t y).toNat * 2 ^ 32) port tag))
    | _ => none) s

/-- TIME (R146): word 0 captures the instant; words 1 to 3 capture it when none is held. -/
def execTTime (t : Nat) (s : State) : Outcome State Fault Refusal :=
  onBody (tileRow t 1 fun i => match i with
    | .time d w => some fun b a =>
      let c := match a.cap with
        | none => timeNow b
        | some c => if w = 0 then timeNow b else c
      setD t d (BitVec.ofNat 32 (c.wordAt w)) b { a with cap := some c }
    | _ => none) s

/-- SARM (R158, R159): reserves the free entry with the highest index from a local record, or answers a refusal code. -/
def execTSarm (t : Nat) (s : State) : Outcome State Fault Refusal :=
  onBody (tileRow t 1 fun i => match i with
    | .alui .sarm d x imm => some fun b a => match localAddr (gReg b t x) imm 32 with
      | none => .fault 4
      | some p =>
        let w := fun k => (dataWord b t (p / 4 + k)).toNat
        let thr := w 4 % 256
        if schedOps a ≥ 4 then .fault 8
        else match highestFree b 1024 with
          | none => setD t d (BitVec.ofInt 32 (-1)) b a
          | some e =>
            if !schedThreadOk b thr || (tileNs b t && !nsThreadOk b thr) then setD t d (BitVec.ofInt 32 (-2)) b a
            else if !recordOk (w 4 / 65536 % 256) (w 5) then setD t d (BitVec.ofInt 32 (-3)) b a
            else
              let b := setSchedRec e ((List.range 8).flatMap fun k => toLe 4 (w k)) b
              let b := setSched b e { owner := .reserved t, next := 0 }
              setD t d (BitVec.ofNat 32 e) b (a.push (.arm e))
    | _ => none) s

/-- SCAN (R159): buffers the cancellation of an armed entry the tile owns. -/
def execTScan (t : Nat) (s : State) : Outcome State Fault Refusal :=
  onBody (tileRow t 1 fun i => match i with
    | .scan d x => some fun b a =>
      let e := (gReg b t x).toNat
      if schedOps a ≥ 4 then .fault 8
      else if e < 1024 ∧ (schedOf b e).owner = .tile t then setD t d 0 b (a.push (.cancel e))
      else setD t d (BitVec.ofInt 32 (-1)) b a
    | _ => none) s

/-- TSET (R152): buffers a timer setting of GA[23:0] ms; 0 stops the timer. -/
def execTTset (t : Nat) (s : State) : Outcome State Fault Refusal :=
  onBody (tileRow t 1 fun i => match i with
    | .tset x k => some fun b a =>
      if timerOps a ≥ 4 then .fault 8
      else .go b (a.push (.timer k ((gReg b t x).toNat % 2 ^ 24)))
    | _ => none) s

/-- A reserved opcode or a non-zero reserved field faults with ILLEGAL (R142). -/
def execTIllegal (t : Nat) (s : State) : Outcome State Fault Refusal :=
  onBody (fun b => match (tileOf b t).act with
    | none => b
    | some a => if a.pc < codeWords b t ∧ decodeTile (codeWord b t a.pc) = none then tileFault t 2 b else b) s

/-- A fetch at or beyond CODE_WORDS faults with PC_RANGE (R145). -/
def execTPcRange (t : Nat) (s : State) : Outcome State Fault Refusal :=
  onBody (fun b => match (tileOf b t).act with
    | none => b
    | some a => if codeWords b t ≤ a.pc then tileFault t 3 b else b) s

end Sys2Proof.Machine
end

