-- ==== Sys2Proof/Machine/Dispatch.lean ====
section
/-! DEFINITION. Machine/Dispatch.lean: one arm per command, each a direct call of its meaning. -/

namespace Sys2Proof.Machine

def exec (i : Instr) (s : State) : Host.Outcome State Fault Refusal :=
  match i with
  | .coldStart => Sys2Proof.Machine.execColdStart s
  | .powerStop high => Sys2Proof.Machine.execPowerStop high s
  | .overvoltageRestart => Sys2Proof.Machine.execOvervoltageRestart s
  | .initEngineDone => Sys2Proof.Machine.execInitEngineDone s
  | .startupSelfTest fails => Sys2Proof.Machine.execStartupSelfTest fails s
  | .boot => Sys2Proof.Machine.execBoot s
  | .runtimeHeartbeatLoss => Sys2Proof.Machine.execRuntimeHeartbeatLoss s
  | .runtimeReadyTimeout => Sys2Proof.Machine.execRuntimeReadyTimeout s
  | .patternLoad => Sys2Proof.Machine.execPatternLoad s
  | .timeAcqWindowClose => Sys2Proof.Machine.execTimeAcqWindowClose s
  | .gateStop => Sys2Proof.Machine.execGateStop s
  | .onDemandWake => Sys2Proof.Machine.execOnDemandWake s
  | .scheduledWake r late => Sys2Proof.Machine.execScheduledWake r late s
  | .coreSleep k => Sys2Proof.Machine.execCoreSleep k s
  | .coreWake k => Sys2Proof.Machine.execCoreWake k s
  | .lfxoStop => Sys2Proof.Machine.execLfxoStop s
  | .tcxoFail => Sys2Proof.Machine.execTcxoFail s
  | .fclkUnlock => Sys2Proof.Machine.execFclkUnlock s
  | .cclkUnlock => Sys2Proof.Machine.execCclkUnlock s
  | .cclkRelock => Sys2Proof.Machine.execCclkRelock s
  | .ethUnlock => Sys2Proof.Machine.execEthUnlock s
  | .ethRelock => Sys2Proof.Machine.execEthRelock s
  | .boltBoundary => Sys2Proof.Machine.execBoltBoundary s
  | .tileReloadUe => Sys2Proof.Machine.execTileReloadUe s
  | .patternPiece assoc msg => Sys2Proof.Machine.execPatternPiece assoc msg s
  | .patternAssemblyTimeout => Sys2Proof.Machine.execPatternAssemblyTimeout s
  | .patternStageDone => Sys2Proof.Machine.execPatternStageDone s
  | .patternSwitch => Sys2Proof.Machine.execPatternSwitch s
  | .heldEventRelease => Sys2Proof.Machine.execHeldEventRelease s
  | .modeWrite v ns => Sys2Proof.Machine.execModeWrite v ns s
  | .worldLock => Sys2Proof.Machine.execWorldLock s
  | .registerWrite a => Sys2Proof.Machine.execRegisterWrite a s
  | .counterReadClear a => Sys2Proof.Machine.execCounterReadClear a s
  | .tileActivation t => Sys2Proof.Machine.execTileActivation t s
  | .tNop t => Sys2Proof.Machine.execTNop t s
  | .tHalt t => Sys2Proof.Machine.execTHalt t s
  | .tMovi t => Sys2Proof.Machine.execTMovi t s
  | .tMovh t => Sys2Proof.Machine.execTMovh t s
  | .tAdd t => Sys2Proof.Machine.execTAdd t s
  | .tSub t => Sys2Proof.Machine.execTSub t s
  | .tAddi t => Sys2Proof.Machine.execTAddi t s
  | .tMul t => Sys2Proof.Machine.execTMul t s
  | .tMulh t => Sys2Proof.Machine.execTMulh t s
  | .tMulhu t => Sys2Proof.Machine.execTMulhu t s
  | .tAnd t => Sys2Proof.Machine.execTAnd t s
  | .tOr t => Sys2Proof.Machine.execTOr t s
  | .tXor t => Sys2Proof.Machine.execTXor t s
  | .tAndi t => Sys2Proof.Machine.execTAndi t s
  | .tOri t => Sys2Proof.Machine.execTOri t s
  | .tXori t => Sys2Proof.Machine.execTXori t s
  | .tShl t => Sys2Proof.Machine.execTShl t s
  | .tShr t => Sys2Proof.Machine.execTShr t s
  | .tSar t => Sys2Proof.Machine.execTSar t s
  | .tShli t => Sys2Proof.Machine.execTShli t s
  | .tShri t => Sys2Proof.Machine.execTShri t s
  | .tSari t => Sys2Proof.Machine.execTSari t s
  | .tMin t => Sys2Proof.Machine.execTMin t s
  | .tMax t => Sys2Proof.Machine.execTMax t s
  | .tMinu t => Sys2Proof.Machine.execTMinu t s
  | .tMaxu t => Sys2Proof.Machine.execTMaxu t s
  | .tClamp t => Sys2Proof.Machine.execTClamp t s
  | .tSeq t => Sys2Proof.Machine.execTSeq t s
  | .tSlt t => Sys2Proof.Machine.execTSlt t s
  | .tSltu t => Sys2Proof.Machine.execTSltu t s
  | .tSlti t => Sys2Proof.Machine.execTSlti t s
  | .tBz t => Sys2Proof.Machine.execTBz t s
  | .tBnz t => Sys2Proof.Machine.execTBnz t s
  | .tJmp t => Sys2Proof.Machine.execTJmp t s
  | .tLd t => Sys2Proof.Machine.execTLd t s
  | .tSt t => Sys2Proof.Machine.execTSt t s
  | .tCerd t => Sys2Proof.Machine.execTCerd t s
  | .tCewr t => Sys2Proof.Machine.execTCewr t s
  | .tEmit t => Sys2Proof.Machine.execTEmit t s
  | .tTime t => Sys2Proof.Machine.execTTime t s
  | .tSarm t => Sys2Proof.Machine.execTSarm t s
  | .tScan t => Sys2Proof.Machine.execTScan t s
  | .tTset t => Sys2Proof.Machine.execTTset t s
  | .tSel t => Sys2Proof.Machine.execTSel t s
  | .tIllegal t => Sys2Proof.Machine.execTIllegal t s
  | .tPcRange t => Sys2Proof.Machine.execTPcRange t s
  | .eventDelivery => Sys2Proof.Machine.execEventDelivery s
  | .tileTimer t k => Sys2Proof.Machine.execTileTimer t k s
  | .scheduleFire => Sys2Proof.Machine.execScheduleFire s
  | .schedArm e => Sys2Proof.Machine.execSchedArm e s
  | .schedCancel e => Sys2Proof.Machine.execSchedCancel e s
  | .tileReset t => Sys2Proof.Machine.execTileReset t s
  | .tileEnable t v => Sys2Proof.Machine.execTileEnable t v s
  | .tileCodeWrite t w v => Sys2Proof.Machine.execTileCodeWrite t w v s
  | .lightAhead => Sys2Proof.Machine.execLightAhead s
  | .levelEvent => Sys2Proof.Machine.execLevelEvent s
  | .override => Sys2Proof.Machine.execOverride s
  | .channelReport => Sys2Proof.Machine.execChannelReport s
  | .hostLevelEvent => Sys2Proof.Machine.execHostLevelEvent s
  | .hostOverride => Sys2Proof.Machine.execHostOverride s
  | .lvlTgtWrite n v => Sys2Proof.Machine.execLvlTgtWrite n v s
  | .safeLvlWrite n v => Sys2Proof.Machine.execSafeLvlWrite n v s
  | .composition => Sys2Proof.Machine.execComposition s
  | .laExpiry n => Sys2Proof.Machine.execLaExpiry n s
  | .overrideTimeout n => Sys2Proof.Machine.execOverrideTimeout n s
  | .channelRefresh n => Sys2Proof.Machine.execChannelRefresh n s
  | .stretch n => Sys2Proof.Machine.execStretch n s
  | .reportStale n => Sys2Proof.Machine.execReportStale n s
  | .verifyExpired n => Sys2Proof.Machine.execVerifyExpired n s
  | .presence => Sys2Proof.Machine.execPresence s
  | .bay => Sys2Proof.Machine.execBay s
  | .laZone => Sys2Proof.Machine.execLaZone s
  | .dropTracks => Sys2Proof.Machine.execDropTracks s
  | .refreshCounts => Sys2Proof.Machine.execRefreshCounts s
  | .clearStuck => Sys2Proof.Machine.execClearStuck s
  | .presenceHoldExpiry k => Sys2Proof.Machine.execPresenceHoldExpiry k s
  | .sensorStuck k => Sys2Proof.Machine.execSensorStuck k s
  | .trackDrop k => Sys2Proof.Machine.execTrackDrop k s
  | .syncFollowUp m => Sys2Proof.Machine.execSyncFollowUp m s
  | .delayResp m => Sys2Proof.Machine.execDelayResp m s
  | .announce port domain a => Sys2Proof.Machine.execAnnounce port domain a s
  | .syncTimeout => Sys2Proof.Machine.execSyncTimeout s
  | .holdoverExpiry => Sys2Proof.Machine.execHoldoverExpiry s
  | .syncSend port => Sys2Proof.Machine.execSyncSend port s
  | .delayReqSend => Sys2Proof.Machine.execDelayReqSend s
  | .timeStep => Sys2Proof.Machine.execTimeStep s
  | .timeCap => Sys2Proof.Machine.execTimeCap s
  | .txTimestamp port mtype seq => Sys2Proof.Machine.execTxTimestamp port mtype seq s
  | .txqPop port => Sys2Proof.Machine.execTxqPop port s
  | .txqEntryStale port => Sys2Proof.Machine.execTxqEntryStale port s
  | .corrAutoCapture => Sys2Proof.Machine.execCorrAutoCapture s
  | .corrCap => Sys2Proof.Machine.execCorrCap s
  | .corrSave => Sys2Proof.Machine.execCorrSave s
  | .tickCheck => Sys2Proof.Machine.execTickCheck s
  | .adjCmdGo => Sys2Proof.Machine.execAdjCmdGo s
  | .tickDelta => Sys2Proof.Machine.execTickDelta s
  | .tickLoRead => Sys2Proof.Machine.execTickLoRead s
  | .alarmFire => Sys2Proof.Machine.execAlarmFire s
  | .periodicWake => Sys2Proof.Machine.execPeriodicWake s
  | .leapApply => Sys2Proof.Machine.execLeapApply s
  | .domainReset => Sys2Proof.Machine.execDomainReset s
  | .domainResetRelease => Sys2Proof.Machine.execDomainResetRelease s
  | .cellTest mv => Sys2Proof.Machine.execCellTest mv s
  | .cellTestCmd mv => Sys2Proof.Machine.execCellTestCmd mv s
  | .coverOpen => Sys2Proof.Machine.execCoverOpen s
  | .beaconStitch r dbm => Sys2Proof.Machine.execBeaconStitch r dbm s
  | .anchorStitch dbm => Sys2Proof.Machine.execAnchorStitch dbm s
  | .downStitchWakePoint r => Sys2Proof.Machine.execDownStitchWakePoint r s
  | .downStitch r st dbm => Sys2Proof.Machine.execDownStitch r st dbm s
  | .frameReceived r rssi age psdu => Sys2Proof.Machine.execFrameReceived r rssi age psdu s
  | .commandDescriptor => Sys2Proof.Machine.execCommandDescriptor s
  | .transmitBuild => Sys2Proof.Machine.execTransmitBuild s
  | .emergFrameRebuild => Sys2Proof.Machine.execEmergFrameRebuild s
  | .keyWrite k w v => Sys2Proof.Machine.execKeyWrite k w v s
  | .keyArm next => Sys2Proof.Machine.execKeyArm next s
  | .keyGraceEnd => Sys2Proof.Machine.execKeyGraceEnd s
  | .hopQuery r st => Sys2Proof.Machine.execHopQuery r st s
  | .hopResult => Sys2Proof.Machine.execHopResult s
  | .lineCycleEnd cy => Sys2Proof.Machine.execLineCycleEnd cy s
  | .noZcTimeout cy => Sys2Proof.Machine.execNoZcTimeout cy s
  | .meterLatch => Sys2Proof.Machine.execMeterLatch s
  | .meterSave => Sys2Proof.Machine.execMeterSave s
  | .latchSeqRead => Sys2Proof.Machine.execLatchSeqRead s
  | .calMode => Sys2Proof.Machine.execCalMode s
  | .calCommit => Sys2Proof.Machine.execCalCommit s
  | .calRevert => Sys2Proof.Machine.execCalRevert s
  | .calTimeout => Sys2Proof.Machine.execCalTimeout s
  | .harnessChange h present => Sys2Proof.Machine.execHarnessChange h present s
  | .codePeriodEnd => Sys2Proof.Machine.execCodePeriodEnd s
  | .attributionSolve c => Sys2Proof.Machine.execAttributionSolve c s
  | .enqueue q bytes mismatch => Sys2Proof.Machine.execEnqueue q bytes mismatch s
  | .dequeue q mismatch => Sys2Proof.Machine.execDequeue q mismatch s
  | .poolAuditDone => Sys2Proof.Machine.execPoolAuditDone s
  | .qPop q mismatch => Sys2Proof.Machine.execQPop q mismatch s
  | .alloc q mismatch => Sys2Proof.Machine.execAlloc q mismatch s
  | .pushCommit q mismatch => Sys2Proof.Machine.execPushCommit q mismatch s
  | .pushAbort q mismatch => Sys2Proof.Machine.execPushAbort q mismatch s
  | .qRel q first mismatch => Sys2Proof.Machine.execQRel q first mismatch s
  | .flush q mismatch => Sys2Proof.Machine.execFlush q mismatch s
  | .swap q mismatch => Sys2Proof.Machine.execSwap q mismatch s
  | .dropFill q mismatch => Sys2Proof.Machine.execDropFill q mismatch s
  | .queueTimeout q => Sys2Proof.Machine.execQueueTimeout q s
  | .qLimWrite q v => Sys2Proof.Machine.execQLimWrite q v s
  | .qCfgWrite q v => Sys2Proof.Machine.execQCfgWrite q v s
  | .swFrameReceive port frame fcsOk => Sys2Proof.Machine.execSwFrameReceive port frame fcsOk s
  | .cpuFrameTransmit port => Sys2Proof.Machine.execCpuFrameTransmit port s
  | .linkLoss port => Sys2Proof.Machine.execLinkLoss port s
  | .holdoffExpiry port => Sys2Proof.Machine.execHoldoffExpiry port s
  | .linkUp port fibre => Sys2Proof.Machine.execLinkUp port fibre s
  | .sfpInsert port high => Sys2Proof.Machine.execSfpInsert port high s
  | .sfpRemove port => Sys2Proof.Machine.execSfpRemove port s
  | .rapsReceived m => Sys2Proof.Machine.execRapsReceived m s
  | .forcedSwitch port => Sys2Proof.Machine.execForcedSwitch port s
  | .manualSwitch port => Sys2Proof.Machine.execManualSwitch port s
  | .clear => Sys2Proof.Machine.execClear s
  | .wtrExpiry => Sys2Proof.Machine.execWtrExpiry s
  | .wtbExpiry => Sys2Proof.Machine.execWtbExpiry s
  | .guardExpiry => Sys2Proof.Machine.execGuardExpiry s
  | .fdbFlush => Sys2Proof.Machine.execFdbFlush s
  | .fdbAgeing mac => Sys2Proof.Machine.execFdbAgeing mac s
  | .scrubRead m found user rec => Sys2Proof.Machine.execScrubRead m found user rec s
  | .ceWriteBack => Sys2Proof.Machine.execCeWriteBack s
  | .bucketLeak m => Sys2Proof.Machine.execBucketLeak m s
  | .injectArm v => Sys2Proof.Machine.execInjectArm v s
  | .dramFillDone => Sys2Proof.Machine.execDramFillDone s
  | .imagePiece assoc msg => Sys2Proof.Machine.execImagePiece assoc msg s
  | .verify => Sys2Proof.Machine.execVerify s
  | .verifyDone => Sys2Proof.Machine.execVerifyDone s
  | .activate => Sys2Proof.Machine.execActivate s
  | .activationPrepare => Sys2Proof.Machine.execActivationPrepare s
  | .imageActivation => Sys2Proof.Machine.execImageActivation s
  | .runtimeReady recBad => Sys2Proof.Machine.execRuntimeReady recBad s
  | .confirm => Sys2Proof.Machine.execConfirm s
  | .autoConfirm => Sys2Proof.Machine.execAutoConfirm s
  | .reject => Sys2Proof.Machine.execReject s
  | .confirmWindowEnd => Sys2Proof.Machine.execConfirmWindowEnd s
  | .abort k => Sys2Proof.Machine.execAbort k s
  | .patFloor => Sys2Proof.Machine.execPatFloor s
  | .recovery => Sys2Proof.Machine.execRecovery s
  | .identityKeygen => Sys2Proof.Machine.execIdentityKeygen s
  | .csr x6 secure => Sys2Proof.Machine.execCsr x6 secure s
  | .cert x6 secure => Sys2Proof.Machine.execCert x6 secure s
  | .anchor x6 secure => Sys2Proof.Machine.execAnchor x6 secure s
  | .patKey x6 secure => Sys2Proof.Machine.execPatKey x6 secure s
  | .nimgKey x6 secure => Sys2Proof.Machine.execNimgKey x6 secure s
  | .pairKey x6 secure => Sys2Proof.Machine.execPairKey x6 secure s
  | .nodeKey x6 secure => Sys2Proof.Machine.execNodeKey x6 secure s
  | .close x6 secure => Sys2Proof.Machine.execClose x6 secure s
  | .floors x6 secure => Sys2Proof.Machine.execFloors x6 secure s
  | .ncStart => Sys2Proof.Machine.execNcStart s
  | .ncStop => Sys2Proof.Machine.execNcStop s
  | .ncActArm v => Sys2Proof.Machine.execNcActArm v s
  | .handover => Sys2Proof.Machine.execHandover s
  | .handoverStopBuild => Sys2Proof.Machine.execHandoverStopBuild s
  | .handoverRelease => Sys2Proof.Machine.execHandoverRelease s
  | .leaseRenewSend => Sys2Proof.Machine.execLeaseRenewSend s
  | .leaseExpiry => Sys2Proof.Machine.execLeaseExpiry s
  | .voteBindingEnd => Sys2Proof.Machine.execVoteBindingEnd s
  | .voteHoldoffEnd => Sys2Proof.Machine.execVoteHoldoffEnd s
  | .acquireSend => Sys2Proof.Machine.execAcquireSend s
  | .grant m => Sys2Proof.Machine.execGrant m s
  | .refuse m => Sys2Proof.Machine.execRefuse m s
  | .renew m => Sys2Proof.Machine.execRenew m s
  | .acquire m => Sys2Proof.Machine.execAcquire m s
  | .release m h => Sys2Proof.Machine.execRelease m h s
  | .health m => Sys2Proof.Machine.execHealth m s
  | .witnessHeldGrant mod => Sys2Proof.Machine.execWitnessHeldGrant mod s
  | .witnessQuietEnd => Sys2Proof.Machine.execWitnessQuietEnd s
  | .heartbeatSend => Sys2Proof.Machine.execHeartbeatSend s
  | .heartbeat h => Sys2Proof.Machine.execHeartbeat h s
  | .peerLost => Sys2Proof.Machine.execPeerLost s
  | .seamLinkDown => Sys2Proof.Machine.execSeamLinkDown s
  | .mirror h m => Sys2Proof.Machine.execMirror h m s
  | .takeoverCheck => Sys2Proof.Machine.execTakeoverCheck s
  | .lapseOutputTimeout => Sys2Proof.Machine.execLapseOutputTimeout s
  | .dtlsHandshake p => Sys2Proof.Machine.execDtlsHandshake p s
  | .neighborAdvertisement port addr mac => Sys2Proof.Machine.execNeighborAdvertisement port addr mac s
  | .associationIdle assoc => Sys2Proof.Machine.execAssociationIdle assoc s
  | .shalanAnswer assoc msg => Sys2Proof.Machine.execShalanAnswer assoc msg s
  | .shalanResend assoc seq => Sys2Proof.Machine.execShalanResend assoc seq s
  | .regRead assoc msg => Sys2Proof.Machine.execRegRead assoc msg s
  | .regWrite assoc msg => Sys2Proof.Machine.execRegWrite assoc msg s
  | .scheduleArm assoc msg => Sys2Proof.Machine.execScheduleArm assoc msg s
  | .scheduleCancel assoc msg => Sys2Proof.Machine.execScheduleCancel assoc msg s
  | .scheduleRead assoc msg => Sys2Proof.Machine.execScheduleRead assoc msg s
  | .report assoc msg => Sys2Proof.Machine.execReport assoc msg s
  | .subscribe assoc msg => Sys2Proof.Machine.execSubscribe assoc msg s
  | .meterRecord assoc msg => Sys2Proof.Machine.execMeterRecord assoc msg s
  | .event assoc msg => Sys2Proof.Machine.execEvent assoc msg s
  | .timeNote assoc msg => Sys2Proof.Machine.execTimeNote assoc msg s
  | .timeNoteSend => Sys2Proof.Machine.execTimeNoteSend s
  | .blackboxRead assoc msg => Sys2Proof.Machine.execBlackboxRead assoc msg s
  | .chainReportSend => Sys2Proof.Machine.execChainReportSend s
  | .chainRateWindow => Sys2Proof.Machine.execChainRateWindow s
  | .diFilteredEdge k m => Sys2Proof.Machine.execDiFilteredEdge k m s
  | .diTimeout k => Sys2Proof.Machine.execDiTimeout k s
  | .diSupply => Sys2Proof.Machine.execDiSupply s
  | .relay => Sys2Proof.Machine.execRelay s
  | .hostRelayWrite v => Sys2Proof.Machine.execHostRelayWrite v s
  | .relayHoldEnd k => Sys2Proof.Machine.execRelayHoldEnd k s
  | .relayCoil k current => Sys2Proof.Machine.execRelayCoil k current s
  | .signFrameStart m => Sys2Proof.Machine.execSignFrameStart m s
  | .rowStretch cur => Sys2Proof.Machine.execRowStretch cur s
  | .signPowerCheck p amb => Sys2Proof.Machine.execSignPowerCheck p amb s
  | .colourSensorRead v => Sys2Proof.Machine.execColourSensorRead v s
  | .pixels => Sys2Proof.Machine.execPixels s
  | .fill => Sys2Proof.Machine.execFill s
  | .signCommit => Sys2Proof.Machine.execSignCommit s
  | .signCmdCommit => Sys2Proof.Machine.execSignCmdCommit s
  | .clearOpen => Sys2Proof.Machine.execClearOpen s
  | .retry => Sys2Proof.Machine.execRetry s
  | .signPort => Sys2Proof.Machine.execSignPort s
  | .signPortRetry ok => Sys2Proof.Machine.execSignPortRetry ok s
  | .sliceStart k => Sys2Proof.Machine.execSliceStart k s
  | .sliceComplete k aborted ok => Sys2Proof.Machine.execSliceComplete k aborted ok s
  | .errAck => Sys2Proof.Machine.execErrAck s
  | .errStuck => Sys2Proof.Machine.execErrStuck s
  | .hemReq => Sys2Proof.Machine.execHemReq s
  | .restart => Sys2Proof.Machine.execRestart s
  | .lockstep => Sys2Proof.Machine.execLockstep s
  | .heldClear v secure => Sys2Proof.Machine.execHeldClear v secure s
  | .bbRecordWrite => Sys2Proof.Machine.execBbRecordWrite s
  | .bbSel v => Sys2Proof.Machine.execBbSel v s
  | .chal => Sys2Proof.Machine.execChal s
  | .unlock => Sys2Proof.Machine.execUnlock s
  | .witLost => Sys2Proof.Machine.execWitLost s
  | .announceSend port => Sys2Proof.Machine.execAnnounceSend port s
  | .delayReq m => Sys2Proof.Machine.execDelayReq m s
  | .lfxoRunning => Sys2Proof.Machine.execLfxoRunning s
  | .fieldSupplyRestored => Sys2Proof.Machine.execFieldSupplyRestored s
  | .healthSend => Sys2Proof.Machine.execHealthSend s
  | .coverClose => Sys2Proof.Machine.execCoverClose s

end Sys2Proof.Machine
end

