-- ==== Sys2Proof/Machine/Step.lean ====
section
/-! DEFINITION. Machine/Step.lean: one step: the command at the front of the queue, or the block idling. -/

namespace Sys2Proof.Machine

/-- On an empty queue the block idles: one TCXO cycle passes (R247), or, without main power, one LFXO edge. -/
def idle (b : Body) : Body := if mainPower b then advance 1 b else lfxoEdges 1 b

/-- One step: the oldest waiting command runs on the state with the queue's rest; with none waiting the block idles. -/
def step (s : State) : Host.Outcome State Fault Refusal := match s.pending with
  | c :: rest => exec c { s with pending := rest }
  | [] => onAny idle s

/-- The command that a word spells, at the front of the queue; no word spells one. -/
def State.withFetchWord (s : State) (nbits w : Nat) : State := match decodeTableWord nbits w with
  | some c => { s with pending := c :: s.pending }
  | none => s

end Sys2Proof.Machine
end

