-- ==== Sys2Proof/Safety.lean ====
section
/-! DEFINITION. Safety.lean: what counts as a sound state and a sound run, in the terms the statements use. -/

namespace Sys2Proof

open Machine

/-- A command completes: `exec` answers a next state whose queue is untouched and whose body satisfies `P`. -/
def Does (c : Instr) (s : State) (P : Body → Prop) : Prop :=
  ∃ t, exec c s = .next t ∧ t.pending = s.pending ∧ P t.body

/-- What the module shows outside follows from the rest of its state: contacts, lamps, VSIGN, scan, input sink. -/
def PinsFollow (s : State) : Prop := s.body.pins = pinsOf s.body

/-- Nothing outside is driven: every contact open, VSIGN off, the run and air lamps off. -/
def Dark (b : Body) : Prop :=
  b.pins.relays = [false, false, false, false] ∧ b.pins.vsign = false ∧ b.pins.ledAir = .off

/-- Register `f` reads the same in both. -/
def SameReg (f : Fld) (b c : Body) : Prop := ∀ i j, c.word (f.at i j) = b.word (f.at i j)

/-- Every register outside a set of addresses keeps its word. -/
def RegsKept (touched : Nat → Prop) (b c : Body) : Prop := ∀ a, ¬ touched a → c.word a = b.word a

/-- Every byte of memory reads the same in both. -/
def MemKept (b c : Body) : Prop := ∀ a, memByte c a = memByte b a

/-- Block `k` of the register window (R6). -/
def inBlock (k a : Nat) : Prop := 0x40000000 + 0x100000 * k ≤ a ∧ a < 0x40000000 + 0x100000 * (k + 1)

/-- Of block SYS, fault bit `f` is set, status bit `g` cleared and every other bit as it was (R89). -/
def ClockFault (f g : Fld) (s b : Body) : Prop :=
  b.flag f = true ∧ b.flag g = false ∧ ∀ a, inBlock 0 a → b.word a = ((s.mark f true).mark g false).word a

/-! ### Rule tiles -/

/-- Activation `a` runs on tile `t` and its next word is instruction `i` (R135, R145). -/
def Runs (b : Body) (t : Nat) (a : Act) (i : TileInstr) : Prop :=
  (tileOf b t).act = some a ∧ a.pc < codeWords b t ∧ decodeTile (codeWord b t a.pc) = some i

/-- The activation of tile `t` goes on as `a`; nothing else of any tile, nothing of memory and no register but `touched`
differs between `s` and `b`. -/
def GoesOn (t : Nat) (a : Act) (touched : Nat → Prop) (s b : Body) : Prop :=
  (tileOf b t).act = some a ∧ (tileOf b t).fifo = (tileOf s t).fifo ∧ (tileOf b t).timers = (tileOf s t).timers ∧
  (∀ u, u ≠ t → tileOf b u = tileOf s u) ∧ RegsKept touched s b ∧ b.mem = s.mem

/-- An activation after an instruction of `cost` cycles that neither branches nor ends it. -/
def After (a : Act) (cost : Nat) : Act := { a with pc := a.pc + 1, spent := a.spent + cost }

/-- GD takes `v` at a cost of `cost` cycles, and that is all the instruction does. -/
def Wrote (t : Nat) (a : Act) (cost d : Nat) (v : Word) (s b : Body) : Prop :=
  gReg b t d = v ∧ GoesOn t (After a cost) (· = LOOM.TILE_G.word.at t d) s b

/-- A buffered channel write addresses something it may (R150): a declared channel, or with G a declared group. -/
def CewrTarget (b : Body) (n : Nat) (group : Bool) : Prop :=
  if group then n < 256 ∧ (groupMap b n).isSome = true else n < chanCnt b

/-- The buffer of activation `a` commits in issue order once the activation is over (R139). -/
def Committed (s : Body) (t : Nat) (a : Act) : Body :=
  a.buf.foldl (fun b o => commitOp t o b) (setTile s t { tileOf s t with act := none })

/-- From `s` to `b` the activation ends with fault `c` at the current word: nothing it buffered takes effect, and the sixteenth
in a row disables the tile (R140, R141). -/
def Faulted (t : Nat) (a : Act) (c : Nat) (s b : Body) : Prop :=
  (tileOf b t).act = none ∧ b.get LOOM.TILE_STAT.CAUSE t = c ∧ b.flag LOOM.TILE_STAT.FAULT t = true ∧
  b.get LOOM.TILE_FPC.PC t = a.pc % 1024 ∧ b.loom.xbar = s.loom.xbar ∧ (tileOf b t).timers = (tileOf s t).timers ∧
  b.get LOOM.TILE_STAT.CONSEC t = min 16 (s.get LOOM.TILE_STAT.CONSEC t + 1) ∧
  b.flag LOOM.TILE_CTL.ENABLE t = (s.flag LOOM.TILE_CTL.ENABLE t && decide (s.get LOOM.TILE_STAT.CONSEC t < 15))

/-- The cycles an instruction costs (R144). -/
def tileCost : TileInstr → Nat
  | .alu o _ _ _ => if o = .mul ∨ o = .mulh ∨ o = .mulhu then 2 else 1
  | .alui o _ _ _ => if o = .ld ∨ o = .st then 2 else 1
  | .cerd _ _ _ _ => 4
  | .cewr _ _ _ _ => 4
  | .emit _ _ _ _ => 6
  | _ => 1

/-- The command that runs an instruction on tile `t`. -/
def tileCommand (t : Nat) : TileInstr → Instr
  | .nop => .tNop t | .halt => .tHalt t | .movi _ _ => .tMovi t | .movh _ _ => .tMovh t
  | .alu .add _ _ _ => .tAdd t | .alu .sub _ _ _ => .tSub t | .alu .mul _ _ _ => .tMul t | .alu .mulh _ _ _ => .tMulh t
  | .alu .mulhu _ _ _ => .tMulhu t | .alu .and_ _ _ _ => .tAnd t | .alu .or_ _ _ _ => .tOr t | .alu .xor_ _ _ _ => .tXor t
  | .alu .shl _ _ _ => .tShl t | .alu .shr _ _ _ => .tShr t | .alu .sar _ _ _ => .tSar t | .alu .min_ _ _ _ => .tMin t
  | .alu .max_ _ _ _ => .tMax t | .alu .minu _ _ _ => .tMinu t | .alu .maxu _ _ _ => .tMaxu t | .alu .clamp _ _ _ => .tClamp t
  | .alu .seq _ _ _ => .tSeq t | .alu .slt _ _ _ => .tSlt t | .alu .sltu _ _ _ => .tSltu t | .alu .sel _ _ _ => .tSel t
  | .alui .addi _ _ _ => .tAddi t | .alui .andi _ _ _ => .tAndi t | .alui .ori _ _ _ => .tOri t | .alui .xori _ _ _ => .tXori t
  | .alui .shli _ _ _ => .tShli t | .alui .shri _ _ _ => .tShri t | .alui .sari _ _ _ => .tSari t | .alui .slti _ _ _ => .tSlti t
  | .alui .ld _ _ _ => .tLd t | .alui .st _ _ _ => .tSt t | .alui .sarm _ _ _ => .tSarm t
  | .bz _ _ => .tBz t | .bnz _ _ => .tBnz t | .jmp _ => .tJmp t | .cerd _ _ _ _ => .tCerd t | .cewr _ _ _ _ => .tCewr t
  | .emit _ _ _ _ => .tEmit t | .time _ _ => .tTime t | .scan _ _ => .tScan t | .tset _ _ => .tTset t

/-! ### Shalan -/

/-- A message on association `a` shows no other module under the own MOD (R22). -/
def NoConflict (b : Body) (a : Assoc) (m : List Nat) : Prop :=
  loaded b = false ∨ msgSrc m ≠ modNo b ∨ isTwin b a.uid = true ∨ bits (msgFlags m) 2 1 = 1

/-- Request `m` comes over the open association `a`, at an address this member serves, and with no conflict (R473, R476,
R477). -/
def Arrives (b : Body) (id : Nat) (a : Assoc) (m : List Nat) : Prop :=
  assocOf b id = some a ∧ 16 ≤ m.length ∧ u8 m 0 = 1 ∧ msgFlags m % 2 = 0 ∧ (holderless b = false ∨ a.own = true) ∧
  NoConflict b a m

/-- It is new to the association and not being relayed, asks for no fan-out, and the runtime serves (R478, R479, R480). -/
def Fresh (b : Body) (id : Nat) (a : Assoc) (m : List Nat) : Prop :=
  Arrives b id a m ∧ coresServe b = true ∧ bits (msgFlags m) 1 1 = 0 ∧ (∀ k ∈ a.kept, k.1 ≠ msgSeq m) ∧
  (a.kept.length < 64 ∨ ∃ k ∈ a.kept, k.1 ≤ msgSeq m) ∧ inProgress b id (msgSeq m) = false

/-- It is new, its type is `type`, and this module serves it itself. -/
def Served (b : Body) (id : Nat) (a : Assoc) (m : List Nat) (type : Nat) : Prop :=
  Fresh b id a m ∧ msgType m = type ∧ refusal b a m = none ∧ relays b m = false

/-- From `s` to `b` the last thing that left is the answer to `m` with this STATUS and payload. -/
def Answered (s : Body) (id : Nat) (m : List Nat) (status : Nat) (p : List Nat) (b : Body) : Prop :=
  ∃ l x, b.out = s.out ++ l ++ [.shalan id x] ∧ msgType x = msgType m ∧ msgSeq x = msgSeq m ∧ msgFlags x = 1 ∧
    msgStatus x = status ∧ msgBody x = p

/-- From `s` to `b` a request of this type and payload to `id` left, or waits to. -/
def Sent (s : Body) (id type : Nat) (p : List Nat) (b : Body) : Prop :=
  ∃ l, b.out = s.out ++ l ∧ ((∃ q ∈ queueFor b id, msgType q.msg = type ∧ msgBody q.msg = p) ∨
    ∃ x, .shalan id x ∈ l ∧ msgType x = type ∧ msgBody x = p)

end Sys2Proof
end

