-- ==== Sys2Proof/WellFormed.lean ====
section
/-! DEFINITION. WellFormed.lean: the operand ranges of each command: what the spec numbers has that many (R17), a register word has 32
bits, and a message or frame is made of bytes. -/

namespace Sys2Proof

def bytesOk (l : List Nat) : Bool := l.all fun x => decide (x < 256)
def wordOk (v : Nat) : Bool := decide (v < 2 ^ 32)
/-- A bus access: a 32-bit address, a transfer of 8 to 64 bits, and an initiator code of R570. -/
def busOk (x : Machine.BusAcc) : Bool :=
  decide (x.addr < 2 ^ 32) && [8, 16, 32, 64].contains x.width && decide (x.data < 2 ^ 64) && decide (x.init < 4) &&
    decide (x.found < 3)

/-- A command's operands lie in their ranges. -/
def Instr.wf : Instr → Bool
  | .coldStart => true
  | .powerStop _ => true
  | .overvoltageRestart => true
  | .initEngineDone => true
  | .startupSelfTest _ => true
  | .boot => true
  | .runtimeHeartbeatLoss => true
  | .runtimeReadyTimeout => true
  | .patternLoad => true
  | .timeAcqWindowClose => true
  | .gateStop => true
  | .onDemandWake => true
  | .scheduledWake r _ => decide (r < 5)
  | .coreSleep _ => true
  | .coreWake _ => true
  | .lfxoStop => true
  | .tcxoFail => true
  | .fclkUnlock => true
  | .cclkUnlock => true
  | .cclkRelock => true
  | .ethUnlock => true
  | .ethRelock => true
  | .boltBoundary => true
  | .tileReloadUe => true
  | .patternPiece _ msg => bytesOk msg
  | .patternAssemblyTimeout => true
  | .patternStageDone => true
  | .patternSwitch => true
  | .heldEventRelease => true
  | .modeWrite v _ => wordOk v
  | .worldLock => true
  | .registerWrite a => busOk a
  | .counterReadClear a => busOk a
  | .tileActivation t => decide (t < 64)
  | .tNop t => decide (t < 64)
  | .tHalt t => decide (t < 64)
  | .tMovi t => decide (t < 64)
  | .tMovh t => decide (t < 64)
  | .tAdd t => decide (t < 64)
  | .tSub t => decide (t < 64)
  | .tAddi t => decide (t < 64)
  | .tMul t => decide (t < 64)
  | .tMulh t => decide (t < 64)
  | .tMulhu t => decide (t < 64)
  | .tAnd t => decide (t < 64)
  | .tOr t => decide (t < 64)
  | .tXor t => decide (t < 64)
  | .tAndi t => decide (t < 64)
  | .tOri t => decide (t < 64)
  | .tXori t => decide (t < 64)
  | .tShl t => decide (t < 64)
  | .tShr t => decide (t < 64)
  | .tSar t => decide (t < 64)
  | .tShli t => decide (t < 64)
  | .tShri t => decide (t < 64)
  | .tSari t => decide (t < 64)
  | .tMin t => decide (t < 64)
  | .tMax t => decide (t < 64)
  | .tMinu t => decide (t < 64)
  | .tMaxu t => decide (t < 64)
  | .tClamp t => decide (t < 64)
  | .tSeq t => decide (t < 64)
  | .tSlt t => decide (t < 64)
  | .tSltu t => decide (t < 64)
  | .tSlti t => decide (t < 64)
  | .tBz t => decide (t < 64)
  | .tBnz t => decide (t < 64)
  | .tJmp t => decide (t < 64)
  | .tLd t => decide (t < 64)
  | .tSt t => decide (t < 64)
  | .tCerd t => decide (t < 64)
  | .tCewr t => decide (t < 64)
  | .tEmit t => decide (t < 64)
  | .tTime t => decide (t < 64)
  | .tSarm t => decide (t < 64)
  | .tScan t => decide (t < 64)
  | .tTset t => decide (t < 64)
  | .tSel t => decide (t < 64)
  | .tIllegal t => decide (t < 64)
  | .tPcRange t => decide (t < 64)
  | .eventDelivery => true
  | .tileTimer t i => decide (t < 64) && decide (i < 4)
  | .scheduleFire => true
  | .schedArm e => decide (e < 1024)
  | .schedCancel e => decide (e < 1024)
  | .tileReset t => decide (t < 64)
  | .tileEnable t _ => decide (t < 64)
  | .tileCodeWrite t w v => decide (t < 64) && decide (w < 1024) && wordOk v
  | .lightAhead => true
  | .levelEvent => true
  | .override => true
  | .channelReport => true
  | .hostLevelEvent => true
  | .hostOverride => true
  | .lvlTgtWrite n v => decide (n < 512) && wordOk v
  | .safeLvlWrite n v => decide (n < 512) && wordOk v
  | .composition => true
  | .laExpiry n => decide (n < 512)
  | .overrideTimeout n => decide (n < 512)
  | .channelRefresh n => decide (n < 512)
  | .stretch n => decide (n < 512)
  | .reportStale n => decide (n < 512)
  | .verifyExpired n => decide (n < 512)
  | .presence => true
  | .bay => true
  | .laZone => true
  | .dropTracks => true
  | .refreshCounts => true
  | .clearStuck => true
  | .presenceHoldExpiry i => decide (i < 2560)
  | .sensorStuck i => decide (i < 2560)
  | .trackDrop k => decide (k < 256)
  | .syncFollowUp _ => true
  | .delayResp _ => true
  | .announce port _ _ => decide (port < 3)
  | .syncTimeout => true
  | .holdoverExpiry => true
  | .syncSend port => decide (port < 3)
  | .delayReqSend => true
  | .timeStep => true
  | .timeCap => true
  | .txTimestamp port _ _ => decide (port < 3)
  | .txqPop port => decide (port < 3)
  | .txqEntryStale port => decide (port < 3)
  | .corrAutoCapture => true
  | .corrCap => true
  | .corrSave => true
  | .tickCheck => true
  | .adjCmdGo => true
  | .tickDelta => true
  | .tickLoRead => true
  | .alarmFire => true
  | .periodicWake => true
  | .leapApply => true
  | .domainReset => true
  | .domainResetRelease => true
  | .cellTest mv => decide (mv < 4096)
  | .cellTestCmd mv => decide (mv < 4096)
  | .coverOpen => true
  | .beaconStitch r _ => decide (r < 5)
  | .anchorStitch _ => true
  | .downStitchWakePoint r => decide (r < 5)
  | .downStitch r st _ => decide (r < 5) && decide (st < 256)
  | .frameReceived r _ _ psdu => bytesOk psdu && decide (r < 5)
  | .commandDescriptor => true
  | .transmitBuild => true
  | .emergFrameRebuild => true
  | .keyWrite i w v => wordOk v && decide (i < 4) && decide (w < 4)
  | .keyArm next => decide (next < 4)
  | .keyGraceEnd => true
  | .hopQuery r st => decide (r < 5) && decide (st < 256)
  | .hopResult => true
  | .lineCycleEnd _ => true
  | .noZcTimeout _ => true
  | .meterLatch => true
  | .meterSave => true
  | .latchSeqRead => true
  | .calMode => true
  | .calCommit => true
  | .calRevert => true
  | .calTimeout => true
  | .harnessChange h _ => decide (h < 2)
  | .codePeriodEnd => true
  | .attributionSolve c => decide (c < 24)
  | .enqueue q bytes _ => bytesOk bytes && decide (q < 32)
  | .dequeue q _ => decide (q < 32)
  | .poolAuditDone => true
  | .qPop q _ => decide (q < 32)
  | .alloc q _ => decide (q < 32)
  | .pushCommit q _ => decide (q < 32)
  | .pushAbort q _ => decide (q < 32)
  | .qRel q first _ => decide (q < 32) && decide (first < 16384)
  | .flush q _ => decide (q < 32)
  | .swap q _ => decide (q < 32)
  | .dropFill q _ => decide (q < 32)
  | .queueTimeout q => decide (q < 32)
  | .qLimWrite q v => wordOk v && decide (q < 32)
  | .qCfgWrite q v => wordOk v && decide (q < 32)
  | .swFrameReceive port frame _ => bytesOk frame && decide (port < 3)
  | .cpuFrameTransmit port => decide (port < 3)
  | .linkLoss port => decide (port < 3)
  | .holdoffExpiry port => decide (port < 2)
  | .linkUp port _ => decide (port < 3)
  | .sfpInsert port _ => decide (port < 2)
  | .sfpRemove port => decide (port < 2)
  | .rapsReceived m => decide (m.port < 2) && decide (m.req < 16) && decide (m.bpr < 2)
  | .forcedSwitch port => decide (port < 2)
  | .manualSwitch port => decide (port < 2)
  | .clear => true
  | .wtrExpiry => true
  | .wtbExpiry => true
  | .guardExpiry => true
  | .fdbFlush => true
  | .fdbAgeing mac => decide (mac < 2 ^ 48)
  | .scrubRead m found _ _ => decide (m < 6) && decide (found.length ≤ 8) && found.all fun x => decide (x < 3)
  | .ceWriteBack => true
  | .bucketLeak m => decide (m < 6)
  | .injectArm v => wordOk v
  | .dramFillDone => true
  | .imagePiece _ msg => bytesOk msg
  | .verify => true
  | .verifyDone => true
  | .activate => true
  | .activationPrepare => true
  | .imageActivation => true
  | .runtimeReady _ => true
  | .confirm => true
  | .autoConfirm => true
  | .reject => true
  | .confirmWindowEnd => true
  | .abort k => decide (k < 8)
  | .patFloor => true
  | .recovery => true
  | .identityKeygen => true
  | .csr _ _ => true
  | .cert _ _ => true
  | .anchor _ _ => true
  | .patKey _ _ => true
  | .nimgKey _ _ => true
  | .pairKey _ _ => true
  | .nodeKey _ _ => true
  | .close _ _ => true
  | .floors _ _ => true
  | .ncStart => true
  | .ncStop => true
  | .ncActArm v => wordOk v
  | .handover => true
  | .handoverStopBuild => true
  | .handoverRelease => true
  | .leaseRenewSend => true
  | .leaseExpiry => true
  | .voteBindingEnd => true
  | .voteHoldoffEnd => true
  | .acquireSend => true
  | .grant m => decide (m.member < 2) && decide (m.mod < 0x4000)
  | .refuse m => decide (m.member < 2) && decide (m.mod < 0x4000)
  | .renew m => decide (m.member < 2) && decide (m.mod < 0x4000)
  | .acquire m => decide (m.member < 2) && decide (m.mod < 0x4000)
  | .release m _ => decide (m.member < 2) && decide (m.mod < 0x4000)
  | .health m => decide (m.member < 2) && decide (m.mod < 0x4000)
  | .witnessHeldGrant mod => decide (mod < 0x4000)
  | .witnessQuietEnd => true
  | .heartbeatSend => true
  | .heartbeat _ => true
  | .peerLost => true
  | .seamLinkDown => true
  | .mirror _ _ => true
  | .takeoverCheck => true
  | .lapseOutputTimeout => true
  | .dtlsHandshake p => decide (p.mod < 0x4000) && decide (p.uid < 2 ^ 128)
  | .neighborAdvertisement port _ mac => decide (port < 2) && decide (mac < 2 ^ 48)
  | .associationIdle _ => true
  | .shalanAnswer _ msg => bytesOk msg
  | .shalanResend _ _ => true
  | .regRead _ msg => bytesOk msg
  | .regWrite _ msg => bytesOk msg
  | .scheduleArm _ msg => bytesOk msg
  | .scheduleCancel _ msg => bytesOk msg
  | .scheduleRead _ msg => bytesOk msg
  | .report _ msg => bytesOk msg
  | .subscribe _ msg => bytesOk msg
  | .meterRecord _ msg => bytesOk msg
  | .event _ msg => bytesOk msg
  | .timeNote _ msg => bytesOk msg
  | .timeNoteSend => true
  | .blackboxRead _ msg => bytesOk msg
  | .chainReportSend => true
  | .chainRateWindow => true
  | .diFilteredEdge k _ => decide (k < 8)
  | .diTimeout i => decide (i < 8)
  | .diSupply => true
  | .relay => true
  | .hostRelayWrite v => wordOk v
  | .relayHoldEnd k => decide (k < 4)
  | .relayCoil k _ => decide (k < 4)
  | .signFrameStart _ => true
  | .rowStretch cur => cur.all fun x => decide (x.1 < 64)
  | .signPowerCheck _ _ => true
  | .pixels => true
  | .fill => true
  | .signCommit => true
  | .signCmdCommit => true
  | .clearOpen => true
  | .retry => true
  | .signPort => true
  | .signPortRetry _ => true
  | .sliceStart k => decide (k < 80)
  | .sliceComplete k _ _ => decide (k < 80)
  | .errAck => true
  | .errStuck => true
  | .hemReq => true
  | .restart => true
  | .lockstep => true
  | .heldClear v _ => wordOk v
  | .bbRecordWrite => true
  | .bbSel v => wordOk v
  | .chal => true
  | .unlock => true
  | .witLost => true
  | .announceSend port => decide (port < 3)
  | .delayReq _ => true
  | .lfxoRunning => true
  | .fieldSupplyRestored => true
  | .healthSend => true
  | .coverClose => true
  | .colourSensorRead v => (match v with | some l => bytesOk l | none => true)

end Sys2Proof
end

