-- ==== Sys2Proof/Certificates/Slice0/Obligations.lean ====
section
/-! DEFINITION. Certificates/Slice0/Obligations.lean: the statements about the block, each a Prop that formalises what its docstring
says and cites. -/

open Sys2Proof Sys2Proof.Machine

/-- While main power is present and the module is not held by its self-test, TCXO_FAIL, FCLK_UNLOCK, CCLK_UNLOCK, LFXO_STOP and,
while ETHCLK is locked, ETH_UNLOCK each complete: they set their bit of SYS.CLK_FAULT, clear their bit of SYS.CLK_STAT and leave
every other bit of block SYS as it was; while ETHCLK is not locked ETH_UNLOCK completes and changes no register. LFXO_STOP
completes in every state with AON.STAT.OSF set and LFXO_RUN cleared. TCXO_FAIL and FCLK_UNLOCK complete in silent hem in every
such state, and with power to the engines LOCKSTEP completes in silent hem and HEM_REQ in hem, whatever the error slots hold;
SAFE.HEM_CAUSE takes the code when the module was not yet in hem and keeps the first cause otherwise. (R89, R573) -/
def Obligations.ClockFaultsAreLatchedAndFatalOnesEnterHem : Prop :=
  (∀ s : State, mainPower s.body = true → s.body.power ≠ .held →
  Does .tcxoFail s (fun b => ClockFault SYS.CLK_FAULT.TCXO_FAIL SYS.CLK_STAT.TCXO_OK s.body b ∧
    inHem b = true ∧ b.flag SAFE.STAT.HEM_SILENT = true ∧
    b.get SAFE.HEM_CAUSE.CODE = (if inHem s.body then s.body.get SAFE.HEM_CAUSE.CODE else 0x0011)) ∧
  Does .fclkUnlock s (fun b => ClockFault SYS.CLK_FAULT.FCLK_UNLOCK SYS.CLK_STAT.FCLK_LOCK s.body b ∧
    inHem b = true ∧ b.flag SAFE.STAT.HEM_SILENT = true ∧
    b.get SAFE.HEM_CAUSE.CODE = (if inHem s.body then s.body.get SAFE.HEM_CAUSE.CODE else 0x0012)) ∧
  Does .cclkUnlock s (ClockFault SYS.CLK_FAULT.CCLK_UNLOCK SYS.CLK_STAT.CCLK_LOCK s.body) ∧
  (s.body.flag SYS.CLK_STAT.ETH_LOCK = true →
    Does .ethUnlock s (ClockFault SYS.CLK_FAULT.ETH_UNLOCK SYS.CLK_STAT.ETH_LOCK s.body)) ∧
  (s.body.flag SYS.CLK_STAT.ETH_LOCK = false → Does .ethUnlock s (fun b => RegsKept (fun _ => False) s.body b))) ∧
  (∀ s : State, Does .lfxoStop s (fun b => b.flag AON.STAT.OSF = true ∧ b.flag AON.STAT.LFXO_RUN = false ∧
    (mainPower s.body = true → s.body.power ≠ .held → ClockFault SYS.CLK_FAULT.LFXO_STOP SYS.CLK_STAT.LFXO_OK s.body b))) ∧
  (∀ s : State, powered s.body = true →
  Does .lockstep s (fun b => inHem b = true ∧ b.flag SAFE.STAT.HEM_SILENT = true ∧
    b.get SAFE.HEM_CAUSE.CODE = (if inHem s.body then s.body.get SAFE.HEM_CAUSE.CODE else 0x0D02)) ∧
  Does .hemReq s (fun b => inHem b = true ∧
    b.get SAFE.HEM_CAUSE.CODE = (if inHem s.body then s.body.get SAFE.HEM_CAUSE.CODE else 0x0D04)))

/-- While main power is present and the module is not held by its self-test, CCLK_RELOCK and ETH_RELOCK complete with CCLK_LOCK
and ETH_LOCK set. LFXO_RUNNING completes in every state with AON.STAT.LFXO_RUN set, and in such a one LFXO_OK too. With power to
the engines CORE_SLEEP puts the core to sleep when no wake cause of R86 is pending and otherwise leaves every core as it was,
and CORE_WAKE wakes it; both of the latter take SW's interrupt. GATE_STOP sets SYS.CLK_STAT.GATED while GATE_EN is 1 and nothing
waits in the gated domain or keeps it clocked, and changes no other register and none of the engines; otherwise it changes no
register. ON_DEMAND_WAKE clears GATED. SCHEDULED_WAKE of a radio on which AIR marks stitches, from 50 µs before the start of its
next marked stitch on, clears GATED and adds 1 to SYS.WAKE_CNT modulo 2^32, or 0 when another radio shares that start; a late
one also adds 1 to SYS.WAKE_LATE, saturating, and the coming stitch of that radio is lost. Before that point, and for any other
radio, it changes nothing of AIR and no register. (R85, R86, R89, R76, R79, R81, R83) -/
def Obligations.ClocksCoresAndTheGatedDomainWake : Prop :=
  (∀ s : State, mainPower s.body = true → s.body.power ≠ .held →
  Does .cclkRelock s (fun b => b.flag SYS.CLK_STAT.CCLK_LOCK = true ∧ RegsKept (· = SYS.CLK_STAT.word.addr) s.body b) ∧
  Does .ethRelock s (fun b => b.flag SYS.CLK_STAT.ETH_LOCK = true)) ∧
  (∀ s : State, Does .lfxoRunning s (fun b => b.flag AON.STAT.LFXO_RUN = true ∧
    (mainPower s.body = true → s.body.power ≠ .held → b.flag SYS.CLK_STAT.LFXO_OK = true))) ∧
  (∀ (s : State) (k : Nat), powered s.body = true →
  (coreCause s.body = false → Does (.coreSleep k) s (fun b => tabGet (fun _ => false) b.clock.coreSleep k = true)) ∧
  (coreCause s.body = true → Does (.coreSleep k) s (fun b => b.clock = s.body.clock ∧ b.sw.irq = false)) ∧
  Does (.coreWake k) s (fun b => tabGet (fun _ => false) b.clock.coreSleep k = false ∧ b.sw.irq = false)) ∧
  (∀ (s : State) (r : Nat), powered s.body = true →
  (gateIdle s.body = true → Does .gateStop s (fun b => b.flag SYS.CLK_STAT.GATED = true ∧ b.loom = s.body.loom ∧ b.ce = s.body.ce ∧
    b.ofe = s.body.ofe ∧ b.air = s.body.air ∧ RegsKept (· = SYS.CLK_STAT.word.addr) s.body b)) ∧
  (gateIdle s.body = false → Does .gateStop s (fun b => b.flag SYS.CLK_STAT.GATED = s.body.flag SYS.CLK_STAT.GATED ∧
    RegsKept (fun _ => False) s.body b)) ∧
  Does .onDemandWake s (fun b => b.flag SYS.CLK_STAT.GATED = false ∧ RegsKept (· = SYS.CLK_STAT.word.addr) s.body b) ∧
  (∀ late, airMarks s.body r = true → wakeStitch s.body r ≤ tnNs s.body + 50000 →
    Does (.scheduledWake r late) s (fun b => b.flag SYS.CLK_STAT.GATED = false ∧
      b.get SYS.WAKE_CNT.COUNT = (s.body.get SYS.WAKE_CNT.COUNT +
        (if s.body.air.woken.any (fun p => decide (p.2 = wakeStitch s.body r + 1)) then 0 else 1)) % 2 ^ 32 ∧
      (late = true → b.get SYS.WAKE_LATE.COUNT = min (s.body.get SYS.WAKE_LATE.COUNT + 1) 0xFFFF ∧
        b.air.lateRadios.contains r = true))) ∧
  (∀ late, airMarks s.body r = false ∨ tnNs s.body + 50000 < wakeStitch s.body r →
    Does (.scheduledWake r late) s (fun b => b.air = s.body.air ∧ RegsKept (fun _ => False) s.body b)))

/-- From any state with main power POWER_STOP leads to CELL, or to the state that waits for the input to fall after an
overvoltage, clears AON.STAT.MAIN, keeps the always-on counters and what MRAM and flash hold (the next black-box sequence number
apart, which goes back by the records that were lost), and leaves everything outside dark. Without main power COLD_START enters
START and counts the start; with it, it changes neither the power state nor what MRAM and flash hold. OVERVOLTAGE_RESTART starts
and counts so only after an overvoltage stop. With power to the engines RESTART leads back to the first step of the cold start.
(R94) -/
def Obligations.MainPowerFallsAndRises : Prop :=
  ∀ (s : State) (high : Bool),
  (mainPower s.body = true → Does (.powerStop high) s (fun b => b.power = (if high then Power.cellOver else Power.cell) ∧
    b.flag AON.STAT.MAIN = false ∧ b.aon = { s.body.aon with irq := [] } ∧ b.nv = { s.body.nv with bbNext := b.nv.bbNext } ∧ Dark b)) ∧
  (mainPower s.body = false → Does .coldStart s (fun b => b.power = .start ∧ b.clock.cyc = 0 ∧
    b.nv.boot = (s.body.nv.boot + 1) % 65536 ∧ b.pat.run = none ∧ b.flag AON.STAT.MAIN = true)) ∧
  (mainPower s.body = true → Does .coldStart s (fun b => b.power = s.body.power ∧ b.nv = s.body.nv)) ∧
  (s.body.power = .cellOver → Does .overvoltageRestart s (fun b => b.nv.boot = (s.body.nv.boot + 1) % 65536 ∧ b.pat.run = none)) ∧
  (s.body.power ≠ .cellOver → Does .overvoltageRestart s (fun b => b.power = s.body.power ∧ b.nv = s.body.nv)) ∧
  (powered s.body = true → Does .restart s (fun b => b.nv.boot = (s.body.nv.boot + 1) % 65536 ∧ b.pat.run = none ∧ b.clock.cyc = 0))

/-- Before boot, the first STARTUP_SELF_TEST completes: with no failed item it sets SAFE.STAT.ST_PASS with all 8 items in
SAFE.ST_RES.PASSED; with failed items it holds the module: SAFE.ST_RES.LAST_FAIL has the failed bits, also in MRAM, a record
that names them is the newest of the black box, every contact is open, VSIGN is off, LED_PWR and LED_FAULT are steady, and
LED_RUN and LED_AIR are off. Until it has passed, BOOT changes no register and boots nothing. The hold lasts through every
command but POWER_STOP, and BOOT, PATTERN_LOAD and ERR_ACK change no register in it. (R564, R90) -/
def Obligations.StartUpSelfTestHoldsTheModule : Prop :=
  (∀ (s : State) (f : Nat), powered s.body = true → beforeBoot s.body = true → s.body.upd.tested = false →
  Does (.startupSelfTest 0) s (fun b => b.flag SAFE.STAT.ST_PASS = true ∧ b.get SAFE.ST_RES.PASSED = 255 ∧ b.upd.tested = true) ∧
  (f % 256 ≠ 0 → Does (.startupSelfTest f) s (fun b => b.power = .held ∧ b.get SAFE.ST_RES.LAST_FAIL = f % 256 ∧
    b.nv.stFail = f % 256 ∧ b.flag SAFE.STAT.ST_PASS = false ∧ Dark b ∧ b.pins.ledPwr = .steady ∧ b.pins.ledFault = .steady ∧
    b.pins.ledRun = .off ∧ (s.body.safe.bbQ = [] → ∃ r ∈ b.nv.bb, r.code = 0x0D08 ∧ r.arg0 = f % 256))) ∧
  Does .boot s (fun b => b.upd = s.body.upd ∧ b.power = s.body.power ∧ RegsKept (fun _ => False) s.body b)) ∧
  ∀ h : State, h.body.power = .held →
    (∀ c : Instr, (∀ high, c ≠ .powerStop high) → Does c h (fun b => b.power = .held)) ∧
    Does .boot h (fun b => b.regs = h.body.regs) ∧ Does .patternLoad h (fun b => b.regs = h.body.regs) ∧
    Does .errAck h (fun b => b.regs = h.body.regs)

/-- When the running activation of tile t stands at an ADD, SUB, MUL, MULH, MULHU, MIN, MAX, MINU, MAXU or CLAMP and its budget
allows the cost, that row completes: GD takes the exact result cut to 32 bits (or its high half), the next word comes next, the
cost is counted, and no other register, tile or byte of memory changes. (R144, R16, R137) -/
def Obligations.TileArithmeticIsExactThenCut : Prop :=
  ∀ (s : State) (t d x y : Nat) (a : Act), powered s.body = true →
  (Runs s.body t a (.alu .add d x y) → a.spent + 1 ≤ 512 → Does (.tAdd t) s (Wrote t a 1 d
    (BitVec.ofNat 32 ((gReg s.body t x).toNat + (gReg s.body t y).toNat)) s.body)) ∧
  (Runs s.body t a (.alu .sub d x y) → a.spent + 1 ≤ 512 → Does (.tSub t) s (Wrote t a 1 d
    (BitVec.ofInt 32 ((gReg s.body t x).toInt - (gReg s.body t y).toInt)) s.body)) ∧
  (Runs s.body t a (.alu .mul d x y) → a.spent + 2 ≤ 512 → Does (.tMul t) s (Wrote t a 2 d
    (BitVec.ofNat 32 ((gReg s.body t x).toNat * (gReg s.body t y).toNat)) s.body)) ∧
  (Runs s.body t a (.alu .mulh d x y) → a.spent + 2 ≤ 512 → Does (.tMulh t) s (Wrote t a 2 d
    (BitVec.ofInt 32 ((gReg s.body t x).toInt * (gReg s.body t y).toInt / 2 ^ 32)) s.body)) ∧
  (Runs s.body t a (.alu .mulhu d x y) → a.spent + 2 ≤ 512 → Does (.tMulhu t) s (Wrote t a 2 d
    (BitVec.ofNat 32 ((gReg s.body t x).toNat * (gReg s.body t y).toNat / 2 ^ 32)) s.body)) ∧
  (Runs s.body t a (.alu .min_ d x y) → a.spent + 1 ≤ 512 → Does (.tMin t) s (Wrote t a 1 d
    (BitVec.ofInt 32 (min (gReg s.body t x).toInt (gReg s.body t y).toInt)) s.body)) ∧
  (Runs s.body t a (.alu .max_ d x y) → a.spent + 1 ≤ 512 → Does (.tMax t) s (Wrote t a 1 d
    (BitVec.ofInt 32 (max (gReg s.body t x).toInt (gReg s.body t y).toInt)) s.body)) ∧
  (Runs s.body t a (.alu .minu d x y) → a.spent + 1 ≤ 512 → Does (.tMinu t) s (Wrote t a 1 d
    (BitVec.ofNat 32 (min (gReg s.body t x).toNat (gReg s.body t y).toNat)) s.body)) ∧
  (Runs s.body t a (.alu .maxu d x y) → a.spent + 1 ≤ 512 → Does (.tMaxu t) s (Wrote t a 1 d
    (BitVec.ofNat 32 (max (gReg s.body t x).toNat (gReg s.body t y).toNat)) s.body)) ∧
  (Runs s.body t a (.alu .clamp d x y) → a.spent + 1 ≤ 512 → Does (.tClamp t) s (Wrote t a 1 d
    (BitVec.ofInt 32 (min (max (gReg s.body t d).toInt (gReg s.body t x).toInt) (gReg s.body t y).toInt)) s.body))

/-- When the running activation stands at an AND, OR, XOR, SHL, SHR, SAR, SEQ, SLT, SLTU or SEL and its budget allows one cycle,
that row completes: GD takes the value of the table, with shifts by bits [4:0] of the amount, and nothing else changes but the
activation going on. When the running activation stands at a MOVI, MOVH, ADDI, ANDI, ORI, XORI, SHLI, SHRI, SARI or SLTI and its
budget allows one cycle, that row completes: GD takes the value of the table, with IMM20 and the IMM14 of ADDI and SLTI sign-
extended and the IMM14 of ANDI, ORI and XORI zero-extended, and nothing else changes but the activation going on. (R144, R137)
-/
def Obligations.TileLogicShiftsTestsAndImmediates : Prop :=
  (∀ (s : State) (t d x y : Nat) (a : Act), powered s.body = true →
  (Runs s.body t a (.alu .and_ d x y) → a.spent + 1 ≤ 512 → Does (.tAnd t) s (Wrote t a 1 d
    ((gReg s.body t x) &&& (gReg s.body t y)) s.body)) ∧
  (Runs s.body t a (.alu .or_ d x y) → a.spent + 1 ≤ 512 → Does (.tOr t) s (Wrote t a 1 d
    ((gReg s.body t x) ||| (gReg s.body t y)) s.body)) ∧
  (Runs s.body t a (.alu .xor_ d x y) → a.spent + 1 ≤ 512 → Does (.tXor t) s (Wrote t a 1 d
    ((gReg s.body t x) ^^^ (gReg s.body t y)) s.body)) ∧
  (Runs s.body t a (.alu .shl d x y) → a.spent + 1 ≤ 512 → Does (.tShl t) s (Wrote t a 1 d
    (BitVec.ofNat 32 ((gReg s.body t x).toNat * 2 ^ ((gReg s.body t y).toNat % 32))) s.body)) ∧
  (Runs s.body t a (.alu .shr d x y) → a.spent + 1 ≤ 512 → Does (.tShr t) s (Wrote t a 1 d
    (BitVec.ofNat 32 ((gReg s.body t x).toNat / 2 ^ ((gReg s.body t y).toNat % 32))) s.body)) ∧
  (Runs s.body t a (.alu .sar d x y) → a.spent + 1 ≤ 512 → Does (.tSar t) s (Wrote t a 1 d
    (BitVec.ofInt 32 ((gReg s.body t x).toInt / 2 ^ ((gReg s.body t y).toNat % 32))) s.body)) ∧
  (Runs s.body t a (.alu .seq d x y) → a.spent + 1 ≤ 512 → Does (.tSeq t) s (Wrote t a 1 d
    (if (gReg s.body t x) = (gReg s.body t y) then 1 else 0) s.body)) ∧
  (Runs s.body t a (.alu .slt d x y) → a.spent + 1 ≤ 512 → Does (.tSlt t) s (Wrote t a 1 d
    (if (gReg s.body t x).toInt < (gReg s.body t y).toInt then 1 else 0) s.body)) ∧
  (Runs s.body t a (.alu .sltu d x y) → a.spent + 1 ≤ 512 → Does (.tSltu t) s (Wrote t a 1 d
    (if (gReg s.body t x).toNat < (gReg s.body t y).toNat then 1 else 0) s.body)) ∧
  (Runs s.body t a (.alu .sel d x y) → a.spent + 1 ≤ 512 → Does (.tSel t) s (Wrote t a 1 d
    (if (gReg s.body t x) = 0 then (gReg s.body t d) else (gReg s.body t y)) s.body))) ∧
  (∀ (s : State) (t d x n : Nat) (a : Act), powered s.body = true →
  (Runs s.body t a (.movi d n) → a.spent + 1 ≤ 512 → Does (.tMovi t) s (Wrote t a 1 d (BitVec.ofInt 32 (sgn 20 n)) s.body)) ∧
  (Runs s.body t a (.movh d n) → a.spent + 1 ≤ 512 → Does (.tMovh t) s (Wrote t a 1 d
    (BitVec.ofNat 32 ((gReg s.body t d).toNat % 65536 + n % 65536 * 65536)) s.body)) ∧
  (Runs s.body t a (.alui .addi d x n) → a.spent + 1 ≤ 512 → Does (.tAddi t) s (Wrote t a 1 d
    (BitVec.ofInt 32 ((gReg s.body t x).toInt + sgn 14 n)) s.body)) ∧
  (Runs s.body t a (.alui .andi d x n) → a.spent + 1 ≤ 512 → Does (.tAndi t) s (Wrote t a 1 d
    ((gReg s.body t x) &&& BitVec.ofNat 32 (n % 16384)) s.body)) ∧
  (Runs s.body t a (.alui .ori d x n) → a.spent + 1 ≤ 512 → Does (.tOri t) s (Wrote t a 1 d
    ((gReg s.body t x) ||| BitVec.ofNat 32 (n % 16384)) s.body)) ∧
  (Runs s.body t a (.alui .xori d x n) → a.spent + 1 ≤ 512 → Does (.tXori t) s (Wrote t a 1 d
    ((gReg s.body t x) ^^^ BitVec.ofNat 32 (n % 16384)) s.body)) ∧
  (Runs s.body t a (.alui .shli d x n) → a.spent + 1 ≤ 512 → Does (.tShli t) s (Wrote t a 1 d
    (BitVec.ofNat 32 ((gReg s.body t x).toNat * 2 ^ (n % 32))) s.body)) ∧
  (Runs s.body t a (.alui .shri d x n) → a.spent + 1 ≤ 512 → Does (.tShri t) s (Wrote t a 1 d
    (BitVec.ofNat 32 ((gReg s.body t x).toNat / 2 ^ (n % 32))) s.body)) ∧
  (Runs s.body t a (.alui .sari d x n) → a.spent + 1 ≤ 512 → Does (.tSari t) s (Wrote t a 1 d
    (BitVec.ofInt 32 ((gReg s.body t x).toInt / 2 ^ (n % 32))) s.body)) ∧
  (Runs s.body t a (.alui .slti d x n) → a.spent + 1 ≤ 512 → Does (.tSlti t) s (Wrote t a 1 d
    (if (gReg s.body t x).toInt < sgn 14 n then 1 else 0) s.body)))

/-- NOP only goes on. BZ, BNZ and JMP make TARGET the next word when their condition holds and the following word otherwise, and
change no register. LD and ST reach the aligned local word at GA + sext(IMM14) inside bytes 0 to 4,095, at 2 cycles, and change
nothing else; at any other address they fault with MEM. Each holds while the budget allows the cost. (R144, R145, R142) -/
def Obligations.TileBranchesAndLocalData : Prop :=
  ∀ (s : State) (t d x n p : Nat) (a : Act), powered s.body = true → t < 64 →
  (Runs s.body t a .nop → a.spent + 1 ≤ 512 → Does (.tNop t) s (GoesOn t (After a 1) (fun _ => False) s.body)) ∧
  (Runs s.body t a (.bz x n) → a.spent + 1 ≤ 512 → Does (.tBz t) s (GoesOn t
    (if gReg s.body t x = 0 then { After a 1 with pc := n } else After a 1) (fun _ => False) s.body)) ∧
  (Runs s.body t a (.bnz x n) → a.spent + 1 ≤ 512 → Does (.tBnz t) s (GoesOn t
    (if gReg s.body t x = 0 then After a 1 else { After a 1 with pc := n }) (fun _ => False) s.body)) ∧
  (Runs s.body t a (.jmp n) → a.spent + 1 ≤ 512 → Does (.tJmp t) s (GoesOn t { After a 1 with pc := n } (fun _ => False) s.body)) ∧
  (Runs s.body t a (.alui .ld d x n) → a.spent + 2 ≤ 512 → (gReg s.body t x + BitVec.ofInt 32 (sgn 14 n)).toNat = 4 * p → p < 1024 →
    Does (.tLd t) s (Wrote t a 2 d (dataWord s.body t p) s.body)) ∧
  (Runs s.body t a (.alui .st d x n) → a.spent + 2 ≤ 512 → (gReg s.body t x + BitVec.ofInt 32 (sgn 14 n)).toNat = 4 * p → p < 1024 →
    Does (.tSt t) s (fun b => dataWord b t p = gReg s.body t d ∧
      GoesOn t (After a 2) (· = LOOM.DATA.word.at t p) s.body b)) ∧
  ((gReg s.body t x + BitVec.ofInt 32 (sgn 14 n)).toNat % 4 ≠ 0 ∨ (gReg s.body t x + BitVec.ofInt 32 (sgn 14 n)).toNat ≥ 4096 →
    a.spent + 2 ≤ 512 →
    (Runs s.body t a (.alui .ld d x n) → Does (.tLd t) s (Faulted t a 4 s.body)) ∧
    (Runs s.body t a (.alui .st d x n) → Does (.tSt t) s (Faulted t a 4 s.body)))

/-- CERD completes at 4 cycles: with G = 0, on a field its tile may reach (a secure tile every field, a non-secure one the
fields that are not S while CE is non-secure) and a channel below CHAN_CNT, GD takes the field of the channel as CE holds it;
with G = 1 it faults with CE_ACCESS, then on a field out of reach with CE_WORLD, then on a channel at or above CHAN_CNT with
CE_RANGE. TIME completes at 1 cycle: word 0, or any word when the activation has captured none, captures the present instant,
which is all 0 while no time is valid, and GD takes the word of what is captured: the low and the high part of the seconds, the
fraction, the two validity bits. (R147, R148, R149, R146, R142) -/
def Obligations.TileChannelAccessAndTime : Prop :=
  ∀ (s : State) (t d x f w c : Nat) (a : Act) (g wr sec : Bool), powered s.body = true → t < 64 → ceField f = some (c, wr, sec) →
  (Runs s.body t a (.cerd d x g f) → a.spent + 4 ≤ 512 →
    (g = true → Does (.tCerd t) s (Faulted t a 7 s.body)) ∧
    (g = false → ceReach s.body t sec = false → Does (.tCerd t) s (Faulted t a 6 s.body)) ∧
    (g = false → ceReach s.body t sec = true → chanCnt s.body ≤ (gReg s.body t x).toNat → Does (.tCerd t) s (Faulted t a 5 s.body)) ∧
    (g = false → ceReach s.body t sec = true → (gReg s.body t x).toNat < chanCnt s.body →
      Does (.tCerd t) s (Wrote t a 4 d (BitVec.ofInt 32 (ceRead s.body (gReg s.body t x).toNat f)) s.body))) ∧
  (ceReach s.body t sec = true ↔ tileNs s.body t = false ∨ (sec = false ∧ ceNs s.body = true)) ∧
  (∀ now cap : TimeCap, Runs s.body t a (.time d w) → a.spent + 1 ≤ 512 →
    now = (if ntv s.body || rtcv s.body then ⟨tSec s.body, airTime s.body % 65536,
      (if ntv s.body then 1 else 0) + (if rtcv s.body then 2 else 0)⟩ else ⟨0, 0, 0⟩) →
    cap = (if w = 0 then now else a.cap.getD now) →
    Does (.tTime t) s (fun b => gReg b t d = BitVec.ofNat 32
        (match w with | 0 => cap.sec | 1 => cap.sec / 2 ^ 32 % 2 ^ 16 | 2 => cap.frac | _ => cap.flags) ∧
      GoesOn t { After a 1 with cap := some cap } (· = LOOM.TILE_G.word.at t d) s.body b))

/-- While the activation has buffered fewer than 32 CE writes, 16 events and 4 timer settings, CEWR of a writable field within
reach of its tile, to a declared channel or with G to a declared group, EMIT and TSET complete: each appends one effect to its
buffer and changes no register. CEWR of a field no tile may write faults with CE_ACCESS, then a tile out of reach with CE_WORLD,
then an undeclared target with CE_RANGE; at the limit all three fault with OUT_FULL. SARM and SCAN fault with OUT_FULL once 4
schedule operations are buffered. Otherwise SCAN of an entry the tile owns and armed buffers its cancellation and answers 0; of
any other it answers -1 and buffers nothing; SARM of a record at an aligned place within the local data (elsewhere it faults
with MEM) answers -1 when no entry is free, -2 when the tile may not arm its thread and -3 when a reserved flag or PERIOD_S is
out of range, and otherwise reserves the free entry with the highest index, which takes the record, and answers it. (R138, R150,
R151, R152, R158, R159, R142) -/
def Obligations.TileBufferFillsAndRefuses : Prop :=
  ∀ (s : State) (t d x y n f p c : Nat) (a : Act) (g wr sec : Bool), powered s.body = true → t < 64 →
  (Runs s.body t a (.cewr d x g f) → ceField f = some (c, wr, sec) → a.spent + 4 ≤ 512 →
    (wr = false → Does (.tCewr t) s (Faulted t a 7 s.body)) ∧
    (wr = true → ceReach s.body t false = false → Does (.tCewr t) s (Faulted t a 6 s.body)) ∧
    (wr = true → ceReach s.body t false = true → ¬ CewrTarget s.body (gReg s.body t x).toNat g → Does (.tCewr t) s (Faulted t a 5 s.body)) ∧
    (wr = true → ceReach s.body t false = true → CewrTarget s.body (gReg s.body t x).toNat g →
      (32 ≤ ceOps a → Does (.tCewr t) s (Faulted t a 8 s.body)) ∧
      (ceOps a < 32 → Does (.tCewr t) s (GoesOn t ((After a 4).push
        (.ceWrite (gReg s.body t d).toNat (gReg s.body t x).toNat g f)) (fun _ => False) s.body)))) ∧
  (Runs s.body t a (.emit x y p n) → a.spent + 6 ≤ 512 →
    (emitOps a < 16 → Does (.tEmit t) s (GoesOn t ((After a 6).push
      (.emit ((gReg s.body t x).toNat + (gReg s.body t y).toNat * 2 ^ 32) p n)) (fun _ => False) s.body)) ∧
    (16 ≤ emitOps a → Does (.tEmit t) s (Faulted t a 8 s.body))) ∧
  (Runs s.body t a (.tset x n) → a.spent + 1 ≤ 512 →
    (timerOps a < 4 → Does (.tTset t) s (GoesOn t ((After a 1).push
      (.timer n ((gReg s.body t x).toNat % 2 ^ 24))) (fun _ => False) s.body)) ∧
    (4 ≤ timerOps a → Does (.tTset t) s (Faulted t a 8 s.body))) ∧
  (Runs s.body t a (.scan d x) → a.spent + 1 ≤ 512 →
    (4 ≤ schedOps a → Does (.tScan t) s (Faulted t a 8 s.body)) ∧
    (schedOps a < 4 → (gReg s.body t x).toNat < 1024 →
      (schedOf s.body (gReg s.body t x).toNat).owner = .tile t → Does (.tScan t) s (fun b => gReg b t d = 0 ∧
        GoesOn t ((After a 1).push (.cancel (gReg s.body t x).toNat)) (· = LOOM.TILE_G.word.at t d) s.body b)) ∧
    (schedOps a < 4 → 1024 ≤ (gReg s.body t x).toNat ∨ (schedOf s.body (gReg s.body t x).toNat).owner ≠ .tile t →
      Does (.tScan t) s (Wrote t a 1 d (BitVec.ofInt 32 (-1)) s.body))) ∧
  (Runs s.body t a (.alui .sarm d x n) → a.spent + 1 ≤ 512 →
    ((gReg s.body t x + BitVec.ofInt 32 (sgn 14 n)).toNat % 4 ≠ 0 ∨ 4064 < (gReg s.body t x + BitVec.ofInt 32 (sgn 14 n)).toNat →
      Does (.tSarm t) s (Faulted t a 4 s.body)) ∧
    ((gReg s.body t x + BitVec.ofInt 32 (sgn 14 n)).toNat = 4 * p → p ≤ 1016 →
      (4 ≤ schedOps a → Does (.tSarm t) s (Faulted t a 8 s.body)) ∧
      (schedOps a < 4 → highestFree s.body 1024 = none → Does (.tSarm t) s (Wrote t a 1 d (BitVec.ofInt 32 (-1)) s.body)) ∧
      (∀ e thr flags period, schedOps a < 4 → highestFree s.body 1024 = some e → thr = (dataWord s.body t (p + 4)).toNat % 256 →
        flags = (dataWord s.body t (p + 4)).toNat / 65536 % 256 → period = (dataWord s.body t (p + 5)).toNat →
        (schedThreadOk s.body thr = false ∨ (tileNs s.body t = true ∧ nsThreadOk s.body thr = false) →
          Does (.tSarm t) s (Wrote t a 1 d (BitVec.ofInt 32 (-2)) s.body)) ∧
        (schedThreadOk s.body thr = true → (tileNs s.body t = false ∨ nsThreadOk s.body thr = true) →
          (recordOk flags period = false → Does (.tSarm t) s (Wrote t a 1 d (BitVec.ofInt 32 (-3)) s.body)) ∧
          (recordOk flags period = true → Does (.tSarm t) s (fun b => gReg b t d = BitVec.ofNat 32 e ∧
            (schedOf b e).owner = .reserved t ∧ (∀ k, k < 8 → schedWord b e k = (dataWord s.body t (p + k)).toNat) ∧
            (tileOf b t).act = some ((After a 1).push (.arm e))))))))

/-- HALT with budget for its cycle completes: it ends the activation, sets TILE_STAT.CONSEC to 0 and commits the buffer in issue
order, so that the schedule table, the crossbar, the tile's timers and CE stand as the commits leave them, and every register
too unless host writes wait for the activation's end: a timer setting starts its timer for that many ms, or stops it at 0; a
cancelled entry of the tile is free; a reserved entry is armed for the tile at its ACTION_TIME; an event enters the crossbar on
every thread its port drives, or counts in TILE_DROP.UNBOUND when there is none; and a write of RULE_LVL to a channel is held
there. A word that is no instruction faults with ILLEGAL, a fetch at or above CODE_WORDS with PC_RANGE, and any instruction
whose cost would take the count above 512 with BUDGET, without completing. A fault records its cause and word, ends the
activation with nothing of its buffer in force, and adds 1 to CONSEC up to 16, at which the tile is disabled. (R137, R139, R140,
R141, R142) -/
def Obligations.TileHaltsAndFaults : Prop :=
  ∀ (s : State) (t : Nat) (a : Act), powered s.body = true → t < 64 →
  (Runs s.body t a .halt → a.spent + 1 ≤ 512 → Does (.tHalt t) s (fun b => (tileOf b t).act = none ∧
    b.get LOOM.TILE_STAT.CONSEC t = 0 ∧ b.loom.sched = (Committed s.body t a).loom.sched ∧
    b.loom.xbar = (Committed s.body t a).loom.xbar ∧ (tileOf b t).timers = (tileOf (Committed s.body t a) t).timers ∧
    b.ce = (Committed s.body t a).ce ∧
    ((tileOf (Committed s.body t a) t).writes = [] → RegsKept (· = LOOM.TILE_STAT.word.at t 0) (Committed s.body t a) b))) ∧
  (∀ n ms, a.buf = [.timer n ms] → tabGet (fun _ => 0) (tileOf (Committed s.body t a) t).timers n =
    (if ms = 0 then 0 else s.body.clock.cyc + 26000 * ms)) ∧
  (∀ e, a.buf = [.cancel e] → (schedOf s.body e).owner = .tile t → (schedOf (Committed s.body t a) e).owner = .free) ∧
  (∀ e, a.buf = [.arm e] → (schedOf s.body e).owner = .reserved t → (schedOf (Committed s.body t a) e).owner = .tile t ∧
    (schedOf (Committed s.body t a) e).next = schedAction s.body e) ∧
  (∀ v p n, a.buf = [.emit v p n] →
    ((Committed s.body t a).loom.xbar = s.body.loom.xbar ++ (threadsFrom s.body t p).map fun k =>
      { payload := v % 2 ^ 64, tag := n % 256, thread := k, late := false, src := t, srcPort := p }) ∧
    (threadsFrom s.body t p = [] → (Committed s.body t a).get LOOM.TILE_DROP.UNBOUND t =
      min (s.body.get LOOM.TILE_DROP.UNBOUND t + 1) 0xFFFF)) ∧
  (∀ v n, a.buf = [.ceWrite v n false 0] → n < 512 → (Committed s.body t a).get CE.LVL_TGT.RULE_LVL n = min v 65535) ∧
  (∀ i : TileInstr, Runs s.body t a i → 512 < a.spent + tileCost i → Does (tileCommand t i) s (Faulted t a 1 s.body)) ∧
  ((tileOf s.body t).act = some a → a.pc < codeWords s.body t → decodeTile (codeWord s.body t a.pc) = none →
    Does (.tIllegal t) s (Faulted t a 2 s.body)) ∧
  ((tileOf s.body t).act = some a → codeWords s.body t ≤ a.pc → Does (.tPcRange t) s (Faulted t a 3 s.body))

/-- When the Loom starts activations (RUN, no hem, acting, no switch holding events) and the tile is enabled, idle and has
something waiting, TILE_ACTIVATION starts an activation at word 0 with nothing spent or buffered: the oldest item leaves the
FIFO, G0 and G1 take the payload and G2 the tag, port, LATE and thread of an event, or TIMER and the timer number of a timer
activation; no other general register changes. It starts none while the tile is disabled, runs an activation or has nothing
waiting. (R136) -/
def Obligations.ActivationLoadsItsEvent : Prop :=
  ∀ (s : State) (t : Nat), powered s.body = true → t < 64 →
  (∀ e port rest, loomRuns s.body = true → s.body.flag LOOM.TILE_CTL.ENABLE t = true → (tileOf s.body t).act = none →
    (tileOf s.body t).fifo = .event e port :: rest → Does (.tileActivation t) s (fun b =>
      (tileOf b t).fifo = rest ∧ (tileOf b t).act = some { pc := 0, spent := 0, thread := e.thread, buf := [], cap := none } ∧
      gReg b t 0 = BitVec.ofNat 32 (e.payload % 2 ^ 32) ∧ gReg b t 1 = BitVec.ofNat 32 (e.payload / 2 ^ 32) ∧
      gReg b t 2 = BitVec.ofNat 32 (e.tag % 256 + port % 16 * 2 ^ 8 + (if e.late then 2 ^ 15 else 0) + e.thread % 256 * 2 ^ 16) ∧
      ∀ g, 3 ≤ g → g < 64 → gReg b t g = gReg s.body t g)) ∧
  (∀ n rest, loomRuns s.body = true → s.body.flag LOOM.TILE_CTL.ENABLE t = true → (tileOf s.body t).act = none →
    (tileOf s.body t).fifo = .timer n :: rest → Does (.tileActivation t) s (fun b =>
      (tileOf b t).fifo = rest ∧ (tileOf b t).act = some { pc := 0, spent := 0, thread := 0, buf := [], cap := none } ∧
      gReg b t 0 = 0 ∧ gReg b t 1 = 0 ∧ gReg b t 2 = BitVec.ofNat 32 (2 ^ 12 + n % 4 * 2 ^ 13) ∧
      ∀ g, 3 ≤ g → g < 64 → gReg b t g = gReg s.body t g)) ∧
  (s.body.flag LOOM.TILE_CTL.ENABLE t = false ∨ (tileOf s.body t).act.isSome = true ∨ (tileOf s.body t).fifo = [] →
    Does (.tileActivation t) s (fun b => b.loom = s.body.loom ∧ RegsKept (fun _ => False) s.body b))

/-- EVENT_DELIVERY completes and takes the oldest event out of the crossbar; when its thread has one destination it delivers it
there: into the FIFO of an enabled tile with room in a module that runs rules and is not in hem, behind what waits, or into the
counter TILE_DROP.INGRESS of a disabled tile or one whose FIFO holds 16; or behind what waits at CE, at OFE with fewer than 64
events, at AIR and at GIO. In hem and in the standby an event for a tile is dropped and no register changes. A self-test slice
of a tile that runs stops. While a switch holds events, nothing is delivered. TILE_TIMER of a timer that is the next of its tile
to reach 0 and has run out stops it and puts its activation behind what waits in the FIFO; of any other timer it changes
nothing. (R130, R131, R133, R134, R115, R143, R151, R566) -/
def Obligations.EventsReachTheirDestinations : Prop :=
  ∀ (s : State) (e : Ev) (rest : List Ev) (t port : Nat), powered s.body = true → t < 64 →
  (s.body.loom.xbar = e :: rest →
  (s.body.flag LOOM.STAT.HELD = true → Does .eventDelivery s (fun b => b.loom = s.body.loom ∧ RegsKept (fun _ => False) s.body b)) ∧
  (s.body.flag LOOM.STAT.HELD = false → threadDests s.body e.thread = [(t, port)] → 64 ≤ e.src → inHem s.body = false → runsRules s.body = true →
    (s.body.flag LOOM.TILE_CTL.ENABLE t = true → (tileOf s.body t).fifo.length < 16 → Does .eventDelivery s (fun b =>
      b.loom.xbar = rest ∧ (tileOf b t).fifo = (tileOf s.body t).fifo ++ [.event e port] ∧
      b.flag SAFE.SLICE.RUNNING (16 + t) = false ∧
      (s.body.get SAFE.SLICE.ABORTS (16 + t) ≠ 15 → RegsKept (· = SAFE.SLICE.word.at (16 + t) 0) s.body b))) ∧
    (s.body.flag LOOM.TILE_CTL.ENABLE t = false → Does .eventDelivery s (fun b => b.loom.xbar = rest ∧
      (tileOf b t).fifo = (tileOf s.body t).fifo ∧
      b.get LOOM.TILE_DROP.INGRESS t = min (s.body.get LOOM.TILE_DROP.INGRESS t + 1) 0xFFFF)) ∧
    (s.body.flag LOOM.TILE_CTL.ENABLE t = true → 16 ≤ (tileOf s.body t).fifo.length → Does .eventDelivery s (fun b =>
      b.loom.xbar = rest ∧ (tileOf b t).fifo = (tileOf s.body t).fifo ∧
      b.get LOOM.TILE_DROP.INGRESS t = min (s.body.get LOOM.TILE_DROP.INGRESS t + 1) 0xFFFF))) ∧
  (s.body.flag LOOM.STAT.HELD = false → threadDests s.body e.thread = [(t, port)] → 64 ≤ e.src → inHem s.body = true ∨ runsRules s.body = false →
    Does .eventDelivery s (fun b => b.loom.xbar = rest ∧ b.loom.tiles = s.body.loom.tiles ∧ RegsKept (fun _ => False) s.body b)) ∧
  (s.body.flag LOOM.STAT.HELD = false → 64 ≤ e.src →
    (threadDests s.body e.thread = [(0x40, port)] → Does .eventDelivery s (fun b => b.loom.xbar = rest ∧
      b.ce.inbox = s.body.ce.inbox ++ [(port, e)])) ∧
    (threadDests s.body e.thread = [(0x41, port)] → s.body.ofe.fifo.length < 64 → Does .eventDelivery s (fun b => b.loom.xbar = rest ∧
      b.ofe.fifo = s.body.ofe.fifo ++ [(port, e)])) ∧
    (threadDests s.body e.thread = [(0x42, port)] → Does .eventDelivery s (fun b => b.loom.xbar = rest ∧
      b.air.cmdIn = s.body.air.cmdIn ++ [e])) ∧
    (threadDests s.body e.thread = [(0x44, port)] → Does .eventDelivery s (fun b => b.loom.xbar = rest ∧
      b.gio.inbox = s.body.gio.inbox ++ [(port, e)])))) ∧
  (∀ i, timerDue s.body t i = true → inHem s.body = false → runsRules s.body = true →
    s.body.flag LOOM.TILE_CTL.ENABLE t = true → (tileOf s.body t).fifo.length < 16 → Does (.tileTimer t i) s (fun b =>
      tabGet (fun _ => 0) (tileOf b t).timers i = 0 ∧ (tileOf b t).fifo = (tileOf s.body t).fifo ++ [.timer i])) ∧
  (∀ i, timerDue s.body t i = false → Does (.tileTimer t i) s (fun b => b.loom = s.body.loom ∧ RegsKept (fun _ => False) s.body b))

/-- With an entry due in a module that runs rules and is not in hem, SCHEDULE_FIRE completes and takes the due entry whose
occurrence is earliest, of equal ones the lowest index: expired, it is freed and counted in SCHED_STAT.EXPIRED and sends
nothing; otherwise its event enters the crossbar last, and a one-shot entry is freed, while a REPEAT entry takes the first
occurrence strictly later than the present that differs from the old one by a multiple of its period, or is freed when that is
at or above its EXPIRY. With nothing due, in hem and in the standby it completes and nothing fires. (R153, R154, R155, R156,
R157, R161) -/
def Obligations.ScheduleEntriesFireOnce : Prop :=
  ∀ s : State, powered s.body = true →
  (firstDue s.body = none ∨ inHem s.body = true ∨ runsRules s.body = false →
    Does .scheduleFire s (fun b => b.loom = s.body.loom ∧ RegsKept (fun _ => False) s.body b)) ∧
  (∀ e, firstDue s.body = some e → entryDue s.body e = true ∧ ∀ f, f ≠ e → entryDue s.body f = true →
    (schedOf s.body e).next < (schedOf s.body f).next ∨ ((schedOf s.body e).next = (schedOf s.body f).next ∧ e < f)) ∧
  (∀ e, firstDue s.body = some e → inHem s.body = false → runsRules s.body = true →
    (schedExpiry s.body e ≠ 0 → schedExpiry s.body e ≤ airTime s.body → Does .scheduleFire s (fun b =>
      (schedOf b e).owner = .free ∧ b.loom.xbar = s.body.loom.xbar ∧
      b.get LOOM.SCHED_STAT.EXPIRED = min (s.body.get LOOM.SCHED_STAT.EXPIRED + 1) 0xFFFF)) ∧
    (¬ (schedExpiry s.body e ≠ 0 ∧ schedExpiry s.body e ≤ airTime s.body) → Does .scheduleFire s (fun b =>
      (∃ ev : Ev, b.loom.xbar = s.body.loom.xbar ++ [ev] ∧ ev.payload = schedPayload s.body e ∧ ev.tag = schedTag s.body e ∧
        ev.thread = schedThread s.body e ∧ ev.src = 0x45) ∧
      (schedFlags s.body e / 2 % 2 = 0 → (schedOf b e).owner = .free) ∧
      (schedFlags s.body e / 2 % 2 = 1 → 0 < schedPeriod s.body e →
        let period := schedPeriod s.body e * 65536
        ∀ n, airTime s.body < n → n ≤ airTime s.body + period → n % period = (schedOf s.body e).next % period →
          (schedExpiry s.body e = 0 ∨ n < schedExpiry s.body e → (schedOf b e).next = n ∧ (schedOf b e).owner = (schedOf s.body e).owner) ∧
          (schedExpiry s.body e ≠ 0 → schedExpiry s.body e ≤ n → (schedOf b e).owner = .free)))))

/-- SCHED_ARM of a free entry whose record passes R158 and whose thread the schedule table drives arms it for the host with
RESULT 0; of an entry that is not free it answers 1 and of a bad record 2, arming nothing. SCHED_CANCEL frees an armed entry
with RESULT 0 and answers 3 for any other. TILE_ENABLE sets ENABLE, and setting it clears CONSEC. TILE_CODE_WRITE to a disabled
tile stores the word and raises CODE_WORDS to its index plus 1, never lowering it; to an enabled one it only sets WR_REJ.
TILE_RESET of a disabled tile zeroes its registers and local data, empties its FIFO and stops its timers, and does nothing to an
enabled one. Each completes, and clocks the gated domain. (R126, R127, R141, R145, R158, R159) -/
def Obligations.HostArmsAndTileControl : Prop :=
  ∀ (s : State) (e t w v : Nat), powered s.body = true → e < 1024 → t < 64 → w < 1024 → v < 2 ^ 32 →
  ((schedOf s.body e).owner = .free → recordOk (schedFlags s.body e) (schedPeriod s.body e) = true →
    schedThreadOk s.body (schedThread s.body e) = true →
    Does (.schedArm e) s (fun b => (schedOf b e).owner = .host ∧ (schedOf b e).next = schedAction s.body e ∧ b.get LOOM.SCHED_RES.RESULT = 0)) ∧
  ((schedOf s.body e).owner ≠ .free → Does (.schedArm e) s (fun b => b.loom = s.body.loom ∧ b.get LOOM.SCHED_RES.RESULT = 1)) ∧
  ((schedOf s.body e).owner = .free → recordOk (schedFlags s.body e) (schedPeriod s.body e) = false →
    Does (.schedArm e) s (fun b => b.loom = s.body.loom ∧ b.get LOOM.SCHED_RES.RESULT = 2)) ∧
  ((schedOf s.body e).owner.armed = true → Does (.schedCancel e) s (fun b => (schedOf b e).owner = .free ∧ b.get LOOM.SCHED_RES.RESULT = 0)) ∧
  ((schedOf s.body e).owner.armed = false → Does (.schedCancel e) s (fun b => b.loom = s.body.loom ∧ b.get LOOM.SCHED_RES.RESULT = 3)) ∧
  Does (.tileEnable t true) s (fun b => b.flag LOOM.TILE_CTL.ENABLE t = true ∧ b.get LOOM.TILE_STAT.CONSEC t = 0) ∧
  Does (.tileEnable t false) s (fun b => b.flag LOOM.TILE_CTL.ENABLE t = false ∧ b.get LOOM.TILE_STAT.CONSEC t = s.body.get LOOM.TILE_STAT.CONSEC t) ∧
  (s.body.flag LOOM.TILE_CTL.ENABLE t = false → Does (.tileCodeWrite t w v) s (fun b => codeWord b t w = v ∧
    codeWords b t = max (codeWords s.body t) (w + 1) ∧
    RegsKept (fun a => a = LOOM.CODE.word.at t w ∨ a = LOOM.TILE_CTL.word.at t 0 ∨ a = SYS.CLK_STAT.word.addr) s.body b)) ∧
  (s.body.flag LOOM.TILE_CTL.ENABLE t = true → Does (.tileCodeWrite t w v) s (fun b => b.flag LOOM.TILE_STAT.WR_REJ t = true ∧
    RegsKept (fun a => a = LOOM.TILE_STAT.word.at t 0 ∨ a = SYS.CLK_STAT.word.addr) s.body b)) ∧
  (s.body.flag LOOM.TILE_CTL.ENABLE t = false → Does (.tileReset t) s (fun b => (tileOf b t).fifo = [] ∧ (tileOf b t).timers = [] ∧
    (∀ g, g < 64 → gReg b t g = 0) ∧ (∀ k, k < 1024 → dataWord b t k = 0))) ∧
  (s.body.flag LOOM.TILE_CTL.ENABLE t = true → Does (.tileReset t) s (fun b => b.loom = s.body.loom ∧
    RegsKept (· = SYS.CLK_STAT.word.addr) s.body b))

/-- CCLK_UNLOCK, a MAJOR error, takes PRIMARY when it is empty; with PRIMARY held and SECONDARY empty it takes SECONDARY when
PRIMARY is no less severe and otherwise exchanges with it, marked PREEMPTED; with both held it only adds 1 to SAFE.ERR_OVF,
saturating. In every case it sets bit 0 of SAFE.HELD. ERR_ACK empties SECONDARY and gives PRIMARY what SECONDARY held, code,
severity and arguments, or empties PRIMARY when SECONDARY held nothing. ERR_STUCK does nothing while PRIMARY is empty or has
been held for less than ACK_MS; once it has been held for ACK_MS it raises the fatal, silent ERR_STUCK. (R572, R575, R574) -/
def Obligations.ErrorManagerKeepsTwoSlots : Prop :=
  (∀ s : State, powered s.body = true →
  Does .cclkUnlock s (fun b => b.bit SAFE.HELD.BLOCK 0 = true) ∧
  (s.body.flag SAFE.ERR.VALID 0 = false → Does .cclkUnlock s (fun b => b.flag SAFE.ERR.VALID 0 = true ∧
    b.get SAFE.ERR.CODE 0 = 0x0013 ∧ b.get SAFE.ERR.SEV 0 = 2 ∧ b.get SAFE.ERR_OVF.COUNT = s.body.get SAFE.ERR_OVF.COUNT)) ∧
  (s.body.flag SAFE.ERR.VALID 0 = true → s.body.flag SAFE.ERR.VALID 1 = false → 2 ≤ s.body.get SAFE.ERR.SEV 0 →
    Does .cclkUnlock s (fun b => b.get SAFE.ERR.CODE 0 = s.body.get SAFE.ERR.CODE 0 ∧ b.flag SAFE.ERR.VALID 1 = true ∧
      b.get SAFE.ERR.CODE 1 = 0x0013)) ∧
  (s.body.flag SAFE.ERR.VALID 0 = true → s.body.flag SAFE.ERR.VALID 1 = false → s.body.get SAFE.ERR.SEV 0 < 2 →
    Does .cclkUnlock s (fun b => b.get SAFE.ERR.CODE 0 = 0x0013 ∧ b.flag SAFE.ERR.PREEMPTED 0 = true ∧
      b.get SAFE.ERR.CODE 1 = s.body.get SAFE.ERR.CODE 0)) ∧
  (s.body.flag SAFE.ERR.VALID 0 = true → s.body.flag SAFE.ERR.VALID 1 = true →
    Does .cclkUnlock s (fun b => b.get SAFE.ERR.CODE 0 = s.body.get SAFE.ERR.CODE 0 ∧
      b.get SAFE.ERR.CODE 1 = s.body.get SAFE.ERR.CODE 1 ∧
      b.get SAFE.ERR_OVF.COUNT = min (s.body.get SAFE.ERR_OVF.COUNT + 1) 0xFFFF))) ∧
  (∀ s : State, powered s.body = true →
  Does .errAck s (fun b => b.flag SAFE.ERR.VALID 1 = false ∧ b.flag SAFE.ERR.VALID 0 = s.body.flag SAFE.ERR.VALID 1 ∧
    (s.body.flag SAFE.ERR.VALID 1 = true → b.get SAFE.ERR.CODE 0 = s.body.get SAFE.ERR.CODE 1 ∧
      b.get SAFE.ERR.SEV 0 = s.body.get SAFE.ERR.SEV 1 ∧ b.get SAFE.ERR_ARG0.VALUE 0 = s.body.get SAFE.ERR_ARG0.VALUE 1 ∧
      b.get SAFE.ERR_ARG1.VALUE 0 = s.body.get SAFE.ERR_ARG1.VALUE 1 ∧ b.get SAFE.ERR_SEQ.VALUE 0 = s.body.get SAFE.ERR_SEQ.VALUE 1)) ∧
  (s.body.flag SAFE.ERR.VALID 0 = false ∨ s.body.clock.cyc - s.body.safe.primaryAt < 26000 * s.body.get SAFE.ERR_CFG.ACK_MS →
    Does .errStuck s (fun b => RegsKept (fun _ => False) s.body b ∧ b.safe = s.body.safe)) ∧
  (s.body.flag SAFE.ERR.VALID 0 = true → 26000 * s.body.get SAFE.ERR_CFG.ACK_MS ≤ s.body.clock.cyc - s.body.safe.primaryAt →
    Does .errStuck s (fun b => inHem b = true ∧ b.flag SAFE.STAT.HEM_SILENT = true)))

/-- SLICE_START of an existing slice completes with RUNNING set when slices run and are not suspended, its target is idle and
the slice does not wait for a gated domain; while slices are suspended, of a slice that runs or of one that does not exist it
changes no register. SLICE_COMPLETE of a running slice clears RUNNING: a pass clears ABORTS and FAILED_ONCE and counts SLICE_CNT
modulo 2^32; a first completed failure sets FAILED_ONCE and raises nothing; a second raises SLICE_FAIL, which sets the SAFE bit
of SAFE.HELD; an abort leaves FAILED_ONCE and adds to ABORTS, and at 16 raises SLICE_STARVED, which takes PRIMARY when it is
empty. Of a slice that does not run it changes no register. (R566, R567, R568, R569) -/
def Obligations.SlicesPassFailAndAbort : Prop :=
  ∀ (s : State) (k : Nat), powered s.body = true →
  (sliceIdx k = true → s.body.flag SAFE.CTL.RUN = true → slicesSuspended s.body = false → s.body.flag SAFE.SLICE.RUNNING k = false →
    sliceIdle s.body k = true → sliceWaits s.body k = false → Does (.sliceStart k) s (fun b => b.flag SAFE.SLICE.RUNNING k = true)) ∧
  (sliceIdx k = false ∨ slicesSuspended s.body = true ∨ s.body.flag SAFE.SLICE.RUNNING k = true →
    Does (.sliceStart k) s (fun b => RegsKept (fun _ => False) s.body b)) ∧
  (sliceIdx k = true → s.body.flag SAFE.SLICE.RUNNING k = true →
    Does (.sliceComplete k false true) s (fun b => b.flag SAFE.SLICE.RUNNING k = false ∧ b.get SAFE.SLICE.LAST k = 1 ∧
      b.get SAFE.SLICE.ABORTS k = 0 ∧ b.flag SAFE.SLICE.FAILED_ONCE k = false ∧
      b.get SAFE.SLICE_CNT.PASSES k = (s.body.get SAFE.SLICE_CNT.PASSES k + 1) % 2 ^ 32) ∧
    (s.body.flag SAFE.SLICE.FAILED_ONCE k = false → Does (.sliceComplete k false false) s (fun b => b.flag SAFE.SLICE.RUNNING k = false ∧
      b.flag SAFE.SLICE.FAILED_ONCE k = true ∧ b.get SAFE.SLICE.LAST k = 2 ∧ RegsKept (· = SAFE.SLICE.word.at k 0) s.body b)) ∧
    (s.body.flag SAFE.SLICE.FAILED_ONCE k = true → Does (.sliceComplete k false false) s (fun b => b.flag SAFE.SLICE.RUNNING k = false ∧
      b.get SAFE.SLICE.LAST k = 2 ∧ b.bit SAFE.HELD.BLOCK 13 = true ∧ (k ≤ 3 → inHem b = true))) ∧
    (∀ ok, Does (.sliceComplete k true ok) s (fun b => b.flag SAFE.SLICE.RUNNING k = false ∧ b.get SAFE.SLICE.LAST k = 3 ∧
      b.flag SAFE.SLICE.FAILED_ONCE k = s.body.flag SAFE.SLICE.FAILED_ONCE k ∧
      b.get SAFE.SLICE.ABORTS k = min (s.body.get SAFE.SLICE.ABORTS k + 1) 255 ∧
      (s.body.get SAFE.SLICE.ABORTS k = 15 → s.body.flag SAFE.ERR.VALID 0 = false →
        b.flag SAFE.ERR.VALID 0 = true ∧ b.get SAFE.ERR.CODE 0 = 0x0D06 ∧ b.get SAFE.ERR_ARG0.VALUE 0 = k)))) ∧
  (sliceIdx k = false ∨ s.body.flag SAFE.SLICE.RUNNING k = false → ∀ aborted ok, Does (.sliceComplete k aborted ok) s (fun b =>
    RegsKept (fun _ => False) s.body b))

/-- BB_RECORD_WRITE moves the oldest waiting record to the end of the ring in MRAM. BB_SEL takes the value written. HELD_CLEAR
from the secure world clears exactly the bits written as 1 and, with bit 0, ends a latched MOD conflict at the next bolt; from
the non-secure world it clears nothing, counts in SAFE.WORLD_CNT and keeps the address. (R22, R32, R581, R582, R583, R584) -/
def Obligations.BlackBoxAndHeldBits : Prop :=
  ∀ (s : State) (r : BbRec) (rest : List BbRec) (v : Nat), powered s.body = true → v < 2 ^ 32 →
  (s.body.safe.bbQ = r :: rest → s.body.safe.bbLostDue = 0 → s.body.nv.bb.length < 8192 → Does .bbRecordWrite s (fun b =>
    b.safe.bbQ = rest ∧ b.nv.bb = s.body.nv.bb ++ [r])) ∧
  Does (.bbSel v) s (fun b => b.get SAFE.BB_SEL.SEQ = v) ∧
  Does (.heldClear v true) s (fun b => (∀ k, k < 15 → b.bit SAFE.HELD.BLOCK k =
      (s.body.bit SAFE.HELD.BLOCK k && decide (v / 2 ^ k % 2 = 0))) ∧
    (v % 2 = 1 → s.body.sha.conflict = 1 → b.sha.conflict = 2) ∧ RegsKept (· = SAFE.HELD.word.addr) s.body b) ∧
  Does (.heldClear v false) s (fun b => (∀ k, s.body.bit SAFE.HELD.BLOCK k = true → b.bit SAFE.HELD.BLOCK k = true) ∧
    b.get SAFE.WORLD_CNT.COUNT = min (s.body.get SAFE.WORLD_CNT.COUNT + 1) (2 ^ 32 - 1) ∧
    b.get SAFE.WORLD_LAST.ADDR = 0x40D0003C ∧ b.sha.conflict = s.body.sha.conflict)

/-- COVER_OPEN completes in every state with AON.TAMPER.OPEN set. While main power is present, SAFE runs and the always-on
domain is out of reset, one that finds the latch clear latches the opening with its tick, enters silent hem and clears identity,
certificate, pair key, node keys, segment key words and associations before SCAN_EN and ZEROISED are set; one that finds it set,
or the domain in reset, changes OPEN alone. COVER_CLOSE clears only OPEN. CHAL makes a live challenge that begins with the UID.
UNLOCK without a live challenge fails; a third failure sets LOCKOUT, and under LOCKOUT UNLOCK changes nothing. (R585, R586,
R439, R67) -/
def Obligations.DebugUnlockAndTamperZeroise : Prop :=
  ∀ s : State,
  (monitored s.body = true → s.body.aon.held = false → s.body.flag AON.TAMPER.LATCH = false → Does .coverOpen s (fun b =>
    b.flag AON.TAMPER.OPEN = true ∧ b.flag AON.TAMPER.LATCH = true ∧ b.get AON.TAMPER_T_LO.TICK = s.body.aon.tick % 2 ^ 32 ∧
    b.get AON.TAMPER_T_HI.TICK = s.body.aon.tick / 2 ^ 32 % 2 ^ 16 ∧ inHem b = true ∧ b.flag SAFE.STAT.HEM_SILENT = true ∧
    b.nv.keys.identity = none ∧ b.nv.keys.cert = [] ∧ b.nv.keys.pair = none ∧ b.nv.keys.node = [] ∧ b.sha.assocs = [] ∧
    (∀ i w, i < 4 → w < 4 → b.get AIR.KEY_W.KEY i w = 0) ∧ b.flag SAFE.STAT.ZEROISED = true ∧ b.flag SAFE.STAT.SCAN_EN = true)) ∧
  (s.body.aon.held = true ∨ s.body.flag AON.TAMPER.LATCH = true → Does .coverOpen s (fun b =>
    b.flag AON.TAMPER.OPEN = true ∧ RegsKept (· = AON.TAMPER.word.addr) s.body b)) ∧
  Does .coverOpen s (fun b => b.flag AON.TAMPER.OPEN = true) ∧
  Does .coverClose s (fun b => b.flag AON.TAMPER.OPEN = false ∧ b.flag AON.TAMPER.LATCH = s.body.flag AON.TAMPER.LATCH ∧
    RegsKept (· = AON.TAMPER.word.addr) s.body b) ∧
  (powered s.body = true → Does .chal s (fun b => b.safe.chalLive = true ∧
    ∀ w, w < 4 → b.get SAFE.DBG_CHAL.DATA w = s.body.nv.uid / 2 ^ (32 * w) % 2 ^ 32)) ∧
  (powered s.body = true → s.body.flag SAFE.STAT.LOCKOUT = false → s.body.safe.chalLive = false → Does .unlock s (fun b =>
    b.flag SAFE.DBG_STAT.UNLOCKED = s.body.flag SAFE.DBG_STAT.UNLOCKED ∧
    b.get SAFE.DBG_STAT.FAILS = min (s.body.get SAFE.DBG_STAT.FAILS + 1) 3 ∧
    (2 ≤ s.body.get SAFE.DBG_STAT.FAILS → b.flag SAFE.STAT.LOCKOUT = true))) ∧
  (powered s.body = true → s.body.flag SAFE.STAT.LOCKOUT = true → Does .unlock s (fun b => RegsKept (fun _ => False) s.body b ∧ b.nv = s.body.nv))

/-- Where no injection has flipped bits, a user's SCRUB_READ that finds a correctable error completes: it counts one correction,
unless the scrubber found the same word in the same cycle, records the word and queues a write-back; one that finds an
uncorrectable error records address, memory and count and raises MEMI_UE, which sets the MEMI bit of SAFE.HELD and is fatal in
secure SRAM, LPDDR4X and the runtime part of pool SRAM. A scrubber's SCRUB_READ goes on to the next unit, at the end from unit 0
with the pass counted, and a line of LPDDR4X is eight words: a find in word k counts once and is recorded as that word.
CE_WRITE_BACK takes the oldest queued word. BUCKET_LEAK takes 1 from a level above 0. INJECT_ARM takes FLIP, and with bit 16 set
arms an address in LPDDR4X or the runtime part of pool SRAM and no other. DRAM_FILL_DONE after the init engine sets DRAM_DONE
with every page filled, and before it changes nothing. Each completes. (R405, R406, R408, R409, R410, R411, R418, R419, R421) -/
def Obligations.MemoryFaultsAreCountedAndRepaired : Prop :=
  (∀ (s : State) (m a : Nat) (x : MramRec), powered s.body = true → m < 6 → s.body.memi.faults = [] → a < 2 ^ 32 →
  Does (.scrubRead m [1] (some a) x) s (fun b => b.get MEMI.CE_CNT.CORR m =
      (if s.body.memi.lastCe = some (m, a, s.body.clock.cyc, true) then s.body.get MEMI.CE_CNT.CORR m
        else min (s.body.get MEMI.CE_CNT.CORR m + 1) 0xFFFF) ∧
    (m < 5 → b.get MEMI.LAST_CE.ADDR m = a) ∧ b.memi.wb.contains (m, a) = true ∧ b.mem = s.body.mem) ∧
  Does (.scrubRead m [2] (some a) x) s (fun b => b.get MEMI.UE_ADDR.ADDR = a ∧ b.get MEMI.UE_INFO.MEM = m ∧
    b.flag MEMI.UE_INFO.SCRUB = false ∧ b.get MEMI.UE_INFO.COUNT = (s.body.get MEMI.UE_INFO.COUNT + 1) % 2 ^ 16 ∧
    b.bit SAFE.HELD.BLOCK 11 = true ∧ (m = 0 ∨ m = 2 ∨ (m = 1 ∧ handEnd s.body ≤ a) → inHem b = true)) ∧
  (m < 5 → s.body.flag MEMI.SCRUB.EN m = true → Does (.scrubRead m [] none x) s (fun b =>
    b.get MEMI.CE_CNT.CORR m = s.body.get MEMI.CE_CNT.CORR m ∧
    (tabGet (fun _ => 0) s.body.memi.pos m + 1 < scrubUnits m →
      tabGet (fun _ => 0) b.memi.pos m = tabGet (fun _ => 0) s.body.memi.pos m + 1 ∧ b.get MEMI.PASS.COUNT m = s.body.get MEMI.PASS.COUNT m) ∧
    (scrubUnits m ≤ tabGet (fun _ => 0) s.body.memi.pos m + 1 →
      tabGet (fun _ => 0) b.memi.pos m = 0 ∧ b.get MEMI.PASS.COUNT m = (s.body.get MEMI.PASS.COUNT m + 1) % 2 ^ 32))) ∧
  (∀ k, m = 2 → k < 8 → s.body.flag MEMI.SCRUB.EN 2 = true → tabGet (fun _ => 0) s.body.memi.pos 2 < scrubUnits 2 →
    let word := 64 * tabGet (fun _ => 0) s.body.memi.pos 2 + 8 * k
    Does (.scrubRead 2 (List.replicate k 0 ++ [1]) none x) s (fun b => b.get MEMI.LAST_CE.ADDR 2 = word ∧
      b.memi.wb.contains (2, word) = true ∧ (s.body.memi.lastCe = none →
        b.get MEMI.CE_CNT.CORR 2 = min (s.body.get MEMI.CE_CNT.CORR 2 + 1) 0xFFFF)))) ∧
  (∀ (s : State) (m v : Nat), powered s.body = true → m < 6 →
  (∀ w t, s.body.memi.wb = w :: t → Does .ceWriteBack s (fun b => b.memi.wb = t ∧ b.mem = s.body.mem ∧ RegsKept (fun _ => False) s.body b)) ∧
  (s.body.memi.wb = [] → Does .ceWriteBack s (fun b => b.memi = s.body.memi ∧ RegsKept (fun _ => False) s.body b)) ∧
  Does (.bucketLeak m) s (fun b => b.get MEMI.LEVEL.LEVEL m = s.body.get MEMI.LEVEL.LEVEL m - 1 ∧
    RegsKept (· = MEMI.LEVEL.word.at m 0) s.body b) ∧
  Does (.injectArm v) s (fun b => b.get MEMI.INJ_CTL.FLIP = v % 256 ∧ b.flag MEMI.INJ_CTL.ARM =
    (s.body.flag MEMI.INJ_CTL.ARM || (decide (v / 2 ^ 16 % 2 = 1) &&
      (decide (handEnd s.body ≤ 8 * s.body.get MEMI.INJ_ADDR.ADDR ∧ 8 * s.body.get MEMI.INJ_ADDR.ADDR < 0x20800000) ||
        decide (0x80000000 ≤ 8 * s.body.get MEMI.INJ_ADDR.ADDR))))) ∧
  (s.body.flag MEMI.STAT.INIT_DONE = true →
    Does .dramFillDone s (fun b => b.flag MEMI.STAT.DRAM_DONE = true ∧ b.get MEMI.DRAM_FILL.PAGES = 524288)) ∧
  (s.body.flag MEMI.STAT.INIT_DONE = false →
    Does .dramFillDone s (fun b => b.memi = s.body.memi ∧ RegsKept (fun _ => False) s.body b)))

/-- In START, with the always-on domain out of reset, INIT_ENGINE_DONE sets MEMI.STAT.INIT_DONE; every byte of secure SRAM, pool
SRAM and LPDDR4X reads 0 after it, every byte of MRAM reads as before, and retention SRAM keeps its bytes exactly when
AON.RET_TAG holds the valid tag; without the tag AON.STAT.RET_LOST is set. (R405, R407, R435) -/
def Obligations.InitEngineFillsBeforeBoot : Prop :=
  ∀ s : State, s.body.power = .start → s.body.aon.held = false → Does .initEngineDone s (fun b =>
  b.flag MEMI.STAT.INIT_DONE = true ∧
  (∀ a, (0x10000000 ≤ a ∧ a < 0x30000000) ∨ (0x80000000 ≤ a ∧ a < 2 ^ 32) → memByte b a = 0) ∧
  (∀ a, 0x30000000 ≤ a → a < 0x30400000 → memByte b a = memByte s.body a) ∧
  (s.body.get AON.RET_TAG.TAG = 0x4B414F4E → ∀ a, 0x4F000000 ≤ a → a < 0x4F010000 → memByte b a = memByte s.body a) ∧
  (s.body.get AON.RET_TAG.TAG ≠ 0x4B414F4E → b.flag AON.STAT.RET_LOST = true ∧
    ∀ a, 0x4F000000 ≤ a → a < 0x4F010000 → memByte b a = 0))

/-- An access of another width or alignment to the register window, as a write or as a read, answers a bus error and leaves
every register, the memory and every engine as they were. An aligned 32-bit secure access to an address where a register
stands completes: it answers a value. A secure aligned write to QM.Q_LIM-free plain registers behaves by access code:
SYS.GATE_CTL.GATE_EN takes bit 0 of the data, and clocks the gated domain when that is 0; SYS.CLK_FAULT keeps exactly the
bits whose written bit is 0; a write to SYS.CLK_STAT, whose fields are RO, changes no register of SYS. A secure read of
SYS.WAKE_LATE answers the count and clears it. (R7, R8, R10, R11) -/
def Obligations.RegisterWindowTransfersFollowAccessCodes : Prop :=
  (∀ (s : State) (x : BusAcc), powered s.body = true → inWindow x.addr = true →
  (x.width ≠ 32 ∨ x.addr % 4 ≠ 0 →
    Does (.registerWrite x) s (fun b => b = settle { s.body with bus := none }) ∧
    Does (.counterReadClear x) s (fun b => b = settle { s.body with bus := none })) ∧
  (x.width = 32 → x.addr % 4 = 0 → x.ns = false → (∃ r, rowAt x.addr = some r ∧ reach s.body x.addr r false ≠ 0) →
    Does (.registerWrite x) s (fun b => b.bus = some 0) ∧ Does (.counterReadClear x) s (fun b => b.bus.isSome = true))) ∧
  (∀ (s : State) (v : Nat), powered s.body = true → v < 2 ^ 32 →
  Does (.registerWrite ⟨0x40000028, 32, v, false, 0, 0, .other⟩) s (fun b => b.bus = some 0 ∧ b.get SYS.GATE_CTL.GATE_EN = v % 2 ∧
    b.flag SYS.CLK_STAT.GATED = (s.body.flag SYS.CLK_STAT.GATED && decide (v % 2 = 1)) ∧
    RegsKept (fun a => a = 0x40000028 ∨ a = SYS.CLK_STAT.word.addr) s.body b) ∧
  Does (.registerWrite ⟨0x40000024, 32, v, false, 0, 0, .other⟩) s (fun b => b.bus = some 0 ∧ RegsKept (· = 0x40000024) s.body b ∧
    ∀ k, k < 6 → b.bit SYS.CLK_FAULT.word k = (s.body.bit SYS.CLK_FAULT.word k && decide (v / 2 ^ k % 2 = 0))) ∧
  Does (.registerWrite ⟨0x40000020, 32, v, false, 0, 0, .other⟩) s (fun b => b.bus = some 0 ∧ RegsKept (fun _ => False) s.body b) ∧
  Does (.counterReadClear ⟨0x40000030, 32, 0, false, 0, 0, .other⟩) s (fun b => b.bus = some (s.body.get SYS.WAKE_LATE.COUNT) ∧
    b.get SYS.WAKE_LATE.COUNT = 0))

/-- A non-secure aligned 32-bit access to a register none of whose fields it reaches answers a bus error, adds 1 to
SAFE.WORLD_CNT, saturating, keeps the address in SAFE.WORLD_LAST and changes no register below SAFE; the memory stands. The same
holds of a non-secure access to a secure memory address of one region. (R9, R584, R32) -/
def Obligations.NonSecureAccessToSecureTarget : Prop :=
  ∀ (s : State) (x : BusAcc), powered s.body = true → x.ns = true → x.addr < 2 ^ 32 → x.width = 32 →
  ((inWindow x.addr = true ∧ x.addr % 4 = 0 ∧ ∃ r, rowAt x.addr = some r ∧ reach s.body x.addr r true = 0) ∨
    (inWindow x.addr = false ∧ (regionSpan x.addr 4).isSome = true ∧ memNs s.body x.addr = false) →
  Does (.registerWrite x) s (fun b => b.bus = none ∧ b.get SAFE.WORLD_CNT.COUNT = min (s.body.get SAFE.WORLD_CNT.COUNT + 1) (2 ^ 32 - 1) ∧
    b.get SAFE.WORLD_LAST.ADDR = x.addr ∧ b.mem = s.body.mem ∧ ∀ a, a < 0x40D00000 → b.word a = s.body.word a) ∧
  Does (.counterReadClear x) s (fun b => b.bus = none ∧ b.get SAFE.WORLD_CNT.COUNT = min (s.body.get SAFE.WORLD_CNT.COUNT + 1) (2 ^ 32 - 1) ∧
    b.get SAFE.WORLD_LAST.ADDR = x.addr ∧ b.mem = s.body.mem ∧ ∀ a, a < 0x40D00000 → b.word a = s.body.word a))

/-- When no word that it reads holds an uncorrectable error, a secure write of 8 to 64 bits whose bytes all lie in one writable
region outside the register window answers 0, stores byte i of the data at address + i and leaves every other byte of memory;
with no error at all and no injection armed it leaves every register as it was. One narrower than the protected words it writes,
where such a word holds an uncorrectable error, is a bus error and changes no byte. One to the boot ROM, to the NOR window,
across a region or where nothing stands is a bus error and changes no byte and no register. A secure read of bytes in one region
answers them, least significant first, or a bus error when it finds an uncorrectable error. (R587, R588, R33, R404) -/
def Obligations.MemoryReadsWhatWasWritten : Prop :=
  ∀ (s : State) (x : BusAcc), powered s.body = true → x.ns = false → inWindow x.addr = false → x.width ∈ [8, 16, 32, 64] →
  (∀ r, regionSpan x.addr (x.width / 8) = some r → r.writable = true → x.found < 2 → (∀ f ∈ s.body.memi.faults, f.2 < 2) →
    Does (.registerWrite x) s (fun b => b.bus = some 0 ∧
    (∀ i, i < x.width / 8 → memByte b (x.addr + i) = x.data / 2 ^ (8 * i) % 256) ∧
    (∀ a, a < x.addr ∨ x.addr + x.width / 8 ≤ a → memByte b a = memByte s.body a) ∧
    (x.found = 0 → s.body.memi.faults = [] → s.body.flag MEMI.INJ_CTL.ARM = false → RegsKept (fun _ => False) s.body b))) ∧
  (∀ r, regionSpan x.addr (x.width / 8) = some r → r.writable = true → x.found = 2 → x.width ≠ 64 →
    Does (.registerWrite x) s (fun b => b.bus = none ∧ b.mem = s.body.mem)) ∧
  (∀ r, regionSpan x.addr (x.width / 8) = some r → r.writable = false → Does (.registerWrite x) s (fun b => b.bus = none ∧
    b.mem = s.body.mem ∧ RegsKept (fun _ => False) s.body b)) ∧
  (regionSpan x.addr (x.width / 8) = none → Does (.registerWrite x) s (fun b => b.bus = none ∧ b.mem = s.body.mem ∧
    RegsKept (fun _ => False) s.body b)) ∧
  (∀ r, regionSpan x.addr (x.width / 8) = some r → x.found < 2 → (∀ f ∈ s.body.memi.faults, f.2 < 2) →
    Does (.counterReadClear x) s (fun b =>
      b.bus = some (leNat ((List.range (x.width / 8)).map fun i => spaceByte s.body (x.addr + i))) ∧ b.mem = s.body.mem)) ∧
  (∀ r, regionSpan x.addr (x.width / 8) = some r → r ≠ .nor → x.found = 2 →
    Does (.counterReadClear x) s (fun b => b.bus = none ∧ b.mem = s.body.mem))

/-- If memory is in its canonical form, sorted by address with no zero byte listed, it is so after every secure or non-secure
bus write outside the register window: equal memories are equal data. The form is the model's own (log entry 3). (R7, R588) -/
def Obligations.MemoryKeepsItsCanonicalForm : Prop :=
  ∀ (s : State) (x : BusAcc), Memory.wf s.body.mem → inWindow x.addr = false →
  Does (.registerWrite x) s (fun b => Memory.wf b.mem)

/-- WORLD_LOCK sets SYS.WORLD_LOCK.LOCK and no other register. While it is set, a secure aligned write to SYS.WORLD_BLK,
SYS.WORLD_TILE_LO, SYS.WORLD_TILE_HI or any SYS.WORLD_RGN_BASE or TOP register completes, changes no register of SYS, and offers
a record of block SYS to the black box; the lock is gone after a cold start. (R34) -/
def Obligations.WorldMapLocksUntilReset : Prop :=
  ∀ (s : State) (v a : Nat), powered s.body = true →
  Does .worldLock s (fun b => b.flag SYS.WORLD_LOCK.LOCK = true ∧ RegsKept (· = SYS.WORLD_LOCK.word.addr) s.body b) ∧
  (s.body.flag SYS.WORLD_LOCK.LOCK = true → a % 4 = 0 → (0x40000010 ≤ a ∧ a ≤ 0x40000018) ∨ (0x40000100 ≤ a ∧ a < 0x40000300) →
    Does (.registerWrite ⟨a, 32, v, false, 0, 0, .other⟩) s (fun b => b.bus = some 0 ∧ (∀ q, inBlock 0 q → b.word q = s.body.word q) ∧
      (s.body.safe.bbQ = [] → ∃ r, b.safe.bbQ = [r] ∧ r.code = 0x0080 ∧ r.arg0 = a - 0x40000000))) ∧
  Does .restart s (fun b => b.flag SYS.WORLD_LOCK.LOCK = false)

/-- A secure MODE_WRITE gives SYS.MODE the low 8 bits of the value; each function that leaves Expert then owes a recompute, each
that is Expert owes none, and no other register changes, so no output does. A non-secure one changes no bit of a function whose
block is secure. (R118, R120, R121, R32) -/
def Obligations.ModeWritesAndOwedValues : Prop :=
  ∀ (s : State) (v : Nat), powered s.body = true →
  Does (.modeWrite v false) s (fun b => b.get SYS.MODE.EXPERT = v % 256 ∧ RegsKept (· = SYS.MODE.word.addr) s.body b ∧
    (∀ f, f < 8 → v / 2 ^ f % 2 = 1 → b.pat.owe / 2 ^ f % 2 = 0) ∧
    (∀ f, f < 8 → v / 2 ^ f % 2 = 0 → s.body.bit SYS.MODE.EXPERT f = true → b.pat.owe / 2 ^ f % 2 = 1)) ∧
  Does (.modeWrite v true) s (fun b => ∀ f, f < 8 → fnNs s.body f = false → b.bit SYS.MODE.EXPERT f = s.body.bit SYS.MODE.EXPERT f)

/-- With power to the engines each of these rows completes. PATTERN_LOAD, in a module that has booted and has none in force,
locks the world map and opens the acquisition window, and with a slot whose chain passes its checks puts that pattern in force
with its SERIAL and sets the RUN bits of the engines; with an empty active slot and nothing pending it leaves none in force; and
loaded, before boot or in recovery it changes nothing. PATTERN_STAGE_DONE arms a staged pattern without restart changes for the
first bolt boundary at least 100 ms ahead, and one with them is stored in the inactive slot, pending, and no longer staged. At
its boundary PATTERN_SWITCH moves an armed switch on by a bolt while an emergency, hem, a takeover or an image activation
stands; with nothing in the way and no activation running, SYS.PAT_SERIAL takes the SERIAL, and while one runs events are held.
Before its boundary, and with nothing armed, it changes nothing. HELD_EVENT_RELEASE lets held events move when no switch and no
image activation is under way. An assembly fed 60 s ago or more is dropped by PATTERN_ASSEMBLY_TIMEOUT and a younger one stands.
(R34, R90, R91, R112, R113, R115, R117, R484, R518, R526) -/
def Obligations.PatternIsStagedAndSwitched : Prop :=
  ∀ s : State, powered s.body = true →
  let slot := s.body.get UPD.STAT.PAT_SLOT
  let word := patWordRead (calLoad (meterRestore s.body))
  let judged := (judgePending word).1
  let nothing := fun (b : Body) => b.pat = s.body.pat ∧ b.nv = s.body.nv ∧ RegsKept (fun _ => False) s.body b
  (s.body.power = .run ∨ s.body.power = .hem → s.body.upd.booted = true → loaded s.body = false → s.body.flag TB.CTL.RUN = false →
    Does .patternLoad s (fun b => b.flag SYS.WORLD_LOCK.LOCK = true ∧ b.flag TB.CTL.RUN = true ∧ b.tb.window = true) ∧
    ((loadChain (withMap judged)).1 = none → Does .patternLoad s (fun b => b.pat.run = none)) ∧
    (word.flag UPD.STAT.PAT_PENDING = false → patSlot s.body (word.get UPD.STAT.PAT_SLOT) = none → Does .patternLoad s (fun b => b.pat.run = none)) ∧
    (∀ p, (loadChain (withMap judged)).1 = some p → Does .patternLoad s (fun b => b.pat.run = some p ∧
      b.get SYS.PAT_SERIAL.SERIAL = p.serial % 2 ^ 32 ∧ b.flag LOOM.CTL.RUN = true ∧ b.flag CE.CTL.RUN = true ∧
      b.flag OFE.CTL.RUN = true ∧ b.flag MET.CTL.RUN = true ∧ b.flag GIO.CTL.RUN = true ∧ b.flag SAFE.CTL.RUN = true))) ∧
  (s.body.power = .start ∨ s.body.power = .recovery ∨ s.body.upd.booted = false ∨ loaded s.body = true ∨ s.body.flag TB.CTL.RUN = true →
    Does .patternLoad s nothing) ∧
  (∀ st, s.body.pat.staged = some st →
    (st.armed = none → st.restart = false → Does .patternStageDone s (fun b =>
      b.pat.staged = some { st with armed := some (boltAfter s.body 100) } ∧ RegsKept (fun _ => False) s.body b)) ∧
    (st.armed = none → st.restart = true → Does .patternStageDone s (fun b => b.pat.staged = none ∧ b.flag UPD.STAT.PAT_PENDING = true ∧
      b.get UPD.STAT.PAT_SLOT = slot ∧ patSlot b (1 - slot) = some ⟨st.container, []⟩ ∧ b.pat.run = s.body.pat.run)) ∧
    (st.armed = none → Does .patternSwitch s nothing) ∧
    (∀ k, st.armed = some k → Does .patternStageDone s nothing ∧
      (boltIdx s.body < k → Does .patternSwitch s nothing) ∧
      (k ≤ boltIdx s.body → switchBlocked s.body = true → Does .patternSwitch s (fun b =>
        b.pat.staged = some { st with armed := some (boltIdx s.body + 1) } ∧ b.pat.run = s.body.pat.run)) ∧
      (k ≤ boltIdx s.body → switchBlocked s.body = false → anyActive s.body = false → st.pat.serial < 2 ^ 32 →
        Does .patternSwitch s (fun b => b.get SYS.PAT_SERIAL.SERIAL = st.pat.serial ∧ b.pat.staged = none)) ∧
      (k ≤ boltIdx s.body → switchBlocked s.body = false → anyActive s.body = true →
        Does .patternSwitch s (fun b => b.flag LOOM.STAT.HELD = true ∧ b.pat = s.body.pat)))) ∧
  (s.body.pat.staged = none → Does .patternStageDone s nothing ∧ Does .patternSwitch s nothing) ∧
  (switchUnderWay s.body = false → s.body.upd.taking = false → Does .heldEventRelease s (fun b => b.flag LOOM.STAT.HELD = false)) ∧
  (switchUnderWay s.body = true ∨ s.body.upd.taking = true → Does .heldEventRelease s nothing) ∧
  (∀ a, s.body.pat.assembly = some a →
    (60 ≤ sinceS s.body a.fedCyc → Does .patternAssemblyTimeout s (fun b => b.pat = { s.body.pat with assembly := none })) ∧
    (sinceS s.body a.fedCyc < 60 → Does .patternAssemblyTimeout s nothing)) ∧
  (s.body.pat.assembly = none → Does .patternAssemblyTimeout s nothing)

/-- An ENQUEUE of an item of 1 to 32 cells that R383 admits and, in a PINGPONG queue, the filling bank has room for completes:
it appends the item, in cells that no queue held, readable back byte for byte, behind every committed item of its queue, and
clears FULL; a larger item, or one not admitted or without room, changes no queue and no memory, counts in REFUSED and sets
FULL. A DEQUEUE takes the oldest item, or nothing from an empty queue. An access of any kind that finds a pointer mismatch
outside an audit empties that queue alone, sets PTR_RESET, names it in QM.PTR_ERR and raises QM_PTR; during an audit it waits.
POOL_AUDIT_DONE with none waiting ends every audit. (R377, R380, R381, R383, R385, R389) -/
def Obligations.QueuesAdmitRefuseAndReset : Prop :=
  ∀ (s : State) (q : Nat) (bytes : List Nat), powered s.body = true → q < 32 → (∀ x ∈ bytes, x < 256) →
  (cellsFor bytes.length ≤ 32 → qAdmits s.body q (cellsFor bytes.length) = true → bankFits s.body q (cellsFor bytes.length) = true →
    reported q = false ∨ coresServe s.body = false →
    Does (.enqueue q bytes false) s (fun b => b.flag QM.Q_FLAG.FULL q = false ∧ ∃ it,
      (s.body.get QM.Q_CFG.ORG q = 0 → (queueOf b q).items = (queueOf s.body q).items ++ [it]) ∧
      (s.body.get QM.Q_CFG.ORG q = 1 →
        (queueOf b q).items ++ (queueOf b q).fill = (queueOf s.body q).items ++ (queueOf s.body q).fill ++ [it]) ∧
      it.cells.length = cellsFor bytes.length ∧ itemBytes b it = bytes ∧ (∀ c ∈ it.cells, c < 16384 ∧ c ∉ allCells s.body) ∧
      (∀ p, p ≠ q → queueOf b p = queueOf s.body p))) ∧
  (32 < cellsFor bytes.length ∨ qAdmits s.body q (cellsFor bytes.length) = false ∨ bankFits s.body q (cellsFor bytes.length) = false →
    Does (.enqueue q bytes false) s (fun b => b.qm = s.body.qm ∧ b.mem = s.body.mem ∧ b.flag QM.Q_FLAG.FULL q = true ∧
    b.get QM.Q_CNT.REFUSED q = min (s.body.get QM.Q_CNT.REFUSED q + 1) 0xFFFF)) ∧
  (∀ it rest, (queueOf s.body q).items = it :: rest → coresServe s.body = false ∨ (q ≠ 15 ∧ q ≠ 24 ∧ q ≠ 25 ∧ q ≠ 28) →
    Does (.dequeue q false) s (fun b =>
    (queueOf b q).items = rest ∧ (∀ p, p ≠ q → queueOf b p = queueOf s.body p) ∧ b.mem = s.body.mem)) ∧
  (∀ c ∈ [Instr.enqueue q bytes true, .dequeue q true, .qPop q true, .alloc q true, .pushCommit q true, .pushAbort q true, .qRel q 0 true,
      .flush q true, .swap q true, .dropFill q true],
    (s.body.flag QM.PTR_ERR.AUDIT = false → Does c s (fun b => (queueOf b q).cells = [] ∧
      (queueOf b q).audit = true ∧ b.flag QM.Q_FLAG.PTR_RESET q = true ∧ b.get QM.PTR_ERR.QUEUE = q ∧ b.flag QM.PTR_ERR.AUDIT = true ∧
      b.bit SAFE.HELD.BLOCK 5 = true ∧ (∀ p, p ≠ q → queueOf b p = queueOf s.body p))) ∧
    (s.body.flag QM.PTR_ERR.AUDIT = true → Does c s (fun b => q ∈ b.qm.waiting ∧ b.qm.queues = s.body.qm.queues))) ∧
  (s.body.flag QM.PTR_ERR.AUDIT = true → s.body.qm.waiting = [] → Does .poolAuditDone s (fun b => b.flag QM.PTR_ERR.AUDIT = false ∧
    (queueOf b q).audit = false))

/-- A read of QM.ALLOC gives VALID with a cell that no queue holds, linked after the open item, when fewer than 32 are open,
R383 admits one cell and a filling bank has room for one more; else VALID 0. PUSH COMMIT on a LINKED queue appends the open
item, and on a PINGPONG queue the same behind every committed item when its filling bank has room; ABORT frees it. A read of
Q_POP takes the oldest item, gives its first cell and cell count and leaves the cells the queue holds unchanged in number; on an
empty queue VALID is 0. Q_REL releases the popped item that begins at its cell. After a flush or pointer reset PUSH and Q_REL
are ignored. (R381, R387, R390) -/
def Obligations.RuntimeMovesItemsThroughRegisters : Prop :=
  ∀ (s : State) (q : Nat), powered s.body = true → q < 32 →
  ((queueOf s.body q).opened.length < 32 → qAdmits s.body q 1 = true → bankFits s.body q ((queueOf s.body q).opened.length + 1) = true →
    Does (.alloc q false) s (fun b => ∃ c, c < 16384 ∧ c ∉ allCells s.body ∧
    b.bus = some (2 ^ 31 + c) ∧ (queueOf b q).opened = (queueOf s.body q).opened ++ [c] ∧ b.mem = s.body.mem ∧
    (∀ p, p ≠ q → queueOf b p = queueOf s.body p))) ∧
  (32 ≤ (queueOf s.body q).opened.length ∨ qAdmits s.body q 1 = false ∨ bankFits s.body q ((queueOf s.body q).opened.length + 1) = false →
    Does (.alloc q false) s (fun b => b.bus = some 0 ∧ b.qm = s.body.qm)) ∧
  (∀ it rest, (queueOf s.body q).items = it :: rest → Does (.qPop q false) s (fun b => b.bus = some (2 ^ 31 + (it.cells.length - 1) % 32 * 2 ^ 16 +
    it.cells.headD 0 % 2 ^ 14) ∧ (queueOf b q).items = rest ∧ it ∈ (queueOf b q).popped ∧ qUsed b q = qUsed s.body q)) ∧
  ((queueOf s.body q).items = [] → Does (.qPop q false) s (fun b => b.bus = some 0 ∧ b.qm = s.body.qm)) ∧
  (qAbandoned s.body q = false →
    Does (.pushAbort q false) s (fun b => (queueOf b q).opened = [] ∧ (queueOf b q).items = (queueOf s.body q).items) ∧
    ((queueOf s.body q).opened ≠ [] → bankFits s.body q (queueOf s.body q).opened.length = true → Does (.pushCommit q false) s (fun b =>
      (queueOf b q).opened = [] ∧ b.flag QM.Q_FLAG.FULL q = false ∧
      (s.body.get QM.Q_CFG.ORG q = 0 → (queueOf b q).items =
        (queueOf s.body q).items ++ [⟨(queueOf s.body q).opened, 128 * (queueOf s.body q).opened.length⟩]) ∧
      (s.body.get QM.Q_CFG.ORG q = 1 → (queueOf b q).items ++ (queueOf b q).fill = (queueOf s.body q).items ++ (queueOf s.body q).fill ++
        [⟨(queueOf s.body q).opened, 128 * (queueOf s.body q).opened.length⟩]))) ∧
    (∀ c, c < 16384 → Does (.qRel q c false) s (fun b => (∀ it ∈ (queueOf b q).popped, it.cells.head? ≠ some c) ∧
      (∀ it ∈ (queueOf s.body q).popped, it.cells.headD 16384 ≠ c → it ∈ (queueOf b q).popped) ∧ (queueOf b q).items = (queueOf s.body q).items))) ∧
  (qAbandoned s.body q = true → Does (.pushCommit q false) s (fun b => b.qm = s.body.qm) ∧ Does (.pushAbort q false) s (fun b => b.qm = s.body.qm) ∧
    ∀ c, Does (.qRel q c false) s (fun b => b.qm = s.body.qm))

/-- FLUSH returns every cell of the queue, sets FLUSHED, counts it, and leaves other queues and every other register. SWAP
exchanges the banks of a PINGPONG queue only while the sending bank is empty and the filling bank is not. DROP_FILL empties the
filling bank alone. QUEUE_TIMEOUT of a running timer that has counted a non-zero TIMEOUT in steps of 10 µs sets TIMEOUT and bit
q of QM.TO, and stops the timer of a queue the runtime does not report; of any other timer it changes nothing. A write of Q_LIM
takes both fields, or neither when RESERVE exceeds QUOTA, QUOTA the pool, or the reserves would exceed the pool. A write of
Q_CFG takes TIMEOUT, judged against the running timer at once, and BANK_CELLS from 1 to 64 only of an empty PINGPONG queue.
(R381, R382, R384, R386, R387, R388) -/
def Obligations.QueuesFlushSwapAndTimeOut : Prop :=
  ∀ (s : State) (q v : Nat), powered s.body = true → q < 32 →
  Does (.flush q false) s (fun b => (queueOf b q).cells = [] ∧ (queueOf b q).timer = none ∧ b.flag QM.Q_FLAG.FLUSHED q = true ∧
    b.get QM.Q_CNT.FLUSHES q = min (s.body.get QM.Q_CNT.FLUSHES q + 1) 0xFFFF ∧ (∀ p, p ≠ q → queueOf b p = queueOf s.body p) ∧
    RegsKept (fun a => a = QM.Q_FLAG.word.at q 0 ∨ a = QM.Q_CNT.word.at q 0) s.body b ∧ b.mem = s.body.mem) ∧
  (s.body.get QM.Q_CFG.ORG q = 1 → (queueOf s.body q).items = [] → (queueOf s.body q).fill ≠ [] → Does (.swap q false) s (fun b =>
    (queueOf b q).items = (queueOf s.body q).fill ∧ (queueOf b q).fill = [] ∧ b.flag QM.Q_FLAG.BANK q = !s.body.flag QM.Q_FLAG.BANK q)) ∧
  ((queueOf s.body q).items ≠ [] ∨ (queueOf s.body q).fill = [] ∨ s.body.get QM.Q_CFG.ORG q = 0 → Does (.swap q false) s (fun b =>
    b.qm = s.body.qm ∧ RegsKept (fun _ => False) s.body b)) ∧
  (s.body.get QM.Q_CFG.ORG q = 1 → Does (.dropFill q false) s (fun b => (queueOf b q).fill = [] ∧ (queueOf b q).items = (queueOf s.body q).items ∧
    (∀ p, p ≠ q → queueOf b p = queueOf s.body p))) ∧
  ((∀ t, (queueOf s.body q).timer = some t → s.body.get QM.Q_CFG.TIMEOUT q = 0 ∨ s.body.clock.cyc < t + 260 * s.body.get QM.Q_CFG.TIMEOUT q) →
    Does (.queueTimeout q) s (fun b => b.qm = s.body.qm ∧ RegsKept (fun _ => False) s.body b)) ∧
  (∀ t, (queueOf s.body q).timer = some t → s.body.get QM.Q_CFG.TIMEOUT q ≠ 0 → t + 260 * s.body.get QM.Q_CFG.TIMEOUT q ≤ s.body.clock.cyc →
    Does (.queueTimeout q) s (fun b => b.flag QM.Q_FLAG.TIMEOUT q = true ∧ b.bit QM.TO.FIRED q = true ∧
      (reported q = false → (queueOf b q).timer = none ∧ qUsed b q = qUsed s.body q))) ∧
  (let others := (((List.range 32).filter (· ≠ q)).map fun p => s.body.get QM.Q_LIM.RESERVE p).sum
   let quota := v % 2 ^ 16
   let res := v / 2 ^ 16 % 2 ^ 16
   (res ≤ quota → quota ≤ 16384 → others + res ≤ 16384 → Does (.qLimWrite q v) s (fun b => b.get QM.Q_LIM.QUOTA q = quota ∧
     b.get QM.Q_LIM.RESERVE q = res ∧ b.qm = s.body.qm)) ∧
   (quota < res ∨ 16384 < quota ∨ 16384 < others + res → Does (.qLimWrite q v) s (fun b =>
     b.word (QM.Q_LIM.word.at q 0) = s.body.word (QM.Q_LIM.word.at q 0) ∧ b.qm = s.body.qm))) ∧
  Does (.qCfgWrite q v) s (fun b => b.get QM.Q_CFG.TIMEOUT q = v / 2 ^ 16 % 2 ^ 16 ∧ b.get QM.Q_CFG.ORG q = s.body.get QM.Q_CFG.ORG q ∧
    (b.get QM.Q_CFG.BANK_CELLS q =
      (if s.body.get QM.Q_CFG.ORG q = 1 ∧ qUsed s.body q = 0 ∧ 1 ≤ v / 2 ^ 8 % 2 ^ 7 ∧ v / 2 ^ 8 % 2 ^ 7 ≤ 64 then v / 2 ^ 8 % 2 ^ 7
       else s.body.get QM.Q_CFG.BANK_CELLS q)) ∧
    ((queueOf s.body q).timer = none → b.qm = s.body.qm) ∧
    (∀ t, (queueOf s.body q).timer = some t → v / 2 ^ 16 % 2 ^ 16 ≠ 0 → t + 260 * (v / 2 ^ 16 % 2 ^ 16) ≤ s.body.clock.cyc →
      b.flag QM.Q_FLAG.TIMEOUT q = true))

/-- At an LFXO edge that arrives while the domain runs, RAW advances by 1 modulo 2^48, TICK by 1 plus a pending delta, ADJ_SUM
by the delta, and nothing stays pending; every armed alarm at or below TICK disarms and sets FIRED, with LATE when TICK exceeds
it and OFF without main power; a later alarm stays armed. TICK_DELTA is that edge when a delta waits and nothing otherwise. With
the domain out of reset GO takes a delta whose result fits 48 bits when none waits, and otherwise sets REJ and changes no
counter; with the domain in reset it changes nothing. A read of TICK_LO freezes the other words. PERIODIC_WAKE sets PWAKE at the
edge that completes a multiple of PER_S seconds since PER_S was written, and is nothing at any other. (R423, R424, R425, R427,
R430, R431, R432, R433, R436) -/
def Obligations.AlwaysOnCounterAndAlarms : Prop :=
  ∀ (s : State),
  (s.body.flag AON.STAT.LFXO_RUN = true → s.body.aon.held = false →
    let δ : Int := s.body.aon.pend.getD 0
    let tick := (((s.body.aon.tick : Int) + 1 + δ) % (2 ^ 48 : Nat)).toNat
    let P := fun (b : Body) => b.aon.tick = tick ∧ b.aon.raw = (s.body.aon.raw + 1) % 2 ^ 48 ∧ b.aon.adj = s.body.aon.adj + δ ∧
      b.aon.pend = none ∧ ∀ i, i < 4 → s.body.flag AON.ALM_CTL.ARM i = true →
        (almVal s.body i ≤ tick → b.flag AON.ALM_CTL.ARM i = false ∧ b.flag AON.ALM_CTL.FIRED i = true ∧
          (almVal s.body i < tick → b.flag AON.ALM_CTL.LATE i = true) ∧ (mainPower s.body = false → b.flag AON.ALM_CTL.OFF i = true)) ∧
        (tick < almVal s.body i → b.flag AON.ALM_CTL.ARM i = true)
    Does .alarmFire s P ∧ (s.body.aon.pend ≠ none → Does .tickDelta s P)) ∧
  (s.body.aon.pend = none → Does .tickDelta s (fun b => b.aon = s.body.aon ∧ RegsKept (fun _ => False) s.body b)) ∧
  (powered s.body = true →
    (let d := sgn 48 (s.body.get AON.ADJ_LO.DELTA + s.body.get AON.ADJ_HI.DELTA * 2 ^ 32)
     let fits := s.body.aon.pend = none ∧ 0 ≤ (s.body.aon.tick : Int) + 1 + d ∧ (s.body.aon.tick : Int) + 1 + d < (2 ^ 48 : Nat)
     (s.body.aon.held = false → fits → Does .adjCmdGo s (fun b =>
       b.aon.pend = some d ∧ b.aon.tick = s.body.aon.tick ∧ b.flag AON.STAT.ADJ_PEND = true)) ∧
     (s.body.aon.held = false → ¬ fits → Does .adjCmdGo s (fun b => b.aon = s.body.aon ∧ b.flag AON.ADJ_STAT.REJ = true)) ∧
     (s.body.aon.held = true → Does .adjCmdGo s (fun b => b.aon = s.body.aon ∧ RegsKept (fun _ => False) s.body b))) ∧
    Does .tickLoRead s (fun b => b.bus = some (s.body.aon.tick % 2 ^ 32) ∧ b.get AON.TICK_HI.TICK = s.body.aon.tick / 2 ^ 32 % 2 ^ 16 ∧
      b.get AON.RAW_LO.RAW = s.body.aon.raw % 2 ^ 32 ∧ b.get AON.RAW_HI.RAW = s.body.aon.raw / 2 ^ 32 % 2 ^ 16 ∧ b.aon = s.body.aon)) ∧
  (let x := (s.body.aon.raw + 2 ^ 48 - s.body.aon.pwakeRaw) % 2 ^ 48
   let p := s.body.get AON.PWAKE.PER_S * 32768
   (p ≠ 0 → (x + 1) % p = 0 → s.body.flag AON.STAT.LFXO_RUN = true → s.body.aon.held = false → Does .periodicWake s (fun b =>
     b.flag AON.STAT.PWAKE = true ∧ b.aon.raw = (s.body.aon.raw + 1) % 2 ^ 48)) ∧
   (p = 0 ∨ (x + 1) % p ≠ 0 → Does .periodicWake s (fun b => b.aon = s.body.aon ∧ RegsKept (fun _ => False) s.body b)))

/-- While CCLK is locked, TICK_CHECK in state LOCKED with no delta pending asks for the delta that brings TICK to network time
when they differ by more than 100 ms, or when LFXO has stopped since the last one; otherwise it changes nothing. LEAP_APPLY adds
or takes one second of UTC_OFS as LEAP flags it, clears LEAP and leaves TICK. A cell test stores its result and sets LOW below
1,100 mV and ABSENT below 500 mV; one on command replaces the next daily one. While the domain is held in reset none of these
changes anything. DOMAIN_RESET sets OSF, zeroes TICK, RAW and ADJ_SUM, drops a pending delta and puts each AON register at its
reset value, but for the bits that show the supply, the oscillator and the open cover; every register outside AON and every byte
of memory keep their value. DOMAIN_RESET_RELEASE lets the domain run again and, with the cover closed, changes no register.
(R426, R428, R438, R45, R422, R436, R437, R439) -/
def Obligations.CalendarRetentionAndDomainReset : Prop :=
  (∀ (s : State) (mv : Nat), powered s.body = true →
  let diff : Int := (netTicks s.body : Int) - s.body.aon.tick
  let runs := s.body.flag SYS.CLK_STAT.CCLK_LOCK = true ∧ s.body.aon.held = false
  (runs → s.body.get TB.STAT.STATE = 3 → s.body.aon.pend = none → netTicks s.body < 2 ^ 47 → s.body.aon.tick < 2 ^ 47 →
    (32768 < 10 * diff.natAbs → osfOpen s.body = false → Does .tickCheck s (fun b => b.aon.pend = some diff ∧ b.aon.tick = s.body.aon.tick)) ∧
    (osfOpen s.body = true → ntv s.body = true → Does .tickCheck s (fun b => b.aon.pend = some diff ∧ b.aon.tick = s.body.aon.tick ∧ b.aon.osfFix = 1)) ∧
    (10 * diff.natAbs ≤ 32768 → osfOpen s.body = false → Does .tickCheck s (fun b => b.aon = s.body.aon ∧ RegsKept (fun _ => False) s.body b))) ∧
  (s.body.get TB.STAT.STATE ≠ 3 → Does .tickCheck s (fun b => b.aon = s.body.aon ∧ RegsKept (fun _ => False) s.body b)) ∧
  (runs → s.body.get AON.UTC_OFS.LEAP = 1 → Does .leapApply s (fun b => b.get AON.UTC_OFS.OFS = (s.body.get AON.UTC_OFS.OFS + 1) % 2 ^ 16 ∧
    b.get AON.UTC_OFS.LEAP = 0 ∧ b.aon = s.body.aon)) ∧
  (runs → s.body.get AON.UTC_OFS.LEAP = 2 → Does .leapApply s (fun b => b.get AON.UTC_OFS.OFS = (s.body.get AON.UTC_OFS.OFS + 65535) % 2 ^ 16 ∧
    b.get AON.UTC_OFS.LEAP = 0 ∧ b.aon = s.body.aon)) ∧
  (s.body.get AON.UTC_OFS.LEAP = 0 → Does .leapApply s (fun b => RegsKept (fun _ => False) s.body b)) ∧
  (mv < 4096 → s.body.aon.held = false →
    let P := fun (b : Body) => b.get AON.CELL.MV = mv ∧ b.flag AON.CELL.LOW = decide (mv < 1100) ∧ b.flag AON.CELL.ABSENT = decide (mv < 500) ∧
      RegsKept (· = AON.CELL.word.addr) s.body b
    Does (.cellTestCmd mv) s (fun b => P b ∧ b.aon.tested = true) ∧
    (s.body.aon.tested = false → Does (.cellTest mv) s P) ∧
    (s.body.aon.tested = true → Does (.cellTest mv) s (fun b => b.aon.tested = false ∧ RegsKept (fun _ => False) s.body b))) ∧
  (s.body.aon.held = true → ∀ c ∈ [Instr.tickCheck, .leapApply, .cellTest mv, .cellTestCmd mv],
    Does c s (fun b => b.aon = s.body.aon ∧ RegsKept (fun _ => False) s.body b))) ∧
  (∀ s : State,
  Does .domainReset s (fun b => b.aon.tick = 0 ∧ b.aon.raw = 0 ∧ b.aon.adj = 0 ∧ b.aon.pend = none ∧ b.aon.held = true ∧
    b.flag AON.STAT.OSF = true ∧ b.flag AON.TAMPER.OPEN = s.body.flag AON.TAMPER.OPEN ∧ b.flag AON.TAMPER.LATCH = false ∧
    (∀ a, inBlock 1 a → a ≠ AON.STAT.word.addr → a ≠ AON.TAMPER.word.addr → b.word a = BitVec.ofNat 32 (resetWord a)) ∧
    RegsKept (inBlock 1) s.body b ∧ MemKept s.body b) ∧
  (s.body.flag AON.TAMPER.OPEN = false → Does .domainResetRelease s (fun b => b.aon.held = false ∧ b.aon.tick = s.body.aon.tick ∧
    RegsKept (fun _ => False) s.body b ∧ MemKept s.body b)) ∧
  Does .domainResetRelease s (fun b => b.aon.held = false ∧ (s.body.flag AON.TAMPER.OPEN = true → b.flag AON.TAMPER.LATCH = true)))

/-- TXQ_ENTRY_STALE of port p discards each entry of its queue that has stood for 2^31 ns (TCXO runs at 26 MHz), keeps the
others in order, and sets TB.TXQ_STAT[p].STALE; with no such entry it changes nothing. The other queues stand. (R261) -/
def Obligations.StaleTransmitTimestampsAreDiscarded : Prop :=
  ∀ (s : State) (p : Nat), powered s.body = true → p < 3 →
  let old := fun (e : TxTs) => decide (2 ^ 31 * 26 ≤ (s.body.clock.cyc - e.at_) * 1000)
  ((txqOf s.body p).any old = true → Does (.txqEntryStale p) s (fun b => txqOf b p = (txqOf s.body p).filter (fun e => !old e) ∧
    b.flag TB.TXQ_STAT.STALE p = true ∧ (∀ r, r ≠ p → txqOf b r = txqOf s.body r) ∧ RegsKept (· = TB.TXQ_STAT.word.at p 0) s.body b)) ∧
  ((txqOf s.body p).any old = false → Does (.txqEntryStale p) s (fun b => b.tb = s.body.tb ∧ RegsKept (fun _ => False) s.body b))

/-- STEP_CMD.GO adds STEP_SEC and STEP_NS to network time, empties every transmit-timestamp queue with FLUSHED set and counts in
TB.STEPS. A read of TIME_CAP answers NS and freezes SEC and FRAC. A transmit timestamp enters its port queue of 8 with the
corrected time, or is dropped with OVF and counted; a read of TXQ_POP takes the oldest. While LFXO edges arrive, CORR_CAP with
NTV, and the automatic capture while AUTO and LOCKED, hold RAW and the network time of the next LFXO edge; without NTV or
without edges CORR_CAP changes no register. While CCLK is locked and the always-on domain is out of reset CORR_SAVE copies the
record to retention SRAM and marks it valid. (R248, R255, R259, R260, R262, R265, R267, R268) -/
def Obligations.NetworkTimeStepsAndCaptures : Prop :=
  ∀ (s : State) (p mt seq : Nat), powered s.body = true → p < 3 →
  (let d := sgn 32 (s.body.get TB.STEP_SEC.SEC) * 10 ^ 9 + sgn 32 (s.body.get TB.STEP_NS.NS)
   (sgn 32 (s.body.get TB.STEP_NS.NS)).natAbs < 10 ^ 9 → 0 ≤ (s.body.clock.net : Int) + d * 2 ^ 40 →
     (s.body.clock.net : Int) + d * 2 ^ 40 < (2 ^ 88 * 10 ^ 9 : Nat) →
     Does .timeStep s (fun b => (tnNs b : Int) = tnNs s.body + d ∧ b.tb.txq = [] ∧ (∀ r, r < 3 → b.flag TB.TXQ_STAT.FLUSHED r = true) ∧
       b.get TB.STEPS.COUNT = min (s.body.get TB.STEPS.COUNT + 1) 0xFFFF ∧ b.aon = s.body.aon)) ∧
  Does .timeCap s (fun b => b.bus = some (tNs s.body) ∧ b.get TB.TIME_SEC_LO.SEC_LO = tSec s.body % 2 ^ 32 ∧
    b.get TB.TIME_SEC_HI.SEC_HI = tSec s.body / 2 ^ 32 % 2 ^ 16 ∧ b.get TB.TIME_FRAC.FRAC = tFrac s.body ∧ b.clock = s.body.clock) ∧
  (s.body.flag TB.CTL.RUN = true → s.body.bit TB.CTL.PORT_EN p = true →
    ((txqOf s.body p).length < 8 → Does (.txTimestamp p mt seq) s (fun b => ∃ e, txqOf b p = txqOf s.body p ++ [e] ∧
      e.id = mt % 16 * 4096 + seq % 4096 ∧
      (e.ts : Int) = ((tnNs s.body * 1000 : Nat) + sgn 32 (s.body.get TB.EGR_LAT.PS p) + 500) / 1000 % (2 ^ 32 : Nat))) ∧
    (8 ≤ (txqOf s.body p).length → Does (.txTimestamp p mt seq) s (fun b => b.tb = s.body.tb ∧ b.flag TB.TXQ_STAT.OVF p = true ∧
      b.get TB.TXQ_STAT.DROPPED p = (s.body.get TB.TXQ_STAT.DROPPED p + 1) % 2 ^ 16))) ∧
  (∀ e t, txqOf s.body p = e :: t → Does (.txqPop p) s (fun b => b.bus = some (2 ^ 31 + e.id) ∧ txqOf b p = t ∧
    b.get TB.TXQ_TS.TS32 p = e.ts % 2 ^ 32)) ∧
  (txqOf s.body p = [] → Does (.txqPop p) s (fun b => b.bus = some 0 ∧ b.tb = s.body.tb)) ∧
  (let P := fun (b : Body) => b.flag TB.CORR_CTL.VALID = true ∧ b.aon.raw = (s.body.aon.raw + 1) % 2 ^ 48 ∧
      b.get TB.CORR_TICK_LO.TICK + b.get TB.CORR_TICK_HI.TICK * 2 ^ 32 = b.aon.raw ∧ b.get TB.CORR_NS.NS = edgeNs b % 10 ^ 9 ∧
      b.get TB.CORR_SEC_LO.SEC = edgeNs b / 10 ^ 9 % 2 ^ 32 ∧ edgeNs b ≤ tnNs b ∧ b.aon.corr = s.body.aon.corr
   (s.body.flag AON.STAT.LFXO_RUN = true → s.body.aon.held = false → (ntv s.body = true → Does .corrCap s P) ∧
     (s.body.flag TB.CORR_CTL.AUTO = true → s.body.get TB.STAT.STATE = 3 → s.body.tb.stepSec ≠ some (tSec s.body) → Does .corrAutoCapture s P))) ∧
  (ntv s.body = false ∨ s.body.flag AON.STAT.LFXO_RUN = false ∨ s.body.aon.held = true →
    Does .corrCap s (fun b => RegsKept (fun _ => False) s.body b)) ∧
  (s.body.flag SYS.CLK_STAT.CCLK_LOCK = true → s.body.aon.held = false → s.body.flag TB.CORR_CTL.VALID = true → Does .corrSave s (fun b =>
    b.get AON.RET_TAG.TAG = 0x4B414F4E ∧ b.aon.corr = some ((corrNow s.body).1, (corrNow s.body).2, s.body.get TB.RTC_RATE.RATE)))

/-- While CCLK is locked: the first Announce of the acquisition window that keeps to the profile is followed, and its offset
to UTC kept. With a master followed a master port sends Sync, with Follow_Up when its transmit time has room in the queue,
answers Delay_Req, and in a boundary clock sends Announce one step further; without one it never acts as grandmaster.
DELAY_REQ_SEND starts an exchange from the slave port, but none from a blocked one in an ordinary clock. A completed
exchange gives the mean path delay, and an accepted pair an offset: in FREE or RTC it steps to ACQUIRE, else a small one
sets ADJ_FREQ by the servo and leaves the time. Sync loss moves ACQUIRE and LOCKED to HOLDOVER, whose expiry, and a valid
seed at the window close, give RTC. (R246, R249, R250, R253, R257, R258, R260, R263, R264, R269, R399) -/
def Obligations.PtpFollowsTheMasterOfTheNetwork : Prop :=
  ∀ (s : State) (p : Nat) (a : AnnounceMsg) (m : SyncPair) (r : DelayResp) (q : DelayReq), powered s.body = true →
  s.body.flag SYS.CLK_STAT.CCLK_LOCK = true → p < 2 →
  let dom := s.body.get TB.CTL.DOMAIN
  let int := sgn 4 (s.body.get TB.CTL.LOG_SYNC)
  let n := s.body.tb.seqSync
  (a.profile = true → ptpOn s.body p dom true = true → a.steps < 255 → a.srcId ≠ clockId s.body → s.body.tb.window = true →
    s.body.tb.parent = none → s.body.tb.foreign = [] → seamTime s.body = false → Does (.announce p dom a) s (fun b => b.tb.parent = some a ∧
      b.get TB.STAT.SLAVE_PORT = p ∧ (s.body.aon.held = false → b.get AON.UTC_OFS.OFS = a.utcOffset % 2 ^ 16))) ∧
  (s.body.tb.parent = none → Does (.announceSend p) s (fun b => b.out = s.body.out) ∧ Does (.syncSend p) s (fun b => b.out = s.body.out)) ∧
  (portMaster s.body p = true →
    ((∀ e ∈ txqOf s.body p, e.id ≠ n % 4096) →
      ((txqOf s.body p).length < 8 → Does (.syncSend p) s (fun b => b.out = s.body.out ++ [.ptp p dom (.sync n int),
        .ptp p dom (.followUp n (outStamp s.body p).toNat int)])) ∧
      (8 ≤ (txqOf s.body p).length → Does (.syncSend p) s (fun b => b.out = s.body.out ++ [.ptp p dom (.sync n int)] ∧
        b.flag TB.TXQ_STAT.OVF p = true))) ∧
    (s.body.tb.parent = some a → Does (.announceSend p) s (fun b => b.out = s.body.out ++
      [.ptp p dom (.announce s.body.tb.seqAnn 0 { a with steps := a.steps + 1, srcId := clockId s.body, srcPort := p + 1 })])) ∧
    (q.profile = true → ptpOn s.body p q.domain true = true → q.port = p → q.queuedMs ≤ 2000 → Does (.delayReq q) s (fun b => b.out = s.body.out ++
      [.ptp p dom (.delayResp q.seq q.reqId q.reqPort (extendTs s.body q.rx).toNat q.corr (sgn 4 (s.body.get TB.CTL.LOG_DREQ)))]))) ∧
  (s.body.get TB.STAT.SLAVE_PORT = p → s.body.flag TB.CTL.RUN = true → s.body.bit TB.CTL.PORT_EN p = true →
    (s.body.flag SW.PORT_STAT.BLOCKED p = false ∨ s.body.flag TB.CTL.BC = true → Does .delayReqSend s (fun b =>
      b.out = s.body.out ++ [.ptp p dom (.delayReq s.body.tb.seqDelay)] ∧ b.tb.dreq = some ⟨s.body.tb.seqDelay, none, s.body.tb.lastSync⟩)) ∧
    (s.body.flag SW.PORT_STAT.BLOCKED p = true → s.body.flag TB.CTL.BC = false → Does .delayReqSend s (fun b =>
      b.out = s.body.out ∧ b.tb = s.body.tb))) ∧
  (∀ t1 t2 c t3, r.profile = true → ptpOn s.body r.port r.domain true = true → fromParent s.body r.port r.srcId r.srcPort = true →
    r.reqId = clockId s.body → r.reqPort = r.port + 1 → s.body.tb.dreq = some ⟨r.seq, some t3, some (t1, t2, c)⟩ →
    Does (.delayResp r) s (fun b => b.tb.dreq = none ∧
      b.tb.mpd = some (Int.tdiv (t2 - t1 - c + (r.t4 - t3 - r.corr)) 2) ∧ RegsKept (fun _ => False) s.body b)) ∧
  (m.profile = true → ptpOn s.body m.port m.domain true = true → fromParent s.body m.port m.srcId m.srcPort = true →
    (2000 < m.queuedMs → Does (.syncFollowUp m) s (fun b => b.tb = s.body.tb ∧ b.clock = s.body.clock)) ∧
    (∀ mpd, m.queuedMs ≤ 2000 → s.body.tb.mpd = some mpd →
      let o := extendTs s.body m.rx - m.t1 - m.corr - mpd - Int.tdiv (sgn 32 (s.body.get TB.ASYM.PS m.port)) 1000
      let slew : Int := s.body.get TB.STEP_LIM.SLEW_PPM * 1000
      let i := max (-slew) (min slew (s.body.tb.servoI - Int.tdiv (s.body.get TB.SERVO.KI * o) 65536))
      let adj := max (-slew) (min slew (i - Int.tdiv (s.body.get TB.SERVO.KP * o) 65536))
      (s.body.get TB.STAT.STATE ≤ 1 → Does (.syncFollowUp m) s (fun b => b.get TB.STAT.STATE = 2 ∧ ntv b = true ∧ b.tb.txq = [])) ∧
      (2 ≤ s.body.get TB.STAT.STATE → o.natAbs ≤ s.body.get TB.STEP_LIM.STEP_US * 1000 → s.body.get TB.STEP_LIM.SLEW_PPM ≤ 1000 →
        Does (.syncFollowUp m) s (fun b => b.clock = s.body.clock ∧ b.tb.servoI = i ∧ sgn 32 (b.get TB.ADJ_FREQ.ADJ) = 1024 * adj)))) ∧
  (s.body.get TB.STAT.STATE = 2 ∨ s.body.get TB.STAT.STATE = 3 → Does .syncTimeout s (fun b => b.get TB.STAT.STATE = 4 ∧ ntv b = true)) ∧
  (∀ t, s.body.get TB.STAT.STATE = 4 → s.body.sha.holdAt = some t → (t + 26000 * 60000 * s.body.get TB.LIMITS.HOLD_MIN ≤ s.body.clock.cyc →
      Does .holdoverExpiry s (fun b => b.get TB.STAT.STATE = 1 ∧ ntv b = false ∧ rtcv b = true)) ∧
    (s.body.clock.cyc < t + 26000 * 60000 * s.body.get TB.LIMITS.HOLD_MIN → Does .holdoverExpiry s (fun b => b.get TB.STAT.STATE = 4))) ∧
  (s.body.tb.window = true → s.body.get TB.STAT.STATE = 0 →
    (rtcSeed s.body = none → Does .timeAcqWindowClose s (fun b => b.tb.window = false ∧ b.get TB.STAT.STATE = 0)) ∧
    (∀ ns, rtcSeed s.body = some ns → ns < 2 ^ 48 * 10 ^ 9 → Does .timeAcqWindowClose s (fun b =>
      b.get TB.STAT.STATE = 1 ∧ rtcv b = true ∧ tnNs b = ns)))

/-- For channel n, CE running in a module that runs rules and factors of at most 65,536, COMPOSITION completes and sets LVL_OUT and
SRC from the inputs of the state c in which the composition started: under an emergency that takes in n, EMERG_LVL derated, 1;
else in hem, HEM_LVL derated, 2; else under an override, its level through the budget with floor 0 and then derated, 3; else the
larger of rule and light-ahead level, by the daylight factor when LUX_SET is above 0, through the budget with the rule floor,
derated, and lifted to the derated floor, with 5 when light-ahead exceeds the rule level and 4 otherwise. round16(x) is (x +
32,768) / 65,536. (R166, R169) -/
def Obligations.LevelsComposeInTheOrderOfR166 : Prop :=
  ∀ (s c : State) (n : Nat) (w : Why) (ws : List Why) (rest : List Job), powered s.body = true → s.body.flag CE.CTL.RUN = true →
  runsRules s.body = true → s.body.ce.jobs = ⟨[n], w, none, [took c.body n ws]⟩ :: rest → w ≠ .refresh → w ≠ .stretch → n < chanCnt s.body → n < 512 →
  c.body.get CE.DERATE.FACTOR n ≤ 65536 → c.body.get CE.DL.DL_FACTOR n ≤ 65536 → c.body.get CE.BUDGET.FACTOR n ≤ 65536 →
  let r16 := fun (x : Nat) => (x + 32768) / 65536
  let bud := fun (l f : Nat) => if l ≤ f then l else f + r16 ((l - f) * c.body.get CE.BUDGET.FACTOR n)
  let d := c.body.get CE.DERATE.FACTOR n
  let rule := c.body.get CE.LVL_TGT.RULE_LVL n
  let la := c.body.get CE.OUT.LA_LVL n
  let floor := c.body.get CE.CCT_FLR.RULE_FLOOR n
  let hiL := max rule la
  let day := if luxSet c.body n = 0 then hiL else r16 (hiL * c.body.get CE.DL.DL_FACTOR n)
  Does .composition s (fun b =>
    (b.get CE.OUT.LVL_OUT n, b.get CE.CH_STAT.SRC n) =
      (if c.body.flag CE.STAT.EMERG_ACTIVE = true ∧ c.body.flag CE.SAFE_CFG.EMERGENCY n = true then (r16 (c.body.get CE.SAFE.EMERG_LVL n * d), 1)
       else if c.body.flag SAFE.STAT.HEM = true then (r16 (c.body.get CE.SAFE.HEM_LVL n * d), 2)
       else if c.body.flag CE.CH_STAT.OVR n = true then (r16 (bud (c.body.get CE.OVR.OVERRIDE_LVL n) 0 * d), 3)
       else (max (r16 (bud day floor * d)) (r16 (floor * d)), if rule < la then 5 else 4)))

/-- LIGHT_AHEAD completes: it takes its event, raises LA_LVL and LA_EXP of its channel and asks for a composition. LEVEL_EVENT
and HOST_LEVEL_EVENT complete and set RULE_LVL and RULE_PRESET of every channel they name; OVERRIDE and HOST_OVERRIDE complete
and start or end the override of each; of inputs that wait together those at the ports that R167 puts before it apply first. An
invalid payload of any of the five only adds to BAD_EVENT when nothing waits there. CHANNEL_REPORT completes: CAPABILITY stores
what the node can do; STATUS stores a lux value in range and counts one out of it; its second half stores the measured CCT.
LVL_TGT_WRITE and SAFE_LVL_WRITE complete and store their fields, and ask for a composition; the latter makes a CONFIG frame
due. A write from a core clocks the gated domain, and a request stops a self-test slice of CE that runs. (R76, R167, R177, R178,
R179, R180, R195, R210, R318, R566) -/
def Obligations.ChannelEventsSetLevels : Prop :=
  ∀ (s : State) (e : Ev) (rest : List (Nat × Ev)) (ns : List Nat) (n v : Nat), powered s.body = true → n < 512 → (∀ m ∈ ns, m < 512) →
  let p := e.payload
  let h := hostPayload s.body
  let only := fun (own : Nat) (b : Body) => s.body.get SAFE.SLICE.ABORTS 1 ≠ 15 →
    RegsKept (fun a => a = own ∨ a = SAFE.SLICE.word.at 1 0 ∨ a = SYS.CLK_STAT.word.addr) s.body b
  let first := fun (ports : List Nat) => ∀ x ∈ s.body.ce.inbox, x.1 ∉ ports
  let isBad := fun (b : Body) => b.get CE.COUNT.BAD_EVENT = min (s.body.get CE.COUNT.BAD_EVENT + 1) 0xFFFF ∧
    RegsKept (fun a => a = CE.COUNT.word.addr ∨ a = SYS.CLK_STAT.word.addr) s.body b ∧ b.ce.jobs = s.body.ce.jobs ∧ b.ce.chans = s.body.ce.chans
  let lvl := fun (q : Nat) (b : Body) => (∀ m ∈ ns, b.get CE.LVL_TGT.RULE_LVL m = q % 2 ^ 16 ∧ b.get CE.LVL_TGT.RULE_PRESET m = q / 2 ^ 48 % 16) ∧
    b.ce.jobs ≠ s.body.ce.jobs
  let ovr := fun (q : Nat) (b : Body) => ∀ m ∈ ns, b.flag CE.CH_STAT.OVR m = decide (q / 2 ^ 30 % 2 = 1) ∧
    (q / 2 ^ 30 % 2 = 1 → b.get CE.OVR.OVERRIDE_LVL m = q % 2 ^ 16 ∧ (chanOf b m).ovrEnd =
      if q / 2 ^ 32 % 2 ^ 16 = 0 then none else some (s.body.clock.cyc + 26000 * (q / 2 ^ 32 % 2 ^ 16 * 60000)))
  let good := fun (q : Nat) => q / 2 ^ 31 % 2 = 0 ∧ q / 2 ^ 52 % 2 ^ 12 = 0 ∧ targets s.body (q / 2 ^ 16 % 2 ^ 12) (q / 2 ^ 28 % 4) = some ns
  let bad := fun (q : Nat) => q / 2 ^ 31 % 2 = 1 ∨ q / 2 ^ 52 % 2 ^ 12 ≠ 0 ∨ targets s.body (q / 2 ^ 16 % 2 ^ 12) (q / 2 ^ 28 % 4) = none
  (takePort 0 s.body.ce.inbox = some (e, rest) →
    (p / 2 ^ 28 % 16 = 0 → p / 2 ^ 16 % 2 ^ 12 = n → n < chanCnt s.body → Does .lightAhead s (fun b => b.ce.inbox = rest ∧
      b.get CE.OUT.LA_LVL n = max (p % 2 ^ 16) (if tnNs s.body < (chanOf s.body n).laExp then s.body.get CE.OUT.LA_LVL n else 0) ∧
      (chanOf b n).laExp = max (if tnNs s.body < (chanOf s.body n).laExp then (chanOf s.body n).laExp else 0)
        (tnNs s.body + (p / 2 ^ 32 % 2 ^ 16 + p / 2 ^ 48 % 2 ^ 8 * 100) * 1000000) ∧ b.ce.jobs ≠ s.body.ce.jobs ∧
      only (CE.OUT.word.at n 0) b)) ∧
    (p / 2 ^ 28 % 16 ≠ 0 ∨ chanCnt s.body ≤ p / 2 ^ 16 % 2 ^ 12 → Does .lightAhead s isBad)) ∧
  (takePort 1 s.body.ce.inbox = some (e, rest) → (good p → Does .levelEvent s (lvl p)) ∧
    (bad p → first [0, 2] → Does .levelEvent s isBad)) ∧
  (takePort 2 s.body.ce.inbox = some (e, rest) → (good p → Does .override s (ovr p)) ∧
    (bad p → first [0] → Does .override s isBad)) ∧
  (good h → Does .hostLevelEvent s (lvl h) ∧ Does .hostOverride s (ovr h)) ∧
  (bad h → first [0, 1, 2] → Does .hostLevelEvent s isBad ∧ Does .hostOverride s isBad) ∧
  (takePort 3 s.body.ce.inbox = some (e, rest) → p % 2 ^ 12 = n + 1 → n < chanCnt s.body →
    (e.tag = 2 → p / 2 ^ 22 % 2 ^ 10 = 0 → Does .channelReport s (fun b => b.get CE.NODE_CAP.PWM_BITS n = p / 2 ^ 12 % 32 ∧
      b.get CE.NODE_CAP.SENSE n = p / 2 ^ 17 % 32 ∧ b.get CE.NODE_CAP.MIN_ON_NS n = p / 2 ^ 32 % 2 ^ 16)) ∧
    (e.tag = 1 → p / 2 ^ 60 % 2 ^ 4 = 0 → s.body.get CE.NODE_CAP.SENSE n / 4 % 2 = 1 → Does .channelReport s (fun b =>
      (chanOf b n).cctMeas = some (p / 2 ^ 12 % 2 ^ 16) ∧ RegsKept (fun _ => False) s.body b)) ∧
    (e.tag = 0 → p / 2 ^ 19 % 2 = 0 → p / 2 ^ 61 % 8 = 0 → s.body.get CE.NODE_CAP.SENSE n / 2 % 2 = 1 →
      (p / 2 ^ 20 % 2 ^ 18 ≤ 200000 → Does .channelReport s (fun b => b.get CE.REP_A.LUX n = p / 2 ^ 20 % 2 ^ 18)) ∧
      (200000 < p / 2 ^ 20 % 2 ^ 18 → Does .channelReport s (fun b => b.get CE.REP_A.LUX n = s.body.get CE.REP_A.LUX n ∧
        min (s.body.get CE.COUNT.RANGE + 1) 0xFFFF ≤ b.get CE.COUNT.RANGE)))) ∧
  Does (.lvlTgtWrite n v) s (fun b => b.get CE.LVL_TGT.RULE_LVL n = v % 2 ^ 16 ∧ b.get CE.LVL_TGT.RULE_PRESET n = v / 2 ^ 16 % 16 ∧
    (first [0, 1, 2] → only (CE.LVL_TGT.word.at n 0) b ∧
      (n < chanCnt s.body → ∃ got, b.ce.jobs = s.body.ce.jobs ++ [⟨[n], .rule, none, got⟩]))) ∧
  Does (.safeLvlWrite n v) s (fun b => b.get CE.SAFE.EMERG_LVL n = v % 2 ^ 16 ∧ b.get CE.SAFE.HEM_LVL n = v / 2 ^ 16 % 2 ^ 16 ∧
    only (CE.SAFE.word.at n 0) b ∧ (n < chanCnt s.body → b.air.configDue = s.body.air.configDue ++ [n + 1] ∧
      ∃ got, b.ce.jobs = s.body.ce.jobs ++ [⟨[n], .rule, none, got⟩]))

/-- LA_EXPIRY of a light-ahead entry whose LA_EXP has come completes: it clears the entry and asks for a composition with
LA_PRESET. OVERRIDE_TIMEOUT of an override whose end has come completes and ends it. CHANNEL_REFRESH of a channel sent nothing
for the smaller of REFRESH_S and a quarter of HOLD_T_S, and STRETCH of one whose on-time is too short and whose last STRETCH is
STRETCH_MIN old, complete and ask for the command. REPORT_STALE of a channel whose report is STALE_S old and VERIFY_EXPIRED
complete with bits 5 and 4 of DIAG, the latter exactly while the level is 0 or the last verification is too old. Each completes
and changes nothing of CE before its time. None of them changes a rule level or LVL_OUT. (R176, R179, R180, R186, R194, R196,
R197) -/
def Obligations.ChannelTimersAskForCompositions : Prop :=
  ∀ (s : State) (n : Nat), powered s.body = true → n < 512 →
  let same := fun (b : Body) => ∀ m, b.get CE.LVL_TGT.RULE_LVL m = s.body.get CE.LVL_TGT.RULE_LVL m
  let rests := fun (b : Body) => b.ce = s.body.ce ∧ RegsKept (fun _ => False) s.body b
  let only := fun (own : Nat) (b : Body) => s.body.get SAFE.SLICE.ABORTS 1 ≠ 15 →
    RegsKept (fun a => a = own ∨ a = SAFE.SLICE.word.at 1 0 ∨ a = SYS.CLK_STAT.word.addr) s.body b
  let job := fun (w : Why) (b : Body) => ∃ got, b.ce.jobs = s.body.ce.jobs ++ [⟨[n], w, none, got⟩]
  ((chanOf s.body n).laExp ≠ 0 ∧ (chanOf s.body n).laExp ≤ tnNs s.body → Does (.laExpiry n) s (fun b =>
    b.get CE.OUT.LA_LVL n = 0 ∧ (chanOf b n).laExp = 0 ∧ job .laEnd b ∧ only (CE.OUT.word.at n 0) b)) ∧
  (tnNs s.body < (chanOf s.body n).laExp → Does (.laExpiry n) s rests) ∧
  (∀ t, s.body.flag CE.CH_STAT.OVR n = true → (chanOf s.body n).ovrEnd = some t → t ≤ s.body.clock.cyc → Does (.overrideTimeout n) s (fun b =>
    b.flag CE.CH_STAT.OVR n = false ∧ job .rule b ∧ only (CE.CH_STAT.word.at n 0) b)) ∧
  (((chanOf s.body n).ovrEnd.all fun t => decide (s.body.clock.cyc < t)) = true → Does (.overrideTimeout n) s rests) ∧
  (n < chanCnt s.body →
    (refreshDue s.body n = true → Does (.channelRefresh n) s (fun b => job .refresh b ∧
      only SYS.CLK_STAT.word.addr b)) ∧
    (refreshDue s.body n = false → Does (.channelRefresh n) s rests) ∧
    (needsStretch s.body n = true → stretchDue s.body n = true → Does (.stretch n) s (fun b => job .stretch b ∧
      (chanOf b n).stretchAt = some s.body.clock.cyc ∧ only SYS.CLK_STAT.word.addr b)) ∧
    (needsStretch s.body n = false ∨ stretchDue s.body n = false → Does (.stretch n) s rests) ∧
    (staleNow s.body n = true → Does (.reportStale n) s (fun b => b.bit CE.CH_STAT.DIAG 5 n = true ∧ same b ∧
      RegsKept (fun a => a = CE.CH_STAT.word.at n 0 ∨ a = SYS.CLK_STAT.word.addr) s.body b)) ∧
    (staleNow s.body n = false → Does (.reportStale n) s rests) ∧
    Does (.verifyExpired n) s (fun b => b.bit CE.CH_STAT.DIAG 4 n =
        (decide (s.body.get CE.OUT.LVL_OUT n = 0) || decide (s.body.get CE.DIAG_CTL.VERIFY_MAX * 60 < verifyAge s.body n)) ∧ same b ∧
      RegsKept (fun a => a = CE.CH_STAT.word.at n 0 ∨ a = SYS.CLK_STAT.word.addr) s.body b))

/-- With OFE running, PRESENCE completes and takes the oldest event of port 0; in a standby it changes nothing more. An
invalid payload counts in BAD_EVENT; one outside the time window in RANGE; STATE 1 of a stuck sensor in STUCK, and STATE 0
of one clears its mark; one without a token in RATE; STATE 1 below MIN_CONF in CONF; a change of STATE within the debounce
time of the last one is discarded; none of them but the cleared mark changes P. A repeated STATE past the filters refreshes
TA. A change of STATE past the debounce time sets P, TC and TA; with no live track, STATE 1 at a channel starts track 0
there with PREV 0x1FF, T_LAST its time, VQ = 16 V_BIRTH, class 0, one hit and the next serial. (R211, R213, R217, R218,
R219, R221, R224, R239) -/
def Obligations.PresencePassesTheFiltersInOrder : Prop :=
  ∀ (s : State) (e : Ev) (rest : List (Nat × Ev)), powered s.body = true → s.body.flag OFE.CTL.RUN = true →
  s.body.ofe.fifo = (0, e) :: rest → (runsRules s.body = false → Does .presence s (fun b =>
    b.ofe = { s.body.ofe with fifo := rest } ∧ RegsKept (fun _ => False) s.body b)) ∧ (runsRules s.body = true →
  let p := e.payload
  let u := p % 2 ^ 12
  let i := sensorIndex u
  let t := p / 2 ^ 32 % 2 ^ 32
  let st := decide (p / 2 ^ 16 % 2 = 1)
  let x := sensorOf s.body i
  let valid := p / 2 ^ 17 % 2 ^ 15 = 0 ∧ presenceUnit s.body u = true
  let tok := (tokensNow s.body x).1
  let sure := st = false ∨ s.body.get OFE.FILT.MIN_CONF ≤ p / 2 ^ 12 % 16
  let late := fun (o : Option Nat) => ∀ v, o = some v → (s.body.get OFE.FILT.DEBOUNCE * 65536 : Nat) ≤ 10 * sdiff t v
  let quiet := fun (b : Body) => b.ofe.fifo = rest ∧ (sensorOf b i).p = x.p ∧ b.ofe.tracks = s.body.ofe.tracks
  let c16 := fun (n : Nat) => min (n + 1) 0xFFFF
  (¬ valid → Does .presence s (fun b => quiet b ∧ b.get OFE.COUNT_C.BAD_EVENT = c16 (s.body.get OFE.COUNT_C.BAD_EVENT))) ∧
  (valid → inRange s.body t = false → Does .presence s (fun b => quiet b ∧ b.get OFE.COUNT_A.RANGE = c16 (s.body.get OFE.COUNT_A.RANGE))) ∧
  (valid → inRange s.body t = true → x.stuck = true → st = true → Does .presence s (fun b => quiet b ∧
    b.get OFE.COUNT_D.STUCK = c16 (s.body.get OFE.COUNT_D.STUCK))) ∧
  (valid → inRange s.body t = true → x.stuck = true → st = false → Does .presence s (fun b => b.ofe.fifo = rest ∧
    (sensorOf b i).stuck = false)) ∧
  (valid → inRange s.body t = true → x.stuck = false →
    (tok = 0 → Does .presence s (fun b => quiet b ∧ b.get OFE.COUNT_A.RATE = c16 (s.body.get OFE.COUNT_A.RATE))) ∧
    (0 < tok → ¬ sure → Does .presence s (fun b => quiet b ∧
      b.get OFE.COUNT_B.CONF = c16 (s.body.get OFE.COUNT_B.CONF) ∧ (sensorOf b i).tokens = tok - 1)) ∧
    (0 < tok → sure → st ≠ x.p → ¬ late x.tc → Does .presence s (fun b => quiet b ∧ (sensorOf b i).ta = x.ta)) ∧
    (0 < tok → sure → st = x.p → ¬ late x.ta → Does .presence s (fun b => quiet b ∧ (sensorOf b i).ta = some t)) ∧
    (0 < tok → sure → st ≠ x.p → late x.tc → Does .presence s (fun b => b.ofe.fifo = rest ∧
        (sensorOf b i).p = st ∧ (sensorOf b i).tc = some t ∧ (sensorOf b i).ta = some t ∧
        (st = true → i < 512 → (∀ k, k < 256 → (trackOf s.body k).live = false) → trackOf b 0 =
          { live := true, node := i, prev := 0x1FF, tLast := t, vq := s.body.get OFE.TRK.V_BIRTH * 16, cls := 0, hits := 1,
            serial := s.body.ofe.serialNext, band := 0 })))))

/-- With OFE running in a module that runs rules BAY completes and stores the state a valid event in time carries while its
sensor has a token. LA_ZONE sets the light-ahead enable of its zone, DROP_TRACKS ends every track, REFRESH_COUNTS makes every
zone due at the next bolt boundary, CLEAR_STUCK clears the mark of its sensor; each completes, and a payload that is none of
R213 counts in BAD_EVENT. In such a module PRESENCE_HOLD_EXPIRY of a sensor present for PRES_HOLD_S without an accepted event
clears P, SENSOR_STUCK of one present for T_STUCK_S marks it stuck with P 0, and TRACK_DROP of a track whose T_LAST is more than
T_DROP_S back ends it; before that time, and in a standby, each completes and changes nothing of OFE. (R213, R214, R220, R221,
R227, R234, R239) -/
def Obligations.BaysControlsAndOccupancyTimers : Prop :=
  ∀ (s : State) (e : Ev) (rest : List (Nat × Ev)) (i k : Nat), powered s.body = true → i < 2560 → k < 256 →
  let p := e.payload
  let u := p % 2 ^ 12
  let counted := fun (b : Body) => b.ofe.fifo = rest ∧
    b.get OFE.COUNT_C.BAD_EVENT = min (s.body.get OFE.COUNT_C.BAD_EVENT + 1) 0xFFFF
  let rests := fun (b : Body) => b.ofe = s.body.ofe
  (runsRules s.body = true → s.body.flag OFE.CTL.RUN = true → s.body.ofe.fifo = (1, e) :: rest →
    (p / 2 ^ 15 % 2 ^ 17 = 0 → p / 2 ^ 12 % 4 ≠ 3 → bayUnit s.body u = true →
      inRange s.body (p / 2 ^ 32 % 2 ^ 32) = true → 0 < (tokensNow s.body (sensorOf s.body (sensorIndex u))).1 → Does .bay s (fun b =>
        b.ofe.fifo = rest ∧ (sensorOf b (sensorIndex u)).bay = p / 2 ^ 12 % 4 ∧ b.ofe.tracks = s.body.ofe.tracks)) ∧
    (p / 2 ^ 15 % 2 ^ 17 ≠ 0 ∨ p / 2 ^ 12 % 4 = 3 ∨ bayUnit s.body u = false → Does .bay s counted)) ∧
  (runsRules s.body = true → s.body.flag OFE.CTL.RUN = true → s.body.ofe.fifo = (2, e) :: rest →
    (controlOk p 1 = true →
      (p / 2 ^ 8 % 64 < 32 → Does .laZone s (fun b => b.bit OFE.LA_ZONE_LO.EN (p / 2 ^ 8 % 64) = decide (p / 2 ^ 14 % 2 = 1) ∧
        RegsKept (· = OFE.LA_ZONE_LO.word.addr) s.body b)) ∧
      (32 ≤ p / 2 ^ 8 % 64 → Does .laZone s (fun b => b.bit OFE.LA_ZONE_HI.EN (p / 2 ^ 8 % 64 - 32) = decide (p / 2 ^ 14 % 2 = 1) ∧
        RegsKept (· = OFE.LA_ZONE_HI.word.addr) s.body b))) ∧
    (controlOk p 2 = true → Does .dropTracks s (fun b => ∀ j, j < 256 → (trackOf b j).live = false)) ∧
    (controlOk p 3 = true → Does .refreshCounts s (fun b => b.ofe.refresh = true ∧ b.ofe.fifo = rest ∧ RegsKept (fun _ => False) s.body b)) ∧
    (controlOk p 4 = true → Does .clearStuck s (fun b => (sensorOf b (p / 2 ^ 16 % 2 ^ 12)).stuck = false)) ∧
    (p % 2 ^ 8 = 1 → controlOk p 1 = false → Does .laZone s counted) ∧
    (p % 2 ^ 8 = 2 → controlOk p 2 = false → Does .dropTracks s counted) ∧
    (p % 2 ^ 8 = 3 → controlOk p 3 = false → Does .refreshCounts s counted) ∧
    (p % 2 ^ 8 = 4 → controlOk p 4 = false → Does .clearStuck s counted) ∧
    (p % 2 ^ 8 ∉ [1, 2, 3, 4] → Does .laZone s counted ∧ Does .dropTracks s counted ∧ Does .refreshCounts s counted ∧
      Does .clearStuck s counted)) ∧
  (runsRules s.body = true →
    (holdOver s.body i = true → Does (.presenceHoldExpiry i) s (fun b => (sensorOf b i).p = false ∧
      (sensorOf b i).stuck = (sensorOf s.body i).stuck ∧ b.ofe.tracks = s.body.ofe.tracks)) ∧
    (stuckDue s.body i = true → Does (.sensorStuck i) s (fun b => (sensorOf b i).stuck = true ∧
      ((sensorOf s.body i).stuck = false → (sensorOf b i).p = false))) ∧
    (dropDue s.body k = true → Does (.trackDrop k) s (fun b => (trackOf b k).live = false ∧
      ∀ j, j ≠ k → trackOf b j = trackOf s.body j))) ∧
  (runsRules s.body = false ∨ holdOver s.body i = false → Does (.presenceHoldExpiry i) s rests) ∧
  (runsRules s.body = false ∨ stuckDue s.body i = false → Does (.sensorStuck i) s rests) ∧
  (runsRules s.body = false ∨ dropDue s.body k = false → Does (.trackDrop k) s rests)

/-- On a radio that runs its plan and whose channel and dwell guard allow it, BEACON_STITCH completes and sends one BEACON
on the hop channel of stitch 0 and ANCHOR_STITCH one ANCHOR on the anchor channel; a busy channel or the guard sends nothing
and counts, and a stitch whose wake came late sends nothing. An odd DOWN_STITCH sends the single waiting frame and empties
the bank, and when refused keeps it. A stitch at which silent hem stops AIR clears RUN and sends nothing.
DOWN_STITCH_WAKE_POINT swaps an empty sending bank with a filled one. COMMAND_DESCRIPTOR of a channel, a group, all
channels, the emergency or its release joins the waiting ones or is counted as bad; TRANSMIT_BUILD builds it with a stamp
above every earlier one; EMERG_FRAME_REBUILD keeps a release and an emergency frame for each enabled radio. (R83, R283,
R286, R291, R293, R294, R298, R316, R317, R381, R578) -/
def Obligations.StitchesCarryFramesOrAreRefused : Prop :=
  ∀ (s : State) (r st : Nat) (dbm : Int), powered s.body = true → r < 5 →
  let quiet := fun (b : Body) => b.out = s.body.out ∧ b.qm = s.body.qm
  let c16 := fun (n : Nat) => min (n + 1) 0xFFFF
  (s.body.air.stopAtStitch = true →
    Does (.beaconStitch r dbm) s (fun b => quiet b ∧ b.flag AIR.CTL.RUN = false) ∧
    Does (.anchorStitch dbm) s (fun b => quiet b ∧ b.flag AIR.CTL.RUN = false) ∧
    Does (.downStitch r st dbm) s (fun b => quiet b ∧ b.flag AIR.CTL.RUN = false)) ∧
  (s.body.air.stopAtStitch = false → airOn s.body r = false ∨ s.body.air.lateRadios.contains r = true →
    Does (.beaconStitch r dbm) s quiet ∧ Does (.downStitch r st dbm) s quiet ∧ (r = 3 → Does (.anchorStitch dbm) s quiet)) ∧
  (airOn s.body r = false → Does (.downStitchWakePoint r) s quiet) ∧
  (airOn s.body r = true → s.body.air.stopAtStitch = false → s.body.air.lateRadios.contains r = false →
    let c0 := hop s.body (boltNow s.body r) 0 r
    let us0 := frameUs s.body r (36 + 2 * (pendUnits s.body r).length)
    (lbtBusy s.body r dbm = false → dwellPass s.body r c0 us0 = true → Does (.beaconStitch r dbm) s (fun b =>
      ∃ f, b.out = s.body.out ++ [.air r c0 (phrOf s.body r) f] ∧ u8 f 0 = 0x40 ∧ b.qm = s.body.qm)) ∧
    (lbtBusy s.body r dbm = false → dwellPass s.body r c0 us0 = false → Does (.beaconStitch r dbm) s (fun b => quiet b ∧
      b.get AIR.TXC.DEFER_DWELL r = c16 (s.body.get AIR.TXC.DEFER_DWELL r))) ∧
    (lbtBusy s.body r dbm = true → Does (.beaconStitch r dbm) s (fun b => quiet b ∧
      b.get AIR.TXC.DEFER_LBT r = c16 (s.body.get AIR.TXC.DEFER_LBT r))) ∧
    (r = 3 → lbtBusy s.body 3 dbm = false →
      (dwellPass s.body 3 (anchorIdx s.body) (frameUs s.body 3 28) = true → Does (.anchorStitch dbm) s (fun b =>
        ∃ f, b.out = s.body.out ++ [.air 3 (anchorIdx s.body) (phrOf s.body 3) f] ∧ u8 f 0 = 0x41 ∧ b.qm = s.body.qm)) ∧
      (dwellPass s.body 3 (anchorIdx s.body) (frameUs s.body 3 28) = false → Does (.anchorStitch dbm) s (fun b => quiet b ∧
        b.get AIR.TXC.DEFER_DWELL 3 = c16 (s.body.get AIR.TXC.DEFER_DWELL 3)))) ∧
    (∀ it, (queueOf s.body r).items = [it] → st % 2 = 1 → st < 255 → fitsStitch s.body r [it.len - 8] = true →
      let c := hop s.body (boltNow s.body r) st r
      let ok := dwellPass s.body r c (frameUs s.body r (it.len - 8))
      (lbtBusy s.body r dbm = false → ok = true → Does (.downStitch r st dbm) s (fun b =>
        b.out = s.body.out ++ [.air r c (phrOf s.body r) (itemFrame (itemBytes s.body it))] ∧ (queueOf b r).items = [])) ∧
      (lbtBusy s.body r dbm = false → ok = false → Does (.downStitch r st dbm) s (fun b => quiet b ∧
        b.get AIR.TXC.DEFER_DWELL r = c16 (s.body.get AIR.TXC.DEFER_DWELL r))) ∧
      (lbtBusy s.body r dbm = true → Does (.downStitch r st dbm) s (fun b => quiet b ∧
        b.get AIR.TXC.DEFER_LBT r = c16 (s.body.get AIR.TXC.DEFER_LBT r))))) ∧
  (airOn s.body r = true → s.body.get QM.Q_CFG.ORG r = 1 →
    ((queueOf s.body r).items = [] → (queueOf s.body r).fill ≠ [] → Does (.downStitchWakePoint r) s (fun b =>
      (queueOf b r).items = (queueOf s.body r).fill ∧ (queueOf b r).fill = [] ∧ b.out = s.body.out)) ∧
    ((queueOf s.body r).items ≠ [] → Does (.downStitchWakePoint r) s quiet)) ∧
  (∀ e t, s.body.air.cmdIn = e :: t →
    let p := e.payload
    let joins := fun (l : List Desc) (b : Body) => b.air.cmdIn = t ∧ b.air.descs = s.body.air.descs ++ l
    let bad := fun (b : Body) => b.air.cmdIn = t ∧ b.air.descs = s.body.air.descs ∧
      b.get AIR.RXC_E.BAD_RECORD = c16 (s.body.get AIR.RXC_E.BAD_RECORD)
    (p / 2 ^ 26 % 2 ^ 38 = 0 → p / 2 ^ 12 % 4 = 0 → 1 ≤ p % 2 ^ 12 → p % 2 ^ 12 ≤ chanCnt s.body → Does .commandDescriptor s (joins
      [.cmd (homeTrx s.body (p % 2 ^ 12)) (p % 2 ^ 12) (p / 2 ^ 17 % 2 ^ 9) false false (srcAhead s.body [p % 2 ^ 12 - 1])])) ∧
    (∀ ns, p / 2 ^ 26 % 2 ^ 38 = 0 → p / 2 ^ 12 % 2 ^ 5 = 1 → groupMembers s.body (p % 2 ^ 12) = some ns → Does .commandDescriptor s (joins
      ((homesOf s.body ns).map fun q => .cmd q (p % 2 ^ 12) (p / 2 ^ 17 % 2 ^ 9) true false (srcAhead s.body ns)))) ∧
    (p / 2 ^ 26 % 2 ^ 38 = 0 → p / 2 ^ 12 % 4 = 1 → p / 2 ^ 15 % 2 = 1 → Does .commandDescriptor s (joins
      ((enabledRadios s.body).map .emerg))) ∧
    (p / 2 ^ 26 % 2 ^ 38 = 0 → p / 2 ^ 12 % 4 = 1 → p / 2 ^ 15 % 4 = 2 → Does .commandDescriptor s (joins
      ((enabledRadios s.body).map .release))) ∧
    (p / 2 ^ 26 % 2 ^ 38 = 0 → p / 2 ^ 12 % 2 ^ 5 = 5 → Does .commandDescriptor s (joins
      ((homesOf s.body (List.range (chanCnt s.body))).map fun q => .cmd q 0 (p / 2 ^ 17 % 2 ^ 9) true true
        (srcAhead s.body (List.range (chanCnt s.body)))))) ∧
    (p / 2 ^ 26 % 2 ^ 38 ≠ 0 ∨ p / 2 ^ 12 % 4 = 3 → Does .commandDescriptor s bad) ∧
    (p / 2 ^ 12 % 4 = 0 → (p % 2 ^ 12 = 0 ∨ chanCnt s.body < p % 2 ^ 12) → Does .commandDescriptor s bad)) ∧
  (s.body.flag AIR.CTL.RUN = true → acting s.body = true →
    (∀ t k g, s.body.seam.stopBuild = false → s.body.air.back = [] → s.body.air.descs = [.cmd r t k false false g] → canBuild s.body (.cmd r t k false false g) = true →
      Does .transmitBuild s (fun b => b.air.descs = [] ∧ b.air.lastStamp = max (airTime s.body) (s.body.air.lastStamp + 1) ∧ b.out = s.body.out)) ∧
    (s.body.seam.stopBuild = true → Does .transmitBuild s (fun b => b.air = s.body.air ∧ quiet b)) ∧
    Does .emergFrameRebuild s (fun b => quiet b ∧ ∀ q ∈ enabledRadios s.body, tabGet (fun _ => []) b.air.emergBuilt q ≠ [] ∧
      tabGet (fun _ => []) b.air.releaseBuilt q ≠ []))

/-- In a radio that receives, with a time base, FRAME_RECEIVED completes: it counts a malformed frame in FORMAT, one of an
undeclared UNIT in ADDR, one of a key not acceptable in KEY, one with a wrong MIC in MIC, one outside FRESH_W in STALE, one of a
newer epoch in EPOCH and a repeat in DUPLICATE, none of them reaching a queue; a frame for another network or module changes
nothing but what a wake does, the clock of the gated domain and a self-test slice of AIR or of the radio that runs. An accepted
one becomes the mark of its source and class, and is acknowledged with status 0 when it asks. In a radio that does not receive
it changes nothing. Key words are stored but for a slot in use; KEY_ARM arms a loaded key at least 16 bolts ahead and none else;
KEY_GRACE_END ends the grace period at its bolt; HOP_QUERY is taken and HOP_RESULT answers the channel of R289. Each of them
completes. (R77, R289, R296, R302, R308, R309, R310, R311, R312, R313, R314, R566) -/
def Obligations.ReceivedFramesPassTenChecks : Prop :=
  ∀ (s : State) (r rssi age : Nat) (f : List Nat), powered s.body = true → r < 5 →
  let src := u32 f 1
  let u := src % 2 ^ 12
  let dest := if u8 f 0 / 64 % 2 = 1 then src / 2 ^ 12 * 2 ^ 12 else u32 f 5
  let key := u16 f 9 / 2 ^ 14
  let stamp := u48 f 11
  let mine := dest / 2 ^ 26 = netNo s.body ∧ dest / 2 ^ 12 % 2 ^ 14 = modNo s.body
  let known := unitOk s.body u = true ∧ unitOk s.body (dest % 2 ^ 12) = true
  let fresh := (stampDiff stamp (airOfNs (tnNs s.body - age))).natAbs ≤ freshW s.body
  let rx := Instr.frameReceived r rssi age f
  let calm := s.body.get SAFE.SLICE.ABORTS 3 ≠ 15 ∧ s.body.get SAFE.SLICE.ABORTS (9 + r) ≠ 15
  let quiet := fun (b : Body) => b.qm = s.body.qm ∧ b.air.marks = s.body.air.marks ∧ (calm → b.out = s.body.out)
  let woke := fun (b : Body) => calm →
    RegsKept (fun a => a = SYS.CLK_STAT.word.addr ∨ a = SAFE.SLICE.word.at 3 0 ∨ a = SAFE.SLICE.word.at (9 + r) 0) s.body b
  let rests := fun (b : Body) => b.air = s.body.air ∧ RegsKept (fun _ => False) s.body b
  let c16 := fun (n : Nat) => min (n + 1) 0xFFFF
  (s.body.flag AIR.CTL.RUN = true → radioEn s.body r = true → ntv s.body = true ∨ rtcv s.body = true →
    (frameForm f = false → Does rx s (fun b => quiet b ∧ b.get AIR.RXC_A.FORMAT = c16 (s.body.get AIR.RXC_A.FORMAT))) ∧
    (frameForm f = true → ¬ mine → Does rx s (fun b => quiet b ∧ woke b)) ∧
    (frameForm f = true → mine → ¬ known → Does rx s (fun b => quiet b ∧ b.get AIR.RXC_A.ADDR = c16 (s.body.get AIR.RXC_A.ADDR))) ∧
    (frameForm f = true → mine → known →
      (keyGood s.body key = false → Does rx s (fun b => quiet b ∧ b.get AIR.RXC_B.KEY = c16 (s.body.get AIR.RXC_B.KEY))) ∧
      (keyGood s.body key = true →
        (openFrame s.body key f = none → Does rx s (fun b => quiet b ∧ b.get AIR.RXC_B.MIC = c16 (s.body.get AIR.RXC_B.MIC))) ∧
        (∀ p, openFrame s.body key f = some p →
          (¬ fresh → Does rx s (fun b => quiet b ∧ b.get AIR.RXC_C.STALE = c16 (s.body.get AIR.RXC_C.STALE))) ∧
          (fresh → epochNewer (u16 f 9 % 2 ^ 14) (s.body.get AIR.EPOCH.EPOCH) = true → Does rx s (fun b =>
            b.air.marks = s.body.air.marks ∧ b.get AIR.RXC_C.EPOCH = c16 (s.body.get AIR.RXC_C.EPOCH))) ∧
          (fresh → epochNewer (u16 f 9 % 2 ^ 14) (s.body.get AIR.EPOCH.EPOCH) = false → ∀ c, frameClass f = some c →
            (markOf s.body src c = none → Does rx s (fun b =>
              markOf b src c = some ⟨src, c, stamp, f.take 17, f.drop (f.length - 8)⟩ ∧
              (u8 f 0 / 32 % 2 = 1 → acting s.body = true → .ack r u stamp 0 ∈ b.air.descs))) ∧
            (markOf s.body src c = some ⟨src, c, stamp, f.take 17, f.drop (f.length - 8)⟩ → Does rx s (fun b => quiet b ∧
              b.get AIR.RXC_D.DUPLICATE = c16 (s.body.get AIR.RXC_D.DUPLICATE)))))))) ∧
  (s.body.flag AIR.CTL.RUN = false ∨ radioEn s.body r = false ∨ (ntv s.body = false ∧ rtcv s.body = false) → Does rx s rests) ∧
  (∀ i w v, i < 4 → w < 4 →
    let used := (i = keyTx s.body ∧ s.body.bit AIR.KEY_CTL.LOADED i = true) ∨ (s.body.flag AIR.STAT.GRACE = true ∧ s.body.air.prevKey = some i)
    let armed := s.body.bit AIR.KEY_CTL.LOADED i = true ∧ boltNo s.body + 16 ≤ s.body.get AIR.KEY_SW.BOLT
    (used → Does (.keyWrite i w v) s (fun b => b.get AIR.KEY_W.KEY i w = s.body.get AIR.KEY_W.KEY i w)) ∧
    (¬ used → Does (.keyWrite i w v) s (fun b => b.get AIR.KEY_W.KEY i w = v % 2 ^ 32 ∧ (w = 3 → b.bit AIR.KEY_CTL.LOADED i = true))) ∧
    (armed → Does (.keyArm i) s (fun b => b.flag AIR.STAT.SW_ARMED = true ∧ b.get AIR.KEY_ARM.NEXT = i)) ∧
    (¬ armed → Does (.keyArm i) s (fun b => b.flag AIR.STAT.SW_ARMED = s.body.flag AIR.STAT.SW_ARMED ∧ b.get AIR.KEY_ARM.NEXT = i))) ∧
  (s.body.flag AIR.STAT.GRACE = true → s.body.air.graceEnd ≤ boltNo s.body → Does .keyGraceEnd s (fun b => b.flag AIR.STAT.GRACE = false ∧
    b.air.prevKey = none)) ∧
  (s.body.flag AIR.STAT.GRACE = false ∨ boltNo s.body < s.body.air.graceEnd → Does .keyGraceEnd s rests) ∧
  (∀ st, st < 256 → Does (.hopQuery r st) s (fun b => b.get AIR.HOP_ARG.RADIO = r ∧ b.get AIR.HOP_ARG.STITCH = st ∧
    b.flag AIR.HOP_RES.DONE = false ∧ b.air.hopBusy = true)) ∧
  (s.body.air.hopBusy = true → Does .hopResult s (fun b => b.flag AIR.HOP_RES.DONE = true ∧ b.air.hopBusy = false ∧
    b.get AIR.HOP_RES.CHANNEL = hopWith (hopKey s.body (keyTx s.body)) s.body (s.body.get AIR.HOP_BOLT.BOLT) (s.body.get AIR.HOP_ARG.STITCH)
      (min (s.body.get AIR.HOP_ARG.RADIO) 4) % 2 ^ 7)) ∧
  (s.body.air.hopBusy = false → Does .hopResult s rests)

/-- With MET running and a METER section, LINE_CYCLE_END of a cycle of at least 15.38 ms completes: before metering has started
it starts it, and afterwards it counts the cycle, whose boundary is now, and each present circuit adds its active energy to
nothing. NO_ZC_TIMEOUT completes and counts a cycle that is not a good one, with its boundary one nominal period after the one
before. METER_LATCH once LATCH_N cycles are counted completes: LATCH_SEQ steps, the accumulators become the latest set and the
interval starts again; before, it changes nothing. METER_SAVE of a latch past a SAVE_S mark completes: SAVE_SEQ steps and a slot
holds the latched accumulators; otherwise nothing. LATCH_SEQ_READ answers the number and puts the latest set into the reading
registers. HARNESS_CHANGE shows the harness. (R332, R333, R334, R335, R336, R337, R339, R340, R346, R347) -/
def Obligations.LineCyclesAccumulateAndLatch : Prop :=
  ∀ (s : State) (cy : MetCycle) (c h : Nat) (on : Bool), powered s.body = true → c < 24 → h < 2 →
  let metering := s.body.flag MET.CTL.RUN = true ∧ sect s.body sMETER ≠ none
  let running := metering ∧ s.body.met.started = true ∧ s.body.met.cycles < s.body.get MET.CFG.LATCH_N
  let E := cycleE s.body cy c
  let p := meterPhase s.body c - 1
  let rests := fun (b : Body) => b.met = s.body.met ∧ RegsKept (fun _ => False) s.body b
  (cy.ns < 15380000 → Does (.lineCycleEnd cy) s rests) ∧
  (¬ metering → Does (.lineCycleEnd cy) s rests ∧ Does (.noZcTimeout cy) s rests) ∧
  (metering → s.body.met.started = true → (15380000 ≤ cy.ns →
    Does (.lineCycleEnd cy) s (fun b => b.get MET.CYCLE.COUNT = (s.body.get MET.CYCLE.COUNT + 1) % 2 ^ 32)) ∧
    Does (.noZcTimeout cy) s (fun b => b.get MET.CYCLE.COUNT = (s.body.get MET.CYCLE.COUNT + 1) % 2 ^ 32)) ∧
  (metering → s.body.met.started = false → 15380000 ≤ cy.ns → Does (.lineCycleEnd cy) s (fun b => b.met.started = true)) ∧
  (running → 15380000 ≤ cy.ns →
    Does (.lineCycleEnd cy) s (fun b => b.met.cycles = s.body.met.cycles + 1 ∧ b.met.goodCycles = s.body.met.goodCycles + 1 ∧
      b.met.bound = tnNs s.body) ∧
    (s.body.flag MET.STAT.HDET_A = false → s.body.flag MET.STAT.HDET_B = false → Does (.lineCycleEnd cy) s (fun b => b.met.acc = s.body.met.acc)) ∧
    (c ∈ circuits s.body → harnessOn s.body c = true → 1 ≤ meterPhase s.body c → p < 3 →
      s.body.get MET.TUNE.VPRES_PCT * meterVnom s.body p ≤ cycleV s.body cy p * 1000 →
      (belowCreep s.body c cy.ns E.natAbs = true → Does (.lineCycleEnd cy) s (fun b => accOf b (7 * c) = accOf s.body (7 * c) ∧
        accOf b (7 * c + 1) = accOf s.body (7 * c + 1))) ∧
      (belowCreep s.body c cy.ns E.natAbs = false → 0 ≤ E → Does (.lineCycleEnd cy) s (fun b =>
        accOf b (7 * c) = (accOf s.body (7 * c) + E.natAbs) % 2 ^ 96 ∧ accOf b (7 * c + 1) = accOf s.body (7 * c + 1))) ∧
      (belowCreep s.body c cy.ns E.natAbs = false → E < 0 → Does (.lineCycleEnd cy) s (fun b =>
        accOf b (7 * c + 1) = (accOf s.body (7 * c + 1) + E.natAbs) % 2 ^ 96 ∧ accOf b (7 * c) = accOf s.body (7 * c))))) ∧
  (running → Does (.noZcTimeout cy) s (fun b => b.met.cycles = s.body.met.cycles + 1 ∧ b.met.goodCycles = s.body.met.goodCycles ∧
    b.met.anyNoZc = true ∧ b.met.bound = s.body.met.bound + nominalNs s.body)) ∧
  (latchDue s.body = true → Does .meterLatch s (fun b => b.get MET.LATCH_SEQ.SEQ = (s.body.get MET.LATCH_SEQ.SEQ + 1) % 2 ^ 32 ∧
    b.met.cycles = 0 ∧ b.met.acc = s.body.met.acc ∧ b.met.latest.acc = s.body.met.acc ∧ b.met.latest.seq = b.get MET.LATCH_SEQ.SEQ)) ∧
  (latchDue s.body = false → Does .meterLatch s rests) ∧
  (s.body.met.saveDue = true → Does .meterSave s (fun b => b.get MET.SAVE_SEQ.SEQ = (s.body.get MET.SAVE_SEQ.SEQ + 1) % 2 ^ 32 ∧
    b.met.saveDue = false ∧ ∃ x ∈ b.met.saves, x.2.seq = b.get MET.SAVE_SEQ.SEQ ∧ x.2.acc = s.body.met.latest.acc)) ∧
  (s.body.met.saveDue = false → Does .meterSave s rests) ∧
  ((∀ x ∈ s.body.met.latest.ecum, x.1 < 512) → Does .latchSeqRead s (fun b => b.bus = some (s.body.get MET.LATCH_SEQ.SEQ) ∧
    b.met.shown = s.body.met.latest ∧ b.get MET.IMP.READING c = reading s.body.met.latest (7 * c) % 2 ^ 32 ∧
    b.get MET.IMP_W.WRAP c = reading s.body.met.latest (7 * c) / 2 ^ 32)) ∧
  Does (.harnessChange h on) s (fun b => (if h = 0 then b.flag MET.STAT.HDET_A else b.flag MET.STAT.HDET_B) = on ∧
    RegsKept (· = MET.STAT.word.addr) s.body b)

/-- CAL_MODE enters calibration once; CAL_COMMIT counts in MET.CAL_COUNT and leaves; CAL_REVERT leaves, and without a stored
record loads gain 0x400000, offset 0 and delay 0 and sets CAL_DEFAULT, and with one clears it; CAL_TIMEOUT reverts after the
hour, and not earlier. CODE_PERIOD_END, once the 15 chips after the period are complete, shows the count of valid chips; with
fewer than VALID_MIN the window of the circuit stands, and otherwise an unlocked circuit gains a period and is due.
ATTRIBUTION_SOLVE of a circuit that is due in a module that acts serves it, and with one member sets CF_EST to the product over
the Gram entry, rounded and limited; it does nothing where none is due. Each completes. (R331, R361, R362, R364, R365, R367) -/
def Obligations.CalibrationAndAttributionWindows : Prop :=
  ∀ (s : State) (c p ch : Nat), powered s.body = true → c < 24 → ch < 28 →
  let rests := fun (b : Body) => b.met = s.body.met ∧ b.att = s.body.att ∧ RegsKept (fun _ => False) s.body b
  (s.body.flag MET.CAL_CMD.MODE = false → Does .calMode s (fun b => b.flag MET.CAL_CMD.MODE = true ∧ b.met.calAt = some s.body.clock.cyc) ∧
    Does .calCommit s rests ∧ Does .calRevert s rests) ∧
  (s.body.flag MET.CAL_CMD.MODE = true → Does .calMode s rests ∧
    Does .calCommit s (fun b => b.flag MET.CAL_CMD.MODE = false ∧ b.flag MET.STAT.CAL_DEFAULT = false ∧ b.met.calAt = none ∧
      b.get MET.CAL_COUNT.COUNT = (s.body.get MET.CAL_COUNT.COUNT + 1) % 2 ^ 32 ∧
      b.word (MET.CAL_GAIN.word.at ch 0) = s.body.word (MET.CAL_GAIN.word.at ch 0)) ∧
    (s.body.met.calStored = [] → Does .calRevert s (fun b => b.flag MET.CAL_CMD.MODE = false ∧ b.flag MET.STAT.CAL_DEFAULT = true ∧
      b.get MET.CAL_GAIN.GAIN ch = 0x400000 ∧ b.get MET.CAL_OFF.OFF ch = 0 ∧ b.get MET.CAL_DLY.DLY ch = 0 ∧
      b.get MET.CAL_COUNT.COUNT = s.body.get MET.CAL_COUNT.COUNT)) ∧
    (s.body.met.calStored ≠ [] → (∀ x ∈ s.body.met.calStored, x.1 ∈ calAddrs) → Does .calRevert s (fun b =>
      b.flag MET.CAL_CMD.MODE = false ∧ b.flag MET.STAT.CAL_DEFAULT = false ∧ b.met.calAt = none)) ∧
    (∀ t, s.body.met.calAt = some t → (∀ x ∈ s.body.met.calStored, x.1 ∈ calAddrs) → t + 26000 * 3600000 ≤ s.body.clock.cyc →
      Does .calTimeout s (fun b => b.flag MET.CAL_CMD.MODE = false ∧ b.met.calAt = none))) ∧
  (∀ t, s.body.met.calAt = some t → s.body.clock.cyc < t + 26000 * 3600000 → Does .calTimeout s rests) ∧
  (periodOver s.body = none → Does .codePeriodEnd s rests) ∧
  (periodOver s.body = some p → Does .codePeriodEnd s (fun b => p < b.att.period ∧ b.met = s.body.met)) ∧
  (periodOver s.body = some p → s.body.flag MET.ATT_CTL.RUN = true → acting s.body = true → c ∈ circuits s.body → members s.body c ≠ [] →
    let used := (validChips s.body c p).length
    (used < s.body.get MET.ATT_TUNE2.VALID_MIN → Does .codePeriodEnd s (fun b => b.get MET.ATT_VALID.CHIPS c = used % 2 ^ 11 ∧
      (circOf b c).gram = (circOf s.body c).gram ∧ (circOf b c).prod = (circOf s.body c).prod ∧ (circOf b c).due = (circOf s.body c).due)) ∧
    (s.body.get MET.ATT_TUNE2.VALID_MIN ≤ used → (circOf s.body c).locked = false → Does .codePeriodEnd s (fun b => (circOf b c).due = true ∧
      (circOf b c).periods = min 255 (min (s.body.get MET.ATT_TUNE.WIN) ((circOf s.body c).periods + 1))))) ∧
  ((circOf s.body c).due = false ∨ acting s.body = false → Does (.attributionSolve c) s rests) ∧
  ((circOf s.body c).due = true → acting s.body = true → Does (.attributionSolve c) s (fun b => (circOf b c).due = false ∧ b.met = s.body.met)) ∧
  (∀ n g r, (circOf s.body c).due = true → acting s.body = true → members s.body c = [n] → n < 512 → (circOf s.body c).gram = [[g]] → g ≠ 0 →
    (circOf s.body c).prod.getD (circOf s.body c).lag [] = [r] → Does (.attributionSolve c) s (fun b =>
      b.get MET.ATT_CH.CF_EST n = (max 0 (min 65535 (Rat.floor ((r : Rat) / (g : Rat) * 16384 + 1 / 2)))).toNat))

/-- SW_FRAME_RECEIVE completes: it drops a bad frame and counts it; no frame received on SEAM leaves by a port, and none but
what an R-APS message makes the ring engine send does after one received on a ring port while EN is 0 or the port is blocked; an
R-APS message on a blocked port reaches the engine; a good unicast frame to an address learned on the other, unblocked ring port
leaves there with its FCS when that port is idle, waits in its class when it is sending, or is counted when its half of the
buffer is full, and enters no queue; one to the own MAC becomes an item of Q13. CPU_FRAME_TRANSMIT completes: it sends the
oldest item padded and with FCS, or lets it wait behind a frame that leaves, or counts a bad header. FDB_FLUSH empties the
table; FDB_AGEING removes the aged entries of its address alone. (R391, R392, R393, R395, R396, R398, R399) -/
def Obligations.SwitchForwardsOnlyAsProtectionAllows : Prop :=
  ∀ (s : State) (p mac : Nat) (frame : List Nat) (ok : Bool), powered s.body = true → p ≤ 2 →
  let f := frame.map (· % 256)
  let wire := f ++ toLe 4 (crc32 f)
  let bad := ok = false ∨ f.length < 60 ∨ 1518 < f.length ∨ isPause f = true
  let plain := isPtp f = false ∧ isRaps s.body f = false ∧ isGroup f = false
  let rx := Instr.swFrameReceive p frame ok
  let c16 := fun (n : Nat) => min (n + 1) 0xFFFF
  let idle := fun (q : Nat) => (∀ x ∈ s.body.sw.waiting, x.port ≠ q) ∧ (leavingOf s.body q).2 ≤ wireNow s.body
  let waits := fun (q : Nat) (high transit : Bool) (w : List Nat) (b : Body) => b.out = s.body.out ∧
    ∃ x : Egress, b.sw.waiting = s.body.sw.waiting ++ [x] ∧ x.port = q ∧ x.high = high ∧ x.transit = transit ∧ x.frame = w
  (portUp s.body p = false → Does rx s (fun b => b.out = s.body.out ∧ b.qm = s.body.qm ∧ b.sw = s.body.sw)) ∧
  (portUp s.body p = true → bad → Does rx s (fun b => b.out = s.body.out ∧ b.qm = s.body.qm ∧ b.sw = s.body.sw ∧
    b.get SW.DROP.ERR p = c16 (s.body.get SW.DROP.ERR p))) ∧
  (p = 2 ∨ (isRaps s.body f = false ∧ (s.body.flag SW.ERPS_CTL.EN = false ∨ s.body.flag SW.PORT_STAT.BLOCKED p = true)) →
    Does rx s (fun b => b.out = s.body.out)) ∧
  (p < 2 → portUp s.body p = true → ¬ bad → isRaps s.body f = true → u8 f 19 = 40 → s.body.flag SW.PORT_STAT.BLOCKED p = true →
    let e := raps (rapsOf p f) s.body
    Does rx s (fun b => SameReg SW.ERPS_STAT.STATE e b ∧ b.sw.erps = e.sw.erps ∧ b.out = e.out)) ∧
  (p < 2 → portUp s.body p = true → portUp s.body (1 - p) = true → ¬ bad → plain → s.body.flag SW.ERPS_CTL.EN = true →
    s.body.flag SW.PORT_STAT.BLOCKED p = false → s.body.flag SW.PORT_STAT.BLOCKED (1 - p) = false →
    frameDst f ≠ s.body.nv.mac → frameSrc f ≠ frameDst f → fdbPort s.body (frameDst f) = some (1 - p) →
    let room := transitHeld s.body (1 - p) + wire.length ≤ 131072 ∧ transitHeld s.body 0 + transitHeld s.body 1 + wire.length ≤ 262144
    (room → idle (1 - p) → Does rx s (fun b => b.out = s.body.out ++ [.eth (1 - p) wire] ∧ b.qm = s.body.qm)) ∧
    (room → wireNow s.body < (leavingOf s.body (1 - p)).2 → Does rx s (fun b =>
      waits (1 - p) (highFrame s.body wire) true wire b ∧ b.qm = s.body.qm)) ∧
    (¬ room → Does rx s (fun b => b.out = s.body.out ∧ b.qm = s.body.qm ∧ b.sw.waiting = s.body.sw.waiting ∧
      b.get SW.DROP.BUF (1 - p) = c16 (s.body.get SW.DROP.BUF (1 - p))))) ∧
  (portUp s.body p = true → ¬ bad → plain → frameDst f = s.body.nv.mac → s.body.flag SW.PORT_STAT.BLOCKED p = false ∨ p = 2 →
    s.body.get QM.Q_CFG.ORG 13 = 0 → qAdmits s.body 13 (cellsFor (16 + f.length)) = true → Does rx s (fun b => b.out = s.body.out ∧
      ∃ it, (queueOf b 13).items = (queueOf s.body 13).items ++ [it] ∧ it.len = 16 + f.length)) ∧
  ((queueOf s.body (10 + p)).items = [] → Does (.cpuFrameTransmit p) s (fun b => b.out = s.body.out ∧ b.qm = s.body.qm)) ∧
  (∀ it rest, (queueOf s.body (10 + p)).items = it :: rest →
    let l := itemBytes s.body it
    let g := (l.drop 16).take (u16 l 0)
    let good := u8 l 2 = 0 ∧ u8 l 3 ≤ 3 ∧ bytesAt l 4 12 = List.replicate 12 0 ∧ 14 ≤ u16 l 0 ∧ u16 l 0 ≤ 1518 ∧ 16 + u16 l 0 ≤ l.length
    (u8 l 2 ≠ 0 ∨ 3 < u8 l 3 ∨ u16 l 0 < 14 ∨ 1518 < u16 l 0 → Does (.cpuFrameTransmit p) s (fun b => b.out = s.body.out ∧
      (queueOf b (10 + p)).items = rest ∧ b.get SW.DROP.ERR p = c16 (s.body.get SW.DROP.ERR p))) ∧
    (good → portUp s.body p = true → s.body.flag SW.PORT_STAT.BLOCKED p = false →
      (idle p → Does (.cpuFrameTransmit p) s (fun b => b.out = s.body.out ++ [.eth p (withFcs g)] ∧ (queueOf b (10 + p)).items = rest)) ∧
      (wireNow s.body < (leavingOf s.body p).2 → Does (.cpuFrameTransmit p) s (fun b =>
        waits p (decide (2 ≤ u8 l 3) || highFrame s.body g) false (withFcs g) b ∧ (queueOf b (10 + p)).items = rest)))) ∧
  Does .fdbFlush s (fun b => b.sw.fdb = [] ∧ RegsKept (fun _ => False) s.body b ∧ b.out = s.body.out) ∧
  Does (.fdbAgeing mac) s (fun b => RegsKept (fun _ => False) s.body b ∧ ∀ e, e ∈ b.sw.fdb ↔ e ∈ s.body.sw.fdb ∧
    ¬ (e.mac = mac ∧ s.body.get SW.FDB.AGE_S * 26000000 ≤ s.body.clock.cyc - e.seen))

/-- LINK_LOSS completes with LINK cleared. Of a ring port with hold-off 0 it takes an active ring below a forced switch to
PROTECTION, blocks that port, flushes the table and sends SF on the other port when that is up and idle, with DNF when the port
was blocked already; with a hold-off it only starts the timer, and HOLDOFF_EXPIRY does the same once that has passed. LINK_UP on
a medium that MEDIA allows, SFP_INSERT and SFP_REMOVE complete and set PORT_STAT. FORCED_SWITCH and MANUAL_SWITCH block their
port, the latter from IDLE or PENDING only, and flush the table when it was not blocked yet; CLEAR ends a command, and in
PENDING restores the ring in the owner; WTR_EXPIRY and WTB_EXPIRY, once their time has passed, restore the ring in the owner and
elsewhere stop the timers; RAPS_RECEIVED of FS or SF on the configured channel unblocks; GUARD_EXPIRY ends the guard once it has
passed, under which R-APS is ignored. Each of them completes, and changes nothing otherwise. (R62, R64, R397, R398, R399, R400)
-/
def Obligations.RingProtectionFollowsItsRequests : Prop :=
  ∀ (s : State) (p : Nat) (high fibre : Bool) (m : Raps), powered s.body = true → p < 2 →
  let st := s.body.get SW.ERPS_STAT.STATE
  let own := s.body.flag SW.ERPS_CTL.OWNER
  let rpl := s.body.get SW.ERPS_CTL.RPL_PORT
  let same := fun (b : Body) => b.sw = s.body.sw ∧ RegsKept (fun _ => False) s.body b
  let failed := fun (b : Body) => b.get SW.ERPS_STAT.STATE = 2 ∧ b.flag SW.PORT_STAT.BLOCKED p = true ∧ b.sw.fdb = [] ∧
    ((∀ x ∈ s.body.sw.waiting, x.port ≠ 1 - p) → (leavingOf s.body (1 - p)).2 ≤ wireNow s.body →
      b.out = s.body.out ++ (if portUp s.body (1 - p) = true then [.eth (1 - p) (withFcs (rapsFrame s.body 11 false (s.body.flag SW.PORT_STAT.BLOCKED p) p))] else []))
  let learnt := fun (b : Body) => b.sw.fdb = (if s.body.flag SW.PORT_STAT.BLOCKED p = true then s.body.sw.fdb else [])
  let idle := fun (b : Body) => b.get SW.ERPS_STAT.STATE = 1 ∧ b.flag SW.PORT_STAT.BLOCKED rpl = true ∧
    b.flag SW.PORT_STAT.BLOCKED (1 - rpl) = false ∧ b.flag SW.ERPS_STAT.WTR = false ∧ b.flag SW.ERPS_STAT.WTB = false
  let stopped := fun (b : Body) => b.flag SW.ERPS_STAT.WTR = false ∧ b.flag SW.ERPS_STAT.WTB = false ∧ b.get SW.ERPS_STAT.STATE = st
  (∀ q, q < 3 → s.body.flag SW.PORT_STAT.LINK q = true → Does (.linkLoss q) s (fun b => b.flag SW.PORT_STAT.LINK q = false)) ∧
  (s.body.flag SW.PORT_STAT.LINK p = true →
    (s.body.get SW.ERPS_TMR.HOLDOFF = 0 → s.body.flag SW.ERPS_CTL.EN = true → st ≠ 0 → st ≠ 4 → Does (.linkLoss p) s failed) ∧
    (s.body.get SW.ERPS_TMR.HOLDOFF ≠ 0 → Does (.linkLoss p) s (fun b => (p, s.body.clock.cyc) ∈ b.sw.erps.holdoff ∧
      b.get SW.ERPS_STAT.STATE = st ∧ b.out = s.body.out))) ∧
  (s.body.flag SW.PORT_STAT.LINK p = false → Does (.linkLoss p) s same ∧
    (holdoffDue s.body p = true → s.body.flag SW.ERPS_CTL.EN = true → st ≠ 0 → st ≠ 4 → Does (.holdoffExpiry p) s failed)) ∧
  (s.body.flag SW.PORT_STAT.LINK p = true ∨ holdoffDue s.body p = false → Does (.holdoffExpiry p) s same) ∧
  (s.body.bit SW.CTL.PORT_EN p = true → s.body.flag SYS.CLK_STAT.ETH_LOCK = true → mediumOk s.body p fibre = true →
    Does (.linkUp p fibre) s (fun b => b.flag SW.PORT_STAT.LINK p = true ∧ b.flag SW.PORT_STAT.FIBRE p = fibre)) ∧
  (s.body.bit SW.CTL.PORT_EN p = false ∨ s.body.flag SYS.CLK_STAT.ETH_LOCK = false ∨ mediumOk s.body p fibre = false →
    Does (.linkUp p fibre) s same) ∧
  Does (.sfpInsert p high) s (fun b => b.flag SW.PORT_STAT.SFP p = true ∧ b.flag SW.PORT_STAT.SFP_PWR p = high ∧ b.sw = s.body.sw) ∧
  Does (.sfpRemove p) s (fun b => b.flag SW.PORT_STAT.SFP p = false ∧ b.flag SW.PORT_STAT.SFP_PWR p = false ∧
    (s.body.flag SW.PORT_STAT.FIBRE p = true → b.flag SW.PORT_STAT.LINK p = false)) ∧
  (st ≠ 0 → Does (.forcedSwitch p) s (fun b => b.get SW.ERPS_STAT.STATE = 4 ∧ b.flag SW.PORT_STAT.BLOCKED p = true ∧ learnt b ∧
    b.sw.erps.command = some p)) ∧
  (st = 0 → Does (.forcedSwitch p) s same) ∧
  (st = 1 ∨ st = 5 → Does (.manualSwitch p) s (fun b => b.get SW.ERPS_STAT.STATE = 3 ∧ b.flag SW.PORT_STAT.BLOCKED p = true ∧ learnt b)) ∧
  (st ≠ 1 → st ≠ 5 → Does (.manualSwitch p) s same) ∧
  (st = 3 ∨ st = 4 → s.body.sw.erps.command ≠ none → s.body.sw.erps.failed = [] → Does .clear s (fun b =>
    b.get SW.ERPS_STAT.STATE = 5 ∧ b.sw.erps.command = none)) ∧
  ((st = 3 ∨ st = 4) ∧ s.body.sw.erps.command = none ∨ st < 3 ∨ 5 < st ∨ (st = 5 ∧ own = false) → Does .clear s same) ∧
  (st = 5 → own = true → Does .clear s idle ∧ (wtrDue s.body = true → Does .wtrExpiry s idle) ∧ (wtbDue s.body = true → Does .wtbExpiry s idle)) ∧
  (st ≠ 5 ∨ own = false → (wtrDue s.body = true → Does .wtrExpiry s stopped) ∧ (wtbDue s.body = true → Does .wtbExpiry s stopped)) ∧
  (wtrDue s.body = false → Does .wtrExpiry s same) ∧
  (wtbDue s.body = false → Does .wtbExpiry s same) ∧
  (guardRuns s.body = false → Does .guardExpiry s (fun b => b.sw.erps.guard = none ∧ RegsKept (fun _ => False) s.body b)) ∧
  (guardRuns s.body = true → Does .guardExpiry s same) ∧
  (guardRuns s.body = true ∨ rapsMine s.body m = false ∨ m.node = s.body.nv.mac ∨ st = 0 → Does (.rapsReceived m) s same) ∧
  (guardRuns s.body = false → rapsMine s.body m = true → m.node ≠ s.body.nv.mac → m.port = p → portUp s.body p = true → st ≠ 0 → st ≠ 4 →
    (m.req = 13 → Does (.rapsReceived m) s (fun b => b.get SW.ERPS_STAT.STATE = 4 ∧ b.flag SW.PORT_STAT.BLOCKED 0 = false ∧
      b.flag SW.PORT_STAT.BLOCKED 1 = false)) ∧
    (m.req = 11 → s.body.sw.erps.failed = [] → Does (.rapsReceived m) s (fun b => b.get SW.ERPS_STAT.STATE = 2 ∧
      b.flag SW.PORT_STAT.BLOCKED 0 = false ∧ b.flag SW.PORT_STAT.BLOCKED 1 = false)) ∧
    (m.req = 0 → m.rb = true → st = 5 → own = false → Does (.rapsReceived m) s (fun b => b.get SW.ERPS_STAT.STATE = 1)))

/-- VERIFY of a complete area 0 completes: it empties the inactive slot, clears VERIFIED and starts the copy; without one it
answers 0x06, and during a trial, an activation or a copy 0x11, changing nothing else. VERIFY_DONE stores the image and sets
VERIFIED with result 0 exactly when digests and signature hold, else 0x08. ACTIVATE of a verified image, outside a trial and
with none armed, arms the first bolt at least 100 ms ahead; it answers 0x11 or 0x06 otherwise. ACTIVATION_PREPARE, from 100 ms
before a hitless one on, stops Shalan work. IMAGE_ACTIVATION waits for its bolt; there a blocked activation moves on by one;
otherwise a hitless one writes (slot, TRIAL, 3) unless it is a fallback, leaves the services of the application cores in the
hand-over record and resets the cores, and one with RESTART of a module that has no lease to hand over starts it cold.
RUNTIME_READY ends the wait; the services come from a good record, or start afresh, with HO_LOST after an activation.
TILE_RELOAD_UE before the bolt of a pending reload changes nothing; from it on no entry stays armed by a tile or a host. Each of
them completes. (R509, R510, R516, R517, R518, R519, R419) -/
def Obligations.ImagesAreVerifiedAndActivatedAtABolt : Prop :=
  ∀ (s : State) (a : Activation) (x : Staging) (bad : Bool), powered s.body = true →
  let res := fun (c : Nat) (b : Body) => b.get UPD.CMD_RES.CODE = c ∧ b.nv = s.body.nv ∧ b.upd = s.body.upd ∧
    RegsKept (· = UPD.CMD_RES.word.addr) s.body b
  let rests := fun (b : Body) => b.upd = s.body.upd ∧ RegsKept (fun _ => False) s.body b
  (onTrial s.body = true ∨ s.body.upd.act ≠ none → Does .verify s (res 17) ∧ Does .activate s (res 17)) ∧
  (s.body.upd.verifying = true → Does .verify s (res 17)) ∧
  (onTrial s.body = false → s.body.upd.act = none →
    (s.body.upd.verifying = false → areaState s.body 0 = 3 → Does .verify s (fun b => b.get UPD.CMD_RES.CODE = 0 ∧
      b.flag UPD.STG_STAT.VERIFIED 0 = false ∧ imageIn b (inactive s.body) = none ∧
      (∀ k, k ≠ inactive s.body → imageIn b k = imageIn s.body k) ∧ b.upd.verifying = true)) ∧
    (s.body.upd.verifying = false → areaState s.body 0 ≠ 3 → Does .verify s (res 6)) ∧
    (s.body.flag UPD.STG_STAT.VERIFIED 0 = true → Does .activate s (fun b => b.get UPD.CMD_RES.CODE = 0 ∧ b.get UPD.ACT_STAT.PHASE = 1 ∧
      b.upd.act = some ⟨boltAfter s.body 100, inactive s.body, restartTo s.body (inactive s.body), false⟩ ∧ b.nv = s.body.nv)) ∧
    (s.body.flag UPD.STG_STAT.VERIFIED 0 = false → Does .activate s (res 6))) ∧
  (s.body.upd.verifying = false → Does .verifyDone s rests) ∧
  (s.body.upd.verifying = true → stagingOf s.body 0 = some x → Does .verifyDone s (fun b => b.upd.verifying = false ∧
    imageIn b (inactive s.body) = some (imageOf x) ∧
    (if appDigestOk (imageOf x) && safeDigestOk (imageOf x) && manSigned s.body x.man
     then b.get UPD.CMD_RES.CODE = 0 ∧ b.flag UPD.STG_STAT.VERIFIED 0 = true
     else b.get UPD.CMD_RES.CODE = 8 ∧ b.flag UPD.STG_STAT.VERIFIED 0 = s.body.flag UPD.STG_STAT.VERIFIED 0))) ∧
  (s.body.upd.act = none → Does .activationPrepare s rests ∧ Does .imageActivation s rests) ∧
  (s.body.upd.act = some a →
    (a.restart = false → a.bolt * boltNs s.body ≤ tnNs s.body + 100000000 → Does .activationPrepare s (fun b => b.upd.stopped = true ∧
      b.upd.act = some a ∧ RegsKept (fun _ => False) s.body b)) ∧
    (a.restart = true ∨ tnNs s.body + 100000000 < a.bolt * boltNs s.body → Does .activationPrepare s rests) ∧
    (boltIdx s.body < a.bolt → Does .imageActivation s rests) ∧
    (a.bolt ≤ boltIdx s.body → actBlocked s.body = true → Does .imageActivation s (fun b =>
      b.upd.act = some { a with bolt := boltIdx s.body + 1 } ∧ b.upd.stopped = false ∧ b.nv = s.body.nv)) ∧
    (a.bolt ≤ boltIdx s.body → actBlocked s.body = false →
      (a.restart = false → Does .imageActivation s (fun b => b.upd.act = none ∧ b.upd.coresDown = true ∧ b.upd.stopped = true ∧
        b.upd.hoRecord = some s.body.sha ∧ b.get UPD.ACT_STAT.PHASE = 2 ∧ (a.fallback = false → slotWordOk b = true ∧ wordActive b = a.slot % 2 ∧
        wordState b = 1 ∧ wordTrials b = 3 ∧ b.upd.oldSerial = s.body.get SYS.PAT_SERIAL.SERIAL))) ∧
      (a.restart = true → twinPresent s.body = false ∨ s.body.get SEAM.STAT.ROLE ≠ 2 ∨ twinGood s.body = false →
        Does .imageActivation s (fun b => b.clock.cyc = 0 ∧ b.nv.boot = (s.body.nv.boot + 1) % 65536 ∧ b.pat.run = none)))) ∧
  (s.body.upd.readyBy = none → Does (.runtimeReady bad) s rests) ∧
  (s.body.upd.readyBy.isSome = true → Does (.runtimeReady bad) s (fun b => b.upd.readyBy = none ∧ b.upd.hoRecord = none ∧
    (s.body.get UPD.ACT_STAT.PHASE = 2 → b.get UPD.ACT_STAT.PHASE = 3) ∧
    (bad = true ∨ s.body.upd.hoRecord = none → b.sha.assocs = [] ∧ b.pat.staged = none ∧
      (s.body.get UPD.ACT_STAT.PHASE = 2 → b.flag UPD.ACT_STAT.HO_LOST = true)) ∧
    (∀ h, bad = false → s.body.upd.hoRecord = some h → (∀ x, (assocOf b x).isSome = h.assocs.any fun a => decide (a.id = x)) ∧
      b.pat.staged = s.body.pat.staged))) ∧
  (s.body.memi.reload = none → Does .tileReloadUe s (fun b => b.loom = s.body.loom ∧ RegsKept (fun _ => False) s.body b)) ∧
  (∀ k, s.body.memi.reload = some k →
    (boltIdx s.body < k → Does .tileReloadUe s (fun b => b.loom = s.body.loom ∧ RegsKept (fun _ => False) s.body b)) ∧
    (k ≤ boltIdx s.body → Does .tileReloadUe s (fun b => b.memi.reload = none ∧
      ∀ e t, (schedOf b e).owner ≠ .tile t ∧ (schedOf b e).owner ≠ .host)))

/-- CONFIRM of an image on trial completes: it writes CONFIRMED, raises the image floor to its VERSION at least, never lowers
it, and frees area 0; outside a trial it and REJECT answer 0x06. AUTO_CONFIRM confirms exactly under the conditions of R520.
REJECT and CONFIRM_WINDOW_END, once the window has ended, write FELL_BACK for the old slot and arm it. ABORT frees its area and
no other; above 4 it answers 0x0A. PAT_FLOOR raises the pattern floor to SYS.PAT_SERIAL at least. RECOVERY starts the module
cold towards recovery. After a passed start-up self-test BOOT takes the slot that R512 chooses, with CCLK and ETHCLK locked, or
enters recovery, with X3 and X4 enabled; a complete area 0 found there is installed as (slot, TRIAL, 3) and started, or recovery
goes on. On restarted application cores BOOT takes the slot R512 chooses and waits 10 s for the runtime. RUNTIME_HEARTBEAT_LOSS
of a runtime that runs and RUNTIME_READY_TIMEOUT of one not ready in time restart its cores without its associations.
BOLT_BOUNDARY, with no activation armed, no pattern staged and nothing in Q15, moves network time to the next boundary and lets
every tile report a drop again. Each of them completes. (R512, R514, R515, R519, R520, R521, R522, R505, R28, R90, R133) -/
def Obligations.TrialsAreConfirmedOrFallBack : Prop :=
  ∀ (s : State) (k : Nat), powered s.body = true →
  let enters := fun (b : Body) =>
    (areaState s.body 0 ≠ 3 → b.power = .recovery ∧ b.flag UPD.STAT.RECOVERY = true ∧ b.upd.recoveryDue = false ∧
      b.flag AIR.CTL.RUN = false ∧ b.flag SYS.CLK_STAT.ETH_LOCK = true ∧ b.get SW.CTL.PORT_EN = 3) ∧
    (areaState s.body 0 = 3 → b.power = .recovery ∨ (b.power = .start ∧ slotWordOk b = true ∧ wordState b = 1 ∧ wordTrials b = 3))
  (onTrial s.body = true → Does .confirm s (fun b => b.get UPD.CMD_RES.CODE = 0 ∧ slotWordOk b = true ∧ wordState b = 0 ∧
    wordActive b = wordActive s.body ∧ stagingOf b 0 = none ∧ b.upd.winEnd = none ∧
    b.get UPD.IMG_FLOOR.FLOOR = (if s.body.nv.imgFloorOk then
      max (s.body.get UPD.IMG_FLOOR.FLOOR) (manVersion (imageMan s.body (wordActive s.body))) else s.body.get UPD.IMG_FLOOR.FLOOR))) ∧
  (onTrial s.body = false → Does .confirm s (fun b => b.get UPD.CMD_RES.CODE = 6 ∧ b.nv = s.body.nv ∧ b.upd = s.body.upd ∧
      RegsKept (· = UPD.CMD_RES.word.addr) s.body b) ∧
    Does .reject s (fun b => b.get UPD.CMD_RES.CODE = 6 ∧ b.nv = s.body.nv ∧ b.upd = s.body.upd)) ∧
  (mayConfirm s.body = true → Does .autoConfirm s (fun b => slotWordOk b = true ∧ wordState b = 0 ∧ b.upd.winEnd = none)) ∧
  (mayConfirm s.body = false → Does .autoConfirm s (fun b => RegsKept (fun _ => False) s.body b ∧ b.nv = s.body.nv)) ∧
  (onTrial s.body = true → Does .reject s (fun b => b.get UPD.CMD_RES.CODE = 0 ∧ slotWordOk b = true ∧ wordState b = 2 ∧
    wordActive b = 1 - wordActive s.body ∧ b.flag UPD.STAT.FELL_BACK = true ∧
    b.upd.act = some ⟨boltAfter s.body 100, 1 - wordActive s.body, restartTo s.body (1 - wordActive s.body), true⟩)) ∧
  (∀ t, onTrial s.body = true → s.body.upd.winEnd = some t →
    (t ≤ s.body.clock.cyc → Does .confirmWindowEnd s (fun b => wordState b = 2 ∧ b.upd.winEnd = none ∧ b.flag UPD.STAT.FELL_BACK = true)) ∧
    (s.body.clock.cyc < t → Does .confirmWindowEnd s (fun b => b.upd = s.body.upd ∧ RegsKept (fun _ => False) s.body b))) ∧
  (k ≤ 4 → Does (.abort k) s (fun b => b.get UPD.CMD_RES.CODE = 0 ∧ stagingOf b k = none ∧ b.flag UPD.STG_STAT.VERIFIED k = false ∧
    ∀ j, j ≠ k → stagingOf b j = stagingOf s.body j)) ∧
  (4 < k → Does (.abort k) s (fun b => b.get UPD.CMD_RES.CODE = 10 ∧ b.nv = s.body.nv ∧ b.upd = s.body.upd)) ∧
  Does .patFloor s (fun b => b.get UPD.CMD_RES.CODE = 0 ∧ b.get UPD.IMG_FLOOR.FLOOR = s.body.get UPD.IMG_FLOOR.FLOOR ∧
    b.get UPD.PAT_FLOOR.FLOOR = (if s.body.nv.patFloorOk then max (s.body.get UPD.PAT_FLOOR.FLOOR) (s.body.get SYS.PAT_SERIAL.SERIAL)
      else s.body.get UPD.PAT_FLOOR.FLOOR)) ∧
  Does .recovery s (fun b => b.upd.recoveryDue = true ∧ b.clock.cyc = 0 ∧ b.nv.boot = (s.body.nv.boot + 1) % 65536 ∧ b.pat.run = none) ∧
  (beforeBoot s.body = true → s.body.upd.tested = true → s.body.upd.recoveryDue = true → Does .boot s enters) ∧
  (beforeBoot s.body = true → s.body.upd.tested = true → s.body.upd.recoveryDue = false → Does .boot s (fun b =>
    match (chooseSlot true s.body).2 with
    | some n => b.get UPD.STAT.ACTIVE = n ∧ b.power = (if s.body.power = .start then .run else s.body.power) ∧ b.upd.booted = true ∧
        b.flag SYS.CLK_STAT.CCLK_LOCK = true ∧ b.flag SYS.CLK_STAT.ETH_LOCK = true
    | none => enters b)) ∧
  (beforeBoot s.body = false → s.body.upd.coresDown = true → Does .boot s (fun b =>
    match (chooseSlot false s.body).2 with
    | some n => b.get UPD.STAT.ACTIVE = n ∧ b.power = s.body.power ∧ b.upd.coresDown = false ∧
        b.upd.readyBy = some (s.body.clock.cyc + 26000 * 10000)
    | none => enters b)) ∧
  (beforeBoot s.body = false → s.body.upd.coresDown = false → Does .boot s (fun b => b.upd = s.body.upd ∧ b.power = s.body.power ∧
    RegsKept (fun _ => False) s.body b)) ∧
  (runtimeUp s.body = true → s.body.upd.readyBy = none → Does .runtimeHeartbeatLoss s (fun b => b.upd.coresDown = true ∧
    b.upd.stopped = true ∧ b.sha.assocs = [] ∧ b.pat.staged = none)) ∧
  (runtimeUp s.body = false ∨ s.body.upd.readyBy ≠ none → Does .runtimeHeartbeatLoss s (fun b => b.upd = s.body.upd ∧
    RegsKept (fun _ => False) s.body b)) ∧
  (∀ t, s.body.upd.readyBy = some t →
    (t ≤ s.body.clock.cyc → Does .runtimeReadyTimeout s (fun b => b.upd.coresDown = true ∧ b.upd.readyBy = none ∧ b.sha.assocs = [])) ∧
    (s.body.clock.cyc < t → Does .runtimeReadyTimeout s (fun b => b.upd = s.body.upd ∧ RegsKept (fun _ => False) s.body b))) ∧
  (s.body.upd.act = none → s.body.pat.staged = none → (queueOf s.body 15).items = [] → Does .boltBoundary s (fun b =>
    (boltIdx s.body + 1) * boltNs s.body ≤ tnNs b ∧ tnNs b < (boltIdx s.body + 1) * boltNs s.body + 39 ∧
    ∀ t, (tileOf b t).dropSeen = false))

/-- IDENTITY_KEYGEN completes and makes a key only when the store holds none. While ENROL is OPEN a record of types 1 to 8 from
a secure session over X6 whose length is that of its type is taken: CSR leaves a request and nothing else in the buffer, to be
read, CERT keeps the bytes, ANCHOR, PAT_KEY and NIMG_KEY keep a valid public key at their index (an index out of range answers
0x0A, a bad key 0x01), PAIR_KEY and NODE_KEY keep their keys, CLOSE sets ENROL when certificate, an anchor and an S pattern key
are held and answers 0x06 otherwise; any other length answers 0x01 and from any other session a record answers 0x09, storing
nothing and letting nothing be read. Once ENROLLED, CSR, CERT and CLOSE answer 0x09, and FLOORS, from a secure session alone,
sets only floor words that read invalid and only within its bounds; in recovery mode it starts the module cold as well. Each
record completes. (R500, R515, R527, R528, R529, R530) -/
def Obligations.EnrolmentRecordsAreTakenInOrder : Prop :=
  (∀ s : State, powered s.body = true →
  let l := enrBytes s.body
  let n := s.body.get UPD.ENR_LEN.LEN
  let ok := fun (b : Body) => b.get UPD.ENR_STAT.RESULT = 0
  let no := fun (c : Nat) (b : Body) => b.get UPD.ENR_STAT.RESULT = c ∧ b.upd.csrShown = false ∧ b.nv = s.body.nv ∧ b.get UPD.STAT.ENROL = s.body.get UPD.STAT.ENROL
  (s.body.nv.keys.identity.isSome = true → Does .identityKeygen s (fun b => b.nv = s.body.nv ∧ RegsKept (fun _ => False) s.body b)) ∧
  (s.body.nv.keys.identity = none → Does .identityKeygen s (fun b => b.nv.keys.identity.isSome = true ∧ b.get UPD.STAT.ENROL = 0)) ∧
  (∀ x6 sec, x6 = false ∨ sec = false → s.body.get UPD.STAT.ENROL = 0 →
    Does (.csr x6 sec) s (no 9) ∧ Does (.cert x6 sec) s (no 9) ∧ Does (.anchor x6 sec) s (no 9) ∧ Does (.patKey x6 sec) s (no 9) ∧
    Does (.nimgKey x6 sec) s (no 9) ∧ Does (.pairKey x6 sec) s (no 9) ∧ Does (.nodeKey x6 sec) s (no 9) ∧ Does (.close x6 sec) s (no 9)) ∧
  (s.body.get UPD.STAT.ENROL = 0 →
    Does (.csr true true) s (fun b => ok b ∧ b.nv = s.body.nv ∧ 4 ≤ b.get UPD.ENR_LEN.LEN ∧ b.get UPD.ENR_LEN.LEN ≤ 4096 ∧
      b.upd.csrShown = true ∧ ∀ w, w < 1024 → b.get UPD.ENR_LEN.LEN ≤ 4 * w → b.get UPD.ENR_BUF.DATA w = 0) ∧
    (1 ≤ n → n ≤ 4096 → Does (.cert true true) s (fun b => ok b ∧ b.nv.keys = { s.body.nv.keys with cert := l })) ∧
    (n = 0 ∨ 4096 < n → Does (.cert true true) s (no 1)) ∧
    (n ≠ 98 → Does (.anchor true true) s (no 1) ∧ Does (.nimgKey true true) s (no 1)) ∧
    (n ≠ 99 → Does (.patKey true true) s (no 1)) ∧ (n ≠ 16 → Does (.pairKey true true) s (no 1)) ∧
    (n ≠ 18 → Does (.nodeKey true true) s (no 1)) ∧ (∀ x6 sec, Does (.floors x6 sec) s (no 9)) ∧
    (n = 98 → Does (.anchor true true) s (fun b => if 1 < u8 l 0 then no 10 b else match pubKey (l.drop 1) with
      | some q => ok b ∧ b.nv.keys.anchors = (s.body.nv.keys.anchors.filter fun p => decide (p.1 ≠ u8 l 0)) ++ [(u8 l 0, q)]
      | none => no 1 b)) ∧
    (n = 98 → Does (.nimgKey true true) s (fun b => if 3 < u8 l 0 then no 10 b else match pubKey (l.drop 1) with
      | some q => ok b ∧ b.nv.keys.nimg = (s.body.nv.keys.nimg.filter fun p => decide (p.1 ≠ u8 l 0)) ++ [(u8 l 0, q)]
      | none => no 1 b)) ∧
    (n = 99 → u8 l 0 ≤ 1 → u8 l 1 ≤ 3 → allZero (l.drop 2) = true → Does (.patKey true true) s (fun b => ok b ∧
      b.nv.keys.pat = s.body.nv.keys.pat.filter fun p => decide (p.1 ≠ 4 * u8 l 0 + u8 l 1))) ∧
    (n = 99 → u8 l 0 ≤ 1 → u8 l 1 ≤ 3 → allZero (l.drop 2) = false → Does (.patKey true true) s (fun b => match pubKey (l.drop 2) with
      | some q => ok b ∧ b.nv.keys.pat = (s.body.nv.keys.pat.filter fun p => decide (p.1 ≠ 4 * u8 l 0 + u8 l 1)) ++
          [(4 * u8 l 0 + u8 l 1, q)]
      | none => no 1 b)) ∧
    (n = 16 → Does (.pairKey true true) s (fun b => ok b ∧ b.nv.keys = { s.body.nv.keys with pair := some l })) ∧
    (n = 18 → (s.body.nv.keys.node.filter fun p => decide (p.1 ≠ u16 l 0)).length < 64 → Does (.nodeKey true true) s (fun b => ok b ∧
      b.nv.keys.node = (s.body.nv.keys.node.filter fun p => decide (p.1 ≠ u16 l 0)) ++ [(u16 l 0, l.drop 2)])) ∧
    Does (.close true true) s (fun b => if s.body.nv.keys.cert ≠ [] ∧ s.body.nv.keys.anchors ≠ [] ∧
        (∃ p ∈ s.body.nv.keys.pat, p.1 < 4) then ok b ∧ b.get UPD.STAT.ENROL = 1 else no 6 b)) ∧
  (∀ x6, s.body.get UPD.STAT.ENROL = 1 →
    (∀ sec, Does (.csr x6 sec) s (no 9) ∧ Does (.cert x6 sec) s (no 9) ∧ Does (.close x6 sec) s (no 9)) ∧
    (n = 16 → Does (.pairKey x6 true) s (fun b => ok b ∧ b.nv.keys = { s.body.nv.keys with pair := some l })) ∧
    Does (.floors x6 false) s (no 9) ∧ (n ≠ 8 → Does (.floors x6 true) s (no 1)) ∧
    (n = 8 →
      let img := s.body.nv.imgFloorOk
      let pat := s.body.nv.patFloorOk
      let good := (img = false ∨ pat = false) ∧ (img = true ∨ imgBound s.body ≤ u32 l 0) ∧ (pat = true ∨ patBound s.body ≤ u32 l 4)
      (¬ good → Does (.floors x6 true) s (no 10)) ∧
      (good → Does (.floors x6 true) s (fun b => ok b ∧ b.nv.imgFloorOk = true ∧ b.nv.patFloorOk = true ∧
        b.get UPD.IMG_FLOOR.FLOOR = (if img then s.body.get UPD.IMG_FLOOR.FLOOR else u32 l 0) ∧
        b.get UPD.PAT_FLOOR.FLOOR = (if pat then s.body.get UPD.PAT_FLOOR.FLOOR else u32 l 4)))))) ∧
  (∀ (s : State) (x6 : Bool), s.body.power = .recovery → s.body.get UPD.STAT.ENROL = 1 → s.body.get UPD.ENR_LEN.LEN = 8 →
    s.body.nv.imgFloorOk = false → s.body.nv.patFloorOk = false → imgBound s.body ≤ u32 (enrBytes s.body) 0 →
    patBound s.body ≤ u32 (enrBytes s.body) 4 → Does (.floors x6 true) s (fun b => b.power = .start ∧ b.nv.imgFloorOk = true ∧
      b.nv.patFloorOk = true ∧ b.get UPD.IMG_FLOOR.FLOOR = u32 (enrBytes s.body) 0 ∧ b.get UPD.PAT_FLOOR.FLOOR = u32 (enrBytes s.body) 4))

/-- NC_START with no campaign under way and a complete area 1 to 4 completes: it chooses the targets of R531 and counts them;
without such an area it answers 0x06, and during a campaign 0x11, changing nothing else. NC_STOP completes: it sets STATE 0 and
drops the waiting image frames. NC_ACT_ARM completes: it stores the high word and arms the activation exactly when the campaign
runs and ACT_TIME lies at least 64 bolts ahead. (R531, R533) -/
def Obligations.NodeCampaignsRunUntilStopped : Prop :=
  ∀ (s : State) (x : Staging) (v : Nat), powered s.body = true →
  let k := s.body.get UPD.NC_CTL.STG
  let t := s.body.get UPD.NC_ACT_LO.ACT_TIME + v % 2 ^ 16 * 2 ^ 32
  (campaignRuns s.body = false → 1 ≤ k → k ≤ 4 → stagingOf s.body k = some x → x.complete = true → Does .ncStart s (fun b =>
    b.get UPD.CMD_RES.CODE = 0 ∧ b.upd.nc.targets = campaignTargets s.body (manNodeSel x.man) ∧ b.upd.nc.area = k ∧
    b.get UPD.NC_STAT.STATE = (if campaignTargets s.body (manNodeSel x.man) = [] then 3 else 1) ∧
    b.get UPD.NC_CNT_A.TARGETS = (campaignTargets s.body (manNodeSel x.man)).length % 2 ^ 16 ∧ b.get UPD.NC_CNT_A.COMPLETE = 0)) ∧
  (campaignRuns s.body = false → k = 0 ∨ 4 < k ∨ stagingOf s.body k = none ∨ (stagingOf s.body k = some x ∧ x.complete = false) → Does .ncStart s (fun b => b.get UPD.CMD_RES.CODE = 6 ∧
    b.upd = s.body.upd ∧ RegsKept (· = UPD.CMD_RES.word.addr) s.body b)) ∧
  (campaignRuns s.body = true → Does .ncStart s (fun b => b.get UPD.CMD_RES.CODE = 17 ∧ b.upd = s.body.upd)) ∧
  Does .ncStop s (fun b => b.get UPD.NC_STAT.STATE = 0 ∧ RegsKept (· = UPD.NC_STAT.word.addr) s.body b ∧
    ∀ d ∈ b.air.descs, ∀ r y w, d ≠ .image r y w) ∧
  (campaignRuns s.body = true → airIn s.body 64 ≤ t → Does (.ncActArm v) s (fun b => b.get UPD.NC_STAT.STATE = 2 ∧
    b.get UPD.NC_ACT_HI.ACT_TIME = v % 2 ^ 16 ∧ b.upd.nc.acted = s.body.upd.nc.targets.filter (targetDone s.body))) ∧
  (campaignRuns s.body = false ∨ t < airIn s.body 64 → Does (.ncActArm v) s (fun b => b.get UPD.NC_ACT_HI.ACT_TIME = v % 2 ^ 16 ∧
    b.upd = s.body.upd ∧ RegsKept (· = UPD.NC_ACT_HI.word.addr) s.body b))

/-- With power to the engines each of these rows completes. The holder's LEASE_RENEW_SEND binds its own vote for T_L + T_G and
sends the RENEW to its twin over X5; in silent hem without a GOOD twin, and in any other role, it does nothing. LEASE_EXPIRY at
the lease's end makes the holder PASSIVE with AIR.CTL.RUN 0 and raises LAPSED. VOTE_BINDING_END and VOTE_HOLDOFF_END end what is
due and nothing else. ACQUIRE_SEND of a member that may take the lease asks the witness: a standby that lost its twin, which
holds its slices and says so, or a passive member in its turn, which asks its twin too; any other does nothing. The six rows of
the witness first refresh their association and check the address conflict of R22. A GRANT of the own witness extends a holder's
lease to its send time + T_L, makes a member that may take the lease HOLDER with an epoch above every one it knows, and else
only keeps the witness's figures; REFUSE keeps them with the time refused. WIT_LOST comes once, after T_L without an answer. As
a witness, RENEW and ACQUIRE are granted where no vote binds the other member, an ACQUIRE is held to the end of a binding of at
most T_G, and all else is refused; each answer is kept, and repeated for a SEQ seen before; WITNESS_HELD_GRANT grants what was
held, in a holder outside its 12 s alone; RELEASE gives the vote to the member named; HEALTH is kept, and a member takes what
its own witness reports of its twin; WITNESS_QUIET_END ends what is over.
(R22, R444, R445, R446, R447, R449, R450, R451, R452, R460, R464, R480) -/
def Obligations.LeaseIsHeldByVotes : Prop :=
  ∀ (s : State) (m : WitMsg), powered s.body = true →
  let now := s.body.clock.cyc
  let b0 := witIn m s.body
  let heard := witHeard m true b0
  let wr := fun (b : Body) => witRec b m.mod
  let peer := ((b0.seam.peer.map fun h => h.epoch).getD 0)
  let epoch := (max (b0.get SEAM.EPOCH.EPOCH) (max peer (max b0.seam.witEpoch m.epoch)) + 1) % 2 ^ 32
  let answers := fun (from_ : Body) (op : Nat) (b : Body) => ∃ x, b.out = from_.out ++ [.shalan m.mod x] ∧ msgType x = 0x0A ∧
    msgSeq x = m.seq ∧ u8 (msgBody x) 0 = op ∧ ((assocOf from_ m.mod).isSome = true → ∃ a, assocOf b m.mod = some a ∧ (m.seq, x) ∈ a.kept)
  let new := ∀ a, assocOf b0 m.mod = some a → (∀ k ∈ a.kept, k.1 ≠ m.seq) ∧ (a.kept.length < 64 ∨ ∃ k ∈ a.kept, k.1 ≤ m.seq)
  let reached := s.body.nv.keys.pair.isSome = true ∧ portUp s.body 2 = true
  let nothing := fun (from_ b : Body) => b.seam = from_.seam ∧ b.out = from_.out ∧ RegsKept (fun _ => False) from_ b
  let holds := fun (b : Body) => b.flag SAFE.STAT.HEM_SILENT = false ∨ twinGood b = true
  let asks := fun (b : Body) => mayTake b = true ∧
    ((seamRole b = 1 ∧ b.flag SEAM.STAT.SEAM_UP = false) ∨ (seamRole b = 0 ∧ mayAsk b = true))
  (seamRun s.body = true → seamRole s.body = 2 → holds s.body → Does .leaseRenewSend s (fun b =>
    b.seam.lastRenew = some now ∧ b.seam.bound = some (member s.body, now + tL s.body + tG s.body) ∧
    b.seam.leaseEnd = s.body.seam.leaseEnd ∧ (reached → ∃ x f l, b.out = s.body.out ++ .seam x f :: l ∧ x.renew = some now))) ∧
  (seamRun s.body = false ∨ seamRole s.body ≠ 2 ∨ ¬ holds s.body → Does .leaseRenewSend s (nothing s.body)) ∧
  (∀ e, s.body.seam.leaseEnd = some e → seamRole s.body = 2 → e ≤ now → Does .leaseExpiry s (fun b => seamRole b = 0 ∧
    b.flag AIR.CTL.RUN = false ∧ b.seam.leaseEnd = none ∧ b.seam.lapsedAt = some now ∧ b.flag SEAM.EVENT.LAPSED = true ∧
    b.bit SAFE.HELD.BLOCK 14 = true)) ∧
  (s.body.seam.leaseEnd = none ∨ seamRole s.body ≠ 2 ∨ (∃ e, s.body.seam.leaseEnd = some e ∧ now < e) →
    Does .leaseExpiry s (nothing s.body)) ∧
  Does .voteBindingEnd s (fun b => RegsKept (fun _ => False) s.body b ∧
    b.seam.bound = s.body.seam.bound.bind fun v => if v.2 ≤ now then none else some v) ∧
  Does .voteHoldoffEnd s (fun b => RegsKept (fun _ => False) s.body b ∧ b.seam.quiet = (s.body.seam.quiet &&
    !(s.body.seam.startAt.any fun t => decide (t + tL s.body + tG s.body ≤ now)))) ∧
  (asks s.body → Does .acquireSend s (fun b => b.seam.lastRenew = some now ∧ seamRole b = seamRole s.body ∧
    b.seam.slicesHeld = (s.body.seam.slicesHeld || decide (seamRole s.body = 1)) ∧
    (reached → ∃ x f l, b.out = s.body.out ++ .seam x f :: l ∧ x.held = b.seam.slicesHeld ∧
      x.renew = if seamRole s.body = 0 then some now else none) ∧
    (∀ a, witnessMod s.body ≠ 0xFFFF → assocOf s.body (witnessMod s.body) = some a →
      ∃ x l, b.out = l ++ [.shalan (witnessMod s.body) x] ∧ msgType x = 0x0A ∧ u8 (msgBody x) 0 = 2))) ∧
  (¬ asks s.body → Does .acquireSend s (nothing s.body)) ∧
  (loaded s.body = true → m.mod = modNo s.body → isTwin s.body m.uid = false →
    Does (.grant m) s (fun b => b.sha.conflict = 1) ∧ Does (.refuse m) s (fun b => b.sha.conflict = 1) ∧
    Does (.renew m) s (fun b => b.sha.conflict = 1) ∧ Does (.acquire m) s (fun b => b.sha.conflict = 1) ∧
    Does (.health m) s (fun b => b.sha.conflict = 1) ∧ Does (.release m none) s (fun b => b.sha.conflict = 1)) ∧
  (seamRun b0 = true → m.mod = witnessMod b0 →
    (seamRole b0 = 2 → Does (.grant m) s (fun b => b.seam.leaseEnd = some (max (b0.seam.leaseEnd.getD 0) (m.time * 26 + tL b0)) ∧
      seamRole b = 2 ∧ b.flag SEAM.STAT.WIT_REACH = true ∧ b.flag SEAM.STAT.WIT_VOTE = true)) ∧
    (mayTake heard = true → now < m.time * 26 + tL b0 → Does (.grant m) s (fun b => seamRole b = 2 ∧
      b.seam.leaseEnd = some (m.time * 26 + tL b0) ∧ b.seam.bound = some (member b0, now + tL b0 + tG b0) ∧
      b.get SEAM.EPOCH.EPOCH = epoch ∧ b.get AIR.EPOCH.EPOCH = epoch % 2 ^ 14 ∧
      b.flag AIR.CTL.RUN = !b0.flag SAFE.STAT.HEM_SILENT)) ∧
    (seamRole b0 ≠ 2 → mayTake heard = false ∨ m.time * 26 + tL b0 ≤ now → Does (.grant m) s (fun b => seamRole b = seamRole b0 ∧
      b.seam.leaseEnd = b0.seam.leaseEnd ∧ b.seam.granted = true ∧ b.flag SEAM.STAT.WIT_REACH = true ∧
      b.flag SEAM.STAT.WIT_VOTE = true)) ∧
    Does (.refuse m) s (fun b => b.seam.refusedMs = m.remain ∧ b.seam.granted = false ∧ b.flag SEAM.STAT.WIT_REACH = true ∧
      b.flag SEAM.STAT.WIT_VOTE = false ∧ seamRole b = seamRole b0 ∧ b.seam.leaseEnd = b0.seam.leaseEnd)) ∧
  (seamRun b0 = false ∨ m.mod ≠ witnessMod b0 → Does (.grant m) s (nothing b0) ∧ Does (.refuse m) s (nothing b0)) ∧
  (∀ t, s.body.seam.witSeen.or s.body.seam.startAt = some t → seamRun s.body = true → witnessMod s.body ≠ 0xFFFF → t + tL s.body ≤ now →
    s.body.flag SEAM.EVENT.WIT_LOST = false ∨ s.body.flag SEAM.STAT.WIT_REACH = true → Does .witLost s (fun b =>
      b.flag SEAM.EVENT.WIT_LOST = true ∧ b.flag SEAM.STAT.WIT_REACH = false ∧ b.flag SEAM.STAT.WIT_VOTE = false ∧
      b.bit SAFE.HELD.BLOCK 14 = true)) ∧
  (seamRun s.body = false ∨ witnessMod s.body = 0xFFFF ∨ s.body.seam.witSeen.or s.body.seam.startAt = none ∨
    (∃ t, s.body.seam.witSeen.or s.body.seam.startAt = some t ∧ now < t + tL s.body) ∨
    (s.body.flag SEAM.EVENT.WIT_LOST = true ∧ s.body.flag SEAM.STAT.WIT_REACH = false) → Does .witLost s (nothing s.body)) ∧
  (∀ a, seamRun s.body = true → witnessMod s.body ≠ 0xFFFF → assocOf s.body (witnessMod s.body) = some a → Does .healthSend s (fun b =>
    ∃ x, b.out = s.body.out ++ [.shalan (witnessMod s.body) x] ∧ msgType x = 0x0A ∧ u8 (msgBody x) 0 = 4)) ∧
  (seamRun s.body = false ∨ witnessMod s.body = 0xFFFF ∨ assocOf s.body (witnessMod s.body) = none → Does .healthSend s (fun b =>
    b.seam = s.body.seam ∧ b.out = s.body.out)) ∧
  (∀ a k, assocOf b0 m.mod = some a → a.kept.find? (fun k => decide (k.1 = m.seq)) = some k →
    Does (.renew m) s (fun b => b.seam = b0.seam ∧ b.out = b0.out ++ [.shalan m.mod k.2]) ∧
    Does (.acquire m) s (fun b => b.seam = b0.seam ∧ b.out = b0.out ++ [.shalan m.mod k.2])) ∧
  (witnesses b0 m.mod = true →
    (new → witQuietLeft b0 = 0 → witRemain b0 (wr b0) m.member = 0 →
      Does (.renew m) s (fun b => (wr b).votedFor = some (m.member, (now : Int)) ∧ (wr b).epoch = max (wr b0).epoch m.epoch ∧
        answers b0 0x81 b) ∧
      Does (.acquire m) s (fun b => (wr b).votedFor = some (m.member, (now : Int)) ∧ (wr b).epoch = max (wr b0).epoch m.epoch ∧
        answers b0 0x81 b)) ∧
    (new → witQuietLeft b0 = 0 → 0 < witRemain b0 (wr b0) m.member →
      Does (.renew m) s (fun b => b.seam = b0.seam ∧ answers b0 0x82 b) ∧
      (witRemain b0 (wr b0) m.member ≤ tG b0 → Does (.acquire m) s (fun b => (wr b).held = some m ∧ b.out = b0.out)) ∧
      (tG b0 < witRemain b0 (wr b0) m.member → Does (.acquire m) s (fun b => b.seam = b0.seam ∧ answers b0 0x82 b))) ∧
    (new → 0 < witQuietLeft b0 → Does (.renew m) s (fun b => b.seam = b0.seam ∧ answers b0 0x82 b) ∧
      Does (.acquire m) s (fun b => b.seam = b0.seam ∧ answers b0 0x82 b)) ∧
    ((∀ v, (wr b0).votedFor = some v → v.1 = m.member) → Does (.release m none) s (fun b =>
      (wr b).votedFor = some (m.voteFor, (now : Int)) ∧ (wr b).epoch = max (wr b0).epoch m.epoch)) ∧
    ((∃ v, (wr b0).votedFor = some v ∧ v.1 ≠ m.member) → Does (.release m none) s (nothing b0)) ∧
    (seamRun b0 = false ∨ m.mod ≠ witnessMod b0 → Does (.health m) s (fun b => (m.uid, (now : Int), m.health) ∈ (wr b).health ∧
      ((assocOf b0 m.mod).isSome = true → ∃ x, b.out = b0.out ++ [.shalan m.mod x] ∧ msgType x = 0x0A ∧ u8 (msgBody x) 0 = 4)))) ∧
  (witnesses b0 m.mod = false → (new → Does (.renew m) s (nothing b0) ∧ Does (.acquire m) s (nothing b0)) ∧
    Does (.release m none) s (nothing b0) ∧
    (seamRun b0 = false ∨ m.mod ≠ witnessMod b0 → Does (.health m) s (nothing b0))) ∧
  (seamRun b0 = true → m.mod = witnessMod b0 →
    (m.uid = twinUid b0 → m.health < 2 ^ 32 → Does (.health m) s (fun b => b.seam.witAlive = some now ∧
      b.seam.witGood = (if m.health % 4 = 0 then some now else b0.seam.witGood) ∧ b.get SEAM.PEER_HEALTH.word = m.health ∧
      (b0.flag SEAM.EVENT.PEER_LOST = true → b0.flag SEAM.STAT.SEAM_UP = false → b.flag SEAM.EVENT.SEAM_LOST = true))) ∧
    (m.uid ≠ twinUid b0 → Does (.health m) s (nothing b0))) ∧
  (let grants := witnesses s.body m.mod = true ∧ witQuietLeft s.body = 0;
    ((wr s.body).held = some m → grants → witRemain s.body (wr s.body) m.member = 0 → Does (.witnessHeldGrant m.mod) s (fun b =>
      (wr b).votedFor = some (m.member, (now : Int)) ∧ (wr b).held = none ∧ answers s.body 0x81 b)) ∧
    ((wr s.body).held = none ∨ ¬ grants ∨ (∃ x, (wr s.body).held = some x ∧ 0 < witRemain s.body (wr s.body) x.member) →
      Does (.witnessHeldGrant m.mod) s (nothing s.body))) ∧
  Does .witnessQuietEnd s (fun b => RegsKept (fun _ => False) s.body b ∧
    b.seam.witQuiet = (if witQuietLeft s.body = 0 then none else s.body.seam.witQuiet))

/-- With power to the engines each of these rows completes. A HEARTBEAT, MIRROR or RELEASE whose MICs are not those of its
bytes, from a foreign UID, or with a counter not above the last changes no SEAM state. A valid HEARTBEAT marks the twin heard
and clears both losses; beside a holder a passive member becomes STANDBY, and a standby whose twin holds no lease PASSIVE; a
member whose vote is free binds it to the twin that asks and answers with its vote; the twin's vote extends a holder's lease and
makes a member that may take it HOLDER. HEARTBEAT_SEND takes a counter and, with a pair key and X5 up, sends one under it.
PEER_LOST after T_L/2 and SEAM_LINK_DOWN clear SEAM_UP and feed the inputs alone. A MIRROR set in the standby waits whole for
the next boundary, takes force and is confirmed at once for a hand-over, or is dropped and counted with every one missing before
it and every later partial one; an armed switch in it is taken. HANDOVER arms only towards a GOOD twin; HANDOVER_STOP_BUILD
sends the set that is owed and stops building; HANDOVER_RELEASE of a confirmed hand-over makes the holder STANDBY with its vote
given away and every relay open, or due to open, and moves any other on; RELEASE makes the member named that may take the lease
HOLDER. TAKEOVER_CHECK records HEARD, flags a degraded takeover and arms the way back of a lease not returned before. HOLD_T_S
after lapsing LAPSE_OUTPUT_TIMEOUT gives every relay its HEM_POS. (R441, R443, R447, R453, R454, R456, R458, R459, R465, R468,
R470, R544) -/
def Obligations.SeamFramesAndHandOverMoveTheRole : Prop :=
  ∀ (s : State) (h : SeamBeat) (m : MirrorSet) (w : WitMsg), powered s.body = true → h.epoch < 2 ^ 32 →
  let now := s.body.clock.cyc
  let seamKept := fun (b : Body) => b.seam = s.body.seam ∧ ∀ a, inBlock 14 a → b.word a = s.body.word a
  let nothing := fun (b : Body) => b.seam = s.body.seam ∧ b.out = s.body.out ∧ RegsKept (fun _ => False) s.body b
  let own := member s.body
  let role := seamRole s.body
  let renewed := fun t => h.renew = some t ∧ seamRun s.body = true ∧ role ≠ 2 ∧ mayVote s.body (1 - own) = true
  let free := seamRun s.body = true ∧ role ≤ 1 ∧ s.body.seam.learn = none ∧ h.serial = s.body.get SYS.PAT_SERIAL.SERIAL ∧
    s.body.get UPD.STAT.ENROL = 1
  let epoch := (max (max (s.body.get SEAM.EPOCH.EPOCH) h.epoch) s.body.seam.witEpoch + 1) % 2 ^ 32
  let gap := (s.body.seam.mirBolt.map fun k => m.bolt - (k + 1)).getD 0
  let dropped := fun (n : Nat) (b : Body) => b.get SEAM.MIRROR_STAT.DROPPED = min (s.body.get SEAM.MIRROR_STAT.DROPPED + n) 0xFFFF
  let reached := s.body.nv.keys.pair.isSome = true ∧ portUp s.body 2 = true
  let beat := beatOk s.body seamBeatKind h (beatBytes h)
  let set := beatOk s.body seamMirrorKind h (mirrorBytes h m)
  let named := beatOk s.body seamReleaseKind h (releaseBytes h w.voteFor)
  let sendsSet := seamRun s.body && decide (role = 2) && appsRun s.body && decide (boltAfter s.body 100 ≤ boltIdx s.body + 1)
  (beat = false → Does (.heartbeat h) s seamKept) ∧ (set = false → Does (.mirror h m) s seamKept) ∧
  (named = false → Does (.release w (some h)) s seamKept) ∧
  (beat = true →
    Does (.heartbeat h) s (fun b => b.seam.rx = h.counter ∧ b.seam.peerHeld = h.held ∧ b.seam.peer = some h ∧ b.seam.peerSeen = some now ∧
      b.flag SEAM.STAT.SEAM_UP = true ∧ b.flag SEAM.EVENT.PEER_LOST = false ∧ b.flag SEAM.EVENT.SEAM_LOST = false ∧
      b.flag GIO.DI_STAT.SINK_SOLO = false) ∧
    (h.vote = none → Does (.heartbeat h) s (fun b => b.get SEAM.EPOCH.EPOCH = max (s.body.get SEAM.EPOCH.EPOCH) h.epoch ∧
      seamRole b = (if h.role = 2 ∧ role = 0 then 1 else if h.role = 0 ∧ role = 1 then 0 else role) ∧
      (∀ t, renewed t → b.seam.bound = some (1 - own, now + tL s.body + tG s.body) ∧
        (reached → ∃ x f l, b.out = s.body.out ++ l ++ [.seam x f] ∧ x.vote = some t)) ∧
      ((∀ t, ¬ renewed t) → b.seam.bound = s.body.seam.bound))) ∧
    (∀ v l, h.vote = some v → seamRun s.body = true → s.body.seam.lastRenew = some l → v ≤ l →
      (role = 2 → Does (.heartbeat h) s (fun b => b.flag SEAM.STAT.PEER_VOTE = true ∧ b.seam.peerVote = some v ∧ seamRole b = 2 ∧
        b.seam.leaseEnd = some (max (s.body.seam.leaseEnd.getD 0) (v + tL s.body)))) ∧
      (free → h.renew = none → mayVote s.body own = true → now < v + tL s.body → Does (.heartbeat h) s (fun b => seamRole b = 2 ∧
        b.seam.leaseEnd = some (v + tL s.body) ∧ b.get SEAM.EPOCH.EPOCH = epoch ∧ b.get AIR.EPOCH.EPOCH = epoch % 2 ^ 14)))) ∧
  (seamRun s.body = true → Does .heartbeatSend s (fun b => b.seam.tx = s.body.seam.tx + 1 ∧
    (¬ reached → b.out = s.body.out) ∧
    (reached → ∃ x f, b.out = s.body.out ++ [.seam x [f]] ∧ b16 f 12 = 0x88B5 ∧
      x.uid = s.body.nv.uid ∧ x.role = role ∧ x.epoch = s.body.get SEAM.EPOCH.EPOCH ∧ x.counter = s.body.seam.tx + 1 ∧
      (∀ key, s.body.nv.keys.pair = some key → x.mic = seamMics key seamBeatKind x (beatBytes x)) ∧
      x.renew = if role = 2 then s.body.seam.lastRenew else none))) ∧
  (seamRun s.body = false → Does .heartbeatSend s nothing ∧ Does .seamLinkDown s (fun b => b.flag SW.PORT_STAT.LINK 2 = false)) ∧
  (∀ t, seamRun s.body = true → s.body.seam.peerSeen.or s.body.seam.startAt = some t → t + tL s.body / 2 ≤ now →
    Does .peerLost s (fun b => b.flag SEAM.EVENT.PEER_LOST = true ∧ b.flag SEAM.STAT.SEAM_UP = false ∧
      b.flag SEAM.STAT.PEER_VOTE = false ∧ b.flag GIO.DI_STAT.SINK_SOLO = true ∧
      ((s.body.seam.witAlive.any fun a => decide (now < a + tL s.body / 4)) = true → b.flag SEAM.EVENT.SEAM_LOST = true))) ∧
  (seamRun s.body = false ∨ s.body.seam.peerSeen.or s.body.seam.startAt = none ∨
    (∃ t, s.body.seam.peerSeen.or s.body.seam.startAt = some t ∧ now < t + tL s.body / 2) → Does .peerLost s nothing) ∧
  (seamRun s.body = true → Does .seamLinkDown s (fun b => b.flag SEAM.EVENT.SEAM_LOST = true ∧ b.flag SEAM.STAT.SEAM_UP = false ∧
    b.flag GIO.DI_STAT.SINK_SOLO = true ∧ b.flag SW.PORT_STAT.LINK 2 = false)) ∧
  (set = true →
    (role ≠ 1 ∨ (m.extra = true ∧ m.intact = false) → Does (.mirror h m) s (fun b => b.seam.mirSets = s.body.seam.mirSets ∧
      b.ce = s.body.ce ∧ b.pat = s.body.pat ∧ b.flag SEAM.STAT.SEAM_UP = true ∧
      b.seam.rx = h.counter + seamCount (mirrorBytes h m) - 1)) ∧
    (∀ l k, role = 1 → m.has.contains 7 = true → m.intact = true → m.extra = true → m.staged = some (l, k) →
      (if isPartial l then u32 l 0x14 = s.body.get SYS.PAT_SERIAL.SERIAL else u32 l 0x10 ≠ s.body.get SYS.PAT_SERIAL.SERIAL) →
      Does (.mirror h m) s (fun b => (b.pat.staged.map fun x => (x.container, x.armed)) = some (l, some k) ∧
        b.seam.mirSets = s.body.seam.mirSets)) ∧
    (role = 1 → m.extra = false →
      (m.intact = false → Does (.mirror h m) s (fun b => b.seam.needFull = true ∧ b.seam.mirSets = s.body.seam.mirSets ∧ dropped 1 b)) ∧
      (m.intact = true → m.full = true → m.handover = false → Does (.mirror h m) s (fun b => b.seam.mirSets = s.body.seam.mirSets ++ [m] ∧
        b.seam.needFull = false ∧ b.ce = s.body.ce ∧ dropped gap b)) ∧
      (m.intact = true → m.full = true → m.handover = true → Does (.mirror h m) s (fun b => b.seam.needFull = false ∧
        b.seam.mirSets = [] ∧ b.get SEAM.MIRROR.BOLT = m.bolt % 2 ^ 32 ∧
        (reached → ∃ x f l, b.out = s.body.out ++ l ++ [.seam x f] ∧ x.applied = true))) ∧
      (m.intact = true → m.full = false → s.body.seam.needFull = true ∨ 0 < gap → Does (.mirror h m) s (fun b =>
        b.seam.mirSets = s.body.seam.mirSets ∧ b.ce = s.body.ce ∧ b.seam.needFull = true ∧ dropped (gap + 1) b)) ∧
      (m.intact = true → m.full = false → s.body.seam.needFull = false → gap = 0 → Does (.mirror h m) s (fun b =>
        b.seam.mirSets = s.body.seam.mirSets ++ [m] ∧ b.ce = s.body.ce ∧ dropped 0 b)))) ∧
  (s.body.seam.hand = none →
    (seamRun s.body = true ∧ role = 2 ∧ serialOk s.body = true ∧ twinGood s.body = true → Does .handover s (fun b =>
      b.flag SEAM.STAT.HO_ARMED = true ∧ b.seam.hand = some ⟨boltAfter s.body 100, sendsSet, false, false⟩)) ∧
    (¬ (seamRun s.body = true ∧ role = 2 ∧ serialOk s.body = true ∧ twinGood s.body = true) → Does .handover s (fun b =>
      b.flag SEAM.CTL.HANDOVER = false ∧ b.seam.hand = none)) ∧
    Does .handoverStopBuild s nothing ∧ Does .handoverRelease s nothing) ∧
  (∀ x, s.body.seam.hand = some x → Does .handover s nothing ∧
    (x.sentSet = true →
      (x.tb ≤ boltIdx s.body + 1 ∧ handBlocked s.body x.tb = false → Does .handoverStopBuild s (fun b =>
        b.seam = { s.body.seam with stopBuild := true } ∧ RegsKept (fun _ => False) s.body b)) ∧
      (¬ (x.tb ≤ boltIdx s.body + 1 ∧ handBlocked s.body x.tb = false) → Does .handoverStopBuild s nothing)) ∧
    (x.sentSet = false →
      (seamRun s.body = true → role = 2 → appsRun s.body = true → x.tb ≤ boltIdx s.body + 1 → Does .handoverStopBuild s (fun b =>
        b.seam.hand = some { x with sentSet := true } ∧
        b.seam.stopBuild = (s.body.seam.stopBuild || !handBlocked s.body x.tb) ∧
        (reached → ∃ y z f l, b.out = s.body.out ++ l ++ [.mirror y z f] ∧ z.full = true ∧ z.handover = true))) ∧
      (seamRun s.body = false ∨ role ≠ 2 ∨ appsRun s.body = false ∨ boltIdx s.body + 1 < x.tb → Does .handoverStopBuild s nothing)) ∧
    (boltIdx s.body + 1 < x.tb → Does .handoverRelease s nothing) ∧
    (x.tb ≤ boltIdx s.body + 1 → x.confirmed = true → handBlocked s.body x.tb = false → Does .handoverRelease s (fun b =>
      seamRole b = 1 ∧ b.flag AIR.CTL.RUN = false ∧ b.seam.hand = none ∧ b.seam.leaseEnd = none ∧
      b.seam.bound = some (1 - own, now + tL s.body + tG s.body) ∧ b.flag SEAM.EVENT.HANDOVER_DONE = true ∧
      (x.returning = true → b.flag SEAM.EVENT.RETURNED = true) ∧
      b.get SEAM.COUNT.HANDOVERS = (s.body.get SEAM.COUNT.HANDOVERS + 1) % 2 ^ 16 ∧ 
      (∀ k, k < 4 → if (tabGet (fun _ => none) s.body.gio.relAt k).any fun t => decide (now - t < msCyc 100) then
        b.bit GIO.REL_STAT.HELD k = true else b.bit GIO.REL_STAT.STATE k = false) ∧
      (reached → ∃ y f l, b.out = s.body.out ++ .release y (1 - own) f :: l ∧ y.epoch = s.body.get SEAM.EPOCH.EPOCH ∧
        y.back = x.returning))) ∧
    (x.tb ≤ boltIdx s.body + 1 → x.confirmed = false ∨ handBlocked s.body x.tb = true → Does .handoverRelease s (fun b =>
      seamRole b = role ∧ b.seam.stopBuild = false ∧
      b.seam.hand = some { x with tb := max (x.tb + 1) (boltIdx s.body + 1), sentSet := false, confirmed := false }))) ∧
  (named = true →
    (w.voteFor = own → free → s.body.seam.quiet = false → Does (.release w (some h)) s (fun b => seamRole b = 2 ∧
      b.seam.leaseEnd = some (now + tL s.body) ∧ b.get SEAM.EPOCH.EPOCH = epoch)) ∧
    (w.voteFor ≠ own ∨ ¬ (free ∧ s.body.seam.quiet = false) → Does (.release w (some h)) s (fun b => seamRole b = role ∧
      b.seam.rx = h.counter ∧ b.flag SEAM.STAT.SEAM_UP = true))) ∧
  (∀ t, s.body.seam.test = some t → t.start + 3 * boltNs s.body ≤ tnNs s.body → Does .takeoverCheck s (fun b => b.seam.test = none ∧
    b.seam.slicesHeld = false ∧ b.get SEAM.TAKEOVER.HEARD = t.heard.length % 2 ^ 16 ∧
    (t.heard.length * 10 < t.expected.length → role = 2 → b.flag SEAM.EVENT.TAKEOVER_DEGRADED = true ∧
      (let back := (s.body.seam.witGood.any fun a => decide (now < a + tL s.body)) && !s.body.seam.gotBack && !s.body.seam.returned
      b.seam.hand = if back && s.body.seam.hand.isNone then some ⟨boltAfter s.body 100, sendsSet, false, true⟩ else s.body.seam.hand)))) ∧
  (s.body.seam.test = none ∨ (∃ t, s.body.seam.test = some t ∧ tnNs s.body < t.start + 3 * boltNs s.body) →
    Does .takeoverCheck s nothing) ∧
  (∀ t, s.body.seam.lapsedAt = some t → role = 0 → t + 26000000 * holdTS s.body ≤ now → Does .lapseOutputTimeout s (fun b =>
    b.seam.lapsedAt = none ∧ ∀ k, k < 4 → b.bit GIO.REL_STAT.STATE k = s.body.flag GIO.REL_CFG.HEM_POS k)) ∧
  (s.body.seam.lapsedAt = none ∨ role ≠ 0 ∨ (∃ t, s.body.seam.lapsedAt = some t ∧ now < t + 26000000 * holdTS s.body) →
    Does .lapseOutputTimeout s nothing)

/-- With power to the engines each of these rows completes. A repeated SEQ is answered from what was kept, one below 64 kept
ones is discarded, and a request that is refused is answered with its code, none of them changing a register. A request that
this module serves: REG_READ and REG_WRITE of one word do what an access by the session does and answer 0, 0x20 or 0x21, and a
bad form 0x0A; PATTERN_PIECE joins or starts the assembly, whose last piece hands the container on, or is refused with it
unchanged; IMAGE_PIECE is stored exactly when its hash matches, and answers what the image store answers; SCHEDULE ARM takes the
free entry, CANCEL frees a host entry, READ shows the record, and each answers 0x0A, 0x09 or 0x11 otherwise; SUBSCRIBE is kept;
an EVENT of a host enters the crossbar on the threads of its port, or answers 0x0A, 0x0D or 0x09; BLACKBOX_READ answers the
records. REPORT, METER_RECORD, TIME_NOTE and the EVENT of a managed module are passed on to the own collector, and of any other
module answered 0x24. (R478, R480, R482, R483, R484, R485, R486, R487, R490, R491, R492, R493) -/
def Obligations.ShalanRequestsAreServedAndAnswered : Prop :=
  ∀ (s : State) (id : Nat) (a : Assoc) (m : List Nat), powered s.body = true →
  let b0 := setAssoc { a with lastAt := s.body.clock.cyc } s.body
  let p := msgBody m
  let i := schedIdx m
  let re := p.drop 8
  let data := p.drop 16
  let ans := Answered s.body id m
  let rows := [Instr.regRead id m, .regWrite id m, .patternPiece id m, .imagePiece id m, .scheduleArm id m, .scheduleCancel id m,
    .scheduleRead id m, .report id m, .subscribe id m, .meterRecord id m, .event id m, .timeNote id m, .blackboxRead id m]
  (Arrives s.body id a m → coresServe s.body = true →
    (∀ k, a.kept.find? (fun k => decide (k.1 = msgSeq m)) = some k → ∀ c ∈ rows, Does c s (fun b =>
      b.out = s.body.out ++ [.shalan id k.2] ∧ RegsKept (fun _ => False) s.body b ∧ b.nv = s.body.nv)) ∧
    (64 ≤ a.kept.length → (∀ k ∈ a.kept, msgSeq m < k.1) → ∀ c ∈ rows, Does c s (fun b => b.out = s.body.out ∧
      RegsKept (fun _ => False) s.body b ∧ b.nv = s.body.nv))) ∧
  (∀ c, Fresh s.body id a m → refusal s.body a m = some c → ∀ r ∈ rows, Does r s (fun b => ans c [] b ∧
    RegsKept (fun _ => False) s.body b)) ∧
  (Served s.body id a m 1 →
    (regFormOk m = false → Does (.regRead id m) s (fun b => ans 0x0A (p.take 8) b ∧ RegsKept (fun _ => False) s.body b)) ∧
    (regFormOk m = true → regCount m = 1 → Does (.regRead id m) s (fun b => match regRead (regAddr m) (!a.secure) (initOf a) b0 with
      | (c, some v) => ans 0 (p.take 8 ++ toBe 4 v) b ∧ b.regs = c.regs
      | (c, none) => ans 0x21 (p.take 8) b ∧ b.regs = c.regs))) ∧
  (Served s.body id a m 2 →
    (regFormOk m = false → Does (.regWrite id m) s (fun b => ans 0x0A [] b ∧ RegsKept (fun _ => False) s.body b)) ∧
    (regFormOk m = true → regCount m = 1 → Does (.regWrite id m) s (fun b =>
      match regWrite (regAddr m) (b32 p 8) (!a.secure) (initOf a) b0 with
      | (c, true, bad) => ans (if bad then 0x20 else 0) [] b ∧ b.regs = c.regs ∧ b.mem = c.mem
      | (c, false, _) => ans 0x21 [] b ∧ b.regs = c.regs ∧ b.mem = c.mem))) ∧
  (Served s.body id a m 3 →
    (data = [] ∨ 1024 < data.length ∨ b32 p 8 % 8 ≠ 0 → Does (.patternPiece id m) s (fun b => ans 0x0A [] b ∧ b.pat = s.body.pat)) ∧
    (data ≠ [] → data.length ≤ 1024 → b32 p 8 % 8 = 0 →
      (assemblyFor s.body id (b32 p 0) (b32 p 4) = none → Does (.patternPiece id m) s (fun b => ans 0x11 [] b ∧ b.pat = s.body.pat)) ∧
      (∀ x, assemblyFor s.body id (b32 p 0) (b32 p 4) = some x →
        let fits := x.total = b32 p 4 ∧ b32 p 8 + data.length ≤ b32 p 4 ∧
          ∀ j < data.length, ∀ v, heldByte x.pieces (b32 p 8 + j) = some v → v = data.getD j 0
        let y := { x with pieces := x.pieces ++ [(b32 p 8, data)], fedCyc := s.body.clock.cyc }
        (¬ fits → Does (.patternPiece id m) s (fun b => ans 0x01 [] b ∧ b.pat = s.body.pat)) ∧
        (fits → reachFrom y.pieces y.pieces.length 0 < b32 p 4 → Does (.patternPiece id m) s (fun b => ans 0 [] b ∧
          b.pat = { s.body.pat with assembly := some y })) ∧
        (fits → b32 p 4 ≤ reachFrom y.pieces y.pieces.length 0 → Does (.patternPiece id m) s (fun b =>
          match receivePattern ((List.range (b32 p 4)).map fun o => (heldByte y.pieces o).getD 0)
            { b0 with pat := { s.body.pat with assembly := none } } with
          | (c, code, _, ofs) => ans code (if code = 0 then [] else toBe 4 ofs) b ∧ b.pat = c.pat ∧ b.regs = c.regs))))) ∧
  (Served s.body id a m 4 →
    (data = [] ∨ 1024 < data.length → Does (.imagePiece id m) s (fun b => ans 0x0A [] b ∧ b.nv = s.body.nv)) ∧
    (data ≠ [] → data.length ≤ 1024 →
      (∀ c k, imagePiece (b32 p 0) (b32 p 4) (b32 p 8) data
          (if u8 p 14 % 2 = 1 then { b0 with sha := { b0.sha with got := b0.sha.got + 1 } } else b0) = (c, k) →
        Does (.imagePiece id m) s (fun b => ans k [] b ∧ b.nv = c.nv ∧ b.regs = c.regs)) ∧
      (areaOf s.body (b32 p 0) = none → b32 p 4 ≠ 0 → Does (.imagePiece id m) s (fun b => ans 0x11 [] b ∧ b.nv = s.body.nv)) ∧
      (∀ k x, areaOf s.body (b32 p 0) = some (k, x) → b32 p 8 = x.cnt → b32 p 4 < x.cnt →
        (x.holds (b32 p 4) = true → Does (.imagePiece id m) s (fun b => ans 0 [] b ∧ b.nv = s.body.nv)) ∧
        (x.holds (b32 p 4) = false → 0 < b32 p 4 → x.holds 0 = true → x.manHeld = true → x.manPieces ≤ b32 p 4 →
          Does (.imagePiece id m) s (fun b => if pieceOk x.man (b32 p 4 - x.manPieces) data
            then ans 0 [] b ∧ stagingOf b k = some { x with pieces := x.pieces ++ [(b32 p 4, data)] }
            else ans 8 [] b ∧ b.nv = s.body.nv))))) ∧
  (Served s.body id a m 5 →
    let good := recordOk (u8 re 18) (u32 re 20) = true ∧ schedThreadOk s.body (u8 re 16) = true
    let world := a.secure = true ∨ nsThreadOk s.body (u8 re 16) = true
    (u8 p 0 = 1 →
      (∀ e, i < 1024 ∧ (schedOf s.body i).owner = .free ∧ e = i ∨ i = 0xFFFF ∧ highestFree s.body 1024 = some e → good → world →
        Does (.scheduleArm id m) s (fun b => ans 0 [] b ∧ (schedOf b e).owner = .host ∧
          (schedOf b e).next = u32 re 0 + u32 re 4 * 2 ^ 32)) ∧
      (i ≠ 0xFFFF ∧ (1023 < i ∨ (schedOf s.body i).owner ≠ .free) ∨ ¬ good → Does (.scheduleArm id m) s (fun b => ans 0x0A [] b ∧
        b.loom = s.body.loom)) ∧
      (i = 0xFFFF ∨ i < 1024 ∧ (schedOf s.body i).owner = .free → good → ¬ world → Does (.scheduleArm id m) s (fun b => ans 0x09 [] b ∧
        b.loom = s.body.loom)) ∧
      (i = 0xFFFF → highestFree s.body 1024 = none → good → world → Does (.scheduleArm id m) s (fun b => ans 0x11 [] b ∧
        b.loom = s.body.loom))) ∧
    (u8 p 0 = 2 → i < 1024 → (schedOf s.body i).owner = .host → Does (.scheduleCancel id m) s (fun b => ans 0 [] b ∧
      (schedOf b i).owner = .free)) ∧
    (u8 p 0 = 2 → 1023 < i ∨ (schedOf s.body i).owner ≠ .host → Does (.scheduleCancel id m) s (fun b => ans 0x0A [] b ∧
      b.loom = s.body.loom)) ∧
    (u8 p 0 = 3 → i < 1024 → Does (.scheduleRead id m) s (fun b => b.loom = s.body.loom ∧
      ans 0 ((List.range 8).flatMap fun k => toLe 4 (viewSched s.body i k (schedWord s.body i k))) b)) ∧
    (u8 p 0 = 3 → 1023 < i → Does (.scheduleRead id m) s (fun b => ans 0x0A [] b ∧ b.loom = s.body.loom))) ∧
  (Served s.body id a m 6 → id ≥ 0x10000 →
    (u8 p 0 = 0xFF → u8 p 1 = 0 → p.length = 8 → Does (.subscribe id m) s (fun b => ans 0 [] b ∧
      (assocOf b id).map (·.sub) = some (b32 p 4 % 128))) ∧
    (u8 p 0 ≠ 0xFF ∨ u8 p 1 ≠ 0 → Does (.report id m) s (ans 0x0A []) ∧ Does (.subscribe id m) s (ans 0x0A []))) ∧
  (∀ c, id < 0x10000 → collector s.body = some c → (managedMods s.body).contains id = true →
    (Served s.body id a m 6 → Does (.report id m) s (fun b => ans 0 [] b ∧ Sent s.body c 6 p b)) ∧
    (Served s.body id a m 7 → Does (.meterRecord id m) s (fun b => ans 0 [] b ∧ Sent s.body c 7 p b)) ∧
    (Served s.body id a m 8 → Does (.event id m) s (fun b => ans 0 [] b ∧ Sent s.body c 8 p b)) ∧
    (Served s.body id a m 9 → Does (.timeNote id m) s (fun b => ans 0 [] b ∧ Sent s.body c 9 p b))) ∧
  (id < 0x10000 → (managedMods s.body).contains id = false →
    (Served s.body id a m 6 → Does (.report id m) s (ans 0x24 [])) ∧ (Served s.body id a m 7 → Does (.meterRecord id m) s (ans 0x24 [])) ∧
    (Served s.body id a m 8 → Does (.event id m) s (ans 0x24 [])) ∧ (Served s.body id a m 9 → Does (.timeNote id m) s (ans 0x24 []))) ∧
  (Served s.body id a m 8 → id ≥ 0x10000 →
    let ks := threadsFrom s.body 0x48 (u8 p 0)
    let barred := a.secure = false ∧ ∃ k ∈ ks, ∃ d ∈ threadDests s.body k, destSecure s.body d.1 = true
    (15 < u8 p 0 → Does (.event id m) s (fun b => ans 0x0A [] b ∧ b.loom = s.body.loom)) ∧
    (u8 p 0 ≤ 15 →
      (ks = [] → Does (.event id m) s (fun b => ans 0x0D [] b ∧ b.loom = s.body.loom)) ∧
      (ks ≠ [] → barred → Does (.event id m) s (fun b => ans 0x09 [] b ∧ b.loom = s.body.loom)) ∧
      (ks ≠ [] → ¬ barred → Does (.event id m) s (fun b => ans 0 [] b ∧ b.flag SYS.CLK_STAT.GATED = false ∧
        b.loom.xbar = s.body.loom.xbar ++ ks.map fun k => ⟨b64 p 8, u8 p 1, k, false, 0x48, u8 p 0⟩)))) ∧
  (Served s.body id a m 11 → Does (.blackboxRead id m) s (fun b => b.nv = s.body.nv ∧
    if 1 ≤ b16 p 4 ∧ b16 p 4 ≤ 64
    then ans 0 (((s.body.nv.bb.filter fun r => decide (b32 p 0 ≤ r.seq)).take (min (b16 p 4) 35)).map BbRec.bytes).flatten b
    else ans 0x0A [] b))

/-- With power to the engines and while the runtime serves, each of these rows completes. DTLS_HANDSHAKE opens a fresh
association for a trusted host while fewer than 8 others are open, and for a trusted manager or managed module, at the member's
own address, or at the pair address in a module that holds it; before enrolment for the secure host on X6 of a module with an
identity; and none for any other peer. NEIGHBOR_ADVERTISEMENT of the pair address by another module latches the MOD conflict, as
does a message with the own MOD from a foreign UID; the own and the twin's do not. ASSOCIATION_IDLE closes after 300 s and not
before. SHALAN_ANSWER removes its request from those sent, keeps a relayed pattern piece that found the receiver busy, and else
only refreshes its association. SHALAN_RESEND sends again once the wait is over, at most 8 times; then the association closes
and a new one opens, whose numbers start again; a busy receiver is offered its piece again after 1 s, or a second later when its
send queue is full. TIME_NOTE_SEND and CHAIN_REPORT_SEND send to the collector and start their counts anew; CHAIN_RATE_WINDOW
starts every count of its window anew. While the runtime does not serve none of them but ASSOCIATION_IDLE changes anything.
(R22, R472, R473, R474, R476, R479, R488, R495, R496, R497, R518, R528) -/
def Obligations.AssociationsOpenResendAndClose : Prop :=
  ∀ (s : State) (id seq port addr mac : Nat) (p : Peer) (m : List Nat), powered s.body = true →
  let now := s.body.clock.cyc
  let nothing := fun (b : Body) => b.sha = s.body.sha ∧ b.out = s.body.out ∧ RegsKept (fun _ => False) s.body b
  let own := p.x6 = true ∨ p.addr = memberAddr s.body
  let at_ := own ∨ (holderless s.body = false ∧ p.addr = pairAddr s.body)
  let opened := fun (k : Nat) (b : Body) => ∃ a, assocOf b k = some a ∧ a.uid = p.uid ∧ a.x6 = p.x6 ∧ a.own = decide own ∧
    a.kept = [] ∧ a.sub = 0 ∧ (queueFor s.body k = [] → assocOf s.body k = none → isHost k = true → a.sent = [] ∧ a.nextSeq = 1)
  let slots := (s.body.sha.assocs.filter fun a => isHost a.id && decide (a.id ≠ 0x10000 + p.session)).length
  let foreign := addr = pairAddr s.body ∧ port < 2 ∧ mac ≠ s.body.nv.mac ∧ ∀ h, s.body.seam.peer = some h → mac ≠ h.mac
  let due := fun (r : ShalReq) => r.at_ + msCyc (resendMs r.sends) ≤ now
  (coresServe s.body = false → Does (.dtlsHandshake p) s nothing ∧ Does (.neighborAdvertisement port addr mac) s nothing ∧
    Does (.shalanAnswer id m) s nothing ∧ Does (.shalanResend id seq) s nothing ∧ Does .timeNoteSend s nothing ∧
    Does .chainReportSend s nothing ∧ Does .chainRateWindow s nothing) ∧
  (∀ a, assocOf s.body id = some a →
    (300 ≤ sinceS s.body a.lastAt → Does (.associationIdle id) s (fun b => assocOf b id = none)) ∧
    (sinceS s.body a.lastAt < 300 → Does (.associationIdle id) s nothing)) ∧
  (assocOf s.body id = none → Does (.associationIdle id) s nothing) ∧
  (coresServe s.body = true →
    (p.host = true → p.options = true → at_ →
      (s.body.get UPD.STAT.ENROL = 0 →
        (p.secure = true ∧ p.x6 = true ∧ s.body.nv.keys.identity.isSome = true ∧ slots < 8 → Does (.dtlsHandshake p) s (opened (0x10000 + p.session))) ∧
        (¬ (p.secure = true ∧ p.x6 = true ∧ s.body.nv.keys.identity.isSome = true ∧ slots < 8) → Does (.dtlsHandshake p) s nothing)) ∧
      (s.body.get UPD.STAT.ENROL ≠ 0 →
        (p.trusted = true → slots < 8 → Does (.dtlsHandshake p) s (fun b => opened (0x10000 + p.session) b ∧
          (assocOf b (0x10000 + p.session)).map (·.secure) = some p.secure)) ∧
        (p.trusted = false ∨ 8 ≤ slots → Does (.dtlsHandshake p) s nothing))) ∧
    (p.host = true → p.options = false ∨ ¬ at_ → Does (.dtlsHandshake p) s nothing) ∧
    (p.host = false → p.options = true → at_ → s.body.get UPD.STAT.ENROL ≠ 0 → p.trusted = true → p.mod ≠ modNo s.body →
      (p.mod = mgrMod s.body ∨ (managedMods s.body).contains p.mod = true → Does (.dtlsHandshake p) s (fun b => opened p.mod b ∧
        (assocOf b p.mod).map (·.secure) = some true)) ∧
      (p.mod ≠ mgrMod s.body → (managedMods s.body).contains p.mod = false → Does (.dtlsHandshake p) s nothing)) ∧
    (p.host = false → loaded s.body = true → p.mod = modNo s.body → isTwin s.body p.uid = false → Does (.dtlsHandshake p) s (fun b =>
      b.sha.conflict = 1)) ∧
    (loaded s.body = true → foreign → Does (.neighborAdvertisement port addr mac) s (fun b => b.sha.conflict = 1)) ∧
    (loaded s.body = false ∨ ¬ foreign → Does (.neighborAdvertisement port addr mac) s nothing) ∧
    (∀ a, assocOf s.body id = some a →
      let heard := fun (b : Body) => b.sha = (setAssoc { a with lastAt := now } s.body).sha ∧ b.out = s.body.out ∧
        RegsKept (fun _ => False) s.body b
      (u8 m 0 ≠ 1 ∨ msgFlags m % 2 = 0 → Does (.shalanAnswer id m) s heard) ∧
      (u8 m 0 = 1 → msgFlags m % 2 = 1 →
        (loaded s.body = true → msgSrc m = modNo s.body → isTwin s.body a.uid = false → bits (msgFlags m) 2 1 = 0 → msgType m ≠ 0x0A →
          Does (.shalanAnswer id m) s (fun b => b.sha.conflict = 1)) ∧
        (NoConflict s.body a m → msgType m ≠ 0x0A →
          (a.sent.find? (fun r => decide (r.seq = msgSeq m) && decide (msgType r.msg = msgType m)) = none →
            Does (.shalanAnswer id m) s heard) ∧
          (∀ r, a.sent.find? (fun r => decide (r.seq = msgSeq m) && decide (msgType r.msg = msgType m)) = some r →
            queueFor s.body id = [] → r.origin = none →
            (msgType m ≠ 3 → msgType m ≠ 4 → Does (.shalanAnswer id m) s (fun b => b.out = s.body.out ∧
              (assocOf b id).map (·.sent) = some (a.sent.filter fun x => decide (x.seq ≠ r.seq)))) ∧
            (msgType m = 3 → Does (.shalanAnswer id m) s (fun b => b.out = s.body.out ∧
              (assocOf b id).map (·.sent) = some (a.sent.filter fun x => decide (x.seq ≠ r.seq)) ∧
              b.sha.busy = s.body.sha.busy ++ (if msgStatus m = 0x11 then [(id, now, r)] else []))))))) ∧
    (∀ a r, assocOf s.body id = some a → (∀ x ∈ s.body.sha.busy, x.1 ≠ id ∨ x.2.2.seq ≠ seq) →
      a.sent.find? (fun r => decide (r.seq = seq)) = some r →
      (¬ due r → Does (.shalanResend id seq) s nothing) ∧
      (due r → r.sends < 8 → Does (.shalanResend id seq) s (fun b => b.out = s.body.out ++ [.shalan id r.msg])) ∧
      (due r → 8 ≤ r.sends → isHost id = true → (∀ q ∈ a.sent, q.origin = none) → Does (.shalanResend id seq) s (fun b =>
        queueFor b id = [] ∧ b.out = s.body.out ∧ ∃ y, assocOf b id = some y ∧ y.sent = [] ∧ y.kept = [] ∧ y.nextSeq = 1))) ∧
    (∀ x, s.body.sha.busy.find? (fun x => decide (x.1 = id ∧ x.2.2.seq = seq)) = some x →
      (now < x.2.1 + msCyc 1000 → Does (.shalanResend id seq) s nothing) ∧
      (x.2.1 + msCyc 1000 ≤ now → queueFull s.body id = true → Does (.shalanResend id seq) s (fun b => b.out = s.body.out ∧
        b.sha.busy = s.body.sha.busy.filter (· ≠ x) ++ [(id, now, x.2.2)])) ∧
      (x.2.1 + msCyc 1000 ≤ now → queueFull s.body id = false → Does (.shalanResend id seq) s (fun b =>
        b.sha.busy = s.body.sha.busy.filter (· ≠ x) ∧ Sent s.body id (msgType x.2.2.msg) (msgBody x.2.2.msg) b))) ∧
    (∀ c, collector s.body = some c → Does .timeNoteSend s (fun b => Sent s.body c 9 (timeNoteBody s.body) b ∧
      b.sha.noteSteps = s.body.get TB.STEPS.COUNT)) ∧
    (collector s.body = none → Does .timeNoteSend s (fun b => b.sha.noteSteps = s.body.get TB.STEPS.COUNT) ∧
      Does .chainReportSend s nothing) ∧
    (∀ c, collector s.body = some c →
      (0 < s.body.sha.got ∨ s.body.flag UPD.CHAIN.EN = true → Does .chainReportSend s (fun b => b.sha.got = 0 ∧
        ∃ q, Sent s.body c 6 q b ∧ u8 q 0 = 0x20 ∧ b16 q 10 = min 0xFFFF s.body.sha.got)) ∧
      (s.body.sha.got = 0 → s.body.flag UPD.CHAIN.EN = false → Does .chainReportSend s nothing)) ∧
    Does .chainRateWindow s (fun b => b.sha.fwd = [] ∧ ∀ c ∈ b.sha.chains, ∀ x ∈ c.counts, x.2.1 = 0 ∧ x.2.2.1 = 0))

/-- With power to the engines each of these rows completes. DI_FILTERED_EDGE, while GIO runs, gives a plain input OFF once
FILTER_MS samples stand at 5 V or less, ON once they stand at 15 V or more, and leaves it as it was between; it gives a
supervised one the class on which the ratios of FILTER_MS samples to DI_V24 agree, or OPEN while the field supply is at fault;
fewer samples, an unchanged state, an input with MODE 0 and a GIO that does not run change nothing. A fault state sets its FAULT
bit; an emergency input moves its contribution; an input of FUNC 0 or 1 emits its code, number and time on its thread, and one
of FUNC 2 its OVERRIDE. DI_TIMEOUT, once the input has stood for TIMEOUT_S, marks and reports it once. DI_SUPPLY sets V24_FAULT
and every supervised input of a GIO that runs reads OPEN; FIELD_SUPPLY_RESTORED clears it. RELAY takes the oldest relay event
and moves the relays it names whose SOURCE and THREAD match; HOST_RELAY_WRITE those of SOURCE 0; both only in a member that
acts, with a pattern and outside hem, but that a standby opens its own; a request within 100 ms of the last change is held, and
RELAY_HOLD_END applies it. RELAY_COIL sets COIL_FAULT exactly when the current contradicts the contact. (R48, R49, R50, R535,
R538, R539, R540, R541, R542, R543, R544, R545) -/
def Obligations.InputsAndRelaysFollowTheirRules : Prop :=
  ∀ (s : State) (i k v : Nat) (m old : List DiMeas) (cur : Bool) (e : Ev) (rest : List (Nat × Ev)), powered s.body = true → i < 8 → k < 4 →
  let run := gioRun s.body
  let now := s.body.clock.cyc
  let mode := s.body.get GIO.DI_CFG.MODE i
  let func := s.body.get GIO.DI_CFG.FUNC i
  let thread := s.body.get GIO.DI_CFG.THREAD i
  let wired := threadSrc s.body thread = some (0x44, 0)
  let put := fun (p : Nat) (b : Body) => b.loom.xbar = s.body.loom.xbar ++ [⟨p % 2 ^ 64, 0, thread, false, 0x44, 0⟩] ∧
    b.flag SYS.CLK_STAT.GATED = false
  let coded := fun (st : Nat) => i + st * 8 + airTime s.body % 2 ^ 32 * 2 ^ 32
  let ovr := fun (on : Bool) => s.body.get GIO.DI_OVR.LEVEL i + s.body.get GIO.DI_OVR.TARGET i * 2 ^ 16 +
    s.body.get GIO.DI_OVR.SCOPE i * 2 ^ 28 + (if on then 2 ^ 30 else 0) +
    (if on then s.body.get GIO.DI_OVP.PRESET_SET i else s.body.get GIO.DI_OVP.PRESET_REL i) * 2 ^ 48
  let nothing := fun (b : Body) => b.gio = s.body.gio ∧ b.loom = s.body.loom ∧ RegsKept (fun _ => False) s.body b
  let moves := fun (v : Bool) => (acting s.body = true ∧ loaded s.body = true ∧ (inHem s.body = false ∨ s.body.get GIO.REL_CFG.SOURCE k = 2)) ∨
    (s.body.get SEAM.STAT.ROLE = 1 ∧ v = false)
  let ratio := fun (d : DiMeas) => if 100 * d.mv < 10 * d.ref then 2 else if 25 * d.ref ≤ 100 * d.mv ∧ 100 * d.mv ≤ 50 * d.ref then 0
    else if 80 * d.ref ≤ 100 * d.mv ∧ 100 * d.mv ≤ 93 * d.ref then 1 else if 96 * d.ref < 100 * d.mv then 3 else 4
  let fills := m.length = s.body.get GIO.DI_CFG.FILTER_MS i ∧ m ≠ []
  (run = true → mode = 1 → fills →
    ((∀ d ∈ m, d.mv ≤ 5000) → Does (.diFilteredEdge i (old ++ m)) s (fun b => diState b i = 0)) ∧
    ((∀ d ∈ m, 15000 ≤ d.mv) → Does (.diFilteredEdge i (old ++ m)) s (fun b => diState b i = 1)) ∧
    ((∀ d ∈ m, 5000 < d.mv ∧ d.mv < 15000) → Does (.diFilteredEdge i m) s nothing)) ∧
  (run = true → mode = 2 → s.body.flag GIO.DI_STAT.V24_FAULT = true → fills → Does (.diFilteredEdge i (old ++ m)) s (fun b => diState b i = 2)) ∧
  (∀ st, run = true → mode = 2 → s.body.flag GIO.DI_STAT.V24_FAULT = false → fills → (∀ d ∈ m, 0 < d.ref ∧ ratio d = st) →
    Does (.diFilteredEdge i (old ++ m)) s (fun b => diState b i = st)) ∧
  (m.length < s.body.get GIO.DI_CFG.FILTER_MS i → Does (.diFilteredEdge i m) s nothing) ∧
  (run = false ∨ diTaken s.body i m = none ∨ diTaken s.body i m = some (diState s.body i) → Does (.diFilteredEdge i m) s nothing) ∧
  (mode ≠ 1 → mode ≠ 2 → Does (.diFilteredEdge i m) s nothing) ∧
  (∀ st, run = true → diTaken s.body i m = some st → st ≠ diState s.body i →
    Does (.diFilteredEdge i m) s (fun b => diState b i = st ∧ (∀ j, j < 8 → j ≠ i → diState b j = diState s.body j) ∧
      (diRec b i).onAt = (if st = 1 then some now else none) ∧
      (2 ≤ st → b.bit GIO.DI_FAULT.FAULT i = true ∧ b.bit SAFE.HELD.BLOCK 10 = true)) ∧
    (func = 0 → wired → Does (.diFilteredEdge i m) s (put (coded st))) ∧
    (func = 1 → wired → Does (.diFilteredEdge i m) s (fun b => ⟨coded st, 0, thread, false, 0x44, 0⟩ ∈ b.loom.xbar)) ∧
    (func = 1 → st ≤ 1 → Does (.diFilteredEdge i m) s (fun b => b.bit GIO.EMERG.CONTRIB i = decide (st = 1) ∧
      b.flag GIO.EMERG.ACTIVE = decide (b.get GIO.EMERG.CONTRIB ≠ 0))) ∧
    (func = 2 → st ≤ 1 → wired → Does (.diFilteredEdge i m) s (put (ovr (decide (st = 1))))))  ∧
  (let due := run = true ∧ s.body.get GIO.DI_TMO.TIMEOUT_S i ≠ 0 ∧ diState s.body i = 1 ∧ (diRec s.body i).timed = false ∧
      ∃ t, (diRec s.body i).onAt = some t ∧ s.body.get GIO.DI_TMO.TIMEOUT_S i * 26000000 ≤ now - t;
    (due → Does (.diTimeout i) s (fun b => b.bit GIO.DI_FAULT.TIMEOUT i = true ∧ (diRec b i).timed = true ∧
      (func = 0 → wired → put (coded 5) b) ∧ (func = 2 → wired → put (ovr false) b))) ∧
    (¬ due → Does (.diTimeout i) s nothing)) ∧
  (s.body.flag GIO.DI_STAT.V24_FAULT = false → Does .diSupply s (fun b => b.flag GIO.DI_STAT.V24_FAULT = true ∧
    b.bit SAFE.HELD.BLOCK 10 = true ∧ (run = true → mode = 2 → diState b i = 2) ∧
    (run = false ∨ mode ≠ 2 → diState b i = diState s.body i))) ∧
  (s.body.flag GIO.DI_STAT.V24_FAULT = true → Does .diSupply s nothing) ∧
  Does .fieldSupplyRestored s (fun b => b.flag GIO.DI_STAT.V24_FAULT = false ∧ RegsKept (· = GIO.DI_STAT.word.addr) s.body b) ∧
  (run = false ∨ takePort 1 s.body.gio.inbox = none → Does .relay s nothing) ∧
  (run = true → takePort 1 s.body.gio.inbox = some (e, rest) →
    let want := decide (e.payload / 2 ^ (4 + k) % 2 = 1)
    let named := e.payload / 2 ^ k % 2 = 1 ∧ s.body.get GIO.REL_CFG.SOURCE k = 1 ∧ s.body.get GIO.REL_CFG.THREAD k = e.thread
    (e.payload / 256 ≠ 0 → Does .relay s (fun b => b.gio.inbox = rest ∧ b.bit GIO.REL_STAT.STATE k = s.body.bit GIO.REL_STAT.STATE k ∧
      b.get GIO.COUNT.BAD_EVENT = min (s.body.get GIO.COUNT.BAD_EVENT + 1) 0xFFFF)) ∧
    (e.payload / 256 = 0 →
      (moves want → named → relayBusy s.body k = false → Does .relay s (fun b => b.gio.inbox = rest ∧
        b.bit GIO.REL_STAT.STATE k = want)) ∧
      (moves want → named → relayBusy s.body k = true → Does .relay s (fun b => b.gio.inbox = rest ∧ b.bit GIO.REL_STAT.HELD k = true ∧
        b.bit GIO.REL_STAT.STATE k = s.body.bit GIO.REL_STAT.STATE k)) ∧
      (¬ moves want ∨ ¬ named → Does .relay s (fun b => b.gio.inbox = rest ∧
        b.bit GIO.REL_STAT.STATE k = s.body.bit GIO.REL_STAT.STATE k)))) ∧
  Does (.hostRelayWrite v) s (fun b => b.get GIO.REL_CTL.HOST = v % 16) ∧
  (run = false → Does (.hostRelayWrite v) s (fun b => b.gio = s.body.gio ∧ RegsKept (· = GIO.REL_CTL.word.addr) s.body b)) ∧
  (let want := decide (v / 2 ^ k % 2 = 1);
    (run = true → moves want → s.body.get GIO.REL_CFG.SOURCE k = 0 →
      (relayBusy s.body k = false → Does (.hostRelayWrite v) s (fun b => b.bit GIO.REL_STAT.STATE k = want)) ∧
      (relayBusy s.body k = true → want ≠ s.body.bit GIO.REL_STAT.STATE k → Does (.hostRelayWrite v) s (fun b =>
        b.bit GIO.REL_STAT.STATE k = s.body.bit GIO.REL_STAT.STATE k ∧ b.bit GIO.REL_STAT.HELD k = true))) ∧
    (¬ moves want ∨ s.body.get GIO.REL_CFG.SOURCE k ≠ 0 → Does (.hostRelayWrite v) s (fun b =>
      b.bit GIO.REL_STAT.STATE k = s.body.bit GIO.REL_STAT.STATE k))) ∧
  (relayBusy s.body k = true → Does (.relayHoldEnd k) s nothing) ∧
  (relayBusy s.body k = false →
    (∀ x, s.body.gio.relHeld.find? (fun p => decide (p.1 = k)) = some (k, x) → Does (.relayHoldEnd k) s (fun b =>
      b.bit GIO.REL_STAT.HELD k = false ∧ (moves x → b.bit GIO.REL_STAT.STATE k = x) ∧
      (¬ moves x → b.bit GIO.REL_STAT.STATE k = s.body.bit GIO.REL_STAT.STATE k))) ∧
    (s.body.gio.relHeld.find? (fun p => decide (p.1 = k)) = none → Does (.relayHoldEnd k) s (fun b =>
      b.bit GIO.REL_STAT.STATE k = s.body.bit GIO.REL_STAT.STATE k ∧ b.bit GIO.REL_STAT.HELD k = false))) ∧
  (relayClosed s.body k = cur → Does (.relayCoil k cur) s nothing) ∧
  (relayClosed s.body k ≠ cur → Does (.relayCoil k cur) s (fun b => b.bit GIO.REL_STAT.COIL_FAULT k = true ∧
    b.bit SAFE.HELD.BLOCK 10 = true))

/-- With power to the engines each of these rows completes. While GIO runs PIXELS and FILL write the back buffer within the
sign, SIGN_COMMIT and the SIGN_CMD_COMMIT command ask for the copy, CLEAR_OPEN for clearing; an event of no known tag or with
reserved bits set counts as BAD_EVENT, and with no event of its own a row changes nothing. SIGN_FRAME_START copies the back
buffer to the front when asked, and takes the temperature. ROW_STRETCH moves to the next row. SIGN_POWER_CHECK shows the power
and adapts the budget factor, under 12 W up to 60 °C and 8 W above in Basic mode. COLOUR_SENSOR_READ counts lost reads, or moves
the trim of each class with a lit pixel by at most one towards its target. SIGN_PORT switches VSIGN off with PORT_FAULT;
SIGN_PORT_RETRY, 10 s after it, clears the fault when it holds and latches it after the third failure; RETRY clears it. Without
GIO.CTL.RUN, or with nothing to act on, they change nothing. (R71, R546, R549, R550, R552, R553, R554, R556, R557, R560) -/
def Obligations.SignShowsWhatWasCommitted : Prop :=
  ∀ (s : State) (m : SignMeas) (p r c : Nat) (amb : Int) (ok : Bool) (dark : List Nat) (cur : List (Nat × Nat)) (e : Ev) (rest : List (Nat × Ev)),
  powered s.body = true →
  let run := gioRun s.body
  let cap := if expert s.body 6 then s.body.get GIO.SIGN_PWR.CAP_DW else if 60 < amb then 80 else 120
  let back := fun (b : Body) (r c : Nat) => b.get GIO.FB_BACK.PIX r (c / 4) / 2 ^ (8 * (c % 4)) % 256
  let nothing := fun (b : Body) => b.gio = s.body.gio ∧ RegsKept (fun _ => False) s.body b
  let bad := fun (b : Body) => b.get GIO.COUNT.BAD_EVENT = min (s.body.get GIO.COUNT.BAD_EVENT + 1) 0xFFFF ∧ b.gio.inbox = rest ∧
    RegsKept (· = GIO.COUNT.word.addr) s.body b
  let seen := fun (k : Nat) => (256 * u16 dark (2 * k) / u16 dark 6 : Nat)
  let goal := fun (k : Nat) => s.body.get GIO.SIGN_CTGT.TGT / 2 ^ (8 * k) % 256
  let trim := fun (k : Nat) =>
    if (allPix s.body).any (fun q => decide (pixClass s.body q.2 = k) && pixLit s.body q.1 q.2) = false ∨ u16 dark 6 = 0
    then classTrim s.body k
    else if goal k + 4 < seen k then max (classTrim s.body k - 1) 192
    else if seen k + 4 < goal k then min (classTrim s.body k + 1) 256 else classTrim s.body k
  (run = false ∨ takePort 0 s.body.gio.inbox = none → Does .pixels s nothing ∧ Does .fill s nothing ∧ Does .signCommit s nothing) ∧
  (run = true → takePort 0 s.body.gio.inbox = some (e, rest) →
    (e.tag = 0 → bits e.payload 10 6 = 0 → Does .pixels s (fun b => b.gio.inbox = rest ∧
      ∀ k, k < 6 → bits e.payload 0 4 < signRows s.body → bits e.payload 4 6 + k < signCols s.body →
        back b (bits e.payload 0 4) (bits e.payload 4 6 + k) = bits e.payload (16 + 8 * k) 8)) ∧
    (e.tag = 1 → bits e.payload 28 36 = 0 → Does .fill s (fun b => b.gio.inbox = rest ∧
      (bits e.payload 0 4 ≤ r → r ≤ bits e.payload 4 4 → bits e.payload 8 6 ≤ c → c ≤ bits e.payload 14 6 → r < signRows s.body →
        c < signCols s.body → back b r c = bits e.payload 20 8))) ∧
    (e.tag = 2 → e.payload = 0 → Does .signCommit s (fun b => b.gio.inbox = rest ∧ b.gio.commitDue = true ∧
      RegsKept (fun _ => False) s.body b)) ∧
    (e.tag = 0 → bits e.payload 10 6 ≠ 0 → Does .pixels s bad) ∧ (e.tag = 1 → bits e.payload 28 36 ≠ 0 → Does .fill s bad) ∧
    (e.tag = 2 → e.payload ≠ 0 → Does .signCommit s bad) ∧
    (2 < e.tag → Does .pixels s bad ∧ Does .fill s bad ∧ Does .signCommit s bad) ∧
    (e.tag ≤ 2 → e.tag ≠ 0 → Does .pixels s nothing) ∧ (e.tag ≤ 2 → e.tag ≠ 1 → Does .fill s nothing) ∧
    (e.tag ≤ 2 → e.tag ≠ 2 → Does .signCommit s nothing)) ∧
  Does .signCmdCommit s (fun b => b.gio = { s.body.gio with commitDue := true } ∧ RegsKept (fun _ => False) s.body b) ∧
  Does .clearOpen s (fun b => b.gio = { s.body.gio with clearDue := true } ∧ RegsKept (fun _ => False) s.body b) ∧
  (run = true → signRows s.body ≠ 0 → Does (.signFrameStart m) s (fun b => b.gio.commitDue = false ∧ b.gio.clearDue = false ∧
    b.flag GIO.SIGN_STAT.NTC_FAULT = (decide (m.temp < -40) || decide (150 < m.temp)) ∧ b.get GIO.SIGN_STAT.TEMP_C = uns 9 m.temp ∧
    ∀ q w, q < 16 → w < 16 → b.get GIO.FB_FRONT.PIX q w = (if s.body.gio.commitDue then s.body.get GIO.FB_BACK.PIX q w
      else s.body.get GIO.FB_FRONT.PIX q w))) ∧
  (run = false ∨ signRows s.body = 0 → Does (.signFrameStart m) s nothing) ∧
  (signOn s.body = true → Does (.rowStretch cur) s (fun b => b.gio.row = (s.body.gio.row % signRows s.body + 1) % signRows s.body)) ∧
  (signOn s.body = false → Does (.rowStretch cur) s nothing) ∧
  (run = true → Does (.signPowerCheck p amb) s (fun b => b.get GIO.SIGN_PWR.P_DW = min p 65535 ∧ b.get GIO.SIGN_PWR.CAP_DW = cap ∧
    b.gio.dP = (if cap < p then s.body.gio.dP * cap / p else if 10 * p < 9 * cap then min 65536 (s.body.gio.dP + 655)
      else s.body.gio.dP))) ∧
  (run = false → Does (.signPowerCheck p amb) s nothing ∧ Does (.colourSensorRead none) s nothing ∧
    Does (.colourSensorRead (some dark)) s nothing) ∧
  (run = true → Does (.colourSensorRead none) s (fun b => b.gio.lostRun = min 3 (s.body.gio.lostRun + 1) ∧
      (2 ≤ s.body.gio.lostRun → b.flag GIO.SIGN_STAT.SENSOR_LOST = true)) ∧
    Does (.colourSensorRead (some dark)) s (fun b => b.gio.lostRun = 0 ∧ b.flag GIO.SIGN_STAT.SENSOR_LOST = false ∧
      ∀ k, k < 3 → classTrim b k = trim k)) ∧
  (signOn s.body = true → Does .signPort s (fun b => b.flag GIO.SIGN_STAT.PORT_FAULT = true ∧ b.gio.portOff = true ∧
    b.gio.portAt = s.body.clock.cyc ∧ b.pins.vsign = false ∧ b.bit SAFE.HELD.BLOCK 10 = true)) ∧
  (signOn s.body = false → Does .signPort s nothing) ∧
  (let due := s.body.gio.portOff = true ∧ s.body.gio.latched = false ∧ 10 ≤ sinceS s.body s.body.gio.portAt;
    (due → Does (.signPortRetry true) s (fun b => b.gio.portOff = false ∧ b.flag GIO.SIGN_STAT.PORT_FAULT = false ∧ b.gio.retries = 0) ∧
      Does (.signPortRetry false) s (fun b => b.gio.portOff = true ∧ b.gio.retries = s.body.gio.retries + 1 ∧
        b.gio.latched = decide (3 ≤ s.body.gio.retries + 1) ∧ b.gio.portAt = s.body.clock.cyc)) ∧
    (¬ due → Does (.signPortRetry ok) s nothing)) ∧
  (s.body.gio.portOff = true → Does .retry s (fun b => b.gio.portOff = false ∧ b.gio.latched = false ∧
    b.flag GIO.SIGN_STAT.PORT_FAULT = false)) ∧
  (s.body.gio.portOff = false → Does .retry s nothing)

/-- Every command completes in every state: exec answers a next state with the queue as it was, whose pins follow from the rest
of it. A step with a command at the front of the queue is exec of it on the state with the rest of the queue. On an empty queue
with main power one TCXO cycle passes, which is the model's own choice of a tick (log entry 2). (R28, R247) -/
def Obligations.AStepRunsTheFrontCommand : Prop :=
  (∀ (c : Instr) (s : State), ∃ t, exec c s = .next t ∧ t.pending = s.pending ∧ PinsFollow t) ∧
  (∀ (c : Instr) (s : State) (rest : List Instr), step { s with pending := c :: rest } = exec c { s with pending := rest }) ∧
  (∀ s : State, s.pending = [] → mainPower s.body = true → ∃ t, step s = .next t ∧ t.pending = [] ∧
    t.body.clock.cyc = s.body.clock.cyc + 1 ∧
    t.body.clock.net = s.body.clock.net + tickInc (sgn 32 (s.body.get TB.ADJ_FREQ.ADJ)))

/-- State.reset has an empty queue, its pins follow its state, and every contact is open with VSIGN off and the air lamp off.
The power state at reset is the model's choice (log entry 1). (R88, R53, R68) -/
def Obligations.ResetShowsNothingOutside : Prop :=
  PinsFollow State.reset ∧ Dark State.reset.body ∧ State.reset.pending = []

/-- If the pins of a state follow from the rest of it, they do so after every step, whatever command stands at the front of the
queue. So in every state a step leaves, no contact is closed and VSIGN is off without main power to the engines or before a
pattern is loaded, VSIGN is off in hem, no driver of a sign that is off conducts, and without main power an input sees at least
1 MΩ. (R53, R68, R443, R537, R543, R547, R559, R564, R586) -/
def Obligations.EveryStepKeepsThePinsTrue : Prop :=
  ∀ s t : State, PinsFollow s → step s = .next t → PinsFollow t ∧
    (powered t.body = false ∨ loaded t.body = false → t.body.pins.relays = [false, false, false, false] ∧
      t.body.pins.vsign = false) ∧
    (inHem t.body = true → t.body.pins.vsign = false) ∧
    (signOn t.body = false → t.body.pins.sign = ⟨none, none, [], 0⟩) ∧ (mainPower t.body = false → t.body.pins.sink = .open1M)

/-- For every well-formed instruction of a rule tile, decoding the word that encodes it gives it back, with every operand at
every value its field admits; the word has 32 bits, and two well-formed instructions with the same word are the same. (R144,
R145) -/
def Obligations.TileInstructionsReadBackAsWritten : Prop :=
  (∀ i : TileInstr, i.wf → encodeTile i < 2 ^ 32 ∧ decodeTile (encodeTile i) = some i) ∧
  (∀ i j : TileInstr, i.wf → j.wf → encodeTile i = encodeTile j → i = j)
end

