-- ==== Sys2Proof/Laws/Done.lean ====
section
/-! SUPPORT. Laws/Done.lean: what the three ways to complete a command, and one step, can answer: always a next state, the
waiting queue as given, the pins as the state makes them. -/

set_option Elab.async false

namespace Sys2Proof.Machine

/-- All that `onAny` can do. -/
theorem onAny_next {f : Body → Body} {s t : State} (h : onAny f s = .next t) :
    t.pending = s.pending ∧ t.body = settle (f s.body) := by
  cases h; exact ⟨rfl, rfl⟩

theorem onBody_next {f : Body → Body} {s t : State} (h : onBody f s = .next t) :
    t.pending = s.pending ∧ ((powered s.body = true ∧ t.body = settle (f s.body)) ∨
      (powered s.body = false ∧ t.body = settle s.body)) := by
  obtain ⟨hp, hb⟩ := onAny_next h
  refine ⟨hp, ?_⟩
  cases hw : powered s.body <;> simp [hw] at hb ⊢ <;> exact hb

theorem onRom_next {f : Body → Body} {s t : State} (h : onRom f s = .next t) :
    t.pending = s.pending ∧ (t.body = settle (f s.body) ∨ t.body = settle s.body) := by
  obtain ⟨hp, hb⟩ := onAny_next h
  refine ⟨hp, ?_⟩
  split at hb
  · exact .inl hb
  · exact .inr hb

theorem onBody_powered (f : Body → Body) {s : State} (h : powered s.body = true) :
    onBody f s = .next { s with body := settle (f s.body) } := by
  simp [onBody, onAny, h]

theorem onBody_unpowered (f : Body → Body) {s : State} (h : powered s.body = false) :
    onBody f s = .next { s with body := settle s.body } := by
  simp [onBody, onAny, h]

theorem onRom_powered (f : Body → Body) {s : State} (h : powered s.body = true) :
    onRom f s = .next { s with body := settle (f s.body) } := by
  simp [onRom, onAny, h]

theorem onRom_recovery (f : Body → Body) {s : State} (h : s.body.power = .recovery) :
    onRom f s = .next { s with body := settle (f s.body) } := by
  simp [onRom, onAny, h]

/-- With no command waiting a step is the idle tick. -/
theorem step_idle {s : State} (h : s.pending = []) : step s = onAny idle s := by
  simp [step, h]

@[simp] theorem settle_regs (b : Body) : (settle b).regs = b.regs := rfl
@[simp] theorem settle_mem (b : Body) : (settle b).mem = b.mem := rfl
@[simp] theorem settle_power (b : Body) : (settle b).power = b.power := rfl
@[simp] theorem settle_out (b : Body) : (settle b).out = b.out := rfl
@[simp] theorem settle_word (b : Body) (a : Nat) : (settle b).word a = b.word a := rfl
@[simp] theorem settle_get (b : Body) (f : Fld) (i j : Nat) : (settle b).get f i j = b.get f i j := rfl

end Sys2Proof.Machine
end

