-- ==== Sys2Proof/Laws/Sparse.lean ====
section
/-! SUPPORT. Laws/Sparse.lean: what a sparse table reads after a change, and that changes keep the canonical form. -/

set_option Elab.async false

namespace Sys2Proof.Machine

variable {α : Type} {d : Nat → α}

theorem tabGet_tabDel_same (l : List (Nat × α)) (k : Nat) : tabGet d (tabDel k l) k = d k := by
  induction l with
  | nil => rfl
  | cons p t ih =>
    obtain ⟨k', v⟩ := p
    by_cases h : k' = k
    · simpa [tabDel, h] using ih
    · simpa [tabDel, h, tabGet] using ih

theorem tabGet_tabDel_other (l : List (Nat × α)) {k q : Nat} (h : q ≠ k) : tabGet d (tabDel k l) q = tabGet d l q := by
  induction l with
  | nil => rfl
  | cons p t ih =>
    obtain ⟨k', v⟩ := p
    by_cases hk : k' = k
    · subst hk; simpa [tabDel, tabGet, Ne.symm h] using ih
    · simp [tabDel, hk, tabGet, ih]

theorem tabGet_tabIns_other (l : List (Nat × α)) {k q : Nat} (v : α) (h : q ≠ k) :
    tabGet d (tabIns k v l) q = tabGet d l q := by
  induction l with
  | nil => simp [tabIns, tabGet, Ne.symm h]
  | cons p t ih =>
    obtain ⟨k', x⟩ := p
    by_cases hk : k' < k
    · simp [tabIns, hk, tabGet, ih]
    · simp [tabIns, hk, tabGet, Ne.symm h]

theorem tabGet_tabIns_tabDel (l : List (Nat × α)) (k : Nat) (v : α) : tabGet d (tabIns k v (tabDel k l)) k = v := by
  induction l with
  | nil => simp [tabDel, tabIns, tabGet]
  | cons p t ih =>
    obtain ⟨k', x⟩ := p
    by_cases hk : k' = k
    · simpa [tabDel, hk] using ih
    · by_cases hl : k' < k
      · simpa [tabDel, hk, tabIns, hl, tabGet] using ih
      · simp [tabDel, hk, tabIns, hl, tabGet]

variable [DecidableEq α]

/-- A key just set reads its value. -/
theorem tabGet_tabSet_same (l : List (Nat × α)) (k : Nat) (v : α) : tabGet d (tabSet d l k v) k = v := by
  unfold tabSet
  split
  · rename_i h; rw [tabGet_tabDel_same, h]
  · exact tabGet_tabIns_tabDel l k v

/-- Every other key reads as before. -/
theorem tabGet_tabSet_other (l : List (Nat × α)) {k q : Nat} (v : α) (h : q ≠ k) :
    tabGet d (tabSet d l k v) q = tabGet d l q := by
  unfold tabSet
  split
  · exact tabGet_tabDel_other l h
  · rw [tabGet_tabIns_other _ _ h, tabGet_tabDel_other l h]

/-! ### The canonical form -/

/-- The canonical form, as a statement over all entries: keys strictly rise and no entry is its default. -/
theorem tabWf_iff (l : List (Nat × α)) :
    tabWf d l = true ↔ l.Pairwise (fun x y => x.1 < y.1) ∧ ∀ p ∈ l, p.2 ≠ d p.1 := by
  induction l with
  | nil => simp [tabWf]
  | cons p t ih =>
    obtain ⟨k, v⟩ := p
    cases t with
    | nil => simp [tabWf]
    | cons q t =>
      obtain ⟨k', v'⟩ := q
      simp only [tabWf, Bool.and_eq_true, decide_eq_true_eq, ih]
      constructor
      · rintro ⟨⟨h1, h2⟩, h3, h4⟩
        refine ⟨List.pairwise_cons.2 ⟨?_, h3⟩, ?_⟩
        · intro x hx
          rcases List.mem_cons.1 hx with rfl | hx
          · exact h2
          · exact lt_trans h2 ((List.pairwise_cons.1 h3).1 x hx)
        · intro x hx
          rcases List.mem_cons.1 hx with rfl | hx
          · exact h1
          · exact h4 x hx
      · rintro ⟨h1, h2⟩
        have h3 := List.pairwise_cons.1 h1
        exact ⟨⟨h2 (k, v) (by simp), h3.1 (k', v') (by simp)⟩, h3.2, fun x hx => h2 x (List.mem_cons_of_mem _ hx)⟩

omit [DecidableEq α] in
theorem mem_tabDel {l : List (Nat × α)} {k : Nat} {p : Nat × α} : p ∈ tabDel k l ↔ p ∈ l ∧ p.1 ≠ k := by
  induction l with
  | nil => simp [tabDel]
  | cons q t ih =>
    obtain ⟨k', v⟩ := q
    by_cases h : k' = k
    · subst h
      simp only [tabDel, if_true, ih, List.mem_cons]
      constructor
      · rintro ⟨h1, h2⟩; exact ⟨.inr h1, h2⟩
      · rintro ⟨rfl | h1, h2⟩
        · exact absurd rfl h2
        · exact ⟨h1, h2⟩
    · simp only [tabDel, if_neg h, List.mem_cons, ih]
      constructor
      · rintro (rfl | ⟨h1, h2⟩)
        · exact ⟨.inl rfl, h⟩
        · exact ⟨.inr h1, h2⟩
      · rintro ⟨rfl | h1, h2⟩
        · exact .inl rfl
        · exact .inr ⟨h1, h2⟩

omit [DecidableEq α] in
theorem tabDel_pairwise {l : List (Nat × α)} (k : Nat) (h : l.Pairwise (fun x y => x.1 < y.1)) :
    (tabDel k l).Pairwise (fun x y => x.1 < y.1) := by
  induction l with
  | nil => simp [tabDel]
  | cons q t ih =>
    obtain ⟨k', v⟩ := q
    have h' := List.pairwise_cons.1 h
    by_cases hk : k' = k
    · simpa [tabDel, hk] using ih h'.2
    · simp only [tabDel, if_neg hk]
      exact List.pairwise_cons.2 ⟨fun x hx => h'.1 x (mem_tabDel.1 hx).1, ih h'.2⟩

omit [DecidableEq α] in
theorem mem_tabIns {l : List (Nat × α)} {k : Nat} {v : α} {p : Nat × α} :
    p ∈ tabIns k v l ↔ p = (k, v) ∨ p ∈ l := by
  induction l with
  | nil => simp [tabIns]
  | cons q t ih =>
    obtain ⟨k', x⟩ := q
    by_cases h : k' < k
    · simp only [tabIns, if_pos h, List.mem_cons, ih]; tauto
    · simp [tabIns, if_neg h]

omit [DecidableEq α] in
theorem tabIns_pairwise {l : List (Nat × α)} {k : Nat} (v : α) (h : l.Pairwise (fun x y => x.1 < y.1))
    (hk : ∀ p ∈ l, p.1 ≠ k) : (tabIns k v l).Pairwise (fun x y => x.1 < y.1) := by
  induction l with
  | nil => simp [tabIns]
  | cons q t ih =>
    obtain ⟨k', x⟩ := q
    have h' := List.pairwise_cons.1 h
    by_cases hl : k' < k
    · simp only [tabIns, if_pos hl]
      refine List.pairwise_cons.2 ⟨fun y hy => ?_, ih h'.2 fun p hp => hk p (List.mem_cons_of_mem _ hp)⟩
      rcases mem_tabIns.1 hy with rfl | hy
      · exact hl
      · exact h'.1 y hy
    · simp only [tabIns, if_neg hl]
      have hlt : k < k' := lt_of_le_of_ne (not_lt.1 hl) (fun e => hk (k', x) (by simp) e.symm)
      refine List.pairwise_cons.2 ⟨fun y hy => ?_, h⟩
      rcases List.mem_cons.1 hy with rfl | hy
      · exact hlt
      · exact lt_trans hlt (h'.1 y hy)

/-- A change keeps the canonical form. -/
theorem tabWf_tabSet {l : List (Nat × α)} (k : Nat) (v : α) (h : tabWf d l = true) : tabWf d (tabSet d l k v) = true := by
  rw [tabWf_iff] at h ⊢
  unfold tabSet
  split
  · exact ⟨tabDel_pairwise k h.1, fun p hp => h.2 p (mem_tabDel.1 hp).1⟩
  · rename_i hv
    refine ⟨tabIns_pairwise v (tabDel_pairwise k h.1) fun p hp => (mem_tabDel.1 hp).2, fun p hp => ?_⟩
    rcases mem_tabIns.1 hp with rfl | hp
    · exact hv
    · exact h.2 p (mem_tabDel.1 hp).1

end Sys2Proof.Machine
end

