-- ==== Sys2Proof/Laws/State.lean ====
section
/-! SUPPORT. Laws/State.lean: what each update of the body leaves alone, field by field, and what a register field reads after a
write: the same field its new value, any other field and register as before. -/

namespace Sys2Proof.Machine

@[simp] theorem Body.setWord_mem (b : Body) (a : Nat) (v : Word) : (b.setWord a v).mem = b.mem := rfl
@[simp] theorem Body.setWord_clock (b : Body) (a : Nat) (v : Word) : (b.setWord a v).clock = b.clock := rfl
@[simp] theorem Body.setWord_power (b : Body) (a : Nat) (v : Word) : (b.setWord a v).power = b.power := rfl
@[simp] theorem Body.setWord_nv (b : Body) (a : Nat) (v : Word) : (b.setWord a v).nv = b.nv := rfl
@[simp] theorem Body.setWord_safe (b : Body) (a : Nat) (v : Word) : (b.setWord a v).safe = b.safe := rfl
@[simp] theorem Body.setWord_loom (b : Body) (a : Nat) (v : Word) : (b.setWord a v).loom = b.loom := rfl
@[simp] theorem Body.setWord_pat (b : Body) (a : Nat) (v : Word) : (b.setWord a v).pat = b.pat := rfl
@[simp] theorem Body.setWord_qm (b : Body) (a : Nat) (v : Word) : (b.setWord a v).qm = b.qm := rfl
@[simp] theorem Body.setWord_sw (b : Body) (a : Nat) (v : Word) : (b.setWord a v).sw = b.sw := rfl
@[simp] theorem Body.setWord_tb (b : Body) (a : Nat) (v : Word) : (b.setWord a v).tb = b.tb := rfl
@[simp] theorem Body.setWord_ce (b : Body) (a : Nat) (v : Word) : (b.setWord a v).ce = b.ce := rfl
@[simp] theorem Body.setWord_air (b : Body) (a : Nat) (v : Word) : (b.setWord a v).air = b.air := rfl
@[simp] theorem Body.setWord_seam (b : Body) (a : Nat) (v : Word) : (b.setWord a v).seam = b.seam := rfl
@[simp] theorem Body.setWord_upd (b : Body) (a : Nat) (v : Word) : (b.setWord a v).upd = b.upd := rfl
@[simp] theorem Body.setWord_memi (b : Body) (a : Nat) (v : Word) : (b.setWord a v).memi = b.memi := rfl
@[simp] theorem Body.setWord_aon (b : Body) (a : Nat) (v : Word) : (b.setWord a v).aon = b.aon := rfl
@[simp] theorem Body.setWord_sha (b : Body) (a : Nat) (v : Word) : (b.setWord a v).sha = b.sha := rfl
@[simp] theorem Body.setWord_met (b : Body) (a : Nat) (v : Word) : (b.setWord a v).met = b.met := rfl
@[simp] theorem Body.setWord_att (b : Body) (a : Nat) (v : Word) : (b.setWord a v).att = b.att := rfl
@[simp] theorem Body.setWord_ofe (b : Body) (a : Nat) (v : Word) : (b.setWord a v).ofe = b.ofe := rfl
@[simp] theorem Body.setWord_gio (b : Body) (a : Nat) (v : Word) : (b.setWord a v).gio = b.gio := rfl
@[simp] theorem Body.setWord_pins (b : Body) (a : Nat) (v : Word) : (b.setWord a v).pins = b.pins := rfl
@[simp] theorem Body.setWord_bus (b : Body) (a : Nat) (v : Word) : (b.setWord a v).bus = b.bus := rfl
@[simp] theorem Body.setWord_picks (b : Body) (a : Nat) (v : Word) : (b.setWord a v).picks = b.picks := rfl
@[simp] theorem Body.setWord_out (b : Body) (a : Nat) (v : Word) : (b.setWord a v).out = b.out := rfl

@[simp] theorem Body.put_mem (b : Body) (f : Fld) (v i j : Nat) : (b.put f v i j).mem = b.mem := rfl
@[simp] theorem Body.put_clock (b : Body) (f : Fld) (v i j : Nat) : (b.put f v i j).clock = b.clock := rfl
@[simp] theorem Body.put_power (b : Body) (f : Fld) (v i j : Nat) : (b.put f v i j).power = b.power := rfl
@[simp] theorem Body.put_nv (b : Body) (f : Fld) (v i j : Nat) : (b.put f v i j).nv = b.nv := rfl
@[simp] theorem Body.put_safe (b : Body) (f : Fld) (v i j : Nat) : (b.put f v i j).safe = b.safe := rfl
@[simp] theorem Body.put_loom (b : Body) (f : Fld) (v i j : Nat) : (b.put f v i j).loom = b.loom := rfl
@[simp] theorem Body.put_pat (b : Body) (f : Fld) (v i j : Nat) : (b.put f v i j).pat = b.pat := rfl
@[simp] theorem Body.put_qm (b : Body) (f : Fld) (v i j : Nat) : (b.put f v i j).qm = b.qm := rfl
@[simp] theorem Body.put_sw (b : Body) (f : Fld) (v i j : Nat) : (b.put f v i j).sw = b.sw := rfl
@[simp] theorem Body.put_tb (b : Body) (f : Fld) (v i j : Nat) : (b.put f v i j).tb = b.tb := rfl
@[simp] theorem Body.put_ce (b : Body) (f : Fld) (v i j : Nat) : (b.put f v i j).ce = b.ce := rfl
@[simp] theorem Body.put_air (b : Body) (f : Fld) (v i j : Nat) : (b.put f v i j).air = b.air := rfl
@[simp] theorem Body.put_seam (b : Body) (f : Fld) (v i j : Nat) : (b.put f v i j).seam = b.seam := rfl
@[simp] theorem Body.put_upd (b : Body) (f : Fld) (v i j : Nat) : (b.put f v i j).upd = b.upd := rfl
@[simp] theorem Body.put_memi (b : Body) (f : Fld) (v i j : Nat) : (b.put f v i j).memi = b.memi := rfl
@[simp] theorem Body.put_aon (b : Body) (f : Fld) (v i j : Nat) : (b.put f v i j).aon = b.aon := rfl
@[simp] theorem Body.put_sha (b : Body) (f : Fld) (v i j : Nat) : (b.put f v i j).sha = b.sha := rfl
@[simp] theorem Body.put_met (b : Body) (f : Fld) (v i j : Nat) : (b.put f v i j).met = b.met := rfl
@[simp] theorem Body.put_att (b : Body) (f : Fld) (v i j : Nat) : (b.put f v i j).att = b.att := rfl
@[simp] theorem Body.put_ofe (b : Body) (f : Fld) (v i j : Nat) : (b.put f v i j).ofe = b.ofe := rfl
@[simp] theorem Body.put_gio (b : Body) (f : Fld) (v i j : Nat) : (b.put f v i j).gio = b.gio := rfl
@[simp] theorem Body.put_pins (b : Body) (f : Fld) (v i j : Nat) : (b.put f v i j).pins = b.pins := rfl
@[simp] theorem Body.put_bus (b : Body) (f : Fld) (v i j : Nat) : (b.put f v i j).bus = b.bus := rfl
@[simp] theorem Body.put_picks (b : Body) (f : Fld) (v i j : Nat) : (b.put f v i j).picks = b.picks := rfl
@[simp] theorem Body.put_out (b : Body) (f : Fld) (v i j : Nat) : (b.put f v i j).out = b.out := rfl

@[simp] theorem Body.mark_mem (b : Body) (f : Fld) (v : Bool) (i j : Nat) : (b.mark f v i j).mem = b.mem := rfl
@[simp] theorem Body.mark_clock (b : Body) (f : Fld) (v : Bool) (i j : Nat) : (b.mark f v i j).clock = b.clock := rfl
@[simp] theorem Body.mark_power (b : Body) (f : Fld) (v : Bool) (i j : Nat) : (b.mark f v i j).power = b.power := rfl
@[simp] theorem Body.mark_nv (b : Body) (f : Fld) (v : Bool) (i j : Nat) : (b.mark f v i j).nv = b.nv := rfl
@[simp] theorem Body.mark_safe (b : Body) (f : Fld) (v : Bool) (i j : Nat) : (b.mark f v i j).safe = b.safe := rfl
@[simp] theorem Body.mark_loom (b : Body) (f : Fld) (v : Bool) (i j : Nat) : (b.mark f v i j).loom = b.loom := rfl
@[simp] theorem Body.mark_pat (b : Body) (f : Fld) (v : Bool) (i j : Nat) : (b.mark f v i j).pat = b.pat := rfl
@[simp] theorem Body.mark_qm (b : Body) (f : Fld) (v : Bool) (i j : Nat) : (b.mark f v i j).qm = b.qm := rfl
@[simp] theorem Body.mark_sw (b : Body) (f : Fld) (v : Bool) (i j : Nat) : (b.mark f v i j).sw = b.sw := rfl
@[simp] theorem Body.mark_tb (b : Body) (f : Fld) (v : Bool) (i j : Nat) : (b.mark f v i j).tb = b.tb := rfl
@[simp] theorem Body.mark_ce (b : Body) (f : Fld) (v : Bool) (i j : Nat) : (b.mark f v i j).ce = b.ce := rfl
@[simp] theorem Body.mark_air (b : Body) (f : Fld) (v : Bool) (i j : Nat) : (b.mark f v i j).air = b.air := rfl
@[simp] theorem Body.mark_seam (b : Body) (f : Fld) (v : Bool) (i j : Nat) : (b.mark f v i j).seam = b.seam := rfl
@[simp] theorem Body.mark_upd (b : Body) (f : Fld) (v : Bool) (i j : Nat) : (b.mark f v i j).upd = b.upd := rfl
@[simp] theorem Body.mark_memi (b : Body) (f : Fld) (v : Bool) (i j : Nat) : (b.mark f v i j).memi = b.memi := rfl
@[simp] theorem Body.mark_aon (b : Body) (f : Fld) (v : Bool) (i j : Nat) : (b.mark f v i j).aon = b.aon := rfl
@[simp] theorem Body.mark_sha (b : Body) (f : Fld) (v : Bool) (i j : Nat) : (b.mark f v i j).sha = b.sha := rfl
@[simp] theorem Body.mark_met (b : Body) (f : Fld) (v : Bool) (i j : Nat) : (b.mark f v i j).met = b.met := rfl
@[simp] theorem Body.mark_att (b : Body) (f : Fld) (v : Bool) (i j : Nat) : (b.mark f v i j).att = b.att := rfl
@[simp] theorem Body.mark_ofe (b : Body) (f : Fld) (v : Bool) (i j : Nat) : (b.mark f v i j).ofe = b.ofe := rfl
@[simp] theorem Body.mark_gio (b : Body) (f : Fld) (v : Bool) (i j : Nat) : (b.mark f v i j).gio = b.gio := rfl
@[simp] theorem Body.mark_pins (b : Body) (f : Fld) (v : Bool) (i j : Nat) : (b.mark f v i j).pins = b.pins := rfl
@[simp] theorem Body.mark_bus (b : Body) (f : Fld) (v : Bool) (i j : Nat) : (b.mark f v i j).bus = b.bus := rfl
@[simp] theorem Body.mark_picks (b : Body) (f : Fld) (v : Bool) (i j : Nat) : (b.mark f v i j).picks = b.picks := rfl
@[simp] theorem Body.mark_out (b : Body) (f : Fld) (v : Bool) (i j : Nat) : (b.mark f v i j).out = b.out := rfl

@[simp] theorem Body.bump_mem (b : Body) (f : Fld) (n i j : Nat) : (b.bump f n i j).mem = b.mem := rfl
@[simp] theorem Body.bump_clock (b : Body) (f : Fld) (n i j : Nat) : (b.bump f n i j).clock = b.clock := rfl
@[simp] theorem Body.bump_power (b : Body) (f : Fld) (n i j : Nat) : (b.bump f n i j).power = b.power := rfl
@[simp] theorem Body.bump_nv (b : Body) (f : Fld) (n i j : Nat) : (b.bump f n i j).nv = b.nv := rfl
@[simp] theorem Body.bump_safe (b : Body) (f : Fld) (n i j : Nat) : (b.bump f n i j).safe = b.safe := rfl
@[simp] theorem Body.bump_loom (b : Body) (f : Fld) (n i j : Nat) : (b.bump f n i j).loom = b.loom := rfl
@[simp] theorem Body.bump_pat (b : Body) (f : Fld) (n i j : Nat) : (b.bump f n i j).pat = b.pat := rfl
@[simp] theorem Body.bump_qm (b : Body) (f : Fld) (n i j : Nat) : (b.bump f n i j).qm = b.qm := rfl
@[simp] theorem Body.bump_sw (b : Body) (f : Fld) (n i j : Nat) : (b.bump f n i j).sw = b.sw := rfl
@[simp] theorem Body.bump_tb (b : Body) (f : Fld) (n i j : Nat) : (b.bump f n i j).tb = b.tb := rfl
@[simp] theorem Body.bump_ce (b : Body) (f : Fld) (n i j : Nat) : (b.bump f n i j).ce = b.ce := rfl
@[simp] theorem Body.bump_air (b : Body) (f : Fld) (n i j : Nat) : (b.bump f n i j).air = b.air := rfl
@[simp] theorem Body.bump_seam (b : Body) (f : Fld) (n i j : Nat) : (b.bump f n i j).seam = b.seam := rfl
@[simp] theorem Body.bump_upd (b : Body) (f : Fld) (n i j : Nat) : (b.bump f n i j).upd = b.upd := rfl
@[simp] theorem Body.bump_memi (b : Body) (f : Fld) (n i j : Nat) : (b.bump f n i j).memi = b.memi := rfl
@[simp] theorem Body.bump_aon (b : Body) (f : Fld) (n i j : Nat) : (b.bump f n i j).aon = b.aon := rfl
@[simp] theorem Body.bump_sha (b : Body) (f : Fld) (n i j : Nat) : (b.bump f n i j).sha = b.sha := rfl
@[simp] theorem Body.bump_met (b : Body) (f : Fld) (n i j : Nat) : (b.bump f n i j).met = b.met := rfl
@[simp] theorem Body.bump_att (b : Body) (f : Fld) (n i j : Nat) : (b.bump f n i j).att = b.att := rfl
@[simp] theorem Body.bump_ofe (b : Body) (f : Fld) (n i j : Nat) : (b.bump f n i j).ofe = b.ofe := rfl
@[simp] theorem Body.bump_gio (b : Body) (f : Fld) (n i j : Nat) : (b.bump f n i j).gio = b.gio := rfl
@[simp] theorem Body.bump_pins (b : Body) (f : Fld) (n i j : Nat) : (b.bump f n i j).pins = b.pins := rfl
@[simp] theorem Body.bump_bus (b : Body) (f : Fld) (n i j : Nat) : (b.bump f n i j).bus = b.bus := rfl
@[simp] theorem Body.bump_picks (b : Body) (f : Fld) (n i j : Nat) : (b.bump f n i j).picks = b.picks := rfl
@[simp] theorem Body.bump_out (b : Body) (f : Fld) (n i j : Nat) : (b.bump f n i j).out = b.out := rfl

@[simp] theorem Body.wrap_mem (b : Body) (f : Fld) (i j : Nat) : (b.wrap f i j).mem = b.mem := rfl
@[simp] theorem Body.wrap_clock (b : Body) (f : Fld) (i j : Nat) : (b.wrap f i j).clock = b.clock := rfl
@[simp] theorem Body.wrap_power (b : Body) (f : Fld) (i j : Nat) : (b.wrap f i j).power = b.power := rfl
@[simp] theorem Body.wrap_nv (b : Body) (f : Fld) (i j : Nat) : (b.wrap f i j).nv = b.nv := rfl
@[simp] theorem Body.wrap_safe (b : Body) (f : Fld) (i j : Nat) : (b.wrap f i j).safe = b.safe := rfl
@[simp] theorem Body.wrap_loom (b : Body) (f : Fld) (i j : Nat) : (b.wrap f i j).loom = b.loom := rfl
@[simp] theorem Body.wrap_pat (b : Body) (f : Fld) (i j : Nat) : (b.wrap f i j).pat = b.pat := rfl
@[simp] theorem Body.wrap_qm (b : Body) (f : Fld) (i j : Nat) : (b.wrap f i j).qm = b.qm := rfl
@[simp] theorem Body.wrap_sw (b : Body) (f : Fld) (i j : Nat) : (b.wrap f i j).sw = b.sw := rfl
@[simp] theorem Body.wrap_tb (b : Body) (f : Fld) (i j : Nat) : (b.wrap f i j).tb = b.tb := rfl
@[simp] theorem Body.wrap_ce (b : Body) (f : Fld) (i j : Nat) : (b.wrap f i j).ce = b.ce := rfl
@[simp] theorem Body.wrap_air (b : Body) (f : Fld) (i j : Nat) : (b.wrap f i j).air = b.air := rfl
@[simp] theorem Body.wrap_seam (b : Body) (f : Fld) (i j : Nat) : (b.wrap f i j).seam = b.seam := rfl
@[simp] theorem Body.wrap_upd (b : Body) (f : Fld) (i j : Nat) : (b.wrap f i j).upd = b.upd := rfl
@[simp] theorem Body.wrap_memi (b : Body) (f : Fld) (i j : Nat) : (b.wrap f i j).memi = b.memi := rfl
@[simp] theorem Body.wrap_aon (b : Body) (f : Fld) (i j : Nat) : (b.wrap f i j).aon = b.aon := rfl
@[simp] theorem Body.wrap_sha (b : Body) (f : Fld) (i j : Nat) : (b.wrap f i j).sha = b.sha := rfl
@[simp] theorem Body.wrap_met (b : Body) (f : Fld) (i j : Nat) : (b.wrap f i j).met = b.met := rfl
@[simp] theorem Body.wrap_att (b : Body) (f : Fld) (i j : Nat) : (b.wrap f i j).att = b.att := rfl
@[simp] theorem Body.wrap_ofe (b : Body) (f : Fld) (i j : Nat) : (b.wrap f i j).ofe = b.ofe := rfl
@[simp] theorem Body.wrap_gio (b : Body) (f : Fld) (i j : Nat) : (b.wrap f i j).gio = b.gio := rfl
@[simp] theorem Body.wrap_pins (b : Body) (f : Fld) (i j : Nat) : (b.wrap f i j).pins = b.pins := rfl
@[simp] theorem Body.wrap_bus (b : Body) (f : Fld) (i j : Nat) : (b.wrap f i j).bus = b.bus := rfl
@[simp] theorem Body.wrap_picks (b : Body) (f : Fld) (i j : Nat) : (b.wrap f i j).picks = b.picks := rfl
@[simp] theorem Body.wrap_out (b : Body) (f : Fld) (i j : Nat) : (b.wrap f i j).out = b.out := rfl

@[simp] theorem Body.setBit_mem (b : Body) (f : Fld) (k : Nat) (v : Bool) (i j : Nat) : (b.setBit f k v i j).mem = b.mem := rfl
@[simp] theorem Body.setBit_clock (b : Body) (f : Fld) (k : Nat) (v : Bool) (i j : Nat) : (b.setBit f k v i j).clock = b.clock := rfl
@[simp] theorem Body.setBit_power (b : Body) (f : Fld) (k : Nat) (v : Bool) (i j : Nat) : (b.setBit f k v i j).power = b.power := rfl
@[simp] theorem Body.setBit_nv (b : Body) (f : Fld) (k : Nat) (v : Bool) (i j : Nat) : (b.setBit f k v i j).nv = b.nv := rfl
@[simp] theorem Body.setBit_safe (b : Body) (f : Fld) (k : Nat) (v : Bool) (i j : Nat) : (b.setBit f k v i j).safe = b.safe := rfl
@[simp] theorem Body.setBit_loom (b : Body) (f : Fld) (k : Nat) (v : Bool) (i j : Nat) : (b.setBit f k v i j).loom = b.loom := rfl
@[simp] theorem Body.setBit_pat (b : Body) (f : Fld) (k : Nat) (v : Bool) (i j : Nat) : (b.setBit f k v i j).pat = b.pat := rfl
@[simp] theorem Body.setBit_qm (b : Body) (f : Fld) (k : Nat) (v : Bool) (i j : Nat) : (b.setBit f k v i j).qm = b.qm := rfl
@[simp] theorem Body.setBit_sw (b : Body) (f : Fld) (k : Nat) (v : Bool) (i j : Nat) : (b.setBit f k v i j).sw = b.sw := rfl
@[simp] theorem Body.setBit_tb (b : Body) (f : Fld) (k : Nat) (v : Bool) (i j : Nat) : (b.setBit f k v i j).tb = b.tb := rfl
@[simp] theorem Body.setBit_ce (b : Body) (f : Fld) (k : Nat) (v : Bool) (i j : Nat) : (b.setBit f k v i j).ce = b.ce := rfl
@[simp] theorem Body.setBit_air (b : Body) (f : Fld) (k : Nat) (v : Bool) (i j : Nat) : (b.setBit f k v i j).air = b.air := rfl
@[simp] theorem Body.setBit_seam (b : Body) (f : Fld) (k : Nat) (v : Bool) (i j : Nat) : (b.setBit f k v i j).seam = b.seam := rfl
@[simp] theorem Body.setBit_upd (b : Body) (f : Fld) (k : Nat) (v : Bool) (i j : Nat) : (b.setBit f k v i j).upd = b.upd := rfl
@[simp] theorem Body.setBit_memi (b : Body) (f : Fld) (k : Nat) (v : Bool) (i j : Nat) : (b.setBit f k v i j).memi = b.memi := rfl
@[simp] theorem Body.setBit_aon (b : Body) (f : Fld) (k : Nat) (v : Bool) (i j : Nat) : (b.setBit f k v i j).aon = b.aon := rfl
@[simp] theorem Body.setBit_sha (b : Body) (f : Fld) (k : Nat) (v : Bool) (i j : Nat) : (b.setBit f k v i j).sha = b.sha := rfl
@[simp] theorem Body.setBit_met (b : Body) (f : Fld) (k : Nat) (v : Bool) (i j : Nat) : (b.setBit f k v i j).met = b.met := rfl
@[simp] theorem Body.setBit_att (b : Body) (f : Fld) (k : Nat) (v : Bool) (i j : Nat) : (b.setBit f k v i j).att = b.att := rfl
@[simp] theorem Body.setBit_ofe (b : Body) (f : Fld) (k : Nat) (v : Bool) (i j : Nat) : (b.setBit f k v i j).ofe = b.ofe := rfl
@[simp] theorem Body.setBit_gio (b : Body) (f : Fld) (k : Nat) (v : Bool) (i j : Nat) : (b.setBit f k v i j).gio = b.gio := rfl
@[simp] theorem Body.setBit_pins (b : Body) (f : Fld) (k : Nat) (v : Bool) (i j : Nat) : (b.setBit f k v i j).pins = b.pins := rfl
@[simp] theorem Body.setBit_bus (b : Body) (f : Fld) (k : Nat) (v : Bool) (i j : Nat) : (b.setBit f k v i j).bus = b.bus := rfl
@[simp] theorem Body.setBit_picks (b : Body) (f : Fld) (k : Nat) (v : Bool) (i j : Nat) : (b.setBit f k v i j).picks = b.picks := rfl
@[simp] theorem Body.setBit_out (b : Body) (f : Fld) (k : Nat) (v : Bool) (i j : Nat) : (b.setBit f k v i j).out = b.out := rfl

@[simp] theorem Body.emit_mem (b : Body) (e : Emission) : (b.emit e).mem = b.mem := rfl
@[simp] theorem Body.emit_clock (b : Body) (e : Emission) : (b.emit e).clock = b.clock := rfl
@[simp] theorem Body.emit_power (b : Body) (e : Emission) : (b.emit e).power = b.power := rfl
@[simp] theorem Body.emit_nv (b : Body) (e : Emission) : (b.emit e).nv = b.nv := rfl
@[simp] theorem Body.emit_safe (b : Body) (e : Emission) : (b.emit e).safe = b.safe := rfl
@[simp] theorem Body.emit_loom (b : Body) (e : Emission) : (b.emit e).loom = b.loom := rfl
@[simp] theorem Body.emit_pat (b : Body) (e : Emission) : (b.emit e).pat = b.pat := rfl
@[simp] theorem Body.emit_qm (b : Body) (e : Emission) : (b.emit e).qm = b.qm := rfl
@[simp] theorem Body.emit_sw (b : Body) (e : Emission) : (b.emit e).sw = b.sw := rfl
@[simp] theorem Body.emit_tb (b : Body) (e : Emission) : (b.emit e).tb = b.tb := rfl
@[simp] theorem Body.emit_ce (b : Body) (e : Emission) : (b.emit e).ce = b.ce := rfl
@[simp] theorem Body.emit_air (b : Body) (e : Emission) : (b.emit e).air = b.air := rfl
@[simp] theorem Body.emit_seam (b : Body) (e : Emission) : (b.emit e).seam = b.seam := rfl
@[simp] theorem Body.emit_upd (b : Body) (e : Emission) : (b.emit e).upd = b.upd := rfl
@[simp] theorem Body.emit_memi (b : Body) (e : Emission) : (b.emit e).memi = b.memi := rfl
@[simp] theorem Body.emit_aon (b : Body) (e : Emission) : (b.emit e).aon = b.aon := rfl
@[simp] theorem Body.emit_sha (b : Body) (e : Emission) : (b.emit e).sha = b.sha := rfl
@[simp] theorem Body.emit_met (b : Body) (e : Emission) : (b.emit e).met = b.met := rfl
@[simp] theorem Body.emit_att (b : Body) (e : Emission) : (b.emit e).att = b.att := rfl
@[simp] theorem Body.emit_ofe (b : Body) (e : Emission) : (b.emit e).ofe = b.ofe := rfl
@[simp] theorem Body.emit_gio (b : Body) (e : Emission) : (b.emit e).gio = b.gio := rfl
@[simp] theorem Body.emit_pins (b : Body) (e : Emission) : (b.emit e).pins = b.pins := rfl
@[simp] theorem Body.emit_bus (b : Body) (e : Emission) : (b.emit e).bus = b.bus := rfl
@[simp] theorem Body.emit_picks (b : Body) (e : Emission) : (b.emit e).picks = b.picks := rfl
@[simp] theorem Body.emit_regs (b : Body) (e : Emission) : (b.emit e).regs = b.regs := rfl
@[simp] theorem Body.emit_out (b : Body) (e : Emission) : (b.emit e).out = b.out ++ [e] := rfl

/-! ### Register words -/

@[simp] theorem Body.word_setWord_same (b : Body) (a : Nat) (v : Word) : (b.setWord a v).word a = v :=
  tabGet_tabSet_same _ _ _

theorem Body.word_setWord_other (b : Body) {a q : Nat} (v : Word) (h : q ≠ a) : (b.setWord a v).word q = b.word q :=
  tabGet_tabSet_other _ _ h

/-- A word depends on the register table alone. -/
theorem Body.word_congr {b c : Body} (h : c.regs = b.regs) (a : Nat) : c.word a = b.word a := by
  simp [Body.word, h]

theorem Body.get_congr {b c : Body} (h : c.regs = b.regs) (f : Fld) (i j : Nat) : c.get f i j = b.get f i j := by
  simp [Body.get, Body.word_congr h]

/-! ### Bit fields -/

theorem insBits_split (n lo w v : Nat) :
    insBits n lo w v = n % 2 ^ lo + v % 2 ^ w * 2 ^ lo + n / 2 ^ (lo + w) * 2 ^ (lo + w) := by
  have h1 : n = n % 2 ^ lo + 2 ^ lo * (n / 2 ^ lo) := (Nat.mod_add_div n (2 ^ lo)).symm
  have h2 : n / 2 ^ lo = n / 2 ^ lo % 2 ^ w + 2 ^ w * (n / 2 ^ lo / 2 ^ w) := (Nat.mod_add_div _ (2 ^ w)).symm
  have h3 : n / 2 ^ lo / 2 ^ w = n / 2 ^ (lo + w) := by rw [Nat.div_div_eq_div_mul, pow_add]
  have h4 : n = n % 2 ^ lo + n / 2 ^ lo % 2 ^ w * 2 ^ lo + n / 2 ^ (lo + w) * 2 ^ (lo + w) := by
    conv_lhs => rw [h1, h2, h3]
    rw [pow_add]; ring
  unfold insBits
  omega

/-- The field just written reads its value. -/
theorem insBits_same (n lo w v : Nat) : insBits n lo w v / 2 ^ lo % 2 ^ w = v % 2 ^ w := by
  rw [insBits_split]
  have hp : 0 < 2 ^ lo := by positivity
  have e : n % 2 ^ lo + v % 2 ^ w * 2 ^ lo + n / 2 ^ (lo + w) * 2 ^ (lo + w)
      = n % 2 ^ lo + (v % 2 ^ w + n / 2 ^ (lo + w) * 2 ^ w) * 2 ^ lo := by rw [pow_add]; ring
  rw [e, Nat.add_mul_div_right _ _ hp, Nat.div_eq_of_lt (Nat.mod_lt _ hp), Nat.zero_add, Nat.add_mul_mod_self_right,
    Nat.mod_mod]

/-- A field below the written one reads as before. -/
theorem insBits_below (n lo w v l u : Nat) (h : l + u ≤ lo) : insBits n lo w v / 2 ^ l % 2 ^ u = n / 2 ^ l % 2 ^ u := by
  have hd : 2 ^ (l + u) ∣ 2 ^ lo := pow_dvd_pow 2 h
  have key : insBits n lo w v % 2 ^ (l + u) = n % 2 ^ (l + u) := by
    rw [insBits_split]
    have e1 : (v % 2 ^ w * 2 ^ lo) % 2 ^ (l + u) = 0 := Nat.mod_eq_zero_of_dvd (Dvd.dvd.mul_left hd _)
    have e2 : (n / 2 ^ (lo + w) * 2 ^ (lo + w)) % 2 ^ (l + u) = 0 :=
      Nat.mod_eq_zero_of_dvd (Dvd.dvd.mul_left (hd.trans (pow_dvd_pow 2 (by omega))) _)
    have e3 : n % 2 ^ lo % 2 ^ (l + u) = n % 2 ^ (l + u) := Nat.mod_mod_of_dvd _ hd
    rw [Nat.add_mod, Nat.add_mod (n % 2 ^ lo), e1, e2, e3]; simp
  have sp : ∀ m : Nat, m / 2 ^ l % 2 ^ u = m % 2 ^ (l + u) / 2 ^ l := by
    intro m; rw [pow_add, Nat.mod_mul_right_div_self]
  rw [sp, sp, key]

/-- A field above the written one reads as before. -/
theorem insBits_above (n lo w v l u : Nat) (h : lo + w ≤ l) : insBits n lo w v / 2 ^ l % 2 ^ u = n / 2 ^ l % 2 ^ u := by
  have key : insBits n lo w v / 2 ^ (lo + w) = n / 2 ^ (lo + w) := by
    rw [insBits_split, Nat.add_mul_div_right _ _ (by positivity)]
    have : n % 2 ^ lo + v % 2 ^ w * 2 ^ lo < 2 ^ (lo + w) := by
      have h1 : n % 2 ^ lo < 2 ^ lo := Nat.mod_lt _ (by positivity)
      have h2 : v % 2 ^ w + 1 ≤ 2 ^ w := Nat.mod_lt _ (by positivity)
      calc n % 2 ^ lo + v % 2 ^ w * 2 ^ lo < 2 ^ lo + v % 2 ^ w * 2 ^ lo := by omega
        _ = (v % 2 ^ w + 1) * 2 ^ lo := by ring
        _ ≤ 2 ^ w * 2 ^ lo := Nat.mul_le_mul_right _ h2
        _ = 2 ^ (lo + w) := by rw [pow_add]; ring
    rw [Nat.div_eq_of_lt this, Nat.zero_add]
  obtain ⟨k, rfl⟩ := Nat.exists_eq_add_of_le h
  rw [pow_add, ← Nat.div_div_eq_div_mul, ← Nat.div_div_eq_div_mul, key]

theorem insBits_lt (n lo w v : Nat) (hn : n < 2 ^ 32) (hw : lo + w ≤ 32) : insBits n lo w v < 2 ^ 32 := by
  have key : insBits n lo w v / 2 ^ (lo + w) = n / 2 ^ (lo + w) := by
    have := insBits_above n lo w v (lo + w) (32 - (lo + w)) le_rfl
    by_contra hne
    rw [insBits_split] at hne
    apply hne
    rw [Nat.add_mul_div_right _ _ (by positivity), Nat.div_eq_of_lt, Nat.zero_add]
    have h1 : n % 2 ^ lo < 2 ^ lo := Nat.mod_lt _ (by positivity)
    have h2 : v % 2 ^ w + 1 ≤ 2 ^ w := Nat.mod_lt _ (by positivity)
    calc n % 2 ^ lo + v % 2 ^ w * 2 ^ lo < 2 ^ lo + v % 2 ^ w * 2 ^ lo := by omega
      _ = (v % 2 ^ w + 1) * 2 ^ lo := by ring
      _ ≤ 2 ^ w * 2 ^ lo := Nat.mul_le_mul_right _ h2
      _ = 2 ^ (lo + w) := by rw [pow_add]; ring
  have h32 : (2 : Nat) ^ 32 = 2 ^ (32 - (lo + w)) * 2 ^ (lo + w) := by rw [← pow_add]; congr 1; omega
  have : n / 2 ^ (lo + w) < 2 ^ (32 - (lo + w)) := by
    rw [Nat.div_lt_iff_lt_mul (by positivity), ← h32]; exact hn
  rw [h32, ← Nat.div_lt_iff_lt_mul (by positivity), key]; exact this

/-! ### Fields of registers -/

theorem Body.word_put_same (b : Body) (f : Fld) (v i j : Nat) :
    (b.put f v i j).word (f.at i j) = BitVec.ofNat 32 (insBits (b.word (f.at i j)).toNat f.lo f.w v) :=
  Body.word_setWord_same _ _ _

theorem Body.word_put_other (b : Body) (f : Fld) (v i j : Nat) {a : Nat} (h : a ≠ f.at i j) :
    (b.put f v i j).word a = b.word a :=
  Body.word_setWord_other _ _ h

/-- A field just written reads its value, cut to its width. -/
theorem Body.get_put_same (b : Body) (f : Fld) (v i j : Nat) (hw : f.lo + f.w ≤ 32) :
    (b.put f v i j).get f i j = v % 2 ^ f.w := by
  unfold Body.get
  rw [Body.word_put_same, BitVec.toNat_ofNat, Nat.mod_eq_of_lt (insBits_lt _ _ _ _ (BitVec.isLt _) hw), insBits_same]

/-- A field of another register reads as before. -/
theorem Body.get_put_other (b : Body) (f g : Fld) (v i j k l : Nat) (h : g.at k l ≠ f.at i j) :
    (b.put f v i j).get g k l = b.get g k l := by
  unfold Body.get
  rw [Body.word_put_other _ _ _ _ _ h]

/-- A field of the same register at other bits reads as before. -/
theorem Body.get_put_bits (b : Body) (f g : Fld) (v i j k l : Nat) (ha : g.at k l = f.at i j) (hf : f.lo + f.w ≤ 32)
    (h : g.lo + g.w ≤ f.lo ∨ f.lo + f.w ≤ g.lo) : (b.put f v i j).get g k l = b.get g k l := by
  unfold Body.get
  rw [ha, Body.word_put_same, BitVec.toNat_ofNat, Nat.mod_eq_of_lt (insBits_lt _ _ _ _ (BitVec.isLt _) hf)]
  rcases h with h | h
  · exact insBits_below _ _ _ _ _ _ h
  · exact insBits_above _ _ _ _ _ _ h

theorem Body.get_lt (b : Body) (f : Fld) (i j : Nat) : b.get f i j < 2 ^ f.w := Nat.mod_lt _ (by positivity)

/-- A one-bit field just marked reads the mark. -/
theorem Body.flag_mark_same (b : Body) (f : Fld) (v : Bool) (i j : Nat) (h1 : f.w = 1) (hw : f.lo + f.w ≤ 32) :
    (b.mark f v i j).flag f i j = v := by
  unfold Body.flag Body.mark
  rw [Body.get_put_same _ _ _ _ _ hw, h1]
  cases v <;> simp

theorem Body.flag_mark_other (b : Body) (f g : Fld) (v : Bool) (i j k l : Nat) (h : g.at k l ≠ f.at i j) :
    (b.mark f v i j).flag g k l = b.flag g k l := by
  unfold Body.flag Body.mark
  rw [Body.get_put_other _ _ _ _ _ _ _ _ h]

theorem Body.flag_mark_bits (b : Body) (f g : Fld) (v : Bool) (i j k l : Nat) (ha : g.at k l = f.at i j)
    (hf : f.lo + f.w ≤ 32) (h : g.lo + g.w ≤ f.lo ∨ f.lo + f.w ≤ g.lo) : (b.mark f v i j).flag g k l = b.flag g k l := by
  unfold Body.flag Body.mark
  rw [Body.get_put_bits _ _ _ _ _ _ _ _ ha hf h]

/-- A write keeps the register table in its canonical form. -/
theorem Body.regs_wf_setWord (b : Body) (a : Nat) (v : Word)
    (h : tabWf (fun a => BitVec.ofNat 32 (resetWord a)) b.regs = true) :
    tabWf (fun a => BitVec.ofNat 32 (resetWord a)) (b.setWord a v).regs = true :=
  tabWf_tabSet _ _ h

end Sys2Proof.Machine
end

