-- ==== Sys2Proof/Laws/Memory.lean ====
section
/-! SUPPORT. Laws/Memory.lean: read after write of the byte memories (R587), and that every change of memory keeps the
canonical form: a write of bytes, a fill of queue cells, and the losses of power (a filter of the listed bytes). -/

set_option Elab.async false

namespace Sys2Proof.Machine

theorem memByte_setMemByte_same (b : Body) (a v : Nat) : memByte (setMemByte a v b) a = v % 256 := by
  simp [memByte, setMemByte, tabGet_tabSet_same]

theorem memByte_setMemByte_other (b : Body) {a q : Nat} (v : Nat) (h : q ≠ a) : memByte (setMemByte a v b) q = memByte b q := by
  simp [memByte, setMemByte, tabGet_tabSet_other _ _ h]

theorem memByte_setMemBytes_outside (l : List Nat) (a : Nat) (b : Body) {q : Nat} (h : q < a ∨ a + l.length ≤ q) :
    memByte (setMemBytes a l b) q = memByte b q := by
  induction l generalizing a b with
  | nil => rfl
  | cons x t ih =>
    rw [List.length_cons] at h
    rw [setMemBytes, ih (a + 1) _ (by omega), memByte_setMemByte_other _ _ (by omega)]

theorem memByte_setMemBytes_inside (l : List Nat) (a : Nat) (b : Body) (i : Nat) (h : i < l.length) :
    memByte (setMemBytes a l b) (a + i) = l[i] % 256 := by
  induction l generalizing a b i with
  | nil => simp at h
  | cons x t ih =>
    cases i with
    | zero =>
      rw [setMemBytes, memByte_setMemBytes_outside _ _ _ (by omega)]
      exact memByte_setMemByte_same b a x
    | succ i =>
      rw [setMemBytes, show a + (i + 1) = (a + 1) + i by omega, ih (a + 1) _ i (by simpa using h)]
      simp

/-! ### What a write of memory leaves alone -/

@[simp] theorem setMemByte_regs (b : Body) (a v : Nat) : (setMemByte a v b).regs = b.regs := rfl
@[simp] theorem setMemByte_qm (b : Body) (a v : Nat) : (setMemByte a v b).qm = b.qm := rfl
@[simp] theorem setMemByte_out (b : Body) (a v : Nat) : (setMemByte a v b).out = b.out := rfl

theorem setMemBytes_only_mem (l : List Nat) (a : Nat) (b : Body) : setMemBytes a l b = { b with mem := (setMemBytes a l b).mem } := by
  induction l generalizing a b with
  | nil => rfl
  | cons x t ih => exact ih (a + 1) (setMemByte a x b)

/-- Filling the cells of an item touches memory, and the faults and write-backs of the words written (R408). -/
theorem fillCells_only_mem (cs l : List Nat) (b : Body) :
    fillCells cs l b = { b with mem := (fillCells cs l b).mem, memi := (fillCells cs l b).memi } := by
  induction cs generalizing l b with
  | nil => rfl
  | cons c cs ih =>
    rw [fillCells]
    have h := ih (l.drop 128) (cellFresh c (setMemBytes (cellAddr c) (l.take 128) b))
    rw [setMemBytes_only_mem] at h
    rw [setMemBytes_only_mem]
    exact h

/-! ### The canonical form -/

theorem wf_setMemByte (b : Body) (a v : Nat) (h : Memory.wf b.mem) : Memory.wf (setMemByte a v b).mem := tabWf_tabSet a _ h

theorem wf_setMemBytes (l : List Nat) (a : Nat) (b : Body) (h : Memory.wf b.mem) : Memory.wf (setMemBytes a l b).mem := by
  induction l generalizing a b with
  | nil => exact h
  | cons x t ih => exact ih (a + 1) _ (wf_setMemByte b a x h)

theorem wf_fillCells (cs l : List Nat) (b : Body) (h : Memory.wf b.mem) : Memory.wf (fillCells cs l b).mem := by
  induction cs generalizing l b with
  | nil => exact h
  | cons c cs ih => exact ih _ _ (wf_setMemBytes _ _ _ h)

theorem wf_filter {m : List Host.Cell} (p : Host.Cell → Bool) (h : Memory.wf m) : Memory.wf (m.filter p) := by
  rw [Memory.wf, tabWf_iff] at h ⊢
  exact ⟨h.1.filter p, fun x hx => h.2 x (List.mem_of_mem_filter hx)⟩

theorem wf_coldBody (b : Body) (h : Memory.wf b.mem) : Memory.wf (coldBody b).mem := wf_filter _ h

/-- A loss of bytes keeps the bytes it does not take and leaves the rest reading zero (R407). -/
theorem tabGet_filter (p : Host.Cell → Bool) (m : List Host.Cell) (a : Nat)
    (hk : ∀ v, p (a, v) = true) : tabGet memDefault (m.filter p) a = tabGet memDefault m a := by
  induction m with
  | nil => rfl
  | cons x t ih =>
    obtain ⟨k, v⟩ := x
    by_cases e : k = a
    · subst e; simp [hk v, tabGet]
    · by_cases hp : p (k, v) = true
      · simp [hp, tabGet, e, ih]
      · simp [hp, tabGet, e, ih]

/-- At reset memory lists nothing, which is the form. -/
theorem wf_reset : Memory.wf State.reset.body.mem := rfl

end Sys2Proof.Machine
end

