-- ==== Sys2Proof/Laws/Raise.lean ====
section
/-! SUPPORT. Laws/Raise.lean: what raising an error can change (R570 to R578): which blocks' registers, that a fatal one
leaves the module in hem, that a held bit is set, and that memory stands. -/

set_option Elab.async false

namespace Sys2Proof.Machine

/-- Only registers of the listed blocks (by address / 2^20) may differ. -/
def Only (ks : List Nat) (b c : Body) : Prop := ∀ a, a / 0x100000 ∉ ks → c.word a = b.word a

theorem Only.rfl {ks : List Nat} {b : Body} : Only ks b b := fun _ _ => Eq.refl _
theorem Only.trans {ks : List Nat} {b c e : Body} (h : Only ks b c) (g : Only ks c e) : Only ks b e :=
  fun a ha => (g a ha).trans (h a ha)
theorem Only.mono {ks ls : List Nat} {b c : Body} (h : Only ks b c) (hs : ks ⊆ ls) : Only ls b c :=
  fun _ ha => h _ fun hk => ha (hs hk)
theorem Only.of_regs {ks : List Nat} {b c : Body} (h : c.regs = b.regs) : Only ks b c :=
  fun a _ => Body.word_congr h a
theorem Only.put {ks : List Nat} {b : Body} {f : Fld} {v i j : Nat} (h : f.at i j / 0x100000 ∈ ks) :
    Only ks b (b.put f v i j) :=
  fun a ha => Body.word_put_other _ _ _ _ _ fun e => ha (e ▸ h)
theorem Only.each {α : Type} {ks : List Nat} {f : Body → α → Body} (l : List α) (h : ∀ x b, Only ks b (f b x)) (b : Body) :
    Only ks b (b.each l f) := by
  unfold Body.each
  induction l generalizing b with
  | nil => exact Only.rfl
  | cons x t ih => exact (h x b).trans (ih (f b x))
theorem Only.get {ks : List Nat} {b c : Body} (h : Only ks b c) (f : Fld) (i j : Nat) (hf : f.at i j / 0x100000 ∉ ks) :
    c.get f i j = b.get f i j := by unfold Body.get; rw [h _ hf]
theorem Only.flag {ks : List Nat} {b c : Body} (h : Only ks b c) (f : Fld) (i j : Nat) (hf : f.at i j / 0x100000 ∉ ks) :
    c.flag f i j = b.flag f i j := by unfold Body.flag; rw [h.get f i j hf]

/-! ### Sending touches no register and no memory -/

theorem shEmit_regs (id : Nat) (m : List Nat) (b : Body) : (shEmit id m b).regs = b.regs := by
  unfold shEmit
  cases assocOf b id <;> rfl

theorem shEmit_mem (id : Nat) (m : List Nat) (b : Body) : (shEmit id m b).mem = b.mem := by
  unfold shEmit
  cases assocOf b id <;> rfl

theorem pumpN_regs (n id : Nat) (b : Body) : (pumpN n id b).regs = b.regs := by
  induction n generalizing b with
  | zero => rfl
  | succ n ih =>
    unfold pumpN
    split
    · split
      · rfl
      · exact (ih _).trans (shEmit_regs _ _ _)
    · rfl

theorem shAsk_regs (id : Nat) (m : List Nat) (o : Option (Nat × Nat)) (b : Body) : (shAsk id m o b).regs = b.regs :=
  (pumpN_regs _ _ _).trans rfl

theorem shCollect_regs (t k : Nat) (ns : Bool) (p : List Nat) (b : Body) : (shCollect t k ns p b).regs = b.regs := by
  have each : ∀ (l : List Nat) (c : Body), (c.each l fun c id => shRequest id t p c).regs = c.regs := by
    intro l
    induction l with
    | nil => intro c; rfl
    | cons x l ih => intro c; exact (ih _).trans (shAsk_regs _ _ _ _)
  unfold shCollect
  rw [each]
  split
  · exact shAsk_regs _ _ _ _
  · rfl

theorem pumpN_mem (n id : Nat) (b : Body) : (pumpN n id b).mem = b.mem := by
  induction n generalizing b with
  | zero => rfl
  | succ n ih =>
    unfold pumpN
    split
    · split
      · rfl
      · exact (ih _).trans (shEmit_mem _ _ _)
    · rfl

theorem shCollect_mem (t k : Nat) (ns : Bool) (p : List Nat) (b : Body) : (shCollect t k ns p b).mem = b.mem := by
  have each : ∀ (l : List Nat) (c : Body), (c.each l fun c id => shRequest id t p c).mem = c.mem := by
    intro l
    induction l with
    | nil => intro c; rfl
    | cons x l ih => intro c; exact (ih _).trans (pumpN_mem _ _ _)
  unfold shCollect
  rw [each]
  split
  · exact pumpN_mem _ _ _
  · rfl

/-! ### Black box and slots -/

theorem bbOffer_only (need code b6 : Nat) (ns : Bool) (a0 a1 : Nat) (b : Body) :
    Only [0x40D] b (bbOffer need code b6 ns a0 a1 b).1 := by
  unfold bbOffer
  split
  · exact Only.of_regs rfl
  · split
    · exact Only.of_regs rfl
    · exact Only.trans (c := b.bump SAFE.BB_LOST.COUNT) (Only.put (by decide)) (Only.of_regs rfl)

theorem record_only (code a0 a1 : Nat) (b : Body) : Only [0x40D] b (record code a0 a1 b) := bbOffer_only _ _ _ _ _ _ _

theorem setSlot_only (s code sev : Nat) (ns pre : Bool) (a0 a1 seq : Nat) (hs : s < 2) (b : Body) :
    Only [0x40D] b (setSlot s code sev ns pre a0 a1 seq b) := by
  have h : s = 0 ∨ s = 1 := by omega
  rcases h with rfl | rfl <;>
  exact (((Only.put (by decide)).trans (Only.put (by decide))).trans (Only.put (by decide))).trans (Only.put (by decide))

theorem copySlot_only (s d : Nat) (hd : d < 2) (b : Body) : Only [0x40D] b (copySlot s d b) := by
  have h : d = 0 ∨ d = 1 := by omega
  rcases h with rfl | rfl <;>
  exact (((Only.put (by decide)).trans (Only.put (by decide))).trans (Only.put (by decide))).trans (Only.put (by decide))

/-- Placing an error writes registers of SAFE alone. -/
theorem placeError_only (code sev a0 a1 : Nat) (b : Body) : Only [0x40D] b (placeError code sev a0 a1 b) := by
  unfold placeError
  dsimp only
  set ns := errorNs code a0 b
  generalize hb6 : sev + _ + _ + _ = b6
  have s1 : Only [0x40D] b (bbOffer 1 code b6 ns a0 a1 b).1 := bbOffer_only _ _ _ _ _ _ _
  set o := bbOffer 1 code b6 ns a0 a1 b
  have s3 : ∀ q : Nat × Body, Only [0x40D] b q.2 → ∀ pre : Bool, Only [0x40D] b
      (if (!b.flag SAFE.ERR.VALID 0) = true then
          (let c := setSlot 0 code sev ns false a0 a1 q.1 q.2; { c with safe := { c.safe with primaryAt := c.clock.cyc } })
        else if pre = true then
          (let c := setSlot 0 code sev ns true a0 a1 q.1 (copySlot 0 1 q.2)
           { c with safe := { c.safe with primaryAt := c.clock.cyc } })
        else if (!b.flag SAFE.ERR.VALID 1) = true then setSlot 1 code sev ns false a0 a1 q.1 q.2
        else q.2.bump SAFE.ERR_OVF.COUNT) := by
    intro q hq pre
    split
    · exact hq.trans ((setSlot_only 0 code sev ns false a0 a1 q.1 (by decide) q.2).trans (Only.of_regs rfl))
    · split
      · exact hq.trans (((copySlot_only 0 1 (by decide) q.2).trans
          (setSlot_only 0 code sev ns true a0 a1 q.1 (by decide) _)).trans (Only.of_regs rfl))
      · split
        · exact hq.trans (setSlot_only 1 code sev ns false a0 a1 q.1 (by decide) q.2)
        · exact hq.trans (Only.put (by decide))
  refine Only.trans ?_ (Only.of_regs (shCollect_regs _ _ _ _ _))
  cases h : o.2 with
  | some s => exact s3 (s, o.1) s1 _
  | none => exact s3 (o.1.freeWord.1, o.1.freeWord.2) (s1.trans (Only.of_regs rfl)) _

/-- A slice of an engine that gives way writes registers of SAFE alone (R566, R567). -/
theorem sliceYield_only (k : Nat) (hk : k < 80) (b : Body) : Only [0x40D] b (sliceYield k b) := by
  have p : ∀ (c : Body) (f : Fld) (v : Nat), f = SAFE.SLICE.RUNNING ∨ f = SAFE.SLICE.LAST ∨ f = SAFE.SLICE.ABORTS →
      Only [0x40D] c (c.put f v k) := by
    intro c f v hf
    refine Only.put ?_
    have : f.at k 0 / 0x100000 = 0x40D := by
      rcases hf with h | h | h <;> subst h <;> simp only [Fld.at] <;> omega
    simp [this]
  unfold sliceYield
  split
  · have h : Only [0x40D] b (((b.mark SAFE.SLICE.RUNNING false k).put SAFE.SLICE.LAST 3 k).bump SAFE.SLICE.ABORTS 1 k) :=
      ((p b _ _ (.inl rfl)).trans (p (b.mark SAFE.SLICE.RUNNING false k) _ 3 (.inr (.inl rfl)))).trans
        (p _ _ _ (.inr (.inr rfl)))
    unfold sliceStarved
    split
    · exact h.trans (placeError_only _ _ _ _ _)
    · exact h
  · exact Only.rfl

/-! ### Entry into hem -/

theorem writeSlotWord_only (a s t : Nat) (b : Body) : Only [0x40C] b (writeSlotWord a s t b) :=
  (((Only.put (by decide)).trans (Only.put (by decide))).trans (Only.put (by decide))).trans (Only.put (by decide))

theorem fallbackWord_only (b : Body) : Only [0x40C] b (fallbackWord b) := by
  unfold fallbackWord
  split
  · exact (writeSlotWord_only _ _ _ _).trans (Only.put (by decide))
  · exact Only.rfl

theorem applyWrites_only (t : Nat) (b : Body) : Only [0x406] b (applyWrites t b) := by
  refine Only.trans (Only.each _ (fun w c => Only.put ?_) b) (Only.of_regs rfl)
  have h1 : t % 64 < 64 := Nat.mod_lt _ (by decide)
  have h2 : w.1 % 1024 < 1024 := Nat.mod_lt _ (by decide)
  have : (LOOM.DATA.WORD.at (t % 64) (w.1 % 1024)) / 0x100000 = 0x406 := by
    simp only [Fld.at]; omega
  simp [this]

theorem dropAct_only (t : Nat) (b : Body) : Only [0x406] b (dropAct t b) := by
  unfold dropAct
  split
  · exact Only.rfl
  · refine Only.trans (Only.each _ (fun o c => ?_) b) (Only.trans (Only.of_regs rfl) (applyWrites_only t _))
    cases o <;> exact Only.of_regs rfl

theorem relayNow_only (k : Nat) (v : Bool) (hk : k < 4) (b : Body) : Only [0x40A] b (relayNow k v b) := by
  have h : k = 0 ∨ k = 1 ∨ k = 2 ∨ k = 3 := by omega
  unfold relayNow
  have p : ∀ (c : Body) (f : Fld) (n : Nat) (x : Bool), f.at 0 0 / 0x100000 = 0x40A → Only [0x40A] c (c.setBit f n x) :=
    fun c f n x hf => Only.put (by simp [hf])
  dsimp only
  split
  · exact (p _ GIO.REL_STAT.HELD k false (by decide)).trans (Only.of_regs rfl)
  · exact ((p _ GIO.REL_STAT.HELD k false (by decide)).trans (Only.of_regs rfl)).trans
      ((p _ GIO.REL_STAT.STATE k v (by decide)).trans (Only.of_regs rfl))

theorem relaysHem_only (b : Body) : Only [0x40A] b (relaysHem b) := by
  unfold relaysHem
  split
  · simp only [Body.each, List.foldl_cons, List.foldl_nil]
    have p : ∀ (c : Body) (k : Nat), k < 4 → Only [0x40A] c (if c.get GIO.REL_CFG.SOURCE k = 2 then c else
        relayNow k (c.flag GIO.REL_CFG.HEM_POS k) c) := by
      intro c k hk
      split
      · exact Only.rfl
      · exact relayNow_only _ _ hk _
    exact (((p _ 0 (by decide)).trans (p _ 1 (by decide))).trans (p _ 2 (by decide))).trans (p _ 3 (by decide))
  · exact Only.rfl

theorem hemHand_only (b : Body) : Only [0x40E] b (hemHand b) := by
  unfold hemHand
  split
  · exact ((Only.put (by decide)).trans (Only.put (by decide))).trans (Only.of_regs rfl)
  · exact Only.rfl

/-- Asking for a composition writes registers of SAFE alone: its slice may have to yield (R566). -/
theorem ask_only (ns : List Nat) (w : Why) (g : Option Nat) (b : Body) : Only [0x40D] b (ask ns w g b) := by
  unfold ask
  exact (sliceYield_only 1 (by decide) b).trans (Only.of_regs rfl)

theorem askAll_only (w : Why) (b : Body) : Only [0x40D] b (askAll w b) := Only.each _ (fun _ c => ask_only _ _ _ c) b

/-- The blocks an entry into hem may write: LOOM, CE, GIO, UPD, SAFE and SEAM. -/
abbrev hemBlocks : List Nat := [0x406, 0x407, 0x40A, 0x40C, 0x40D, 0x40E]

theorem enterHem_only (code : Nat) (silent : Bool) (b : Body) : Only hemBlocks b (enterHem code silent b) := by
  unfold enterHem
  split
  · split
    · exact Only.trans (c := b.mark SAFE.STAT.HEM_SILENT true) (Only.put (by decide)) (Only.of_regs rfl)
    · exact Only.rfl
  · dsimp only
    have s1 : Only hemBlocks b (((fallbackWord (b.put SAFE.HEM_CAUSE.CODE code)).mark SAFE.STAT.HEM true).mark
        SAFE.STAT.HEM_SILENT silent |>.mark CE.STAT.HEM true) :=
      (((Only.trans (Only.put (by decide)) ((fallbackWord_only _).mono (by decide))).trans (Only.put (by decide))).trans
        (Only.put (by decide))).trans (Only.put (by decide))
    set b1 := ((fallbackWord (b.put SAFE.HEM_CAUSE.CODE code)).mark SAFE.STAT.HEM true).mark
        SAFE.STAT.HEM_SILENT silent |>.mark CE.STAT.HEM true
    have s2 : Only hemBlocks b1 (b1.each (b1.loom.tiles.map (·.1)) fun b t => dropAct t b) :=
      Only.each _ (fun t c => (dropAct_only t c).mono (by decide)) b1
    set b2 := b1.each (b1.loom.tiles.map (·.1)) fun b t => dropAct t b
    have s3 : Only hemBlocks b2 (hemHand (relaysHem b2)) :=
      ((relaysHem_only _).mono (by decide)).trans ((hemHand_only _).mono (by decide))
    set b3 := hemHand (relaysHem b2)
    have s4 : Only hemBlocks b3 (if b3.power = .start ∨ b3.power = .run then { b3 with power := .hem } else b3) := by
      split
      · exact Only.of_regs rfl
      · exact Only.rfl
    set b4 := if b3.power = .start ∨ b3.power = .run then { b3 with power := .hem } else b3
    have s5 : Only hemBlocks b4 (match b4.pat.staged with
      | some st => if st.armed.isSome then
          blockRecord 12 0x0040 st.pat.serial { b4.mark LOOM.STAT.HELD false with pat := { b4.pat with staged := none } }
        else b4
      | none => b4) := by
      split
      · split
        · exact Only.trans (c := b4.mark LOOM.STAT.HELD false) (Only.put (by decide))
            ((Only.of_regs rfl).trans ((record_only _ _ _ _).mono (by decide)))
        · exact Only.rfl
      · exact Only.rfl
    refine (((s1.trans s2).trans s3).trans s4).trans (s5.trans (Only.trans ((askAll_only .safe _).mono (by decide)) ?_))
    by_cases hs : silent = true
    · rw [if_pos hs]; exact Only.of_regs rfl
    · rw [if_neg hs]; exact Only.of_regs rfl

/-- Raising an error writes registers of LOOM, CE, GIO, UPD, SAFE and SEAM alone. -/
theorem raiseAs_only (code sev : Nat) (silent : Bool) (a0 a1 : Nat) (b : Body) :
    Only hemBlocks b (raiseAs code sev silent a0 a1 b) := by
  unfold raiseAs
  dsimp only
  have h1 : Only hemBlocks b (placeError code sev a0 a1 b) := (placeError_only _ _ _ _ _).mono (by decide)
  have h2 : Only hemBlocks b (if sev ≥ 2 then (placeError code sev a0 a1 b).setBit SAFE.HELD.BLOCK (code / 256) true
      else placeError code sev a0 a1 b) := by
    split
    · exact h1.trans (Only.put (by decide))
    · exact h1
  split
  · exact h2.trans (enterHem_only _ _ _)
  · exact h2

theorem raise_only (code a0 a1 : Nat) (b : Body) : Only hemBlocks b (raise code a0 a1 b) := by
  unfold raise
  split
  · exact (record_only _ _ _ _).mono (by decide)
  · exact raiseAs_only _ _ _ _ _ _

end Sys2Proof.Machine
end

