-- ==== Sys2Proof/Laws/Queue.lean ====
section
/-! SUPPORT. Laws/Queue.lean: what an enqueue and a dequeue can do (R377, R380, R383, R385): registers of the queue manager
alone, a refusal that keeps every item, and an admitted item at the end of its queue. -/

set_option Elab.async false

namespace Sys2Proof.Machine

/-- A refusal keeps every queue and all of memory. -/
theorem qRefuse_keeps (q : Nat) (b : Body) : (qRefuse q b).qm = b.qm ∧ (qRefuse q b).mem = b.mem := ⟨rfl, rfl⟩

/-- An item the admission test turns away, of more than 32 cells, or that a bank of its queue has no room for, is refused
whole. -/
theorem qPut_refused {q : Nat} {l : List Nat} {b : Body}
    (h : cellsFor l.length > 32 ∨ qAdmits b q (cellsFor l.length) = false ∨ bankFits b q (cellsFor l.length) = false) :
    qPut q l b = (qRefuse q b, false) := by
  unfold qPut
  rw [if_pos]
  simpa using h

/-- The answer of an enqueue is the admission test and the room of the bank. -/
theorem qPut_answer (q : Nat) (l : List Nat) (b : Body) :
    (qPut q l b).2 = (decide (cellsFor l.length ≤ 32) && qAdmits b q (cellsFor l.length) && bankFits b q (cellsFor l.length)) := by
  by_cases h : cellsFor l.length > 32 ∨ qAdmits b q (cellsFor l.length) = false ∨ bankFits b q (cellsFor l.length) = false
  · rw [qPut_refused h]
    rcases h with h | h | h
    · simp; omega
    · simp [h]
    · simp [h]
  · push Not at h
    have h2 : qAdmits b q (cellsFor l.length) = true := by simpa using h.2.1
    have h3 : bankFits b q (cellsFor l.length) = true := by simpa using h.2.2
    unfold qPut
    simp only [h2, h3]
    rw [if_neg (by simp; omega)]
    split <;> simp [h.1]

/-- Each queue reads what was set for it, and every other queue as before. -/
theorem queueOf_setQueue_same (b : Body) (q : Nat) (x : Queue) : queueOf (setQueue b q x) q = x := tabGet_tabSet_same _ _ _
theorem queueOf_setQueue_other (b : Body) {q p : Nat} (x : Queue) (h : p ≠ q) : queueOf (setQueue b q x) p = queueOf b p :=
  tabGet_tabSet_other _ _ h

/-- A dequeue takes the oldest item; of an empty queue it takes nothing and changes nothing. -/
theorem qTake_empty {q : Nat} {b : Body} (h : (queueOf b q).items = []) : qTake q b = (none, b) := by
  simp [qTake, h]
theorem qTake_oldest {q : Nat} {b : Body} {it : Item} {t : List Item} (h : (queueOf b q).items = it :: t) :
    (qTake q b).1 = some (itemBytes b it) ∧ (queueOf (qTake q b).2 q).items = t ∧ (qTake q b).2.regs = b.regs ∧
      (qTake q b).2.mem = b.mem ∧ ∀ p, p ≠ q → queueOf (qTake q b).2 p = queueOf b p := by
  refine ⟨by simp [qTake, h], ?_, ?_, ?_, ?_⟩
  · simp [qTake, h, afterDequeue, queueOf_setQueue_same]
  · simp [qTake, h, afterDequeue, setQueue]
  · simp [qTake, h, afterDequeue, setQueue]
  · intro p hp
    simp [qTake, h, afterDequeue, queueOf_setQueue_other _ _ hp]

end Sys2Proof.Machine
end

