-- ==== Sys2Proof/Tests/Slice0.lean ====
section
/-! SUPPORT. Tests/Slice0.lean: the author's tests: the well-formedness smoke test, words of rule tiles written out from their
encodings, small runs of one command with values from the spec, and witnesses that the hypotheses of the statements can be met. -/

set_option Elab.async false

namespace Sys2Proof.Tests

open Sys2Proof Sys2Proof.Machine

/-! ### Helpers -/

/-- The state after a command, or the state itself. -/
def after (c : Instr) (s : State) : State := match exec c s with
  | .next t => t
  | _ => s
/-- A state from a change of the body at reset. -/
def st (f : Body → Body) : State := { State.reset with body := f State.reset.body }
/-- A started module (RUN), as its boot leaves it. -/
def run (f : Body → Body) : State := st fun b => f { b with power := .run }
def clk (n : Nat) (b : Body) : Body := { b with clock := { b.clock with cyc := n } }
def net (ns : Nat) (b : Body) : Body := { b with clock := { b.clock with net := ns * 2 ^ 40 } }
def role (r : Nat) (b : Body) : Body := (b.put SEAM.STAT.ROLE r).put UPD.STAT.ENROL 1
/-- A pattern of these sections. -/
def pat (l : List Sect) (b : Body) : Body := { b with pat := { b.pat with run := some { serial := 7, isPartial := false, base := 0, sects := l } } }
/-- The DRAM fill is over, so an access fills no page. -/
def filled (b : Body) : Body := (b.mark MEMI.STAT.INIT_DONE true).mark MEMI.STAT.DRAM_DONE true
def zeros (n : Nat) : List Nat := List.replicate n 0
/-- STRUCTURE of `n` channels and `m` sensor slots, 5 ms stitches, 1,200 Hz. -/
def secStruct (n m : Nat) : Sect := ⟨sSTRUCTURE, 0, [n % 256, n / 256, m % 256, m / 256, 1, 1] ++ zeros 10⟩
/-- THREADS with these records (thread, source, port, destination, port). -/
def secThreads (l : List (Nat × Nat × Nat × Nat × Nat)) : Sect :=
  ⟨sTHREADS, 0, [l.length, 0] ++ zeros 6 ++ l.flatMap fun r => [r.1, r.2.1, r.2.2.1, r.2.2.2.1, r.2.2.2.2, 0, 0, 0]⟩
/-- STITCH_PLAN that enables the radios of this mask, FRESH_W 2 s. -/
def secPlan (mask : Nat) : Sect := ⟨sSTITCH_PLAN, 0, [16, 16, 16, 16, 16, mask, 8, 0]⟩
/-- REGION with four channels of one sub-band, the anchor on index 3, PHY 2. -/
def secRegion : Sect := ⟨sREGION, 0, [1, 0, 4, 3, 2] ++ zeros 3 ++ [100, 0, 20, 0, 100, 0] ++ zeros 18 ++ zeros 16⟩
/-- HIERARCHY: network 5, this MOD. -/
def secHier (m : Nat) : Sect := ⟨sHIERARCHY, 0, [5, 0, m % 256, m / 256] ++ zeros 28⟩
def secTwin : Sect := ⟨sTWIN, 0, [1] ++ zeros 31⟩

/-! ### Words of rule tiles, written out from the formats of R144 -/

/-- ADD G3, G1, G2: OP 0x04 in [31:26], GD, GA and GB in 6 bits each, the rest 0. -/
theorem test_word_add : decodeTile 0b000100_000011_000001_000010_00000000 = some (.alu .add 3 1 2) := by decide +kernel
/-- MOVI G63, −1: OP 0x02, GD, IMM20. -/
theorem test_word_movi : decodeTile 0b000010_111111_11111111111111111111 = some (.movi 63 0xFFFFF) := by decide +kernel
/-- LD G4, G5, −4: OP 0x22, GD, GA, IMM14. -/
theorem test_word_ld : decodeTile 0b100010_000100_000101_11111111111100 = some (.alui .ld 4 5 0x3FFC) := by decide +kernel
/-- BZ G7, 1023: OP 0x1F, GA, ten reserved bits, TARGET. -/
theorem test_word_bz : decodeTile 0b011111_000111_0000000000_1111111111 = some (.bz 7 1023) := by decide +kernel
/-- A reserved field that is not zero, or a reserved opcode, is no instruction. -/
theorem test_word_refused : decodeTile 0b011111_000111_0000000001_1111111111 = none ∧ decodeTile (0x3F * 2 ^ 26) = none ∧
    decodeTile 1 = none := by decide +kernel
/-- The OP codes of the register forms are pairwise different, and so are those of the immediate forms. -/
theorem test_ops_differ : ([Op3.add, .sub, .mul, .mulh, .mulhu, .and_, .or_, .xor_, .shl, .shr, .sar, .min_, .max_, .minu, .maxu,
    .clamp, .seq, .slt, .sltu, .sel].map Op3.code ++ [OpI.addi, .andi, .ori, .xori, .shli, .shri, .sari, .slti, .ld, .st,
    .sarm].map OpI.code).Nodup := by decide +kernel

/-! ### Witnesses: rule tiles -/

/-- An activation at word 0 with a captured instant. -/
def act0 : Act := { pc := 0, spent := 0, thread := 0, buf := [], cap := some ⟨1, 2, 3⟩ }
/-- Tile `t` runs activation `a` and stands at the word of `i`. -/
def tileSt (t : Nat) (i : TileInstr) (a : Act) (f : Body → Body := id) : State := run fun b =>
  f (setTile ((b.put LOOM.TILE_CTL.CODE_WORDS 1 t).put LOOM.CODE.WORD (encodeTile i) t 0) t { Tile.empty with act := some a })
/-- What the statements ask of the state of an instruction. -/
def standsAt (i : TileInstr) : Bool :=
  decide (powered (tileSt 63 i act0).body = true ∧ (tileOf (tileSt 63 i act0).body 63).act = some act0 ∧
    act0.pc < codeWords (tileSt 63 i act0).body 63 ∧ decodeTile (codeWord (tileSt 63 i act0).body 63 act0.pc) = some i ∧
    act0.spent + 6 ≤ 512)

theorem test_wit_TileArithmeticIsExactThenCut : ([Op3.add, .sub, .mul, .mulh, .mulhu, .min_, .max_, .minu, .maxu, .clamp].all
    fun o => standsAt (.alu o 63 62 0)) = true := by decide +kernel
theorem test_wit_TileLogicShiftsTestsAndImmediates : (([Op3.and_, .or_, .xor_, .shl, .shr, .sar, .seq, .slt, .sltu, .sel].all
    fun o => standsAt (.alu o 0 63 1)) && ([OpI.addi, .andi, .ori, .xori, .shli, .shri, .sari, .slti].all
    fun o => standsAt (.alui o 63 0 16383)) && standsAt (.movi 63 1048575) && standsAt (.movh 63 65535)) = true := by decide +kernel
/-- LD and ST at the last local word, 4 · 1023, and just above it; a displacement of −1 is not aligned. -/
theorem test_wit_TileBranchesAndLocalData : ([TileInstr.nop, .bz 63 1023, .bnz 63 1023, .jmp 1023].all standsAt) = true ∧
    (gReg (tileSt 63 (.alui .ld 63 0 4092) act0).body 63 0 + BitVec.ofInt 32 (sgn 14 4092)).toNat = 4 * 1023 ∧
    standsAt (.alui .ld 63 0 4092) = true ∧ standsAt (.alui .st 63 0 4092) = true ∧
    (gReg (tileSt 63 (.alui .ld 63 0 4096) act0).body 63 0 + BitVec.ofInt 32 (sgn 14 4096)).toNat ≥ 4096 ∧
    standsAt (.alui .ld 63 0 4096) = true ∧
    (gReg (tileSt 63 (.alui .st 63 0 16383) act0).body 63 0 + BitVec.ofInt 32 (sgn 14 16383)).toNat % 4 ≠ 0 ∧
    standsAt (.alui .st 63 0 16383) = true := by decide +kernel
/-- Tile 63 is secure here, and CHAN_CNT is 1: channel 0 is declared, channel 1 is not. -/
def sec1 (b : Body) : Body := (pat [secStruct 1 0] b).put SYS.WORLD_TILE_HI.TILE 0xFFFFFFFF
theorem test_wit_TileChannelAccessAndTime : ([TileInstr.cerd 63 1 true 0, .cerd 63 1 false 0x20, .time 63 0, .time 63 3].all
    standsAt) = true ∧ tileNs (tileSt 63 (.cerd 63 1 false 0x20) act0 fun b => b.put SYS.WORLD_TILE_HI.TILE 0).body 63 = true ∧
    (let b := (tileSt 63 (.cerd 63 1 false 0x22) act0 sec1).body
     tileNs b 63 = false ∧ (gReg b 63 1).toNat < chanCnt b) ∧
    (let b := (tileSt 63 (.cerd 63 1 false 0) act0 fun b => (sec1 b).put LOOM.TILE_G.word 1 63 1).body
     tileNs b 63 = false ∧ chanCnt b ≤ (gReg b 63 1).toNat) ∧ act0.cap = some ⟨1, 2, 3⟩ := by decide +kernel

/-- Tile 63 stands at `i` with this buffer, its record of SARM in local words 1016 to 1023, and THREADS that let the schedule
table drive thread 255. -/
def sarmSt (i : TileInstr) (buf : List TileOp) (flags period : Nat) (f : Body → Body) : Body :=
  (tileSt 63 i { act0 with buf := buf } fun b => f ((((pat [secStruct 1 0, secThreads [(255, 0x45, 0, 0x3F, 0)]] b).put
    SYS.WORLD_TILE_HI.TILE 0xFFFFFFFF).put LOOM.DATA.word (255 + flags * 65536) 63 1020).put LOOM.DATA.word period 63 1021)).body
def sarm : TileInstr := .alui .sarm 63 0 4064
theorem test_wit_TileBufferFillsAndRefuses :
    (let b := (tileSt 63 (.cewr 63 0 false 3) act0 sec1).body
     tileNs b 63 = false ∧ (gReg b 63 0).toNat < chanCnt b ∧ ceOps act0 < 32 ∧ standsAt (.cewr 63 0 false 3) = true) ∧
    (standsAt (.emit 63 62 15 255) = true ∧ emitOps { act0 with buf := List.replicate 15 (.emit 0 0 0) } < 16 ∧
      16 ≤ emitOps { act0 with buf := List.replicate 16 (.emit 0 0 0) }) ∧
    (standsAt (.tset 63 3) = true ∧ timerOps { act0 with buf := List.replicate 3 (.timer 0 0) } < 4 ∧
      4 ≤ timerOps { act0 with buf := List.replicate 4 (.timer 0 0) }) ∧
    (standsAt (.scan 63 0) = true ∧ schedOps { act0 with buf := List.replicate 3 (.arm 0) } < 4 ∧
      4 ≤ schedOps { act0 with buf := List.replicate 4 (.arm 0) }) ∧
    (let b := (tileSt 63 (.scan 63 0) act0 fun b => (setSched b 1023 ⟨.tile 63, 0⟩).put LOOM.TILE_G.word 1023 63 0).body
     (gReg b 63 0).toNat < 1024 ∧ (schedOf b (gReg b 63 0).toNat).owner = .tile 63) ∧
    (schedOf (tileSt 63 (.scan 63 0) act0).body 0).owner ≠ .tile 63 := by decide +kernel
theorem test_wit_TileBufferFillsAndRefuses_sarm :
    (let b := sarmSt sarm [] 2 604800 id
     (tileOf b 63).act = some act0 ∧ act0.pc < codeWords b 63 ∧ decodeTile (codeWord b 63 act0.pc) = some sarm ∧ (gReg b 63 0 + BitVec.ofInt 32 (sgn 14 4064)).toNat = 4 * 1016 ∧ tileNs b 63 = false ∧
     highestFree b 1024 = some 1023 ∧ schedThreadOk b ((dataWord b 63 1020).toNat % 256) = true ∧
     recordOk ((dataWord b 63 1020).toNat / 65536 % 256) (dataWord b 63 1021).toNat = true) ∧
    (let b := sarmSt sarm [] 2 604800 fun b => b.put LOOM.DATA.word 254 63 1020
     schedThreadOk b ((dataWord b 63 1020).toNat % 256) = false) := by decide +kernel
/-- Every entry armed: SARM finds none free. -/
def fullSched (n : Nat) (b : Body) : Body :=
  { b with loom := { b.loom with sched := (List.range n).map fun e => (e, ⟨.host, 5⟩) } }
theorem tabGet_map {α : Type} (d : Nat → α) (v : α) (k : Nat) : ∀ l : List Nat, k ∈ l → tabGet d (l.map fun e => (e, v)) k = v
  | x :: t, h => by
    by_cases hx : x = k
    · simp [tabGet, hx]
    · simp only [List.map_cons, tabGet, hx, if_false]
      exact tabGet_map d v k t ((List.mem_cons.1 h).resolve_left fun e => hx e.symm)
theorem highestFree_none (b : Body) : ∀ n, (∀ e < n, (schedOf b e).owner ≠ .free) → highestFree b n = none
  | 0, _ => rfl
  | n + 1, h => by
    rw [highestFree, if_neg (h n (Nat.lt_succ_self n))]
    exact highestFree_none b n fun e he => h e (Nat.lt_succ_of_lt he)
theorem test_wit_TileBufferFillsAndRefuses_full (n : Nat) (b : Body) : highestFree (fullSched n b) n = none :=
  highestFree_none _ n fun e he => by
    have : schedOf (fullSched n b) e = ⟨.host, 5⟩ := tabGet_map _ _ e _ (List.mem_range.2 he)
    rw [this]; decide

def idleTile (x : Tile) (f : Body → Body := id) : State := run fun b => f (setTile b 63 x)
theorem test_wit_TileHaltsAndFaults : standsAt .halt = true ∧ act0.buf = [] ∧
    (tileOf (tileSt 63 .halt act0).body 63).writes = [] ∧
    decodeTile (codeWord (tileSt 63 .nop { act0 with spent := 512 }).body 63 0) = some .nop ∧
    (let b := (tileSt 63 .nop act0 fun b => b.put LOOM.CODE.WORD 0xFC000000 63 0).body
     act0.pc < codeWords b 63 ∧ decodeTile (codeWord b 63 act0.pc) = none) ∧
    (let b := (tileSt 63 .nop { act0 with pc := 1 } fun b => b.put LOOM.TILE_STAT.CONSEC 15 63).body
     codeWords b 63 ≤ 1 ∧ 15 ≤ b.get LOOM.TILE_STAT.CONSEC 63) ∧
    (tileSt 63 .nop act0).body.get LOOM.TILE_STAT.CONSEC 63 < 15 := by decide +kernel

def ev (k : Nat) : Ev := ⟨2 ^ 64 - 1, 255, k, true, 0x45, 0⟩
def acts (b : Body) : Body := ((role 2 b).mark LOOM.CTL.RUN true).mark LOOM.TILE_CTL.ENABLE true 63
theorem test_wit_ActivationLoadsItsEvent :
    (let b := (idleTile { Tile.empty with fifo := [.event (ev 255) 15, .timer 3] } acts).body
     powered b = true ∧ loomRuns b = true ∧ b.flag LOOM.TILE_CTL.ENABLE 63 = true ∧ (tileOf b 63).act = none ∧
     (tileOf b 63).fifo = .event (ev 255) 15 :: [.timer 3]) ∧
    (let b := (idleTile { Tile.empty with fifo := [.timer 3] } acts).body
     loomRuns b = true ∧ (tileOf b 63).act = none ∧ (tileOf b 63).fifo = .timer 3 :: []) ∧
    ((idleTile Tile.empty).body.flag LOOM.TILE_CTL.ENABLE 63 = false) := by decide +kernel
/-- The event enters the FIFO's place: G2 holds tag, port 15, LATE and the thread. -/
theorem test_activation_g2 : gReg (after (.tileActivation 63) (idleTile { Tile.empty with fifo := [.event (ev 7) 15] } acts)).body
    63 2 = 0x00078FFF := by decide +kernel

def evs (n : Nat) (on : Bool) : Body :=
  let b := (idleTile { Tile.empty with fifo := List.replicate n (.timer 0), timers := [(3, 5)] }
    fun b => acts (pat [secThreads [(255, 0x45, 0, 63, 15)]] b)).body
  { b.mark LOOM.TILE_CTL.ENABLE on 63 with loom := { b.loom with xbar := [ev 255, ev 0] } }
theorem test_wit_EventsReachTheirDestinations :
    ((evs 15 true).loom.xbar = ev 255 :: [ev 0] ∧ (evs 15 true).flag LOOM.STAT.HELD = false ∧
      threadDests (evs 15 true) (ev 255).thread = [(63, 15)] ∧ 64 ≤ (ev 255).src ∧ inHem (evs 15 true) = false ∧
      acting (evs 15 true) = true ∧ (evs 15 true).flag LOOM.TILE_CTL.ENABLE 63 = true ∧ (tileOf (evs 15 true) 63).fifo.length < 16 ∧
      tabGet (fun _ => 0) (tileOf (evs 15 true) 63).timers 3 ≠ 0) ∧
    (16 ≤ (tileOf (evs 16 true) 63).fifo.length ∧ (evs 16 true).flag LOOM.TILE_CTL.ENABLE 63 = true) ∧
    (evs 0 false).flag LOOM.TILE_CTL.ENABLE 63 = false ∧ ((evs 0 true).mark LOOM.STAT.HELD true).flag LOOM.STAT.HELD = true := by decide +kernel

/-- Network time 100 s with NTV; entry 1023 armed for second 50, with these flags, PERIOD_S and EXPIRY. -/
def due (flags period exp : Nat) : Body :=
  (run fun b => ((((setSched (role 2 (net (100 * 10 ^ 9) b)) 1023 ⟨.host, 50 * 65536⟩).mark TB.STAT.NTV true).put
    LOOM.SCHED_W.WORD (flags * 65536) 1023 4).put LOOM.SCHED_W.WORD period 1023 5).put LOOM.SCHED_W.WORD exp 1023 2).body
theorem test_wit_ScheduleEntriesFireOnce :
    (firstDue (due 2 7 0) = some 1023 ∧ inHem (due 2 7 0) = false ∧ acting (due 2 7 0) = true ∧ schedExpiry (due 2 7 0) 1023 = 0 ∧
      schedFlags (due 2 7 0) 1023 / 2 % 2 = 1 ∧ 0 < schedPeriod (due 2 7 0) 1023) ∧
    (firstDue (due 0 0 (100 * 65536)) = some 1023 ∧ schedExpiry (due 0 0 (100 * 65536)) 1023 ≠ 0 ∧
      schedExpiry (due 0 0 (100 * 65536)) 1023 ≤ airTime (due 0 0 (100 * 65536))) ∧
    (schedFlags (due 0 0 0) 1023 / 2 % 2 = 0 ∧ firstDue (due 0 0 0) = some 1023) ∧
    (firstDue ((due 0 0 0).mark SAFE.STAT.HEM true) = some 1023 ∧ inHem ((due 0 0 0).mark SAFE.STAT.HEM true) = true) := by decide +kernel
/-- Due at 50 s with a period of 7 s, it fires at 100 s and comes again at 106 s. -/
theorem test_repeat_next : (schedOf (after .scheduleFire ⟨due 2 7 0, []⟩).body 1023).next = 106 * 65536 := by decide +kernel

theorem test_wit_HostArmsAndTileControl :
    (let b := sarmSt .nop [] 0 0 fun b => ((setSched b 5 ⟨.tile 3, 9⟩).put LOOM.SCHED_W.WORD 255 1023 4).mark LOOM.TILE_CTL.ENABLE true 63
     (schedOf b 1023).owner = .free ∧ recordOk (schedFlags b 1023) (schedPeriod b 1023) = true ∧
     schedThreadOk b (schedThread b 1023) = true ∧ (schedOf b 5).owner ≠ .free ∧ (schedOf b 5).owner.armed = true ∧
     (schedOf b 0).owner.armed = false ∧ b.flag LOOM.TILE_CTL.ENABLE 63 = true ∧ b.flag LOOM.TILE_CTL.ENABLE 0 = false) ∧
    recordOk 4 0 = false := by decide +kernel

/-! ### Witnesses and checks: clocks, power, errors, slices, debug, memory -/

theorem test_wit_ClockFaultsAreLatchedAndFatalOnesEnterHem :
    (let b := (st fun b => b.mark SYS.CLK_STAT.ETH_LOCK true).body
     powered b = true ∧ b.flag SYS.CLK_STAT.ETH_LOCK = true) := by decide +kernel
theorem test_wit_ClocksCoresAndTheGatedDomainWake :
    (let b := (run id).body
     powered b = true ∧ b.flag SYS.CLK_STAT.ETH_LOCK = false ∧ b.sw.noLink = [] ∧ coreCause b = false) ∧
    (let b := (run fun b => { b.mark AON.STAT.PWAKE true with aon := { b.aon with irq := [4] } }).body
     coreCause b = true) ∧ coreCause (run fun b => { b with sw := { b.sw with irq := true } }).body = true ∧
    (gateIdle (run fun b => b.mark SYS.GATE_CTL.GATE_EN true).body = true ∧
      gateIdle (run fun b => { b.mark SYS.GATE_CTL.GATE_EN true with loom := { b.loom with xbar := [ev 0] } }).body = false) ∧
    (let b := (run fun b => (pat [secRegion, secPlan 15] b).mark AIR.CTL.RUN true).body
     b.flag AIR.CTL.RUN = true ∧ radioEn b 0 = true ∧ radioEn b 3 = true ∧ radioEn b 4 = false ∧ airMarks b 0 = false) := by decide +kernel
theorem test_wit_MainPowerFallsAndRises : mainPower (run id).body = true ∧ powered (run id).body = true ∧
    mainPower (st fun b => { b with power := .cell }).body = false ∧
    (st fun b => { b with power := .cellOver }).body.power = .cellOver ∧ (run id).body.power ≠ .cellOver := by decide +kernel
theorem test_wit_StartUpSelfTestHoldsTheModule :
    (let b := (st fun b => b.mark MEMI.STAT.INIT_DONE true).body
     powered b = true ∧ beforeBoot b = true) ∧ 1 % 256 ≠ 0 ∧ 255 % 256 ≠ 0 ∧
    (st fun b => { b with power := .held }).body.power = .held ∧ State.reset.body.upd.tested = false := by decide +kernel
/-- An error in PRIMARY of severity 1 or 2, and one in SECONDARY. -/
def slots (p s : Nat) : Body :=
  (run fun b => clk (10 ^ 12) ((((b.put SAFE.ERR.VALID (min p 1) 0).put SAFE.ERR.SEV p 0).put SAFE.ERR.VALID (min s 1) 1).put
    SAFE.ERR.SEV s 1)).body
theorem test_wit_ErrorManagerKeepsTwoSlots : powered (slots 0 0) = true ∧ (slots 0 0).flag SAFE.ERR.VALID 0 = false ∧
    ((slots 2 0).flag SAFE.ERR.VALID 0 = true ∧ (slots 2 0).flag SAFE.ERR.VALID 1 = false ∧ 2 ≤ (slots 2 0).get SAFE.ERR.SEV 0) ∧
    ((slots 1 0).flag SAFE.ERR.VALID 0 = true ∧ (slots 1 0).get SAFE.ERR.SEV 0 < 2) ∧
    ((slots 1 1).flag SAFE.ERR.VALID 0 = true ∧ (slots 1 1).flag SAFE.ERR.VALID 1 = true ∧
      26000 * (slots 1 1).get SAFE.ERR_CFG.ACK_MS ≤ (slots 1 1).clock.cyc - (slots 1 1).safe.primaryAt) ∧
    (clk 0 (slots 1 1)).clock.cyc - (slots 1 1).safe.primaryAt < 26000 * (slots 1 1).get SAFE.ERR_CFG.ACK_MS := by decide +kernel
theorem test_wit_SlicesPassFailAndAbort :
    (let b := (run fun b => b.mark SAFE.CTL.RUN true).body
     powered b = true ∧ b.flag SAFE.CTL.RUN = true ∧ slicesSuspended b = false ∧
     ∀ k ∈ [0, 1, 2, 3, 13, 16, 79], sliceIdx k = true ∧ b.flag SAFE.SLICE.RUNNING k = false ∧ sliceIdle b k = true ∧
       b.flag SAFE.SLICE.FAILED_ONCE k = false) ∧
    (slicesSuspended (run fun b => { b with seam := { b.seam with slicesHeld := true } }).body = true) ∧
    (let b := (run fun b => (b.mark SAFE.SLICE.RUNNING true 79).mark SAFE.SLICE.FAILED_ONCE true 79).body
     b.flag SAFE.SLICE.RUNNING 79 = true ∧ b.flag SAFE.SLICE.FAILED_ONCE 79 = true) ∧ (0 ≤ 3) := by decide +kernel
def bbr : BbRec := ⟨1, 0x0080, 0, 0, 5, 6, 7, 1, 1⟩
theorem test_wit_BlackBoxAndHeldBits :
    (let b := (run fun b => { b with safe := { b.safe with bbQ := [bbr, bbr] }, sha := { b.sha with conflict := 1 } }).body
     powered b = true ∧ b.safe.bbQ = bbr :: [bbr] ∧ b.safe.bbLostDue = 0 ∧ b.nv.bb.length < 8192 ∧ b.sha.conflict = 1) ∧
    (2 ^ 32 - 1 < 2 ^ 32 ∧ (2 ^ 32 - 1) % 2 = 1) := by decide +kernel
theorem test_wit_DebugUnlockAndTamperZeroise :
    (let b := (run id).body
     powered b = true ∧ b.flag AON.TAMPER.LATCH = false ∧ b.flag SAFE.STAT.LOCKOUT = false ∧ b.safe.chalLive = false) ∧
    (run fun b => b.put SAFE.DBG_STAT.FAILS 2).body.get SAFE.DBG_STAT.FAILS = 2 ∧
    (run fun b => b.mark SAFE.STAT.LOCKOUT true).body.flag SAFE.STAT.LOCKOUT = true := by decide +kernel
theorem test_wit_MemoryFaultsAreCountedAndRepaired :
    (let b := (run fun b => { ((b.mark MEMI.SCRUB.EN true 4).put MEMI.INJ_ADDR.ADDR 0x10000000) with memi := { b.memi with wb := [(4, 8)] } }).body
     powered b = true ∧ b.memi.faults = [] ∧ b.flag MEMI.SCRUB.EN 4 = true ∧ b.memi.wb = (4, 8) :: [] ∧
     0x10000000 ≤ b.get MEMI.INJ_ADDR.ADDR) ∧
    (8 * (run fun b => b.put MEMI.INJ_ADDR.ADDR 0x403FFFF).body.get MEMI.INJ_ADDR.ADDR < 0x20200000) ∧
    ((2 ^ 16 + 255) / 2 ^ 16 % 2 = 1) := by decide +kernel
theorem test_wit_InitEngineFillsBeforeBoot : State.reset.body.power = .start ∧ State.reset.body.aon.held = false ∧
    State.reset.body.get AON.RET_TAG.TAG ≠ 0x4B414F4E ∧
    (st fun b => b.put AON.RET_TAG.TAG 0x4B414F4E).body.get AON.RET_TAG.TAG = 0x4B414F4E := by decide +kernel
theorem test_wit_RegisterWindowTransfersFollowAccessCodes : powered (run id).body = true ∧
    inWindow 0x40000021 = true ∧ inWindow 0x40FFFFFC = true ∧ inWindow 0x41000000 = false ∧
    (∃ r, rowAt 0x40000028 = some r ∧ reach (run id).body 0x40000028 r false ≠ 0) := by
  refine ⟨by decide +kernel, by decide +kernel, by decide +kernel, by decide +kernel, _, rfl, by decide +kernel⟩
theorem test_wit_NonSecureAccessToSecureTarget :
    (inWindow 0x40D00034 = true ∧ ∃ r, rowAt 0x40D00034 = some r ∧ reach (run id).body 0x40D00034 r true = 0) ∧
    (inWindow 0x1FFFFFFC = false ∧ (regionSpan 0x10000000 4).isSome = true ∧ memNs (run id).body 0x10000000 = false) := by
  refine ⟨⟨by decide +kernel, _, rfl, by decide +kernel⟩, by decide +kernel⟩
theorem test_wit_MemoryReadsWhatWasWritten :
    (∃ r, regionSpan 0xFFFFFFF8 8 = some r ∧ r.writable = true) ∧ (∃ r, regionSpan 0 1 = some r ∧ r.writable = false) ∧
    regionSpan 0x7FFFFFFF 2 = none ∧ inWindow 0xFFFFFFF8 = false ∧ inWindow 0 = false ∧ 64 ∈ [8, 16, 32, 64] := by
  refine ⟨⟨_, rfl, by decide +kernel⟩, ⟨_, rfl, by decide +kernel⟩, by decide +kernel⟩
theorem test_wit_MemoryKeepsItsCanonicalForm : Memory.wf (run id).body.mem ∧ inWindow 0x80000000 = false ∧
    Memory.wf (after (.registerWrite ⟨0x80000000, 32, 0x01000002, false, 0, 0, .other⟩) (run filled)).body.mem := by decide +kernel
/-- A 32-bit write stores its bytes lowest first, and a zero byte is not listed. -/
theorem test_write_bytes : (after (.registerWrite ⟨0x80000000, 32, 0x01000002, false, 0, 0, .other⟩) (run filled)).body.mem =
    [(0x80000000, 2), (0x80000003, 1)] := by decide +kernel
theorem test_wit_WorldMapLocksUntilReset :
    (let b := (run fun b => b.mark SYS.WORLD_LOCK.LOCK true).body
     powered b = true ∧ b.flag SYS.WORLD_LOCK.LOCK = true ∧ b.safe.bbQ = []) ∧ 0x400002FC % 4 = 0 ∧
    0x40000100 ≤ 0x400002FC ∧ 0x400002FC < 0x40000300 := by decide +kernel
theorem test_wit_ModeWritesAndOwedValues : powered (run id).body = true ∧ fnNs (run id).body 2 = false ∧
    0x80 / 2 ^ 7 % 2 = 1 ∧ (run fun b => b.put SYS.MODE.EXPERT 0x80).body.bit SYS.MODE.EXPERT 7 = true ∧ 0 / 2 ^ 7 % 2 = 0 := by
  decide +kernel
def stg (armed : Option Nat) (restart : Bool) : Staged := ⟨[1], ⟨9, false, 0, []⟩, restart, armed⟩
/-- Something is staged, an assembly was fed at cycle 0, and TCXO has run for `c` cycles; the bolt index is 3. -/
def staged (x : Staged) (c : Nat) (f : Body → Body := id) : Body :=
  (run fun b => f { clk c (net (3 * 1280000000) b) with pat := { b.pat with staged := some x, assembly := some ⟨1, 9, 4, [], 0⟩ } }).body
theorem test_wit_PatternIsStagedAndSwitched :
    (staged (stg none false) 0).pat.staged = some (stg none false) ∧ powered (staged (stg none true) 0) = true ∧
    (boltIdx (staged (stg (some 4) false) 0) < 4 ∧ switchUnderWay (staged (stg (some 4) false) 0) = false) ∧
    (3 ≤ boltIdx (staged (stg (some 3) false) 0) ∧ switchBlocked (staged (stg (some 3) false) 0) = false ∧
      anyActive (staged (stg (some 3) false) 0) = false ∧ (stg (some 3) false).pat.serial < 2 ^ 32) ∧
    switchBlocked (staged (stg (some 3) false) 0 fun b => b.mark SAFE.STAT.HEM true) = true ∧
    anyActive (staged (stg (some 3) false) 0 fun b => setTile b 63 { Tile.empty with act := some act0 }) = true ∧
    (60 ≤ sinceS (staged (stg none false) (60 * 26000000)) 0 ∧ sinceS (staged (stg none false) (60 * 26000000 - 1)) 0 < 60) := by
  decide +kernel

/-! ### Witnesses and checks: queues, always-on domain, time, channels, occupancy -/

/-- Queue `q` holds these items in its sending bank, filling bank and open cells, in organisation `org`. -/
def qSt (q org : Nat) (items fill : List Item) (opened : List Nat) (f : Body → Body := id) : Body :=
  (run fun b => f ((((setQueue b q { Queue.empty with items := items, fill := fill, opened := opened }).put QM.Q_CFG.ORG org q).put
    QM.Q_LIM.QUOTA 64 q).put QM.Q_LIM.RESERVE 4 q)).body
def itm (c : Nat) : Item := ⟨[c], 100⟩
theorem test_wit_QueuesAdmitRefuseAndReset :
    (let b := qSt 31 0 [itm 5] [] []
     powered b = true ∧ b.get QM.Q_CFG.ORG 31 = 0 ∧ reported 31 = false ∧ cellsFor 4096 ≤ 32 ∧ qAdmits b 31 32 = true ∧
     (queueOf b 31).items = itm 5 :: [] ∧ b.flag QM.PTR_ERR.AUDIT = false) ∧
    32 < cellsFor 4097 ∧ qAdmits (qSt 31 0 [] [] [] fun b => b.put QM.Q_LIM.QUOTA 0 31) 31 1 = false ∧
    (let b := qSt 0 0 [] [] [] fun b => b.mark QM.PTR_ERR.AUDIT true
     b.flag QM.PTR_ERR.AUDIT = true ∧ b.qm.waiting = []) ∧ (∀ x ∈ [0, 255], x < 256) := by decide +kernel
theorem test_wit_RuntimeMovesItemsThroughRegisters :
    (let b := qSt 31 0 [itm 5] [] [7]
     (queueOf b 31).opened.length < 32 ∧ qAdmits b 31 1 = true ∧ (queueOf b 31).items = itm 5 :: [] ∧
     qAbandoned b 31 = false ∧ b.get QM.Q_CFG.ORG 31 = 0 ∧ (queueOf b 31).opened ≠ []) ∧
    32 ≤ (queueOf (qSt 0 0 [] [] (List.range 32)) 0).opened.length ∧ (queueOf (qSt 0 0 [] [] []) 0).items = [] ∧
    qAbandoned (qSt 0 0 [] [] [] fun b => b.mark QM.Q_FLAG.FLUSHED true 0) 0 = true := by decide +kernel
/-- A popped item stays owned: its cell still counts. -/
theorem test_pop_keeps_cells : qUsed (after (.qPop 31 false) ⟨qSt 31 0 [itm 5, itm 6] [] [], []⟩).body 31 = 2 ∧
    (after (.qPop 31 false) ⟨qSt 31 0 [itm 5, itm 6] [] [], []⟩).body.bus = some 0x80000005 := by decide +kernel
theorem test_wit_QueuesFlushSwapAndTimeOut :
    (let b := qSt 4 1 [] [itm 5] []
     b.get QM.Q_CFG.ORG 4 = 1 ∧ (queueOf b 4).items = [] ∧ (queueOf b 4).fill ≠ [] ∧ (queueOf b 4).timer = none ∧ 0 < qUsed b 4) ∧
    (queueOf (qSt 4 1 [itm 5] [] []) 4).items ≠ [] ∧
    (let b := (qSt 31 0 [] [] [] fun b => (setQueue b 31 { Queue.empty with timer := some 3 }).put QM.Q_CFG.TIMEOUT 9 31)
     b.get QM.Q_CFG.TIMEOUT 31 ≠ 0 ∧ (queueOf b 31).timer ≠ none ∧ reported 31 = false) ∧
    (qSt 31 0 [] [] []).get QM.Q_CFG.TIMEOUT 31 = 0 ∧
    (let b := qSt 31 0 [] [] []
     (((List.range 32).filter (· ≠ 31)).map fun p => b.get QM.Q_LIM.RESERVE p).sum + 1 ≤ 16384 ∧
     16384 < (((List.range 32).filter (· ≠ 31)).map fun p => b.get QM.Q_LIM.RESERVE p).sum + 16384) := by decide +kernel

/-- LFXO runs with TICK at 9; alarms 0 and 1 are armed at 5 and at 100; `p` waits. -/
def aonSt (p : Option Int) (tick : Nat) : Body :=
  (run fun b => { (((((b.mark AON.STAT.LFXO_RUN true).mark AON.ALM_CTL.ARM true 0).put AON.ALM_LO.VALUE 5 0).mark AON.ALM_CTL.ARM true 1).put
    AON.ALM_LO.VALUE 100 1) with aon := { b.aon with tick := tick, pend := p } }).body
theorem test_wit_AlwaysOnCounterAndAlarms :
    (let b := aonSt (some (-3)) 9
     b.flag AON.STAT.LFXO_RUN = true ∧ b.aon.held = false ∧ b.aon.pend ≠ none ∧ b.flag AON.ALM_CTL.ARM 0 = true ∧
     almVal b 0 < 7 ∧ b.flag AON.ALM_CTL.ARM 1 = true ∧ 7 < almVal b 1) ∧
    (aonSt none 9).aon.pend = none ∧
    mainPower { aonSt none 9 with power := .cell } = false ∧
    (let b := (aonSt none (2 ^ 48 - 2)).put AON.ADJ_LO.DELTA 1
     ¬ ((b.aon.tick : Int) + 1 + sgn 48 (b.get AON.ADJ_LO.DELTA + b.get AON.ADJ_HI.DELTA * 2 ^ 32) < (2 ^ 48 : Nat))) ∧
    (let b := aonSt none 0
     b.aon.pend = none ∧ 0 ≤ (b.aon.tick : Int) + 1 + sgn 48 (b.get AON.ADJ_LO.DELTA + b.get AON.ADJ_HI.DELTA * 2 ^ 32)) ∧
    (run fun b => b.put AON.PWAKE.PER_S 1).body.get AON.PWAKE.PER_S ≠ 0 ∧ (run fun b => b.put AON.PWAKE.PER_S 0).body.get AON.PWAKE.PER_S = 0 := by
  decide +kernel
/-- TICK 9 with a delta of −3 stands at 7 after the edge: the alarm at 5 fires late, the one at 100 waits. -/
theorem test_edge_delta : (after .tickDelta ⟨aonSt (some (-3)) 9, []⟩).body.aon.tick = 7 ∧
    (after .tickDelta ⟨aonSt (some (-3)) 9, []⟩).body.flag AON.ALM_CTL.LATE 0 = true ∧
    (after .tickDelta ⟨aonSt (some (-3)) 9, []⟩).body.flag AON.ALM_CTL.FIRED 1 = false := by decide +kernel
theorem test_wit_CalendarRetentionAndDomainReset :
    (let b := (run fun b => (net (10 ^ 9) b).put TB.STAT.STATE 3).body
     b.get TB.STAT.STATE = 3 ∧ b.aon.pend = none ∧ netTicks b < 2 ^ 47 ∧ b.aon.tick < 2 ^ 47 ∧
     32768 < 10 * ((netTicks b : Int) - b.aon.tick).natAbs) ∧
    (let b := (run fun b => b.put TB.STAT.STATE 3).body
     10 * ((netTicks b : Int) - b.aon.tick).natAbs ≤ 32768) ∧ (run id).body.get TB.STAT.STATE ≠ 3 ∧
    ((run fun b => b.put AON.UTC_OFS.LEAP 1).body.get AON.UTC_OFS.LEAP = 1 ∧ (run fun b => b.put AON.UTC_OFS.LEAP 2).body.get
      AON.UTC_OFS.LEAP = 2 ∧ (run id).body.get AON.UTC_OFS.LEAP = 0) ∧
    ((run id).body.aon.held = false ∧ (run id).body.aon.tested = false ∧
      (run fun b => { b with aon := { b.aon with tested := true } }).body.aon.tested = true) := by decide +kernel
def tts (id at_ : Nat) : TxTs := ⟨id, 9, at_⟩
def txq (l : List TxTs) (c : Nat) : Body := (run fun b => setTxq ((clk c b).put TB.CTL.word 0xFFFFFFFF) 2 l).body
theorem test_wit_StaleTransmitTimestampsAreDiscarded :
    (let b := txq [tts 1 0, tts 2 5] 55834575
     (txqOf b 2).any (fun e => decide (2 ^ 31 * 26 ≤ (b.clock.cyc - e.at_) * 1000)) = true) ∧
    (let b := txq [tts 1 0] 55834574
     (txqOf b 2).any (fun e => decide (2 ^ 31 * 26 ≤ (b.clock.cyc - e.at_) * 1000)) = false) := by decide +kernel
/-- The first entry has stood 2^31 ns, the second has not. -/
theorem test_stale : txqOf (after (.txqEntryStale 2) ⟨txq [tts 1 0, tts 2 5] 55834575, []⟩).body 2 = [tts 2 5] := by decide +kernel
theorem test_wit_NetworkTimeStepsAndCaptures :
    (let b := (run fun b => ((net (10 ^ 9) b).put TB.STEP_SEC.SEC (2 ^ 32 - 1)).put TB.STEP_NS.NS (10 ^ 9 - 1)).body
     (sgn 32 (b.get TB.STEP_NS.NS)).natAbs < 10 ^ 9 ∧ b.flag AIR.CTL.RUN = false ∧
     0 ≤ (b.clock.net : Int) + (sgn 32 (b.get TB.STEP_SEC.SEC) * 10 ^ 9 + sgn 32 (b.get TB.STEP_NS.NS)) * 2 ^ 40 ∧
     (b.clock.net : Int) + (sgn 32 (b.get TB.STEP_SEC.SEC) * 10 ^ 9 + sgn 32 (b.get TB.STEP_NS.NS)) * 2 ^ 40 < (2 ^ 88 * 10 ^ 9 : Nat)) ∧
    (let b := txq ((List.range 7).map fun k => tts k 0) 0
     b.flag TB.CTL.RUN = true ∧ b.bit TB.CTL.PORT_EN 2 = true ∧ (txqOf b 2).length < 8 ∧
     txqOf b 2 = tts 0 0 :: [tts 1 0, tts 2 0, tts 3 0, tts 4 0, tts 5 0, tts 6 0]) ∧
    8 ≤ (txqOf (txq ((List.range 8).map fun k => tts k 0) 0) 2).length ∧ txqOf (txq [] 0) 2 = [] ∧
    (let b := (run fun b => ((((b.mark AON.STAT.LFXO_RUN true).mark TB.STAT.NTV true).mark TB.CORR_CTL.AUTO true).put TB.STAT.STATE 3).mark
        TB.CORR_CTL.VALID true).body
     b.flag AON.STAT.LFXO_RUN = true ∧ b.aon.held = false ∧ ntv b = true ∧ b.flag TB.CORR_CTL.AUTO = true ∧ b.get TB.STAT.STATE = 3 ∧
     b.tb.stepSec ≠ some (tSec b) ∧ b.flag TB.CORR_CTL.VALID = true) ∧ ntv (run id).body = false := by decide +kernel
/-- The id of a transmit timestamp: messageType 2 above the low 12 bits of sequenceId (R259). -/
theorem test_timestamp_id : ((txqOf (after (.txTimestamp 2 2 0x12345) ⟨txq [] 0, []⟩).body 2).map TxTs.id) = [0x2345] := by decide +kernel

def ann : AnnounceMsg := ⟨128, 6, 0x21, 0x4E5D, 128, 77, 0, 77, 1, 37, true, false, false, true⟩
/-- TB runs on every port; port 0 follows `ann`; a Delay_Req with sequenceId 9 waits; state `n`. -/
def ptp (n : Nat) : Body :=
  (run fun b => { (((((clk (10 ^ 13) (net (10 ^ 12) (b.mark SYS.CLK_STAT.CCLK_LOCK true))).put TB.CTL.PORT_EN 7).mark TB.CTL.RUN true).mark TB.CTL.BC true).put TB.STAT.SLAVE_PORT 0).put TB.STAT.STATE n with
    tb := { b.tb with parent := some ann, mpd := some 300, dreq := some ⟨9, some 50, some (1, 2, 0)⟩ },
    sha := { b.sha with holdAt := some 0 } }).body
def ptp0 : Body := { ptp 0 with tb := { (ptp 0).tb with parent := none, window := true } }
/-- A valid record of retention SRAM: RAW 0 at 5 s, rate 0. -/
def seeded : Body := { (ptp0.put AON.RET_TAG.TAG 0x4B414F4E).mark AON.STAT.OSF false with
  aon := { ptp0.aon with corr := some (0, 5 * 10 ^ 9, 0) } }
theorem test_wit_PtpFollowsTheMasterOfTheNetwork :
    (ptpOn ptp0 1 (ptp0.get TB.CTL.DOMAIN) true = true ∧ ann.steps < 255 ∧ ann.srcId ≠ clockId ptp0 ∧ ptp0.tb.window = true ∧
      ptp0.tb.parent = none ∧ ptp0.tb.foreign = [] ∧ seamTime ptp0 = false) ∧
    (portMaster (ptp 3) 1 = true ∧ (ptp 3).tb.parent = some ann ∧ ptpOn (ptp 3) 1 ((ptp 3).get TB.CTL.DOMAIN) true = true) ∧
    ((ptp 3).get TB.STAT.SLAVE_PORT = 0 ∧ (ptp 3).flag TB.CTL.RUN = true ∧ (ptp 3).bit TB.CTL.PORT_EN 0 = true ∧
      (ptp 3).flag TB.CTL.BC = true ∧ (ptp 3).flag SYS.CLK_STAT.CCLK_LOCK = true ∧
      ((ptp 3).mark SW.PORT_STAT.BLOCKED true 0).flag SW.PORT_STAT.BLOCKED 0 = true ∧ (ptp 3).tb.seqSync = 0) ∧
    (fromParent (ptp 3) 0 77 1 = true ∧ (ptp 3).tb.dreq = some ⟨9, some 50, some (1, 2, 0)⟩ ∧ (ptp 3).tb.mpd = some 300) ∧
    ((ptp 1).get TB.STAT.STATE ≤ 1 ∧ 2 ≤ (ptp 2).get TB.STAT.STATE ∧ (ptp 3).get TB.STAT.STATE = 3 ∧
      (ptp 3).get TB.STEP_LIM.SLEW_PPM ≤ 1000) ∧
    (let o : Int := extendTs (ptp 3) (10 ^ 12 % 2 ^ 32) - (10 ^ 12 - 400) - 0 - 300 - Int.tdiv (sgn 32 ((ptp 3).get TB.ASYM.PS 0)) 1000
     o.natAbs ≤ (ptp 3).get TB.STEP_LIM.STEP_US * 1000) ∧
    ((ptp 4).get TB.STAT.STATE = 4 ∧ (ptp 4).sha.holdAt = some 0 ∧
      0 + 26000 * 60000 * (ptp 4).get TB.LIMITS.HOLD_MIN ≤ (ptp 4).clock.cyc ∧
      (clk 0 (ptp 4)).clock.cyc < 0 + 26000 * 60000 * (clk 0 (ptp 4)).get TB.LIMITS.HOLD_MIN) ∧
    (ptp0.get TB.STAT.STATE = 0 ∧ rtcSeed ptp0 = none) ∧
    (rtcSeed seeded = some (5 * 10 ^ 9) ∧ seeded.tb.window = true ∧ seeded.get TB.STAT.STATE = 0 ∧ seeded.flag AIR.CTL.RUN = false) := by
  decide +kernel

/-- CE runs with two channels; channel 1 has RULE_LVL 0x8000 and LA_LVL 0x4000, and a composition of it waits. -/
def ceSt (f : Body → Body := id) : Body :=
  (run fun b => ask [1] .rule none (f ((((role 2 (pat [secStruct 2 0] b)).mark CE.CTL.RUN true).put CE.LVL_TGT.RULE_LVL 0x8000 1).put CE.OUT.LA_LVL 0x4000 1))).body
theorem test_wit_LevelsComposeInTheOrderOfR166 : powered (ceSt) = true ∧ runsRules ceSt = true ∧ ceSt.flag CE.CTL.RUN = true ∧
    ceSt.ce.jobs = ⟨[1], .rule, none, [took ceSt 1 [.rule]]⟩ :: [] ∧
    1 < chanCnt ceSt ∧ ceSt.get CE.DERATE.FACTOR 1 ≤ 65536 ∧ ceSt.get CE.DL.DL_FACTOR 1 ≤ 65536 ∧ ceSt.get CE.BUDGET.FACTOR 1 ≤ 65536 ∧
    luxSet ceSt 1 = 0 := by decide +kernel
/-- With factors of 65,536 the level passes unchanged and SRC is 4; a light-ahead level above it gives 5. -/
theorem test_compose : (after .composition ⟨ceSt, []⟩).body.get CE.OUT.LVL_OUT 1 = 0x8000 ∧
    (after .composition ⟨ceSt, []⟩).body.get CE.CH_STAT.SRC 1 = 4 ∧
    (after .composition ⟨ceSt fun b => b.put CE.OUT.LA_LVL 0x9000 1, []⟩).body.get CE.CH_STAT.SRC 1 = 5 := by decide +kernel
def ceIn (port payload tag : Nat) : Body := ceSt fun b => { b with ce := { b.ce with inbox := [(port, ⟨payload, tag, 7, false, 3, 0⟩)] } }
theorem test_wit_ChannelEventsSetLevels :
    (takePort 0 (ceIn 0 (1 * 2 ^ 16 + 0xFFFF) 0).ce.inbox = some (⟨1 * 2 ^ 16 + 0xFFFF, 0, 7, false, 3, 0⟩, []) ∧
      (1 * 2 ^ 16 + 0xFFFF) / 2 ^ 28 % 16 = 0 ∧ (1 * 2 ^ 16 + 0xFFFF) / 2 ^ 16 % 2 ^ 12 = 1 ∧ 1 < chanCnt (ceIn 0 0 0) ∧
      chanCnt (ceIn 0 0 0) ≤ 2) := by decide +kernel
theorem test_wit_ChannelEventsSetLevels_targets :
    (let p := 2 ^ 16 + 5
     takePort 1 (ceIn 1 p 0).ce.inbox = some (⟨p, 0, 7, false, 3, 0⟩, []) ∧ p / 2 ^ 31 % 2 = 0 ∧ p / 2 ^ 52 % 2 ^ 12 = 0 ∧
     targets (ceIn 1 p 0) (p / 2 ^ 16 % 2 ^ 12) (p / 2 ^ 28 % 4) = some [1] ∧
     targets (ceIn 1 p 0) 0 2 = some [0, 1]) ∧ (3 * 2 ^ 28 / 2 ^ 28 % 4 = 3) := by decide +kernel
theorem test_wit_ChannelEventsSetLevels_override :
    (takePort 2 (ceIn 2 5 0).ce.inbox = some (⟨5, 0, 7, false, 3, 0⟩, []) ∧ 2 ^ 31 / 2 ^ 31 % 2 = 1) ∧
    (hostPayload (ceSt fun b => b.put CE.HOST_LO.PAYLOAD (2 ^ 16)) = 2 ^ 16) := by decide +kernel
theorem test_wit_ChannelEventsSetLevels_report :
    (let p := 2 + 200000 * 2 ^ 20
     takePort 3 (ceIn 3 p 0).ce.inbox = some (⟨p, 0, 7, false, 3, 0⟩, []) ∧ p % 2 ^ 12 = 1 + 1 ∧ p / 2 ^ 19 % 2 = 0 ∧ p / 2 ^ 61 % 8 = 0 ∧
     p / 2 ^ 20 % 2 ^ 18 ≤ 200000 ∧ (ceSt fun b => b.put CE.NODE_CAP.SENSE 2 1).get CE.NODE_CAP.SENSE 1 / 2 % 2 = 1) ∧
    200000 < (200001 * 2 ^ 20) / 2 ^ 20 % 2 ^ 18 ∧ (2 : Nat) / 2 ^ 22 % 2 ^ 10 = 0 := by decide +kernel
theorem test_wit_ChannelTimersAskForCompositions :
    (let b := ceSt fun b => setChan (b.mark CE.CH_STAT.OVR true 1) 1 { Chan.init with ovrEnd := some 5 }
     powered b = true ∧ b.get CE.OUT.LA_LVL 1 ≠ 0 ∧ b.flag CE.CH_STAT.OVR 1 = true ∧ (chanOf b 1).ovrEnd ≠ none ∧ 1 < chanCnt b ∧
     needsStretch b 1 = false) ∧ (chanOf ceSt 1).ovrEnd = none ∧
    needsStretch (ceSt fun b => ((b.put CE.OUT.LVL_OUT 1 1).put CE.NODE_CAP.PWM_BITS 16 1).put CE.NODE_CAP.MIN_ON_NS 60000 1) 1 = true := by
  decide +kernel

/-- OFE runs with two channels and a sensor slot at network second 100; an event of this port and payload is the oldest. -/
def ofeSt (port payload : Nat) (x : Sensor := Sensor.init) (kind : Nat := 0) : Body :=
  (run fun b => { (pat [secStruct 2 1, ⟨sSENSORS, 0, [1, 0] ++ zeros 6 ++ [kind, 0xFF, 0xFF, 0xFF, 0x10, 0x0E, 0, 0]⟩]
      (clk (10 ^ 9) (net (100 * 10 ^ 9) b))).mark OFE.CTL.RUN true with
    ofe := { b.ofe with fifo := [(port, ⟨payload, 0, 7, false, 3, 0⟩)], sensors := if x = Sensor.init then [] else [(1, x)] } }).body
/-- STATE 1 of UNIT 2 with confidence 15 at the present A. -/
def pres : Nat := 2 + 15 * 2 ^ 12 + 2 ^ 16 + 100 * 65536 * 2 ^ 32
theorem test_wit_PresencePassesTheFiltersInOrder :
    (let b := ofeSt 0 pres
     powered b = true ∧ b.flag OFE.CTL.RUN = true ∧ b.ofe.fifo = (0, ⟨pres, 0, 7, false, 3, 0⟩) :: [] ∧ pres / 2 ^ 17 % 2 ^ 15 = 0 ∧
     presenceUnit b (pres % 2 ^ 12) = true ∧ inRange b (pres / 2 ^ 32 % 2 ^ 32) = true ∧ (sensorOf b 1).stuck = false ∧
     0 < (tokensNow b (sensorOf b 1)).1 ∧ b.get OFE.FILT.MIN_CONF ≤ pres / 2 ^ 12 % 16 ∧ true ≠ (sensorOf b 1).p ∧
     (sensorOf b 1).tc = none ∧ (sensorOf b 1).ta = none ∧
     ∀ k, k < 256 → (trackOf b k).live = false) ∧
    (let b := (ofeSt 0 (pres - 15 * 2 ^ 12)).put OFE.FILT.MIN_CONF 1
     (pres - 15 * 2 ^ 12) / 2 ^ 12 % 16 < b.get OFE.FILT.MIN_CONF) ∧
    presenceUnit (ofeSt 0 0) 0 = false ∧ presenceUnit (ofeSt 0 0) 3 = false ∧ presenceUnit (ofeSt 0 0) 1024 = true ∧
    presenceUnit (ofeSt 0 0) 1025 = false ∧ inRange (ofeSt 0 0) 0 = false ∧
    (sensorOf (ofeSt 0 pres { Sensor.init with stuck := true }) 1).stuck = true ∧
    (tokensNow (ofeSt 0 pres { Sensor.init with tokens := 0, tokAt := (10 ^ 9 : Nat) }) (sensorOf (ofeSt 0 pres { Sensor.init with tokens := 0, tokAt := 10 ^ 9 }) 1)).1 = 0 := by
  decide +kernel
def bayP : Nat := 1024 + 2 * 2 ^ 12 + 100 * 65536 * 2 ^ 32
theorem test_wit_BaysControlsAndOccupancyTimers :
    (let b := ofeSt 1 bayP Sensor.init 1
     b.ofe.fifo = (1, ⟨bayP, 0, 7, false, 3, 0⟩) :: [] ∧ bayP / 2 ^ 15 % 2 ^ 17 = 0 ∧ bayP / 2 ^ 12 % 4 ≠ 3 ∧ bayUnit b (bayP % 2 ^ 12) = true ∧
     inRange b (bayP / 2 ^ 32 % 2 ^ 32) = true ∧ 0 < (tokensNow b (sensorOf b (sensorIndex (bayP % 2 ^ 12)))).1) ∧
    ((ofeSt 2 1).ofe.fifo = (2, ⟨1, 0, 7, false, 3, 0⟩) :: [] ∧ controlOk (1 + 31 * 256) 1 = true ∧ (1 + 31 * 256) / 2 ^ 8 % 64 < 32 ∧
      controlOk (1 + 63 * 256) 1 = true ∧ 32 ≤ (1 + 63 * 256) / 2 ^ 8 % 64 ∧ controlOk 2 2 = true ∧ controlOk 3 3 = true ∧
      controlOk (4 + 2559 * 2 ^ 16) 4 = true ∧ 0 % 2 ^ 8 = 0) ∧
    (sensorOf (ofeSt 0 0 { Sensor.init with p := true }) 1).p = true ∧ (sensorOf (ofeSt 0 0) 1).p = false := by decide +kernel

/-! ### Witnesses and checks: Duvas, metering, switch -/

/-- AIR runs its plan on radios 0 to 3 of module 7 in network 5; two channels, home radio 3. -/
def airSt (f : Body → Body := id) : Body :=
  (run fun b => f (((role 2 (net (100 * 10 ^ 9) (pat [secStruct 2 0, secRegion, secPlan 15, secHier 7] b))).mark AIR.CTL.RUN true).mark TB.STAT.NTV true)).body
/-- A queue item of 64 bytes in cell 5: a frame of 56 bytes. -/
def one (q : Nat) (b : Body) : Body := setQueue b q { Queue.empty with items := [⟨[5], 64⟩] }
/-- REGION of rule 2, listen before talk. -/
def secLbt : Sect := ⟨sREGION, 0, [2] ++ secRegion.bytes.drop 1⟩
theorem dwellPass_none (b : Body) (c us : Nat) (h : b.air.dwell = []) (hm : regionMode b = 1) (hu : us ≤ dutyPm b * windowS b * 1000) :
    dwellPass b 3 c us = true := by
  simp [dwellPass, dwellSum, h, hm, hu]
theorem dwellPass_some (b : Body) (c us : Nat) (h : b.air.dwell = []) (hm : regionMode b = 1) (hu : dutyPm b * windowS b * 1000 < us) :
    dwellPass b 3 c us = false := by
  simp [dwellPass, dwellSum, h, hm, hu]
/-- With room for it the beacon passes the guard on every channel; with a window of 0 s none does. -/
theorem test_wit_StitchesCarryFramesOrAreRefused (c : Nat) :
    (powered (airSt id) = true ∧ airOn (airSt id) 3 = true ∧ (airSt id).air.stopAtStitch = false ∧ (airSt id).air.lateRadios.contains 3 = false ∧
      lbtBusy (airSt id) 3 (-120) = false) ∧ airOn (run id).body 3 = false ∧
    dwellPass (airSt id) 3 c (frameUs (airSt id) 3 (36 + 2 * (pendUnits (airSt id) 3).length)) = true ∧
    dwellPass (airSt id) 3 (anchorIdx (airSt id)) (frameUs (airSt id) 3 28) = true ∧
    (let b := airSt (pat [secStruct 2 0, ⟨sREGION, 0, [1, 0, 4, 3, 2] ++ zeros 45⟩, secPlan 15, secHier 7])
     airOn b 3 = true ∧ dwellPass b 3 c (frameUs b 3 (36 + 2 * (pendUnits b 3).length)) = false) ∧
    (let b := airSt (pat [secStruct 2 0, secLbt, secPlan 15, secHier 7])
     airOn b 3 = true ∧ lbtBusy b 3 0 = true) := by
  refine ⟨by decide +kernel, by decide +kernel, dwellPass_none _ _ _ rfl rfl (by decide +kernel), dwellPass_none _ _ _ rfl rfl (by decide +kernel),
    ⟨by decide +kernel, dwellPass_some _ _ _ rfl rfl (by decide +kernel)⟩, by decide +kernel⟩
theorem test_wit_StitchesCarryFramesOrAreRefused_queues (c : Nat) :
    ((queueOf (airSt (one 3)) 3).items = [⟨[5], 64⟩] ∧ 253 % 2 = 1 ∧ 253 < 255 ∧ fitsStitch (airSt (one 3)) 3 [64 - 8] = true) ∧
    dwellPass (airSt (one 3)) 3 c (frameUs (airSt (one 3)) 3 (64 - 8)) = true ∧
    (let b := airSt fun b => (setQueue b 3 { Queue.empty with fill := [⟨[5], 64⟩] }).put QM.Q_CFG.ORG 1 3
     airOn b 3 = true ∧ b.get QM.Q_CFG.ORG 3 = 1 ∧ (queueOf b 3).items = [] ∧ (queueOf b 3).fill ≠ []) := by
  refine ⟨by decide +kernel, dwellPass_none _ _ _ rfl rfl (by decide +kernel), by decide +kernel⟩
theorem test_wit_StitchesCarryFramesOrAreRefused_frames :
    (let p := 2 + 511 * 2 ^ 17
     p / 2 ^ 26 % 2 ^ 38 = 0 ∧ p / 2 ^ 12 % 4 = 0 ∧ 1 ≤ p % 2 ^ 12 ∧ p % 2 ^ 12 ≤ chanCnt (airSt id)) ∧ 3 * 2 ^ 12 / 2 ^ 12 % 4 = 3 ∧
    (let b := airSt fun b => { b.put QM.Q_CFG.BANK_CELLS 8 3 with air := { b.air with descs := [.cmd 3 2 0 false false false] } }
     b.flag AIR.CTL.RUN = true ∧ acting b = true ∧ b.seam.stopBuild = false ∧ canBuild b (.cmd 3 2 0 false false false) = true) := by decide +kernel

/-- A STATUS of node UNIT 2 (type 2, encrypted) to module 7, or of another type, stamp and key slot: header bytes. -/
def hdr (fc stamp : Nat) : List Nat := [fc] ++ toLe 4 (5 * 2 ^ 26 + 7 * 2 ^ 12 + 2) ++ toLe 4 (5 * 2 ^ 26 + 7 * 2 ^ 12) ++ [0, 0] ++ toLe 6 stamp
def frm (stamp : Nat) : List Nat :=
  hdr 0x12 stamp ++ ccmCrypt (zeros 16) (airNonce (hdr 0x12 stamp)) [1, 2, 3, 4] ++ ccmTag (zeros 16) (airNonce (hdr 0x12 stamp)) (hdr 0x12 stamp) [1, 2, 3, 4]
def rxSt : Body := airSt fun b => b.put AIR.KEY_CTL.LOADED 1
def now100 : Nat := 100 * 65536
theorem test_wit_ReceivedFramesPassTenChecks :
    (rxSt.flag AIR.CTL.RUN = true ∧ radioEn rxSt 3 = true ∧ frameForm (frm now100) = true ∧ frameForm [] = false ∧
      u32 (frm now100) 5 / 2 ^ 26 = netNo rxSt ∧ u32 (frm now100) 5 / 2 ^ 12 % 2 ^ 14 = modNo rxSt ∧
      unitOk rxSt (u32 (frm now100) 1 % 2 ^ 12) = true ∧ unitOk rxSt 3 = false ∧ keyGood rxSt 0 = true ∧ keyGood rxSt 1 = false) ∧
    (openFrame rxSt 0 (frm now100) = some [1, 2, 3, 4] ∧ openFrame rxSt 0 (hdr 0x12 now100 ++ zeros 12) = none) ∧
    ((stampDiff (u48 (frm now100) 11) (airOfNs (tnNs rxSt - 0))).natAbs ≤ freshW rxSt ∧
      ¬ (stampDiff (u48 (frm 0) 11) (airOfNs (tnNs rxSt - 0))).natAbs ≤ freshW rxSt ∧
      epochNewer (u16 (frm now100) 9 % 2 ^ 14) (rxSt.get AIR.EPOCH.EPOCH) = false ∧ frameClass (frm now100) = some 2 ∧
      markOf rxSt (u32 (frm now100) 1) 2 = none) := by decide +kernel
theorem test_wit_ReceivedFramesPassTenChecks_keys :
    (rxSt.bit AIR.KEY_CTL.LOADED 0 = true ∧ 0 = keyTx rxSt ∧ (rxSt.put AIR.KEY_SW.BOLT 1000).get AIR.KEY_SW.BOLT ≥ boltNo rxSt + 16 ∧
      rxSt.get AIR.KEY_SW.BOLT < boltNo rxSt + 16 ∧ ¬ (3 = keyTx rxSt ∧ rxSt.bit AIR.KEY_CTL.LOADED 3 = true)) ∧
    ({ rxSt.mark AIR.STAT.GRACE true with air := { rxSt.air with prevKey := some 3, hopBusy := true } }.flag AIR.STAT.GRACE = true ∧
      rxSt.air.graceEnd ≤ boltNo rxSt) := by decide +kernel

/-- MET runs with circuit 23 on phase 1 of 230 V. -/
def secMeter : Sect := ⟨sMETER, 0, zeros 12 ++ toLe 4 230000 ++ toLe 4 230000 ++ toLe 4 230000 ++ zeros 188 ++ [1, 1, 0, 0] ++ toLe 4 10000⟩
def metSt (n : Nat) (f : Body → Body := id) : Body :=
  (run fun b => f { (pat [secStruct 1 0, secMeter] (clk (10 ^ 12) b)).mark MET.CTL.RUN true with met := { b.met with started := true, cycles := n } }).body
def cyc : MetCycle := ⟨15380000, 0, 0, [], 0⟩
theorem test_wit_LineCyclesAccumulateAndLatch :
    (let b := metSt 0 fun b => (b.mark MET.STAT.HDET_B true).put MET.TUNE.VPRES_PCT 0
     b.flag MET.CTL.RUN = true ∧ sect b sMETER ≠ none ∧ b.met.started = true ∧ b.met.cycles < b.get MET.CFG.LATCH_N ∧
     15380000 ≤ cyc.ns ∧ 23 ∈ circuits b ∧ harnessOn b 23 = true ∧ 1 ≤ meterPhase b 23 ∧ meterPhase b 23 - 1 < 3 ∧
     0 < meterVnom b (meterPhase b 23 - 1) ∧ b.get MET.TUNE.VPRES_PCT = 0 ∧ latchDue b = false) ∧
    ((metSt 0 fun b => (b.mark MET.STAT.HDET_A false).mark MET.STAT.HDET_B false).flag MET.STAT.HDET_A = false) ∧
    latchDue (metSt 65535) = true ∧
    (let b := metSt 0 fun b => { b with met := { b.met with latest := { Latch.zero with seq := 1, ecum := [(511, 4)] }, saveDue := true } }
     b.met.saveDue = true ∧ ∀ x ∈ b.met.latest.ecum, x.1 < 512) ∧ (metSt 0).met.saveDue = false ∧ (15379999 : Nat) < 15380000 ∧
    (metSt 0 fun b => { b with met := { b.met with started := false } }).met.started = false := by decide +kernel
/-- With CREEP_PPM 0 no energy, whatever it is, is below the creep threshold. -/
theorem test_wit_LineCyclesAccumulateAndLatch_creep (ns e : Nat) :
    belowCreep (metSt 0 fun b => b.put MET.TUNE.CREEP_PPM 0) 23 ns e = false := by
  have h : (metSt 0 fun b => b.put MET.TUNE.CREEP_PPM 0).get MET.TUNE.CREEP_PPM = 0 := by decide +kernel
  simp [belowCreep, h]
/-- Circuit 23 has one member, a 50 Hz line, 511 valid chips and a due solve. -/
def attCirc (n : Nat) (due : Bool) : AttCirc :=
  let chips := (List.range n).map fun q => (⟨3 * 1023 + q, 5, 1, false, [], []⟩ : Chip)
  { AttCirc.init with due := due, gram := [[4]], prod := [[8]], chips := chips }
def attSt (n : Nat) (due : Bool) : Body :=
  (run fun b => { (((role 2 (pat [secStruct 1 0, secMeter] (net (10 ^ 12) b))).mark MET.ATT_CTL.RUN true).put CE.SAFE_CFG.CIRCUIT 24 0).put
    MET.ATT_CTL.DEPTH 1 with
    att := { b.att with lineHz := 50, period := 3, circs := [(23, attCirc n due)] } }).body
theorem test_wit_CalibrationAndAttributionWindows :
    ((run id).body.flag MET.CAL_CMD.MODE = false ∧ (run id).body.met.calStored = [] ∧ (run fun b => b.mark MET.CAL_CMD.MODE true).body.flag
      MET.CAL_CMD.MODE = true) ∧
    (let b := (run fun b => clk (26000 * 3600000) { b.mark MET.CAL_CMD.MODE true with met := { b.met with calAt := some 0 } }).body
     b.met.calAt = some 0 ∧ 0 + 26000 * 3600000 ≤ b.clock.cyc ∧ (clk (26000 * 3600000 - 1) b).clock.cyc < 0 + 26000 * 3600000) ∧
    periodOver (run id).body = none ∧
    (periodOver (attSt 0 false) = some 3 ∧ (attSt 0 false).flag MET.ATT_CTL.RUN = true ∧ acting (attSt 0 false) = true ∧ 23 ∈ circuits (attSt 0 false) ∧
      members (attSt 0 false) 23 = [0] ∧ (validChips (attSt 0 false) 23 3).length < (attSt 0 false).get MET.ATT_TUNE2.VALID_MIN ∧
      (circOf (attSt 0 false) 23).due = false) ∧
    ((attSt 1023 true).get MET.ATT_TUNE2.VALID_MIN ≤ (validChips (attSt 1023 true) 23 3).length ∧
      (circOf (attSt 1023 true) 23).locked = false ∧ (circOf (attSt 1 true) 23).due = true ∧ (circOf (attSt 1 true) 23).gram = [[4]] ∧
      (circOf (attSt 1 true) 23).prod.getD (circOf (attSt 1 true) 23).lag [] = [8]) := by decide +kernel
/-- The estimate of the solve: 8 / 4 in units of 1/16,384. -/
theorem test_solve : (after (.attributionSolve 23) ⟨attSt 1 true, []⟩).body.get MET.ATT_CH.CF_EST 0 = 32768 := by decide +kernel

/-- Both ring ports up and unblocked under an enabled ring in state `n`. -/
def swSt (n : Nat) (f : Body → Body := id) : Body :=
  (run fun b => f { (((((((b.put SW.CTL.PORT_EN 7).mark SW.PORT_STAT.LINK true 0).mark SW.PORT_STAT.LINK true 1).mark SW.PORT_STAT.LINK true 2).mark
    SW.ERPS_CTL.EN true).put SW.ERPS_STAT.STATE n).mark SW.PORT_STAT.BLOCKED false 0).mark SW.PORT_STAT.BLOCKED false 1 with
    nv := { b.nv with mac := 0x020000000001 }, sw := { b.sw with fdb := [⟨0x020000000009, 1, 0⟩] } }).body
/-- 60 bytes to this MAC, from 02:00:00:00:00:05, of type 0x0800. -/
def ethTo (mac n : Nat) : List Nat := toBe 6 mac ++ toBe 6 0x020000000005 ++ [8, 0] ++ zeros n
theorem test_wit_SwitchForwardsOnlyAsProtectionAllows :
    (let b := swSt 1
     let f := ethTo 0x020000000009 46
     portUp b 0 = true ∧ portUp b 1 = true ∧ f.length = 60 ∧ isPause f = false ∧ isPtp f = false ∧ isRaps b f = false ∧ isGroup f = false ∧
     b.flag SW.ERPS_CTL.EN = true ∧ b.flag SW.PORT_STAT.BLOCKED 0 = false ∧ b.flag SW.PORT_STAT.BLOCKED 1 = false ∧ b.sw.waiting = [] ∧ b.sw.leaving = [] ∧
     frameDst f ≠ b.nv.mac ∧ frameSrc f ≠ frameDst f ∧ fdbPort b (frameDst f) = some 1) ∧
    ((ethTo 1 45).length < 60 ∧ 1518 < (ethTo 1 1505).length ∧ portUp (run fun b => b.put SW.CTL.PORT_EN 0).body 0 = false) ∧
    (let b := swSt 1 fun b => b.put QM.Q_LIM.QUOTA 100 13
     frameDst (ethTo 0x020000000001 1504) = b.nv.mac ∧ b.get QM.Q_CFG.ORG 13 = 0 ∧ qAdmits b 13 (cellsFor (16 + 1518)) = true) ∧
    (queueOf (swSt 1) 12).items = [] := by decide +kernel
/-- A Signal Fail of ring 1 on VLAN 0 and level 0 arrives at the blocked port 0. -/
def rapsF : List Nat := toBe 6 0x0119A7000001 ++ toBe 6 9 ++ [0x81, 0, 0xE0, 0, 0x89, 0x02, 1, 40, 0, 32, 0xB0, 0] ++ toBe 6 9 ++ zeros 30
theorem test_wit_SwitchForwardsOnlyAsProtectionAllows_raps :
    (let b := swSt 1 fun b => (((b.put SW.ERPS_CTL.RING_ID 1).put SW.ERPS_CTL.RAPS_VID 0).put SW.ERPS_CTL.MEL 0).mark SW.PORT_STAT.BLOCKED true 0
     portUp b 0 = true ∧ rapsF.length = 60 ∧ isPause rapsF = false ∧ isRaps b rapsF = true ∧ u8 rapsF 19 = 40 ∧
     b.flag SW.PORT_STAT.BLOCKED 0 = true ∧ rapsMine b (rapsOf 0 rapsF) = true ∧ (rapsOf 0 rapsF).req = 11) ∧
    (swSt 1).flag SW.PORT_STAT.BLOCKED 0 = false ∧ isRaps (swSt 1) (ethTo 9 46) = false := by decide +kernel
/-- A CPU item of Q10 with a plain header (length 60) in cell 5. -/
def cpuItem (x : Nat) : Body := swSt 1 fun b => setMemBytes (cellAddr 5) ([60, 0, x, 0] ++ zeros 12 ++ ethTo 9 46)
  (setQueue b 10 { Queue.empty with items := [⟨[5], 76⟩] })
theorem test_wit_SwitchForwardsOnlyAsProtectionAllows_cpu :
    (let l := itemBytes (cpuItem 0) ⟨[5], 76⟩
     u8 l 2 = 0 ∧ u8 l 3 = 0 ∧ bytesAt l 4 12 = List.replicate 12 0 ∧ u16 l 0 = 60 ∧ 16 + u16 l 0 ≤ l.length ∧ portUp (cpuItem 0) 0 = true) ∧
    u8 (itemBytes (cpuItem 1) ⟨[5], 76⟩) 2 ≠ 0 := by decide +kernel
def rapsIn (req node vid : Nat) : Raps := ⟨1, req, false, false, 0, node, vid, 0, 0⟩
theorem test_wit_RingProtectionFollowsItsRequests :
    (let b := swSt 1 fun b => b.put SW.ERPS_TMR.HOLDOFF 0
     b.flag SW.PORT_STAT.LINK 1 = true ∧ b.flag SW.ERPS_CTL.EN = true ∧ b.get SW.ERPS_TMR.HOLDOFF = 0 ∧ b.get SW.ERPS_STAT.STATE = 1 ∧
     guardRuns b = false ∧ b.sw.erps.failed = [] ∧ rapsMine b (rapsIn 13 7 (b.get SW.ERPS_CTL.RAPS_VID)) = rapsMine b ⟨0, 0, false, false, 0, 0, b.get SW.ERPS_CTL.RAPS_VID, 0, 0⟩ ∧
     rapsMine b ⟨1, 11, false, false, 0, 7, b.get SW.ERPS_CTL.RAPS_VID, b.get SW.ERPS_CTL.MEL, b.get SW.ERPS_CTL.RING_ID⟩ = true ∧
     rapsMine b (rapsIn 11 7 (b.get SW.ERPS_CTL.RAPS_VID + 1)) = false ∧ (rapsIn 11 7 0).node ≠ b.nv.mac ∧ portUp b 1 = true) ∧
    (swSt 1 fun b => b.put SW.ERPS_TMR.HOLDOFF 1).get SW.ERPS_TMR.HOLDOFF ≠ 0 ∧
    (let b := swSt 2 fun b => { b.mark SW.PORT_STAT.LINK false 1 with sw := { b.sw with erps := { b.sw.erps with holdoff := [(1, 0)] } } }
     b.flag SW.PORT_STAT.LINK 1 = false ∧ holdoffDue b 1 = true ∧ holdoffDue b 0 = false ∧ b.flag SW.ERPS_CTL.EN = true ∧ b.get SW.ERPS_STAT.STATE = 2) ∧
    (let b := swSt 1 fun b => (b.mark SYS.CLK_STAT.ETH_LOCK true).put SW.CTL.MEDIA_B 0
     b.bit SW.CTL.PORT_EN 1 = true ∧ b.flag SYS.CLK_STAT.ETH_LOCK = true ∧ mediumOk b 1 false = true ∧ mediumOk b 1 true = false) ∧
    (let b := swSt 4 fun b => { b with sw := { b.sw with erps := { b.sw.erps with command := some 1 } } }
     b.get SW.ERPS_STAT.STATE = 4 ∧ b.sw.erps.command ≠ none ∧ b.sw.erps.failed = []) ∧
    (let b := swSt 5 fun b => ((b.mark SW.ERPS_CTL.OWNER true).mark SW.ERPS_STAT.WTR true).mark SW.ERPS_STAT.WTB true
     b.get SW.ERPS_STAT.STATE = 5 ∧ b.flag SW.ERPS_CTL.OWNER = true ∧ wtrDue (clk (10 ^ 13) b) = true ∧ wtbDue (clk (10 ^ 13) b) = true ∧
     wtrDue b = false ∧ wtbDue b = false) ∧
    guardRuns (swSt 1 fun b => { b with sw := { b.sw with erps := { b.sw.erps with guard := some 0 } } }) = true ∧
    (swSt 0).get SW.ERPS_STAT.STATE = 0 ∧ (swSt 0).flag SW.ERPS_STAT.WTR = false := by decide +kernel

/-! ### Witnesses and checks: images, enrolment, campaigns, the pair, Shalan, inputs and the sign -/

/-- A trial (slot word of R511 with its CRC), or a confirmed word. -/
def slotW (active state trials : Nat) (b : Body) : Body :=
  let w := active + state * 4 + trials * 16
  (b.put UPD.SLOT_WORD_LO.WORD w).put UPD.SLOT_WORD_HI.WORD (crc16 (toLe 4 w) + 0x4B53 * 2 ^ 16)
def stagingX (cnt : Nat) : Staging := ⟨7, cnt, (List.range cnt).map fun i => (i, [i])⟩
def updSt (f : Body → Body := id) : Body :=
  (run fun b => f { (slotW 0 0 0 (net (10 ^ 12) (clk (10 ^ 9) b))).put UPD.STAT.ENROL 1 with nv := { b.nv with staging := [(0, stagingX 3), (4, stagingX 2)] } }).body
def withAct (a : Activation) (b : Body) : Body := { b with upd := { b.upd with act := some a } }
theorem test_wit_ImagesAreVerifiedAndActivatedAtABolt :
    (onTrial updSt = false ∧ updSt.upd.act = none ∧ updSt.upd.verifying = false ∧ areaState updSt 0 = 3 ∧ stagingOf updSt 0 = some (stagingX 3)) ∧
    areaState (run id).body 0 ≠ 3 ∧ (updSt fun b => b.mark UPD.STG_STAT.VERIFIED true 0).flag UPD.STG_STAT.VERIFIED 0 = true ∧
    (updSt fun b => { b with upd := { b.upd with verifying := true, readyBy := some 5 } }).upd.verifying = true ∧
    (let b := updSt (withAct ⟨782, 1, false, false⟩)
     b.upd.act = some ⟨782, 1, false, false⟩ ∧ boltIdx b = 781 ∧ actBlocked b = false) ∧
    782 * boltNs updSt ≤ tnNs (updSt fun b => net (782 * 1280000000 - 100000000) b) + 100000000 ∧
    (let b := updSt (withAct ⟨781, 1, true, false⟩)
     781 ≤ boltIdx b ∧ actBlocked b = false ∧ twinPresent b = false) ∧
    actBlocked (updSt fun b => b.mark SAFE.STAT.HEM true) = true ∧ updSt.memi.reload = none := by decide +kernel
/-- A trial whose conditions of R520 all hold. -/
def trialSt (f : Body → Body := id) : Body := updSt fun b => f { (slotW 0 1 2 b).mark UPD.CONF.AUTO true with
  upd := { b.upd with winEnd := some (10 ^ 9), passed := (List.range 80).filter sliceIdx } }
theorem test_wit_TrialsAreConfirmedOrFallBack :
    (onTrial trialSt = true ∧ mayConfirm trialSt = true ∧ trialSt.upd.winEnd = some (10 ^ 9) ∧ 10 ^ 9 ≤ trialSt.clock.cyc ∧
      (clk (10 ^ 9 - 1) trialSt).clock.cyc < 10 ^ 9) ∧
    onTrial updSt = false ∧ mayConfirm updSt = false ∧
    (let b := (st fun b => { b.mark MEMI.STAT.INIT_DONE true with upd := { b.upd with recoveryDue := true, tested := true } }).body
     beforeBoot b = true ∧ b.upd.tested = true ∧ b.upd.recoveryDue = true ∧ areaState b 0 ≠ 3 ∧
     areaState { b with nv := { b.nv with staging := [(0, stagingX 3)] } } 0 = 3 ∧ State.reset.body.upd.recoveryDue = false) ∧
    (updSt fun b => { b with upd := { b.upd with coresDown := true } }).upd.coresDown = true ∧ beforeBoot updSt = false ∧
    (runtimeUp updSt = true ∧ updSt.upd.readyBy = none) ∧
    (let b := updSt fun b => { b with upd := { b.upd with readyBy := some (10 ^ 9) } }
     b.upd.readyBy = some (10 ^ 9) ∧ 10 ^ 9 ≤ b.clock.cyc ∧ (clk (10 ^ 9 - 1) b).clock.cyc < 10 ^ 9) ∧
    (updSt.upd.act = none ∧ updSt.pat.staged = none ∧ (queueOf updSt 15).items = []) := by decide +kernel

/-- ENROL OPEN with `l` in the enrolment buffer. -/
def enr (n : Nat) (words : List (Nat × Nat)) : Body :=
  (run fun b => words.foldl (fun b p => b.put UPD.ENR_BUF.DATA p.2 p.1) ((b.put UPD.STAT.ENROL 0).put UPD.ENR_LEN.LEN n)).body
theorem test_wit_EnrolmentRecordsAreTakenInOrder :
    ((run id).body.nv.keys.identity = none ∧ (run fun b => { b with nv := { b.nv with keys := { b.nv.keys with identity := some 5 } } }).body.nv.keys.identity.isSome = true) ∧
    ((enr 1 []).get UPD.STAT.ENROL = 0 ∧ (enr 4096 []).get UPD.ENR_LEN.LEN = 4096 ∧ (enr 98 []).get UPD.ENR_LEN.LEN = 98 ∧ (enr 0 []).get UPD.ENR_LEN.LEN = 0) ∧
    (let b := enr 99 [(0, 0x0301)]
     u8 (enrBytes b) 0 = 1 ∧ u8 (enrBytes b) 1 = 3 ∧ allZero ((enrBytes b).drop 2) = true ∧ b.get UPD.ENR_LEN.LEN = 99) ∧
    allZero ((enrBytes (enr 99 [(1, 4)])).drop 2) = false ∧ ((enr 18 []).nv.keys.node.filter fun p => decide (p.1 ≠ 0)).length < 64 := by decide +kernel
/-- ENROL DONE, the image floor word invalid, a confirmed image of version 0. -/
def flr (v : Nat) : Body := updSt fun b => { (b.put UPD.ENR_LEN.LEN 8).put UPD.ENR_BUF.DATA v 0 with nv := { b.nv with imgFloorOk := false } }
theorem test_wit_EnrolmentRecordsAreTakenInOrder_floors :
    ((flr 5).get UPD.STAT.ENROL = 1 ∧ (flr 5).get UPD.ENR_LEN.LEN = 8 ∧ (flr 5).nv.imgFloorOk = false ∧ (flr 5).nv.patFloorOk = true ∧
      imgBound (flr 5) ≤ u32 (enrBytes (flr 5)) 0) ∧ updSt.nv.imgFloorOk = true ∧
    (let b := updSt fun b => { (b.put UPD.ENR_LEN.LEN 8).put UPD.ENR_BUF.DATA 0 0 with nv := { b.nv with imgFloorOk := false, images := [(0, ⟨List.replicate 64 1, []⟩)] } }
     u32 (enrBytes b) 0 < imgBound b) := by decide +kernel
theorem test_wit_EnrolmentRecordsAreTakenInOrder_recovery :
    (let b := updSt fun b => { (b.put UPD.ENR_LEN.LEN 8).put UPD.ENR_BUF.DATA 9 0 with
       power := .recovery, nv := { b.nv with imgFloorOk := false, patFloorOk := false } }
     b.power = .recovery ∧ b.get UPD.STAT.ENROL = 1 ∧ b.get UPD.ENR_LEN.LEN = 8 ∧ imgBound b ≤ u32 (enrBytes b) 0 ∧
     patBound b ≤ u32 (enrBytes b) 4 ∧ u32 (enrBytes b) 0 = 9) := by decide +kernel
theorem test_wit_NodeCampaignsRunUntilStopped :
    (let b := updSt fun b => b.put UPD.NC_CTL.STG 4
     campaignRuns b = false ∧ b.get UPD.NC_CTL.STG = 4 ∧ stagingOf b 4 = some (stagingX 2) ∧ (stagingX 2).complete = true) ∧
    stagingOf updSt 1 = none ∧ 4 < (updSt fun b => b.put UPD.NC_CTL.STG 5).get UPD.NC_CTL.STG ∧
    (let b := updSt fun b => b.put UPD.NC_STAT.STATE 2
     campaignRuns b = true ∧ airIn b 64 ≤ b.get UPD.NC_ACT_LO.ACT_TIME + 0xFFFF % 2 ^ 16 * 2 ^ 32 ∧
     b.get UPD.NC_ACT_LO.ACT_TIME + 0 % 2 ^ 16 * 2 ^ 32 < airIn b 64) := by decide +kernel

/-- A member in role `r` of a running pair, module 7 of network 5, with a witness at MOD 9, at cycle 10^10. -/
def seamSt (r : Nat) (f : Body → Body := id) : Body :=
  (run fun b => f { (((((role r (clk (10 ^ 10) (net (10 ^ 12) (pat [secStruct 1 0, secHier 7, secTwin] b)))).mark SEAM.CTL.RUN true).put
    SEAM.WITNESS.WIT_MOD 9).mark SW.PORT_STAT.LINK true 2).put SW.CTL.PORT_EN 7) with
    nv := { b.nv with keys := { b.nv.keys with pair := some (zeros 16) } } }).body
def wmsg : WitMsg := ⟨1, 9, 0, 2, 0, 5, 3, 10 ^ 9, 1, 4, 2⟩
def assoc (id : Nat) : Assoc := ⟨id, true, false, 5, 0, 1, [], [], 0, false, 0, 0⟩
theorem test_wit_LeaseIsHeldByVotes :
    (seamRun (seamSt 2) = true ∧ seamRole (seamSt 2) = 2 ∧ (seamSt 2).flag SAFE.STAT.HEM_SILENT = false) ∧
    (let b := seamSt 2 fun b => { b with seam := { b.seam with leaseEnd := some (10 ^ 10), bound := some (0, 10 ^ 10), startAt := some 0, witSeen := some 0 } }
     b.seam.leaseEnd = some (10 ^ 10) ∧ 10 ^ 10 ≤ b.clock.cyc ∧ (clk (10 ^ 10 - 1) b).clock.cyc < 10 ^ 10 ∧ b.seam.bound = some (0, 10 ^ 10) ∧
     b.seam.startAt = some 0 ∧ b.seam.witSeen = some 0 ∧ 0 + tL b ≤ b.clock.cyc ∧ (clk 0 b).clock.cyc < 0 + tL b ∧
     b.flag SEAM.EVENT.WIT_LOST = false ∧ wmsg.mod = witnessMod b ∧ witnessMod b ≠ 0xFFFF) ∧
    (mayTake (seamSt 1) = true ∧ seamRole (seamSt 1) = 1 ∧ (seamSt 1).flag SEAM.STAT.SEAM_UP = false ∧
      (seamSt 1).clock.cyc < wmsg.time * 26 + tL (seamSt 1)) ∧ mayTake (seamSt 2) = false ∧
    (let b := seamSt 2 fun b => { b with sha := { b.sha with assocs := [assoc 9] } }
     assocOf b (witnessMod b) = some (assoc 9)) ∧
    (let b := seamSt 1
     b.nv.keys.pair.isSome = true ∧ portUp b 2 = true ∧ witIn wmsg b = b ∧ mayTake (witHeard wmsg true b) = true ∧
     wmsg.time * 26 + tL b ≤ (clk (10 ^ 12) b).clock.cyc) ∧ seamRun (seamSt 0) = true ∧ mayTake (seamSt 0) = true ∧ mayAsk (seamSt 0) = true ∧
    (let m := { wmsg with mod := 7 }
     loaded (seamSt 1) = true ∧ m.mod = modNo (seamSt 1) ∧ isTwin (seamSt 1) m.uid = false) ∧
    (let m := { wmsg with uid := 0 }
     m.uid = twinUid (witIn m (seamSt 1)) ∧ m.health < 2 ^ 32 ∧ wmsg.uid ≠ twinUid (witIn wmsg (seamSt 1))) := by decide +kernel
/-- A manager of MOD 9 that is no member of a pair itself: a witness of it. -/
def witSt (f : Body → Body := id) : Body :=
  (run fun b => f (role 3 (clk (10 ^ 12) (pat [secStruct 1 0, ⟨sHIERARCHY, 0, [5, 0, 0, 1, 0xFF, 0xFF] ++ zeros 34 ++ [1, 0, 0, 0, 9, 0] ++ zeros 18⟩] b)))).body
def voted (m : WitMsg) (v : Option (Nat × Int)) (b : Body) : Body := { b with seam := { b.seam with wit := [⟨9, v, 0, some m, []⟩] } }
theorem test_wit_LeaseIsHeldByVotes_witness :
    (witnesses witSt 9 = true ∧ witSt.seam.witQuiet = none ∧ witRemain witSt (witRec witSt 9) 0 = 0 ∧ (witRec witSt 9).votedFor = none ∧
      seamRun witSt = false) ∧ witnesses (run id).body 9 = false ∧
    (let b := witSt (voted wmsg (some (1, 10 ^ 12)))
     0 < witRemain b (witRec b 9) 0 ∧ tG b < witRemain b (witRec b 9) 0) ∧
    (let b := witSt fun b => voted wmsg (some (1, 10 ^ 12 - tL b)) b
     0 < witRemain b (witRec b 9) 0 ∧ witRemain b (witRec b 9) 0 ≤ tG b) ∧
    (let b := witSt fun b => voted wmsg (some (0, 5)) b
     (witRec b 9).held = some wmsg ∧ witRemain b (witRec b 9) wmsg.member = 0) ∧
    (let b := witSt fun b => { b with seam := { b.seam with witQuiet := some (10 ^ 12) } }
     b.seam.witQuiet = some (10 ^ 12) ∧ b.clock.cyc < 10 ^ 12 + msCyc 12000 ∧ 0 < witQuietLeft b) ∧ witQuietLeft witSt = 0 := by decide +kernel
/-- An association of the member whose request is new, and one that has answered its number. -/
theorem test_wit_LeaseIsHeldByVotes_kept :
    (let a := assoc 9
     let b := witSt fun b => { b with sha := { b.sha with assocs := [a] } }
     (assocOf (witIn wmsg b) 9).isSome = true ∧ a.kept.length < 64 ∧ ∀ k ∈ a.kept, k.1 ≠ wmsg.seq) ∧
    (let b := witSt fun b => { b with sha := { b.sha with assocs := [{ assoc 9 with kept := [(2, [1])] }] } }
     ((assocOf (witIn wmsg b) 9).bind fun a => a.kept.find? fun k => decide (k.1 = wmsg.seq)) = some (2, [1])) := by decide +kernel

def beat (role : Nat) : SeamBeat := ⟨0, role, 7, 5, 0, 0, some 3, none, false, false, false, false, [], 9⟩
/-- A beat with the MICs of its bytes under the pair key. -/
def signed (kind : Nat) (bytes : List Nat) (h : SeamBeat) : SeamBeat := { h with mic := seamMics (zeros 16) kind h bytes }
theorem signed_ok (b : Body) (kind : Nat) (bytes : List Nat) (h : SeamBeat) (hp : b.nv.keys.pair = some (zeros 16))
    (hb : (twinPresent b && decide (h.uid = twinUid b) && decide (h.counter > b.seam.rx)) = true) :
    beatOk b kind (signed kind bytes h) bytes = true := by
  have hs : seamAuthentic b kind (signed kind bytes h) bytes = true := by
    simp only [seamAuthentic, hp, signed]
    exact decide_eq_true rfl
  have hu : (signed kind bytes h).uid = h.uid := rfl
  have hc : (signed kind bytes h).counter = h.counter := rfl
  rw [beatOk, hs, hu, hc, Bool.and_true]
  exact hb
def mset (full intact ho : Bool) : MirrorSet :=
  ⟨5, full, intact, ho, false, [], [], [], [], [], 0, [], [], [], 0, [], [], [], [], [], none, [], []⟩
/-- A set of block 7 alone that hands an armed switch on: a full container of SERIAL 1 for bolt 800. -/
def msetSwitch : MirrorSet := { mset false true false with extra := true, has := [7], staged := some (zeros 16 ++ [1, 0, 0, 0], 800) }
theorem test_wit_SeamFramesAndHandOverMoveTheRole :
    (let h := signed seamBeatKind (beatBytes (beat 2)) (beat 2)
     beatOk (seamSt 1) seamBeatKind h (beatBytes h) = true ∧ beatOk (seamSt 1) seamBeatKind (beat 2) (beatBytes (beat 2)) = false ∧
     h.vote = none ∧ h.epoch < 2 ^ 32 ∧ h.renew = some 3 ∧ seamRole (seamSt 1) = 1 ∧ seamRole (seamSt 0) = 0 ∧
     mayVote (seamSt 1) (1 - member (seamSt 1)) = true) ∧
    ({ beat 1 with vote := some 3, renew := none }.vote = some 3 ∧
      (seamSt 2 fun b => { b with seam := { b.seam with lastRenew := some 3 } }).seam.lastRenew = some 3) ∧
    member (seamSt 0) = 0 ∧
    (let b := seamSt 1 fun b => { b with seam := { b.seam with peerSeen := some 0, needFull := true } }
     b.seam.peerSeen = some 0 ∧ 0 + tL b / 2 ≤ b.clock.cyc ∧ (clk 0 b).clock.cyc < 0 + tL b / 2 ∧ b.seam.needFull = true ∧ b.seam.mirSets = []) := by
  decide +kernel
/-- Beats with a vote, releases and sets of any kind can be authentic. -/
theorem test_wit_SeamFramesAndHandOverMoveTheRole_authentic (m : MirrorSet) (v : Option Nat) (k : Nat) :
    (let h := signed seamMirrorKind (mirrorBytes (beat 2) m) (beat 2)
     beatOk (seamSt 1) seamMirrorKind h (mirrorBytes h m) = true) ∧
    (let g := { beat 1 with vote := v, renew := none }
     let h := signed seamBeatKind (beatBytes g) g
     beatOk (seamSt 2) seamBeatKind h (beatBytes h) = true) ∧
    (let h := signed seamReleaseKind (releaseBytes (beat 2) k) (beat 2)
     beatOk (seamSt 0) seamReleaseKind h (releaseBytes h k) = true) :=
  ⟨signed_ok _ _ _ _ rfl (by decide +kernel), signed_ok _ _ _ { beat 1 with vote := v, renew := none } rfl (show (twinPresent (seamSt 2) &&
      decide ((beat 1).uid = twinUid (seamSt 2)) && decide ((beat 1).counter > (seamSt 2).seam.rx)) = true by decide +kernel),
    signed_ok _ _ _ _ rfl (by decide +kernel)⟩
theorem test_wit_SeamFramesAndHandOverMoveTheRole_sets :
    isPartial (zeros 16 ++ [1, 0, 0, 0]) = false ∧ u32 (zeros 16 ++ [1, 0, 0, 0]) 0x10 ≠ (seamSt 1).get SYS.PAT_SERIAL.SERIAL ∧
    (((some 3 : Option Nat).map fun k => (mset true true false).bolt - (k + 1)).getD 0) = 1 := by decide +kernel
theorem test_wit_SeamFramesAndHandOverMoveTheRole_hand :
    (let b := seamSt 2 fun b => { (b.mark SEAM.STAT.SEAM_UP true).put SEAM.PEER_HEALTH.CLASS 0 with seam := { b.seam with peer := some (beat 1) } }
     b.seam.hand = none ∧ serialOk b = true ∧ twinGood b = true ∧ twinGood (seamSt 2) = false ∧ serialOk (seamSt 2) = true) ∧
    (let b := seamSt 2 fun b => { (b.mark SEAM.STAT.SEAM_UP true).put SEAM.PEER_HEALTH.CLASS 0 with seam := { b.seam with hand := some ⟨782, true, true, false⟩ } }
     b.seam.hand = some ⟨782, true, true, false⟩ ∧ 782 ≤ boltIdx b + 1 ∧ handBlocked b 782 = false ∧ boltIdx b + 1 < 783 ∧
     seamRun b = true ∧ appsRun b = true) ∧
    (seamSt 2 fun b => { b with seam := { b.seam with hand := some ⟨782, false, false, false⟩ } }).seam.hand = some ⟨782, false, false, false⟩ ∧
    handBlocked (seamSt 2 fun b => { b with seam := { b.seam with peer := some { beat 1 with hem := true } } }) 782 = true ∧
    (let b := seamSt 0
     wmsg.voteFor = member b ∧ b.seam.quiet = false ∧ b.seam.learn = none ∧ (beat 2).serial = b.get SYS.PAT_SERIAL.SERIAL ∧
     b.get UPD.STAT.ENROL = 1) ∧
    (let b := seamSt 2 fun b => { b with seam := { b.seam with test := some ⟨10 ^ 12 - 3 * boltNs b, List.range 11, [1]⟩, lapsedAt := some 0 } }
     b.seam.test = some ⟨10 ^ 12 - 3 * boltNs b, List.range 11, [1]⟩ ∧ 10 ^ 12 - 3 * boltNs b + 3 * boltNs b ≤ tnNs b ∧
     tnNs b < 10 ^ 12 + 3 * boltNs b ∧ [1].length * 10 < (List.range 11).length ∧ b.seam.gotBack = false ∧
     0 + 26000000 * holdTS b ≤ b.clock.cyc ∧ (clk 0 b).clock.cyc < 0 + 26000000 * holdTS b) := by decide +kernel

/-- Module 7 serves; an open session 0x10001 (secure), and associations 9 (managed) and 0 (its manager). -/
def shaSt (f : Body → Body := id) : Body :=
  (run fun b => f { (role 2 (clk (10 ^ 10) (pat [secStruct 1 0, secThreads [(255, 0x45, 0, 63, 0), (254, 0x48, 15, 63, 1)], ⟨sHIERARCHY, 0, [5, 0, 128, 0, 0, 0] ++ zeros 34 ++
    [1, 0, 0, 0, 9, 0] ++ zeros 18⟩] b))).mark SYS.CLK_STAT.CCLK_LOCK true with sha := { b.sha with assocs := [assoc 0x10001, assoc 9, assoc 4] } }).body
/-- A request of this type, SEQ, source and payload to module 128. -/
def req (type seq src : Nat) (p : List Nat) : List Nat := [1, type] ++ toBe 2 p.length ++ toBe 4 seq ++ toBe 2 src ++ toBe 2 128 ++ [0, 0, 0, 0] ++ p
/-- What Fresh and Served ask, but for the quantified parts that an empty store meets. -/
def serves (b : Body) (id type : Nat) (p : List Nat) : Bool :=
  let m := req type 1 5 p
  decide (assocOf b id = some (assoc id) ∧ coresServe b = true ∧ 16 ≤ m.length ∧ u8 m 0 = 1 ∧ msgFlags m % 4 = 0 ∧ msgSrc m ≠ modNo b ∧
    b.sha.fans = [] ∧ msgType m = type ∧ refusal b (assoc id) m = none ∧ relays b m = false)
def regP (addr n : Nat) : List Nat := toBe 4 addr ++ toBe 2 n ++ [0, 0]
theorem test_wit_ShalanRequestsAreServedAndAnswered :
    (serves shaSt 0x10001 1 (regP 0x40000024 1) = true ∧ regFormOk (req 1 1 5 (regP 0x40000024 1)) = true ∧ regCount (req 1 1 5 (regP 0x40000024 1)) = 1 ∧
      regFormOk (req 1 1 5 (regP 0x40000024 256)) = true ∧ regFormOk (req 1 1 5 (regP 0x40FFFFFC 2)) = false) ∧
    (serves shaSt 0x10001 2 (regP 0x40000024 1 ++ [0, 0, 0, 0]) = true) ∧
    (refusal shaSt (assoc 0x10001) (req 0x70 1 5 []) = some 0x22 ∧ refusal shaSt { assoc 9 with secure := false } (req 11 1 5 (zeros 8)) = some 9) ∧
    (serves shaSt 0x10001 3 (toBe 4 9 ++ toBe 4 24 ++ toBe 4 16 ++ [0, 8, 0, 0] ++ zeros 8) = true ∧ shaSt.pat.assembly = none ∧ 16 % 8 = 0 ∧ 0 < 16 ∧ 16 + 8 ≤ 24) := by decide +kernel
theorem test_wit_ShalanRequestsAreServedAndAnswered_images :
    (let b := shaSt fun b => { b with nv := { b.nv with staging := [(2, ⟨7, 4, [(0, zeros 64 ++ zeros 64)]⟩)] } }
     serves b 0x10001 4 (toBe 4 7 ++ toBe 4 1 ++ toBe 4 4 ++ [0, 1, 0, 0, 9]) = true ∧ areaOf b 7 = some (2, ⟨7, 4, [(0, zeros 64 ++ zeros 64)]⟩) ∧ areaOf b 8 = none ∧
     (⟨7, 4, [(0, zeros 64 ++ zeros 64)]⟩ : Staging).holds 0 = true ∧ (⟨7, 4, [(0, zeros 64 ++ zeros 64)]⟩ : Staging).holds 1 = false ∧
     (⟨7, 4, [(0, zeros 64 ++ zeros 64)]⟩ : Staging).manHeld = true ∧ (⟨7, 4, [(0, zeros 64 ++ zeros 64)]⟩ : Staging).manPieces ≤ 1) := by decide +kernel
theorem test_wit_ShalanRequestsAreServedAndAnswered_rows :
    (let re := toLe 8 5 ++ zeros 8 ++ [255, 0, 0, 0] ++ zeros 12
     serves shaSt 0x10001 5 ([1, 0] ++ toBe 2 1023 ++ zeros 4 ++ re) = true ∧ u8 re 16 = 255 ∧ schedThreadOk shaSt 255 = true ∧ recordOk (u8 re 18) (u32 re 20) = true ∧
     (schedOf shaSt 1023).owner = .free ∧ schedIdx (req 5 1 5 ([1, 0] ++ toBe 2 1023 ++ zeros 4 ++ re)) = 1023) ∧
    serves shaSt 0x10001 5 ([2, 0] ++ toBe 2 1023 ++ zeros 4) = true ∧ serves shaSt 0x10001 5 ([3, 0] ++ toBe 2 1023 ++ zeros 4) = true ∧
    serves shaSt 0x10001 6 ([0xFF, 0, 0, 0] ++ toBe 4 127) = true ∧ serves shaSt 0x10001 8 ([15, 3] ++ zeros 6 ++ zeros 8) = true ∧
    threadsFrom shaSt 0x48 15 = [254] ∧ threadsFrom shaSt 0x48 14 = [] ∧ serves shaSt 0x10001 11 (toBe 4 0 ++ toBe 2 64 ++ [0, 0]) = true := by decide +kernel
theorem test_wit_ShalanRequestsAreServedAndAnswered_collection :
    (collector shaSt = some 0 ∧ (managedMods shaSt).contains 9 = true ∧ (managedMods shaSt).contains 4 = false) ∧
    ([(6, zeros 4), (7, zeros 28), (8, zeros 16), (9, zeros 32)].all fun x => serves shaSt 9 x.1 x.2 && serves shaSt 4 x.1 x.2) = true := by decide +kernel
def shreq (n : Nat) : ShalReq := ⟨1, req 2 1 5 [], n, 0, none⟩
def host (ok : Bool) (ip : Nat) : Peer := ⟨true, true, 0, 5, 3, true, ok, ip, true⟩
theorem test_wit_AssociationsOpenResendAndClose :
    (coresServe shaSt = true ∧ shaSt.get UPD.STAT.ENROL = 1 ∧ (host true 0).host = true ∧ (host true (pairAddr shaSt)).addr = pairAddr shaSt ∧ holderless shaSt = false ∧ loaded shaSt = true ∧ shaSt.seam.peer = none ∧
      (shaSt.sha.assocs.filter fun a => isHost a.id && decide (a.id ≠ 0x10000 + 3)).length < 8 ∧ queueFor shaSt 0x10003 = []) ∧
    (assocOf shaSt 9 = some (assoc 9) ∧ 300 ≤ sinceS shaSt (assoc 9).lastAt ∧ sinceS (clk (300 * 26000000 - 1) shaSt) (assoc 9).lastAt < 300) ∧
    (let a := { assoc 0x10001 with sent := [shreq 8] }
     a.sent.find? (fun r => decide (r.seq = 1)) = some (shreq 8) ∧ (shreq 8).at_ + msCyc (resendMs (shreq 8).sends) ≤ shaSt.clock.cyc ∧
     (clk 0 shaSt).clock.cyc < (shreq 1).at_ + msCyc (resendMs (shreq 1).sends) ∧ ∀ q ∈ a.sent, q.origin = none) ∧
    (collector shaSt = some 0 ∧ shaSt.sha.got = 0 ∧ shaSt.flag UPD.CHAIN.EN = false) ∧
    (let q : ShalReq := shreq 1
     let b := shaSt fun b => { b with sha := { b.sha with busy := [(0x10001, 0, q)] } }
     b.sha.busy.find? (fun x => decide (x.1 = 0x10001 ∧ x.2.2.seq = 1)) = some (0x10001, 0, q) ∧ 0 + msCyc 1000 ≤ b.clock.cyc ∧
     queueFull b 0x10001 = false) ∧
    (let b := (shaSt fun b => b.put UPD.STAT.ENROL 0)
     b.get UPD.STAT.ENROL = 0 ∧ ((b.sha.assocs.filter fun a => isHost a.id && decide (a.id ≠ 0x10000 + 3)).length < 8)) ∧
    (msgFlags ([1, 3, 0, 0] ++ toBe 4 1 ++ [0, 9, 0, 0, 1, 0x11, 0, 0]) % 2 = 1 ∧
      msgStatus ([1, 3, 0, 0] ++ toBe 4 1 ++ [0, 9, 0, 0, 1, 0x11, 0, 0]) = 0x11) := by decide +kernel

/-- GIO runs on a holder with a pattern; input 7 has this MODE and FUNC and reads state `x`; relay 3 takes thread 255. -/
def gioSt (mode func x : Nat) (f : Body → Body := id) : Body :=
  (run fun b => f ((((((((((role 2 (clk (10 ^ 9) (pat [secThreads [(255, 0x44, 0, 63, 0)]] b))).mark GIO.CTL.RUN true).put GIO.DI_CFG.MODE mode 7).put
    GIO.DI_CFG.FUNC func 7).put GIO.DI_CFG.THREAD 255 7).put GIO.DI_STAT.STATE (x * 2 ^ 21)).put GIO.REL_CFG.SOURCE 1 3).put
    GIO.REL_CFG.THREAD 255 3).put GIO.DI_TMO.TIMEOUT_S 1 7).put GIO.DI_CFG.FILTER_MS 2 7)).body
def relEv (p : Nat) : Ev := ⟨p, 0, 255, false, 3, 0⟩
theorem test_wit_InputsAndRelaysFollowTheirRules :
    (let b := gioSt 1 0 0
     b.get GIO.DI_CFG.MODE 7 = 1 ∧ b.get GIO.DI_CFG.FUNC 7 = 0 ∧ diState b 7 = 0 ∧ gioRun b = true ∧ acting b = true ∧ threadSrc b 255 = some (0x44, 0) ∧
     b.flag GIO.DI_STAT.V24_FAULT = false ∧ b.gio.relHeld = [] ∧ b.get GIO.DI_CFG.FILTER_MS 7 = 2 ∧
     diTaken b 7 [⟨15000, 0⟩, ⟨24000, 0⟩] = some 1 ∧ diTaken b 7 [⟨24000, 0⟩, ⟨5000, 0⟩, ⟨0, 0⟩] = some 0 ∧
     diTaken b 7 [⟨5001, 0⟩, ⟨14999, 0⟩] = some 0 ∧ diTaken b 7 [⟨24000, 0⟩] = none) ∧
    (let b := gioSt 2 0 0
     diTaken b 7 [⟨2399, 24000⟩, ⟨0, 24000⟩] = some 2 ∧ diTaken b 7 [⟨6000, 24000⟩, ⟨12000, 24000⟩] = some 0 ∧
     diTaken b 7 [⟨19200, 24000⟩, ⟨22320, 24000⟩] = some 1 ∧ diTaken b 7 [⟨23041, 24000⟩, ⟨24000, 24000⟩] = some 3 ∧
     diTaken b 7 [⟨15000, 24000⟩, ⟨23000, 24000⟩] = some 4) ∧ (gioSt 1 1 0).get GIO.DI_CFG.FUNC 7 = 1 ∧
    (let b := gioSt 2 0 1
     b.get GIO.DI_CFG.MODE 7 = 2 ∧ diState b 7 = 1 ∧ b.get GIO.DI_TMO.TIMEOUT_S 7 ≠ 0 ∧ (diRec b 7).timed = false) ∧
    (let b := gioSt 1 0 0 fun b => { b with gio := { b.gio with inbox := [(1, relEv 0x88)] } }
     takePort 1 b.gio.inbox = some (relEv 0x88, []) ∧ 0x88 / 256 = 0 ∧ 256 / 256 ≠ 0 ∧ acting b = true ∧ loaded b = true ∧ inHem b = false ∧ b.gio.relAt = []) := by decide +kernel
theorem test_wit_InputsAndRelaysFollowTheirRules_held :
    (let b := gioSt 1 0 0 fun b => { b.put GIO.REL_CFG.SOURCE 0 3 with gio := { b.gio with relAt := [(3, some (10 ^ 9 - msCyc 100 + 1))], relHeld := [(3, true)] } }
     b.get GIO.REL_CFG.SOURCE 3 = 0 ∧ tabGet (fun _ => none) b.gio.relAt 3 = some (10 ^ 9 - msCyc 100 + 1) ∧ b.clock.cyc - (10 ^ 9 - msCyc 100 + 1) < msCyc 100 ∧
     decide (8 / 2 ^ 3 % 2 = 1) ≠ b.bit GIO.REL_STAT.STATE 3 ∧ b.gio.relHeld = [(3, true)] ∧ relayClosed b 3 = false ∧ relayClosed b 3 ≠ true) := by decide +kernel
/-- The relay named by an event of its thread closes; SOURCE and THREAD decide. -/
theorem test_relay : (after .relay ⟨gioSt 1 0 0 fun b => { b with gio := { b.gio with inbox := [(1, relEv 0x88)] } }, []⟩).body.pins.relays =
    [false, false, false, true] := by decide +kernel
/-- A lit sign of 16 rows and 64 columns with an event waiting. -/
def signSt (tag p : Nat) (f : Body → Body := id) : Body := gioSt 1 0 0 fun b =>
  f { ((b.put GIO.SIGN_CFG.ROWS 16).put GIO.SIGN_CFG.COLS 64).mark GIO.CTL.SIGN_EN true with gio := { b.gio with inbox := [(0, ⟨p, tag, 7, false, 3, 0⟩)] } }
theorem test_wit_SignShowsWhatWasCommitted :
    (let p := 15 + 58 * 16 + 255 * 2 ^ 56
     takePort 0 (signSt 0 p).gio.inbox = some (⟨p, 0, 7, false, 3, 0⟩, []) ∧ bits p 10 6 = 0 ∧ bits p 0 4 < signRows (signSt 0 p) ∧
     bits p 4 6 + 5 < signCols (signSt 0 p) ∧ gioRun (signSt 0 p) = true ∧ signOn (signSt 0 p) = true ∧ signRows (signSt 0 p) ≠ 0) ∧
    (let p := 15 * 16 + 63 * 2 ^ 14 + 9 * 2 ^ 20
     bits p 28 36 = 0 ∧ bits p 0 4 ≤ 15 ∧ 15 ≤ bits p 4 4 ∧ bits p 8 6 ≤ 63 ∧ 63 ≤ bits p 14 6 ∧ 15 < signRows (signSt 1 p)) ∧
    (signSt 2 0).gio.portOff = false ∧ signOn (gioSt 1 0 0) = false ∧ gioRun (run id).body = false ∧
    (let b := signSt 0 0 fun b => { b with gio := { b.gio with portOff := true, lostRun := 2 } }
     b.gio.portOff = true ∧ b.gio.latched = false ∧ 2 ≤ b.gio.lostRun) := by decide +kernel

/-! ### The whole machine -/

theorem test_wit_AStepRunsTheFrontCommand : (run id).pending = [] ∧ mainPower (run id).body = true := by decide +kernel
theorem test_wit_EveryStepKeepsThePinsTrue : State.reset.body.pins = pinsOf State.reset.body ∧
    ∃ t, step State.reset = .next t := by
  exact ⟨by decide +kernel, _, rfl⟩
theorem test_wit_TileInstructionsReadBackAsWritten : TileInstr.wf (.emit 63 63 15 255) ∧
    decodeTile (encodeTile (.emit 63 63 15 255)) = some (.emit 63 63 15 255) :=
  ⟨⟨by decide, by decide, by decide, by decide⟩, by decide⟩

/-! ### Well-formedness: each check refuses an ill-formed command and admits the largest well-formed one -/
theorem test_wf_refuses_0 : ([.colourSensorRead (some [256]), .scheduledWake 5 false, .patternPiece 0 [256], .modeWrite (2 ^ 32) false,
    .registerWrite ⟨2 ^ 32, 32, 0, false, 0, 0, .other⟩, .registerWrite ⟨0, 24, 0, false, 0, 0, .other⟩,
    .registerWrite ⟨0, 32, 2 ^ 64, false, 0, 0, .other⟩, .registerWrite ⟨0, 32, 0, false, 4, 0, .other⟩,
    .counterReadClear ⟨2 ^ 32, 32, 0, false, 0, 0, .other⟩, .counterReadClear ⟨0, 24, 0, false, 0, 0, .other⟩,
    .counterReadClear ⟨0, 32, 2 ^ 64, false, 0, 0, .other⟩, .counterReadClear ⟨0, 32, 0, false, 4, 0, .other⟩, .tileActivation 64, .tNop 64,
    .tHalt 64, .tMovi 64, .tMovh 64, .tAdd 64, .tSub 64, .tAddi 64, .tMul 64, .tMulh 64, .tMulhu 64, .tAnd 64, .tOr 64,
    .tXor 64, .tAndi 64, .tOri 64, .tXori 64, .tShl 64, .tShr 64, .tSar 64, .tShli 64, .tShri 64, .tSari 64, .tMin 64,
    .tMax 64, .tMinu 64, .tMaxu 64, .tClamp 64, .tSeq 64, .tSlt 64, .tSltu 64, .tSlti 64, .tBz 64, .tBnz 64, .tJmp 64,
    .tLd 64] :
    List Instr).all (fun i => !i.wf) = true := by decide +kernel
theorem test_wf_refuses_1 : ([.tSt 64, .tCerd 64, .tCewr 64, .tEmit 64, .tTime 64, .tSarm 64, .tScan 64, .tTset 64, .tSel 64, .tIllegal 64,
    .tPcRange 64, .tileTimer 64 0, .tileTimer 0 4, .schedArm 1024, .schedCancel 1024, .tileReset 64, .tileEnable 64 false,
    .tileCodeWrite 64 0 0, .tileCodeWrite 0 1024 0, .tileCodeWrite 0 0 (2 ^ 32), .lvlTgtWrite 512 0,
    .lvlTgtWrite 0 (2 ^ 32), .safeLvlWrite 512 0, .safeLvlWrite 0 (2 ^ 32), .laExpiry 512, .overrideTimeout 512,
    .channelRefresh 512, .stretch 512, .reportStale 512, .verifyExpired 512, .presenceHoldExpiry 2560, .sensorStuck 2560,
    .trackDrop 256, .announce 3 0 ⟨0, 0, 0, 0, 0, 0, 0, 0, 0, 0, false, false, false, true⟩, .syncSend 3, .txTimestamp 3 0 0,
    .txqPop 3, .txqEntryStale 3, .cellTest 4096, .cellTestCmd 4096, .beaconStitch 5 0, .downStitchWakePoint 5,
    .downStitch 5 0 0, .downStitch 0 256 0, .frameReceived 0 0 0 [256], .frameReceived 5 0 0 [],
    .keyWrite 0 0 (2 ^ 32), .keyWrite 4 0 0] :
    List Instr).all (fun i => !i.wf) = true := by decide +kernel
theorem test_wf_refuses_2 : ([.keyWrite 0 4 0, .keyArm 4, .hopQuery 5 0, .hopQuery 0 256, .harnessChange 2 false, .attributionSolve 24,
    .enqueue 0 [256] false, .enqueue 32 [] false, .dequeue 32 false, .qPop 32 false, .alloc 32 false, .pushCommit 32 false, .pushAbort 32 false,
    .qRel 32 0 false, .qRel 0 16384 false, .flush 32 false, .swap 32 false, .dropFill 32 false, .queueTimeout 32, .qLimWrite 0 (2 ^ 32), .qLimWrite 32 0,
    .qCfgWrite 0 (2 ^ 32), .qCfgWrite 32 0, .swFrameReceive 0 [256] false, .swFrameReceive 3 [] false, .cpuFrameTransmit 3,
    .linkLoss 3, .holdoffExpiry 2, .linkUp 3 false, .sfpInsert 2 false, .sfpRemove 2,
    .rapsReceived ⟨2, 0, false, false, 0, 0, 0, 0, 0⟩, .rapsReceived ⟨0, 16, false, false, 0, 0, 0, 0, 0⟩,
    .rapsReceived ⟨0, 0, false, false, 2, 0, 0, 0, 0⟩, .forcedSwitch 2, .manualSwitch 2, .fdbAgeing (2 ^ 48),
    .scrubRead 6 [] none .other, .scrubRead 0 [3] none .other, .scrubRead 2 (zeros 9) none .other, .bucketLeak 6, .injectArm (2 ^ 32), .imagePiece 0 [256],
    .abort 8, .ncActArm (2 ^ 32), .grant ⟨0, 0, 2, 0, 0, 0, 0, 0, 0, 0, 0⟩, .grant ⟨0, 0x4000, 0, 0, 0, 0, 0, 0, 0, 0, 0⟩,
    .refuse ⟨0, 0, 2, 0, 0, 0, 0, 0, 0, 0, 0⟩, .refuse ⟨0, 0x4000, 0, 0, 0, 0, 0, 0, 0, 0, 0⟩] :
    List Instr).all (fun i => !i.wf) = true := by decide +kernel
theorem test_wf_refuses_3 : ([.renew ⟨0, 0, 2, 0, 0, 0, 0, 0, 0, 0, 0⟩, .renew ⟨0, 0x4000, 0, 0, 0, 0, 0, 0, 0, 0, 0⟩,
    .acquire ⟨0, 0, 2, 0, 0, 0, 0, 0, 0, 0, 0⟩, .acquire ⟨0, 0x4000, 0, 0, 0, 0, 0, 0, 0, 0, 0⟩,
    .release ⟨0, 0, 2, 0, 0, 0, 0, 0, 0, 0, 0⟩ none, .release ⟨0, 0x4000, 0, 0, 0, 0, 0, 0, 0, 0, 0⟩ none,
    .health ⟨0, 0, 2, 0, 0, 0, 0, 0, 0, 0, 0⟩, .health ⟨0, 0x4000, 0, 0, 0, 0, 0, 0, 0, 0, 0⟩, .witnessHeldGrant 0x4000,
    .dtlsHandshake ⟨true, true, 0x4000, 0, 0, false, true, 0, true⟩, .dtlsHandshake ⟨true, true, 0, 2 ^ 128, 0, false, true, 0, true⟩,
    .neighborAdvertisement 2 0 0, .neighborAdvertisement 0 0 (2 ^ 48), .shalanAnswer 0 [256], .regRead 0 [256],
    .regWrite 0 [256], .scheduleArm 0 [256], .scheduleCancel 0 [256], .scheduleRead 0 [256], .report 0 [256],
    .subscribe 0 [256], .meterRecord 0 [256], .event 0 [256], .timeNote 0 [256], .blackboxRead 0 [256],
    .diFilteredEdge 8 [⟨0, 0⟩], .diTimeout 8, .hostRelayWrite (2 ^ 32), .relayHoldEnd 4, .relayCoil 4 false,
    .rowStretch [(64, 0)], .sliceStart 80, .sliceComplete 80 false false, .heldClear (2 ^ 32) false, .bbSel (2 ^ 32),
    .announceSend 3] :
    List Instr).all (fun i => !i.wf) = true := by decide +kernel
theorem test_wf_admits_0 : ([.colourSensorRead (some [255]), .scheduledWake (5 - 1) false, .patternPiece 0 [255], .modeWrite (2 ^ 32 - 1) false,
    .registerWrite ⟨2 ^ 32 - 1, 64, 2 ^ 64 - 1, true, 3, 0, .other⟩, .counterReadClear ⟨2 ^ 32 - 1, 64, 2 ^ 64 - 1, true, 3, 0, .other⟩,
    .tileActivation (64 - 1), .tNop (64 - 1), .tHalt (64 - 1), .tMovi (64 - 1), .tMovh (64 - 1), .tAdd (64 - 1),
    .tSub (64 - 1), .tAddi (64 - 1), .tMul (64 - 1), .tMulh (64 - 1), .tMulhu (64 - 1), .tAnd (64 - 1), .tOr (64 - 1),
    .tXor (64 - 1), .tAndi (64 - 1), .tOri (64 - 1), .tXori (64 - 1), .tShl (64 - 1), .tShr (64 - 1), .tSar (64 - 1),
    .tShli (64 - 1), .tShri (64 - 1), .tSari (64 - 1), .tMin (64 - 1), .tMax (64 - 1), .tMinu (64 - 1), .tMaxu (64 - 1),
    .tClamp (64 - 1), .tSeq (64 - 1), .tSlt (64 - 1), .tSltu (64 - 1), .tSlti (64 - 1), .tBz (64 - 1), .tBnz (64 - 1),
    .tJmp (64 - 1), .tLd (64 - 1), .tSt (64 - 1), .tCerd (64 - 1), .tCewr (64 - 1), .tEmit (64 - 1), .tTime (64 - 1),
    .tSarm (64 - 1)] :
    List Instr).all Instr.wf = true := by decide +kernel
theorem test_wf_admits_1 : ([.tScan (64 - 1), .tTset (64 - 1), .tSel (64 - 1), .tIllegal (64 - 1), .tPcRange (64 - 1), .tileTimer (64 - 1) 0,
    .tileTimer 0 (4 - 1), .schedArm (1024 - 1), .schedCancel (1024 - 1), .tileReset (64 - 1), .tileEnable (64 - 1) false,
    .tileCodeWrite (64 - 1) 0 0, .tileCodeWrite 0 (1024 - 1) 0, .tileCodeWrite 0 0 (2 ^ 32 - 1), .lvlTgtWrite (512 - 1) 0,
    .lvlTgtWrite 0 (2 ^ 32 - 1), .safeLvlWrite (512 - 1) 0, .safeLvlWrite 0 (2 ^ 32 - 1), .laExpiry (512 - 1),
    .overrideTimeout (512 - 1), .channelRefresh (512 - 1), .stretch (512 - 1), .reportStale (512 - 1),
    .verifyExpired (512 - 1), .presenceHoldExpiry (2560 - 1), .sensorStuck (2560 - 1), .trackDrop (256 - 1),
    .announce (3 - 1) 0 ⟨0, 0, 0, 0, 0, 0, 0, 0, 0, 0, false, false, false, true⟩, .syncSend (3 - 1), .txTimestamp (3 - 1) 0 0,
    .txqPop (3 - 1), .txqEntryStale (3 - 1), .cellTest (4096 - 1), .cellTestCmd (4096 - 1), .beaconStitch (5 - 1) 0,
    .downStitchWakePoint (5 - 1), .downStitch (5 - 1) 0 0, .downStitch 0 (256 - 1) 0, .frameReceived 0 0 0 [255],
    .frameReceived (5 - 1) 0 0 [], .keyWrite 0 0 (2 ^ 32 - 1), .keyWrite (4 - 1) 0 0, .keyWrite 0 (4 - 1) 0,
    .keyArm (4 - 1), .hopQuery (5 - 1) 0, .hopQuery 0 (256 - 1), .harnessChange (2 - 1) false, .attributionSolve (24 - 1)] :
    List Instr).all Instr.wf = true := by decide +kernel
theorem test_wf_admits_2 : ([.enqueue 0 [255] false, .enqueue (32 - 1) [] false, .dequeue (32 - 1) false, .qPop (32 - 1) false, .alloc (32 - 1) false,
    .pushCommit (32 - 1) false, .pushAbort (32 - 1) false, .qRel (32 - 1) 0 false, .qRel 0 (16384 - 1) false, .flush (32 - 1) false, .swap (32 - 1) false,
    .dropFill (32 - 1) false, .queueTimeout (32 - 1), .qLimWrite 0 (2 ^ 32 - 1), .qLimWrite (32 - 1) 0,
    .qCfgWrite 0 (2 ^ 32 - 1), .qCfgWrite (32 - 1) 0, .swFrameReceive 0 [255] false, .swFrameReceive (3 - 1) [] false,
    .cpuFrameTransmit (3 - 1), .linkLoss (3 - 1), .holdoffExpiry (2 - 1), .linkUp (3 - 1) false, .sfpInsert (2 - 1) false,
    .sfpRemove (2 - 1), .rapsReceived ⟨2 - 1, 0, false, false, 0, 0, 0, 0, 0⟩,
    .rapsReceived ⟨0, 16 - 1, false, false, 0, 0, 0, 0, 0⟩, .rapsReceived ⟨0, 0, false, false, 2 - 1, 0, 0, 0, 0⟩,
    .forcedSwitch (2 - 1), .manualSwitch (2 - 1), .fdbAgeing (2 ^ 48 - 1), .scrubRead (6 - 1) [] none .other,
    .scrubRead 0 [3 - 1] none .other, .scrubRead 2 (zeros 8) none .other, .bucketLeak (6 - 1), .injectArm (2 ^ 32 - 1), .imagePiece 0 [255], .abort (8 - 1),
    .ncActArm (2 ^ 32 - 1), .grant ⟨0, 0, 2 - 1, 0, 0, 0, 0, 0, 0, 0, 0⟩,
    .grant ⟨0, 0x4000 - 1, 0, 0, 0, 0, 0, 0, 0, 0, 0⟩, .refuse ⟨0, 0, 2 - 1, 0, 0, 0, 0, 0, 0, 0, 0⟩,
    .refuse ⟨0, 0x4000 - 1, 0, 0, 0, 0, 0, 0, 0, 0, 0⟩, .renew ⟨0, 0, 2 - 1, 0, 0, 0, 0, 0, 0, 0, 0⟩,
    .renew ⟨0, 0x4000 - 1, 0, 0, 0, 0, 0, 0, 0, 0, 0⟩, .acquire ⟨0, 0, 2 - 1, 0, 0, 0, 0, 0, 0, 0, 0⟩,
    .acquire ⟨0, 0x4000 - 1, 0, 0, 0, 0, 0, 0, 0, 0, 0⟩, .release ⟨0, 0, 2 - 1, 0, 0, 0, 0, 0, 0, 0, 0⟩ none,
    .release ⟨0, 0x4000 - 1, 0, 0, 0, 0, 0, 0, 0, 0, 0⟩ none] :
    List Instr).all Instr.wf = true := by decide +kernel
theorem test_wf_admits_3 : ([.health ⟨0, 0, 2 - 1, 0, 0, 0, 0, 0, 0, 0, 0⟩, .health ⟨0, 0x4000 - 1, 0, 0, 0, 0, 0, 0, 0, 0, 0⟩,
    .witnessHeldGrant (0x4000 - 1), .dtlsHandshake ⟨true, true, 0x4000 - 1, 0, 0, false, true, 0, true⟩,
    .dtlsHandshake ⟨true, true, 0, 2 ^ 128 - 1, 0, false, true, 0, true⟩, .neighborAdvertisement (2 - 1) 0 0,
    .neighborAdvertisement 0 0 (2 ^ 48 - 1), .shalanAnswer 0 [255], .regRead 0 [255], .regWrite 0 [255],
    .scheduleArm 0 [255], .scheduleCancel 0 [255], .scheduleRead 0 [255], .report 0 [255], .subscribe 0 [255],
    .meterRecord 0 [255], .event 0 [255], .timeNote 0 [255], .blackboxRead 0 [255], .diFilteredEdge (8 - 1) [⟨0, 0⟩],
    .diTimeout (8 - 1), .hostRelayWrite (2 ^ 32 - 1), .relayHoldEnd (4 - 1),
    .relayCoil (4 - 1) false, .rowStretch [(63, 0)], .sliceStart (80 - 1), .sliceComplete (80 - 1) false false,
    .heldClear (2 ^ 32 - 1) false, .bbSel (2 ^ 32 - 1), .announceSend (3 - 1)] :
    List Instr).all Instr.wf = true := by decide +kernel

/-! ### Worked examples of the manual, and published vectors of the algorithms it names -/

/-- Chapter "Scope": channel 41 of worker 657 in NET 3 has address 0x0C29102A, sent as 2A 10 29 0C; its CE.LVL_TGT stands at
0x40700390. -/
theorem test_ex_address :
    toLe 4 (ownAddr (pat [⟨sHIERARCHY, 0, [3, 0] ++ toLe 2 657 ++ zeros 28⟩] Body.reset) + 42) = [0x2A, 0x10, 0x29, 0x0C] ∧
    CE.LVL_TGT.word.at 41 0 = 0x40700390 := by decide +kernel
/-- Chapter "Loom": the ten words of the evening rule. -/
theorem test_ex_rule_words : [0x344040FF, 0x50504008, 0x3451400F, 0x5060800F, 0x34618001, 0x7C600007, 0x08500000, 0x94512002,
    0x94012000, 0x04000000].map decodeTile = ([.alui .andi 4 1 0xFF, .alui .shri 5 1 8, .alui .andi 5 5 15, .alui .shri 6 2 15,
    .alui .andi 6 6 1, .bz 6 7, .movi 5 0, .cewr 5 4 true 2, .cewr 0 4 true 0, .halt] : List TileInstr).map some := by decide +kernel
/-- Chapter "Channels": 52,428 ahead of rule 32,768, through daylight, budget and derating, gives LVL_OUT 28,835 with SRC 5. -/
def exLvl : State := ⟨ceSt fun b => (((((((pat [secStruct 2 0, ⟨sCHANNELS, 0, zeros (72 + 20) ++ [0, 0, 0, 0, 120, 0] ++ zeros 14⟩] b).put
    CE.LVL_TGT.RULE_LVL 32768 1).put CE.CCT_FLR.RULE_FLOOR 6554 1).put CE.OUT.LA_LVL 52428 1).put CE.DL.DL_FACTOR 49152 1).put
    CE.BUDGET.FACTOR 58982 1).put CE.DERATE.FACTOR 52429 1), []⟩
theorem test_ex_composition : (after .composition exLvl).body.get CE.OUT.LVL_OUT 1 = 28835 ∧
    (after .composition exLvl).body.get CE.CH_STAT.SRC 1 = 5 ∧ (derateFactor 91 85 100 false).1 = 52429 := by decide +kernel
/-- Chapter "Occupancy": track 17 at channel 202 from 201, VQ 640; presence at 203 after 104,858 units. -/
def exGraph : Sect := ⟨sGRAPH, 0, [212 % 256, 0, 0, 0] ++ zeros (24 * 200) ++ (List.range 12).flatMap fun k =>
  toLe 2 (if k = 0 then 0xFFFF else 199 + k) ++ toLe 2 (if k = 11 then 0xFFFF else 201 + k) ++ List.replicate 12 255 ++
  [if k = 0 then 0 else 60, if k = 11 then 0 else 60] ++ zeros 6⟩
def exT : Nat := 1000 * 65536
def exOcc : Body := setTrack (pat [secStruct 212 0, exGraph] (role 2 (net (1000 * 10 ^ 9 + 3 * 10 ^ 6) (clk (10 ^ 11) Body.reset)))) 17
  ⟨true, 202, 201, exT - 104858, 640, 2, 9, 5, 2⟩
theorem test_ex_track_speed : (trackOf (associate 17 203 exT exOcc) 17).vq = 629 ∧ (trackOf (associate 17 203 exT exOcc) 17).node = 203 ∧
    (trackOf (associate 17 203 exT exOcc) 17).cls = 2 ∧ bestTrack exOcc 203 exT = some 17 ∧ residual exOcc 17 203 exT = some 6554 := by decide +kernel
/-- The walk of the same example: channels 204 to 208 with their travel times; 209 lies beyond the horizon. -/
theorem test_ex_walk : walk exOcc 629 8000 32 [203] [(203, 202, 0)] = [(204, 1526), (205, 3052), (206, 4578), (207, 6104), (208, 7631)] := by decide +kernel
/-- Chapter "Time": A and AIRTIME48 of 1,750,000,000.5 s and its bytes on the air. -/
theorem test_ex_airtime : airOfNs 1750000000500000000 = 114688000032768 ∧
    toLe 6 (airOfNs 1750000000500000000) = [0x00, 0x80, 0x80, 0xE1, 0x4E, 0x68] := by decide +kernel
/-- The seed after 75,077,216 ticks at +8,000 ppb: 2,291.1931341 s. -/
theorem test_ex_seed : (rtcSeed { (seeded.put TB.LIMITS.SEED_MIN 1440) with aon := { seeded.aon with raw := 75077216, corr := some (0, 0, 8192000) } }).map
    (fun t => (t + 50) / 100) = some 22911931341 := by decide +kernel
/-- Chapter "Attribution": the residual of 31,500 µWh is shared as 11,800, 9,600 and 10,100. -/
theorem test_ex_shares : shares [(40, 590000), (41, 480000), (42, 505000)] 1575000 31500 = [(40, 601800), (41, 489600), (42, 515100)] := by decide +kernel
/-- Chapter "Memory integrity": the word at 0x20345678 found twice is row 555 of bank 3, a log entry of KIND 2. -/
def exHard : State := run fun b => { b.put MEMI.PASS.COUNT 1 1 with memi := { b.memi with suspects := [(1, 0x20345678, 0)] } }
theorem test_ex_row : logKey (logAt (correction 1 0x20345678 true exHard.body) 0) = (2, 3 + 256 * 555) ∧
    (correction 1 0x20345678 true exHard.body).get SAFE.ERR.CODE 0 = 0x0B02 := by decide +kernel
/-- Chapter "AON": at A − 22,938 a delta of 39,322 takes TICK to A + 16,385; the alarms at A and A + 8,192 fire with LATE. -/
def exAlarm : State := run fun b => { ((((b.mark AON.STAT.LFXO_RUN true).mark AON.ALM_CTL.ARM true 2).put AON.ALM_LO.VALUE 1000000 2).mark
  AON.ALM_CTL.ARM true 3).put AON.ALM_LO.VALUE 1008192 3 with aon := { b.aon with tick := 1000000 - 22938, pend := some 39322 } }
theorem test_ex_alarms : (after .tickDelta exAlarm).body.aon.tick = 1000000 + 16385 ∧
    [2, 3].all (fun i => (after .tickDelta exAlarm).body.flag AON.ALM_CTL.LATE i && !(after .tickDelta exAlarm).body.flag AON.ALM_CTL.ARM i) = true := by decide +kernel
/-- Chapter "Hierarchy": the header of the host's REG_READ, which fails as CE is secure: STATUS 0x21 and no words. -/
def exRead : List Nat := [0x01, 0x01, 0x00, 0x08, 0x00, 0x00, 0x00, 0x01, 0xFF, 0xFF, 0x02, 0x91, 0x00, 0x00, 0x00, 0x00,
  0x40, 0x70, 0x03, 0x90, 0x00, 0x01, 0x00, 0x00]
def exHost : State := ⟨{ (pat [secHier 657] shaSt) with sha := { shaSt.sha with assocs := [{ assoc 0x10001 with secure := false }] } }, []⟩
theorem test_ex_reg_read : ((after (.regRead 0x10001 exRead) exHost).body.out.getLast?.map fun e => match e with
    | .shalan _ m => (msgStatus m, msgBody m)
    | _ => (0, [])) = some (0x21, [0x40, 0x70, 0x03, 0x90, 0x00, 0x01, 0x00, 0x00]) := by decide +kernel
/-- Chapter "Sign": 16 rows, G 19,660: value 255 is lit for 7,587 cycles and value 16 for 476. -/
def exSign : Body := ((((run id).body.put GIO.SIGN_CFG.ROWS 16).put GIO.SIGN_FACT.G 19660).put GIO.SIGN_TRIM.TRIM 0x404040).put GIO.FB_FRONT.PIX 0x10FF 0 0
theorem test_ex_on_time : tAct exSign = 25291 ∧ onTime exSign 0 0 = 7587 ∧ onTime exSign 0 1 = 476 := by decide +kernel
/-- Chapter "Self-test": a MAJOR error after a MINOR one exchanges the slots with PREEMPTED. -/
theorem test_ex_exchange : let b := raise 0x0A01 3 0 (raise 0x0B01 1 0 (run id).body)
    b.get SAFE.ERR.CODE 0 = 0x0A01 ∧ b.flag SAFE.ERR.PREEMPTED 0 = true ∧ b.get SAFE.ERR.CODE 1 = 0x0B01 := by decide +kernel
/-- Chapter "Queues": the 22 other queues' reserves hold back 964 cells when 300 are held inside them. -/
theorem test_ex_reserves : (((List.range 32).filter fun q => q ∉ [5, 6, 7, 8, 9, 13, 15, 27, 28, 29]).map fun q =>
    (run id).body.get QM.Q_LIM.RESERVE q).sum = 1264 := by decide +kernel

/-- FIPS 197, Appendix B. -/
theorem test_aes128 : aes128 [0x2b, 0x7e, 0x15, 0x16, 0x28, 0xae, 0xd2, 0xa6, 0xab, 0xf7, 0x15, 0x88, 0x09, 0xcf, 0x4f, 0x3c]
    [0x32, 0x43, 0xf6, 0xa8, 0x88, 0x5a, 0x30, 0x8d, 0x31, 0x31, 0x98, 0xa2, 0xe0, 0x37, 0x07, 0x34] =
    [0x39, 0x25, 0x84, 0x1d, 0x02, 0xdc, 0x09, 0xfb, 0xdc, 0x11, 0x85, 0x97, 0x19, 0x6a, 0x0b, 0x32] := by decide +kernel
/-- FIPS 180-4: the digest of "abc". -/
theorem test_sha384 : beNat (sha384 [0x61, 0x62, 0x63]) =
    0xcb00753f45a35e8bb5a03d699ac65007272c32ab0eded1631a8b605a43ff5bed8086072ba1e7cc2358baeca134c825a7 := by decide +kernel
/-- The usual check values over "123456789". -/
theorem test_crc : crc16 ((List.range 9).map (· + 0x31)) = 0x29B1 ∧ crc32 ((List.range 9).map (· + 0x31)) = 0xCBF43926 := by decide +kernel

end Sys2Proof.Tests
end

section
/-! SUPPORT. Scope: what the error manager may write beside the record it offers (R570, R572, R582), and that an error of any
severity leaves memory as it was. -/

namespace Sys2Proof

open Machine

/-! ### Frames of the register table -/

theorem RegsKept.refl {p : Nat → Prop} (b : Body) : RegsKept p b b := fun _ _ => rfl

theorem RegsKept.trans {p : Nat → Prop} {b c e : Body} (h : RegsKept p b c) (g : RegsKept p c e) : RegsKept p b e :=
  fun a ha => (g a ha).trans (h a ha)

theorem RegsKept.of_regs {p : Nat → Prop} {b c : Body} (h : c.regs = b.regs) : RegsKept p b c :=
  fun a _ => Body.word_congr h a

theorem RegsKept.setWord {p : Nat → Prop} {a : Nat} (ha : p a) (b : Body) (v : Word) : RegsKept p b (b.setWord a v) :=
  fun _ hq => Body.word_setWord_other _ _ fun e => hq (e ▸ ha)

end Sys2Proof

namespace Sys2Proof.Machine

/-- What each element's step keeps, a pass over all of them keeps. -/
theorem Body.each_keeps {α : Type} {P : Body → Prop} {f : Body → α → Body} (h : ∀ x b, P b → P (f b x)) (l : List α)
    {b : Body} (hb : P b) : P (b.each l f) := by
  unfold Body.each
  induction l generalizing b with
  | nil => exact hb
  | cons x t ih => exact ih (h x b hb)

theorem Body.each_mem {α : Type} {f : Body → α → Body} (h : ∀ x b, (f b x).mem = b.mem) (l : List α) (b : Body) :
    (b.each l f).mem = b.mem :=
  Body.each_keeps (P := fun c => c.mem = b.mem) (fun x c hc => (h x c).trans hc) l rfl

/-! ### What the error manager writes -/

/-- The registers that placing an error may write: the two slots, ERR_OVF, HELD and BB_LOST. -/
abbrev errorReg (a : Nat) : Prop := (0x40D00010 ≤ a ∧ a ≤ 0x40D0003C) ∨ a = 0x40D00058

/-- From `b` to `c` memory stands, and every register but those of the error manager. -/
def ErrorFrame (b c : Body) : Prop := c.mem = b.mem ∧ RegsKept errorReg b c

theorem ErrorFrame.refl (b : Body) : ErrorFrame b b := ⟨rfl, RegsKept.refl b⟩

theorem ErrorFrame.trans {b c e : Body} (h : ErrorFrame b c) (g : ErrorFrame c e) : ErrorFrame b e :=
  ⟨g.1.trans h.1, h.2.trans g.2⟩

theorem ErrorFrame.put {f : Fld} {i j : Nat} (hf : errorReg (f.at i j)) (b : Body) (v : Nat) : ErrorFrame b (b.put f v i j) :=
  ⟨rfl, RegsKept.setWord hf _ _⟩

theorem ErrorFrame.of_regs {b c : Body} (hm : c.mem = b.mem) (hr : c.regs = b.regs) : ErrorFrame b c :=
  ⟨hm, RegsKept.of_regs hr⟩

/-- What SAFE holds beside its registers is none of the frame's concern. -/
theorem ErrorFrame.safe (b : Body) (x : Safe) : ErrorFrame b { b with safe := x } := .of_regs rfl rfl

theorem bbOffer_frame (need code b6 : Nat) (ns : Bool) (a0 a1 : Nat) (b : Body) :
    ErrorFrame b (bbOffer need code b6 ns a0 a1 b).1 := by
  unfold bbOffer
  split
  · exact .of_regs rfl rfl
  · split
    · exact .of_regs rfl rfl
    · exact (ErrorFrame.put (f := SAFE.BB_LOST.COUNT) (.inr rfl) b _).trans (.of_regs rfl rfl)

theorem record_frame (code a0 a1 : Nat) (b : Body) : ErrorFrame b (record code a0 a1 b) := bbOffer_frame _ _ _ _ _ _ _

/-- The four registers of a slot, written in turn. -/
theorem slotPuts_frame {s : Nat} (hs : s < 2) (w a0 a1 seq : Nat) (b : Body) :
    ErrorFrame b ((((b.put SAFE.ERR.word w s).put SAFE.ERR_ARG0.VALUE a0 s).put SAFE.ERR_ARG1.VALUE a1 s).put
      SAFE.ERR_SEQ.VALUE seq s) := by
  have hin : ∀ f : Fld, 0x40D00010 ≤ f.addr → f.addr ≤ 0x40D0001C → f.s1 = 0x10 → f.s2 = 0 → errorReg (f.at s 0) := by
    intro f hlo hhi h1 h2
    left
    simp only [Fld.at, h1, h2]
    omega
  exact (((ErrorFrame.put (hin _ (by decide) (by decide) rfl rfl) _ _).trans
    (.put (hin _ (by decide) (by decide) rfl rfl) _ _)).trans
    (.put (hin _ (by decide) (by decide) rfl rfl) _ _)).trans (.put (hin _ (by decide) (by decide) rfl rfl) _ _)

theorem setSlot_frame {s : Nat} (hs : s < 2) (code sev : Nat) (ns pre : Bool) (a0 a1 seq : Nat) (b : Body) :
    ErrorFrame b (setSlot s code sev ns pre a0 a1 seq b) := slotPuts_frame hs _ _ _ _ b

theorem copySlot_frame {d : Nat} (hd : d < 2) (s : Nat) (b : Body) : ErrorFrame b (copySlot s d b) :=
  slotPuts_frame hd _ _ _ _ b

theorem shEvent_frame (sev code a0 a1 : Nat) (ns : Bool) (b : Body) : ErrorFrame b (shEvent sev code a0 a1 ns b) :=
  .of_regs (shCollect_mem _ _ _ _ _) (shCollect_regs _ _ _ _ _)

/-- Placing an error writes the slots, the overflow count or the count of lost records (R572, R582), and no memory. -/
theorem placeError_frame (code sev a0 a1 : Nat) (b : Body) : ErrorFrame b (placeError code sev a0 a1 b) := by
  unfold placeError
  dsimp only
  generalize sev + _ + _ + _ = b6
  have hoffer := bbOffer_frame 1 code b6 (errorNs code a0 b) a0 a1 b
  generalize bbOffer 1 code b6 (errorNs code a0 b) a0 a1 b = o at hoffer ⊢
  obtain ⟨c, seq?⟩ := o
  refine ErrorFrame.trans ?_ (shEvent_frame _ _ _ _ _ _)
  have hslots : ∀ p : Nat × Body, ErrorFrame b p.2 → ∀ held pre full : Bool, ErrorFrame b
      (if held then
        let c := setSlot 0 code sev (errorNs code a0 b) false a0 a1 p.1 p.2
        { c with safe := { c.safe with primaryAt := c.clock.cyc } }
      else if pre then
        let c := setSlot 0 code sev (errorNs code a0 b) true a0 a1 p.1 (copySlot 0 1 p.2)
        { c with safe := { c.safe with primaryAt := c.clock.cyc } }
      else if full then setSlot 1 code sev (errorNs code a0 b) false a0 a1 p.1 p.2
      else p.2.bump SAFE.ERR_OVF.COUNT) := by
    intro p hp held pre full
    refine hp.trans ?_
    split
    · exact (setSlot_frame (by decide) _ _ _ _ _ _ _ _).trans (.safe _ _)
    · split
      · exact ((copySlot_frame (by decide) _ _).trans (setSlot_frame (by decide) _ _ _ _ _ _ _ _)).trans (.safe _ _)
      · split
        · exact setSlot_frame (by decide) _ _ _ _ _ _ _ _
        · exact .put (.inl (by decide)) _ _
  cases seq? with
  | some s => exact hslots (s, c) hoffer _ _ _
  | none => exact hslots c.freeWord (hoffer.trans (.of_regs rfl rfl)) _ _ _

theorem raiseAs_frame {sev : Nat} (hsev : sev < 3) (code : Nat) (silent : Bool) (a0 a1 : Nat) (b : Body) :
    ErrorFrame b (raiseAs code sev silent a0 a1 b) := by
  unfold raiseAs
  dsimp only
  rw [if_neg (by omega : sev ≠ 3)]
  split
  · exact (placeError_frame _ _ _ _ _).trans (.put (.inl (by decide)) _ _)
  · exact placeError_frame _ _ _ _ _

/-- An error that is not fatal touches nothing but the error manager's registers. -/
theorem raise_frame {code a0 : Nat} (hsev : severityOf code a0 < 3) (a1 : Nat) (b : Body) :
    ErrorFrame b (raise code a0 a1 b) := by
  unfold raise
  split
  · exact record_frame _ _ _ _
  · exact raiseAs_frame hsev _ _ _ _ _

/-! ### An entry into hem leaves memory as it was -/

theorem sliceYield_mem (k : Nat) (b : Body) : (sliceYield k b).mem = b.mem := by
  unfold sliceYield sliceStarved
  split
  · split
    · exact (placeError_frame _ _ _ _ _).1
    · rfl
  · rfl

theorem ask_mem (ns : List Nat) (w : Why) (g : Option Nat) (b : Body) : (ask ns w g b).mem = b.mem := sliceYield_mem 1 b

theorem writeSlotWord_mem (a st n : Nat) (b : Body) : (writeSlotWord a st n b).mem = b.mem :=
  (Body.put_mem _ _ _ _ _).trans ((Body.put_mem _ _ _ _ _).trans ((Body.put_mem _ _ _ _ _).trans (Body.put_mem _ _ _ _ _)))

theorem fallbackWord_mem (b : Body) : (fallbackWord b).mem = b.mem := by
  unfold fallbackWord
  split
  · exact (Body.mark_mem _ _ _ _ _).trans (writeSlotWord_mem _ _ _ _)
  · rfl

theorem setTile_mem (b : Body) (t : Nat) (x : Tile) : (setTile b t x).mem = b.mem := rfl
theorem setSched_mem (b : Body) (e : Nat) (x : SchedSt) : (setSched b e x).mem = b.mem := rfl

theorem applyWrites_mem (t : Nat) (b : Body) : (applyWrites t b).mem = b.mem :=
  (setTile_mem _ _ _).trans (Body.each_mem (fun _ c => Body.put_mem c _ _ _ _) _ b)

theorem dropAct_mem (t : Nat) (b : Body) : (dropAct t b).mem = b.mem := by
  unfold dropAct
  split
  · rfl
  · refine (applyWrites_mem t _).trans ((setTile_mem _ _ _).trans (Body.each_mem (fun o c => ?_) _ b))
    cases o with
    | arm e => exact setSched_mem c e _
    | _ => rfl

theorem relayNow_mem (k : Nat) (v : Bool) (b : Body) : (relayNow k v b).mem = b.mem := by
  unfold relayNow
  dsimp only
  split <;> rfl

theorem relaysHem_mem (b : Body) : (relaysHem b).mem = b.mem := by
  unfold relaysHem
  split
  · refine Body.each_mem (fun k c => ?_) _ b
    split
    · rfl
    · exact relayNow_mem _ _ _
  · rfl

theorem hemHand_mem (b : Body) : (hemHand b).mem = b.mem := by
  unfold hemHand
  split <;> rfl

theorem askAll_mem (w : Why) (b : Body) : (askAll w b).mem = b.mem := Body.each_mem (fun _ e => ask_mem _ _ _ e) _ b

theorem enterHem_mem (code : Nat) (silent : Bool) (b : Body) : (enterHem code silent b).mem = b.mem := by
  unfold enterHem
  split
  · split <;> rfl
  · dsimp only
    have hmarks : ((((fallbackWord (b.put SAFE.HEM_CAUSE.CODE code)).mark SAFE.STAT.HEM true).mark
        SAFE.STAT.HEM_SILENT silent).mark CE.STAT.HEM true).mem = b.mem := fallbackWord_mem _
    set c := (((fallbackWord (b.put SAFE.HEM_CAUSE.CODE code)).mark SAFE.STAT.HEM true).mark
        SAFE.STAT.HEM_SILENT silent).mark CE.STAT.HEM true
    have htiles : (hemHand (relaysHem (c.each (c.loom.tiles.map (·.1)) fun c t => dropAct t c))).mem = c.mem :=
      (hemHand_mem _).trans ((relaysHem_mem _).trans (Body.each_mem dropAct_mem _ c))
    set e := hemHand (relaysHem (c.each (c.loom.tiles.map (·.1)) fun c t => dropAct t c))
    have hpower : (if e.power = .start ∨ e.power = .run then { e with power := .hem } else e).mem = e.mem := by
      split <;> rfl
    set g := if e.power = .start ∨ e.power = .run then { e with power := .hem } else e
    have hstaged : (match g.pat.staged with
        | some st => if st.armed.isSome then
            blockRecord 12 0x0040 st.pat.serial { g.mark LOOM.STAT.HELD false with pat := { g.pat with staged := none } }
          else g
        | none => g).mem = g.mem := by
      split
      · split
        · exact (record_frame _ _ _ _).1
        · rfl
      · rfl
    have hask := (askAll_mem .safe _).trans (hstaged.trans (hpower.trans (htiles.trans hmarks)))
    split <;> exact hask

theorem raiseAs_mem (code sev : Nat) (silent : Bool) (a0 a1 : Nat) (b : Body) : (raiseAs code sev silent a0 a1 b).mem = b.mem := by
  have hplaced := (placeError_frame code sev a0 a1 b).1
  unfold raiseAs
  dsimp only
  split
  · rw [enterHem_mem]
    split <;> exact hplaced
  · split <;> exact hplaced

/-- Raising an error, fatal or not, leaves memory as it was. -/
@[simp] theorem raise_mem (code a0 a1 : Nat) (b : Body) : (raise code a0 a1 b).mem = b.mem := by
  unfold raise
  split
  · exact (record_frame _ _ _ _).1
  · exact raiseAs_mem _ _ _ _ _ _

end Sys2Proof.Machine
end

section
/-! SUPPORT. Scope: how a bus command completes, and what a non-secure access to a secure target does (R9, R32, R33, R584). -/

namespace Sys2Proof

open Machine

/-- A command that needs the engines, in a module that has them, does what its body function does. -/
theorem does_of_onBody {c : Instr} {s : State} {f : Body → Body} {P : Body → Prop} (hexec : exec c s = onBody f s)
    (hp : powered s.body = true) (h : P (settle (f s.body))) : Does c s P :=
  ⟨_, hexec.trans (onBody_powered f hp), rfl, h⟩

/-- Without power to the engines such a command does nothing. -/
theorem does_of_unpowered {c : Instr} {s : State} {f : Body → Body} {P : Body → Prop} (hexec : exec c s = onBody f s)
    (hp : powered s.body = false) (h : P (settle s.body)) : Does c s P :=
  ⟨_, hexec.trans (onBody_unpowered f hp), rfl, h⟩

/-- A REGISTER_WRITE in a module with power to the engines is the bus write and its answer. -/
theorem does_registerWrite {s : State} {x : BusAcc} {P : Body → Prop} (hp : powered s.body = true)
    (h : P (settle (busAnswer (busWrite x s.body)))) : Does (.registerWrite x) s P :=
  does_of_onBody (f := fun b => busAnswer (busWrite x b)) rfl hp h

/-- A COUNTER_READ_CLEAR in a module with power to the engines is the bus read and its answer. -/
theorem does_counterReadClear {s : State} {x : BusAcc} {P : Body → Prop} (hp : powered s.body = true)
    (h : P (settle (busAnswer (busRead x s.body)))) : Does (.counterReadClear x) s P :=
  does_of_onBody (f := fun b => busAnswer (busRead x b)) rfl hp h

end Sys2Proof

namespace Sys2Proof.Machine

@[simp] theorem settle_bus (b : Body) : (settle b).bus = b.bus := rfl
@[simp] theorem settle_flag (b : Body) (f : Fld) (i j : Nat) : (settle b).flag f i j = b.flag f i j := rfl
@[simp] theorem busAnswer_bus (p : Body × Option Nat) : (busAnswer p).bus = p.2 := rfl
@[simp] theorem busAnswer_mem (p : Body × Option Nat) : (busAnswer p).mem = p.1.mem := rfl
@[simp] theorem busAnswer_word (p : Body × Option Nat) (a : Nat) : (busAnswer p).word a = p.1.word a := rfl
@[simp] theorem busAnswer_get (p : Body × Option Nat) (f : Fld) (i j : Nat) : (busAnswer p).get f i j = p.1.get f i j := rfl
@[simp] theorem busAnswer_flag (p : Body × Option Nat) (f : Fld) (i j : Nat) : (busAnswer p).flag f i j = p.1.flag f i j := rfl

/-! ### World violations (R584) -/

theorem ErrorFrame.get {b c : Body} (h : ErrorFrame b c) {f : Fld} {i j : Nat} (hf : ¬ errorReg (f.at i j)) :
    c.get f i j = b.get f i j := by
  unfold Body.get
  rw [h.2 _ hf]

/-- A violation is recorded and counted and its address kept; all that may follow is a MAJOR error. -/
theorem worldAccess_frame (addr init : Nat) (write : Bool) (b : Body) :
    ErrorFrame (((record 0x0021 addr (init % 16 + (if write then 16 else 0)) b).bump SAFE.WORLD_CNT.COUNT).put
      SAFE.WORLD_LAST.ADDR addr) (worldAccess addr init write b) := by
  unfold worldAccess
  dsimp only
  generalize ((record 0x0021 addr (init % 16 + (if write then 16 else 0)) b).bump SAFE.WORLD_CNT.COUNT).put
    SAFE.WORLD_LAST.ADDR addr = c
  have hmajor : ∀ a0, severityOf 0x0020 a0 < 3 := fun a0 => by simp [severityOf]
  split
  · exact ((ErrorFrame.safe c _).trans (.safe _ _)).trans (raise_frame (hmajor _) _ _)
  · exact .safe c _

theorem worldAccess_mem (addr init : Nat) (write : Bool) (b : Body) : (worldAccess addr init write b).mem = b.mem :=
  (worldAccess_frame addr init write b).1.trans (record_frame _ _ _ _).1

theorem worldAccess_last {addr : Nat} (ha : addr < 2 ^ 32) (init : Nat) (write : Bool) (b : Body) :
    (worldAccess addr init write b).get SAFE.WORLD_LAST.ADDR = addr := by
  rw [(worldAccess_frame addr init write b).get (by decide), Body.get_put_same _ _ _ _ _ (by decide)]
  exact Nat.mod_eq_of_lt ha

theorem worldAccess_count (addr init : Nat) (write : Bool) (b : Body) :
    (worldAccess addr init write b).get SAFE.WORLD_CNT.COUNT = min (b.get SAFE.WORLD_CNT.COUNT + 1) (2 ^ 32 - 1) := by
  have hrec := (record_frame 0x0021 addr (init % 16 + (if write then 16 else 0)) b).get
    (f := SAFE.WORLD_CNT.COUNT) (i := 0) (j := 0) (by decide)
  rw [(worldAccess_frame addr init write b).get (by decide), Body.get_put_other _ _ _ _ _ _ _ _ (by decide), Body.bump,
    Body.get_put_same _ _ _ _ _ (by decide), hrec]
  exact Nat.mod_eq_of_lt (show min _ (2 ^ 32 - 1) < 2 ^ 32 by omega)

/-- A violation writes no register below SAFE. -/
theorem worldAccess_word {a : Nat} (ha : a < 0x40D00000) (addr init : Nat) (write : Bool) (b : Body) :
    (worldAccess addr init write b).word a = b.word a := by
  have hnot : ¬ errorReg a := by unfold errorReg; omega
  rw [(worldAccess_frame addr init write b).2 a hnot, Body.word_put_other _ _ _ _ _ (by simp [Fld.at]; omega), Body.bump,
    Body.word_put_other _ _ _ _ _ (by simp [Fld.at]; omega), (record_frame _ _ _ _).2 a hnot]

/-! ### An access that reaches nothing -/

/-- A non-secure access whose target is secure: an aligned one to a register none of whose fields it reaches, or one to a
secure memory address of one region (R9, R33). -/
def SecureTarget (x : BusAcc) (b : Body) : Prop :=
  (inWindow x.addr = true ∧ x.addr % 4 = 0 ∧ ∃ r, rowAt x.addr = some r ∧ reach b x.addr r true = 0) ∨
    (inWindow x.addr = false ∧ (regionSpan x.addr 4).isSome = true ∧ memNs b x.addr = false)

theorem busWrite_secureTarget {x : BusAcc} {b : Body} (hns : x.ns = true) (hw : x.width = 32) (h : SecureTarget x b) :
    busWrite x b = (worldAccess x.addr x.init true b, none) := by
  rcases h with ⟨hin, hal, r, hr, hreach⟩ | ⟨hin, hspan, hmem⟩
  · simp [busWrite, regWrite, hin, hw, hal, hns, hr, hreach]
  · obtain ⟨r, hr⟩ := Option.isSome_iff_exists.1 hspan
    simp [busWrite, memWrite, hin, hw, hns, hr, hmem]

theorem busRead_secureTarget {x : BusAcc} {b : Body} (hns : x.ns = true) (hw : x.width = 32) (h : SecureTarget x b) :
    busRead x b = (worldAccess x.addr x.init false b, none) := by
  rcases h with ⟨hin, hal, r, hr, hreach⟩ | ⟨hin, hspan, hmem⟩
  · simp [busRead, regRead, hin, hw, hal, hns, hr, hreach]
  · obtain ⟨r, hr⟩ := Option.isSome_iff_exists.1 hspan
    simp [busRead, memRead, hin, hw, hns, hr, hmem]

/-- Settles O22: either access is `worldAccess` with a bus error for an answer, whose frame and counters stand above. -/
theorem nonSecureAccessToSecureTarget : Obligations.NonSecureAccessToSecureTarget := by
  intro s x hp hns haddr hw htarget
  have effect : ∀ write : Bool, ∀ b, b = settle (busAnswer (worldAccess x.addr x.init write s.body, none)) →
      b.bus = none ∧ b.get SAFE.WORLD_CNT.COUNT = min (s.body.get SAFE.WORLD_CNT.COUNT + 1) (2 ^ 32 - 1) ∧
        b.get SAFE.WORLD_LAST.ADDR = x.addr ∧ b.mem = s.body.mem ∧ ∀ a, a < 0x40D00000 → b.word a = s.body.word a := by
    rintro write _ rfl
    simp only [settle_bus, settle_get, settle_mem, settle_word, busAnswer_bus, busAnswer_get, busAnswer_mem, busAnswer_word]
    exact ⟨trivial, worldAccess_count _ _ _ _, worldAccess_last haddr _ _ _, worldAccess_mem _ _ _ _,
      fun a ha => worldAccess_word ha _ _ _ _⟩
  exact ⟨does_registerWrite hp (effect true _ (by rw [busWrite_secureTarget hns hw htarget])),
    does_counterReadClear hp (effect false _ (by rw [busRead_secureTarget hns hw htarget]))⟩

end Sys2Proof.Machine
end

section
/-! SUPPORT. Scope: a write of memory and all that the check of the words it reads may set going (R402 to R419) keep the
canonical form of memory. -/

namespace Sys2Proof.Machine

/-! ### Queues and reports -/

theorem setQueue_mem (b : Body) (q : Nat) (x : Queue) : (setQueue b q x).mem = b.mem := rfl

theorem startTimer_mem (q : Nat) (was : Bool) (b : Body) : (startTimer q was b).mem = b.mem := by
  unfold startTimer
  split <;> rfl

theorem qSwap_mem (q : Nat) (b : Body) : (qSwap q b).mem = b.mem := by
  unfold qSwap
  dsimp only
  split
  · exact (Body.setBit_mem _ _ _ _ _ _).trans (setQueue_mem _ _ _)
  · rfl

theorem takeCells_mem (n : Nat) (acc : List Nat) (b : Body) : (takeCells n acc b).2.mem = b.mem := by
  induction n generalizing acc b with
  | zero => rfl
  | succ n ih => exact ih _ (b.choose 16384).2

theorem qTake_mem (q : Nat) (b : Body) : (qTake q b).2.mem = b.mem := by
  unfold qTake
  split <;> rfl

theorem qTakes_mem (q n : Nat) (acc : List (List Nat)) (b : Body) : (qTakes q n acc b).2.mem = b.mem := by
  induction n generalizing acc b with
  | zero => rfl
  | succ n ih =>
    have htake := qTake_mem q b
    unfold qTakes
    split <;> rename_i heq <;> rw [heq] at htake
    · exact (ih _ _).trans htake
    · exact htake

theorem sendReport_mem (q : Nat) (b : Body) : (sendReport q b).mem = b.mem := by
  unfold sendReport
  dsimp only
  split
  · rfl
  · exact (shCollect_mem _ _ _ _ _).trans (qTakes_mem _ _ _ _)

/-- An enqueue fills cells with bytes, and that is all it does to memory. -/
theorem qPut_wf (q : Nat) (l : List Nat) {b : Body} (h : Memory.wf b.mem) : Memory.wf (qPut q l b).1.mem := by
  unfold qPut
  dsimp only
  split
  · rw [(qRefuse_keeps q b).2]
    exact h
  · have hfill : Memory.wf (fillCells (takeCells (cellsFor l.length) [] b).1 l (takeCells (cellsFor l.length) [] b).2).mem :=
      wf_fillCells _ _ _ ((takeCells_mem _ _ b).symm ▸ h)
    set c := fillCells (takeCells (cellsFor l.length) [] b).1 l (takeCells (cellsFor l.length) [] b).2
    split
    · split <;> simpa only [qSwap_mem, startTimer_mem, setQueue_mem, Body.mark_mem] using hfill
    · simpa only [startTimer_mem, setQueue_mem, Body.mark_mem] using hfill

theorem qPutReport_wf (q : Nat) (l : List Nat) {b : Body} (h : Memory.wf b.mem) : Memory.wf (qPutReport q l b).1.mem := by
  unfold qPutReport
  dsimp only
  split
  · rw [sendReport_mem]
    exact qPut_wf q l h
  · exact qPut_wf q l h

/-! ### Events and tracks of OFE -/

theorem emitEv_mem (src port payload tag : Nat) (b : Body) : (emitEv src port payload tag b).mem = b.mem := by
  unfold emitEv
  dsimp only
  split <;> rfl

theorem engineEv_mem (src port payload tag : Nat) (b : Body) : (engineEv src port payload tag b).mem = b.mem := by
  unfold engineEv
  split
  · exact emitEv_mem _ _ _ _ _
  · rfl

theorem trackEvent_wf (k kind : Nat) {b : Body} (h : Memory.wf b.mem) : Memory.wf (trackEvent k kind b).mem := by
  unfold trackEvent
  dsimp only
  split
  · rw [engineEv_mem]
    exact h
  · have hev : ∀ l p, Memory.wf (qPutReport 30 l (engineEv 0x41 1 p 0 b)).1.mem := fun l p =>
      qPutReport_wf 30 l ((engineEv_mem 0x41 1 p 0 b).symm ▸ h)
    split
    · exact hev _ _
    · rw [Body.bump_mem]
      exact hev _ _

theorem endTrack_wf (k : Nat) {b : Body} (h : Memory.wf b.mem) : Memory.wf (endTrack k b).mem := by
  unfold endTrack
  split
  · exact trackEvent_wf k 2 h
  · exact h

theorem dropTracks_wf {b : Body} (h : Memory.wf b.mem) : Memory.wf (dropTracks b).mem :=
  Body.each_keeps (P := fun c => Memory.wf c.mem) (fun k _ hc => endTrack_wf k hc) _ h

theorem setSensor_mem (b : Body) (i : Nat) (x : Sensor) : (setSensor b i x).mem = b.mem := rfl

theorem setStuck_mem (i : Nat) (v : Bool) (b : Body) : (setStuck i v b).mem = b.mem := by
  unfold setStuck
  dsimp only
  split
  · rfl
  · exact (record_frame _ _ _ _).1.trans ((engineEv_mem _ _ _ _ _).trans ((Body.setBit_mem _ _ _ _ _ _).trans (setSensor_mem _ _ _)))

theorem takeSensors_mem (b : Body) : (takeSensors b).mem = b.mem := by
  unfold takeSensors
  split <;> rfl

theorem withOfe_mem (b : Body) (x : Ofe) : ({ b with ofe := x } : Body).mem = b.mem := rfl

theorem ofeAfresh_mem (b : Body) : (ofeAfresh b).mem = b.mem := by
  have hstuck : (b.each (b.ofe.sensors.map (·.1)) fun b i => setStuck i false b).mem = b.mem :=
    Body.each_mem (fun i c => setStuck_mem i false c) _ b
  have hinit : ∀ (l : List Nat) (c : Body), (c.each l fun c k =>
      setSensor c (512 + k) { Sensor.init with passedAt := c.clock.cyc }).mem = c.mem :=
    fun l => Body.each_mem (fun k c => setSensor_mem c (512 + k) _) l
  exact (hinit _ _).trans ((takeSensors_mem _).trans ((withOfe_mem _ _).trans hstuck))

/-! ### What a read of a word finds (R408 to R419) -/

theorem withMemi_mem (b : Body) (x : Memi) : ({ b with memi := x } : Body).mem = b.mem := rfl

theorem bucketAdd_mem (m : Nat) (b : Body) : (bucketAdd m b).mem = b.mem := by
  unfold bucketAdd
  dsimp only
  split
  · rw [raise_mem, Body.mark_mem, Body.put_mem]
  · rw [Body.put_mem]

theorem logAppend_mem (kind fields bank : Nat) (b : Body) : (logAppend kind fields bank b).1.mem = b.mem := by
  unfold logAppend
  split
  · rw [raise_mem]
  · dsimp only
    rw [Body.put_mem]

theorem repair_mem (m a : Nat) (b : Body) : (repair m a b).mem = b.mem := by
  unfold repair
  dsimp only
  split
  · split
    · exact raise_mem _ _ _ _
    · rw [logAppend_mem]
      split
      · rw [Body.mark_mem, Body.mark_mem, Body.put_mem]
      · rw [Body.mark_mem, Body.put_mem]
  · split
    · split
      · rfl
      · split
        · exact (Body.bump_mem _ _ _ _ _).trans (logAppend_mem _ _ _ _)
        · exact logAppend_mem _ _ _ _
    · rfl

theorem dropSuspect_mem (m a : Nat) (b : Body) : (dropSuspect m a b).mem = b.mem := rfl

theorem hardFault_mem (m a : Nat) (b : Body) : (hardFault m a b).mem = b.mem := by
  unfold hardFault
  rw [repair_mem, dropSuspect_mem, raise_mem, Body.bump_mem]

theorem addSuspect_mem (m a : Nat) (b : Body) : (addSuspect m a b).mem = b.mem := by
  unfold addSuspect
  split
  · rfl
  · split
    · exact Body.bump_mem _ _ _ _ _
    · rfl

/-- A correction counts, marks and repairs (R408 to R415); the data is as it was. -/
theorem correction_mem (m a : Nat) (scrub : Bool) (b : Body) : (correction m a scrub b).mem = b.mem := by
  unfold correction
  dsimp only
  generalize decide (b.memi.lastCe = some (m, a, b.clock.cyc, !scrub)) = twice
  have hcount : ∀ c : Body, (if twice then c else bucketAdd m c).mem = c.mem := by
    intro c
    split
    · rfl
    · exact bucketAdd_mem m c
  have hcorr : (if twice then b else b.bump MEMI.CE_CNT.CORR 1 m).mem = b.mem := by
    split
    · rfl
    · exact Body.bump_mem _ _ _ _ _
  set c := if twice then b else b.bump MEMI.CE_CNT.CORR 1 m
  have hseen := withMemi_mem c { c.memi with lastCe := some (m, a, c.clock.cyc, scrub) }
  set d : Body := { c with memi := { c.memi with lastCe := some (m, a, c.clock.cyc, scrub) } }
  have hlast : (if m < 5 then d.put MEMI.LAST_CE.ADDR a m else d).mem = d.mem := by
    split
    · exact Body.put_mem _ _ _ _ _
    · rfl
  set e := if m < 5 then d.put MEMI.LAST_CE.ADDR a m else d
  have hqueued : (if e.memi.wb.contains (m, a) then e else { e with memi := { e.memi with wb := e.memi.wb ++ [(m, a)] } }).mem =
      e.mem := by
    split <;> rfl
  set g := if e.memi.wb.contains (m, a) then e else { e with memi := { e.memi with wb := e.memi.wb ++ [(m, a)] } }
  have hg : g.mem = b.mem := hqueued.trans (hlast.trans (hseen.trans hcorr))
  split
  · exact (hcount g).trans hg
  · refine (hcount _).trans (Eq.trans ?_ hg)
    split
    · split
      · exact hardFault_mem _ _ _
      · rfl
    · exact addSuspect_mem _ _ _

theorem mramLost_mem (x : MramRec) (b : Body) : (mramLost x b).mem = b.mem := by
  cases x with
  | slotWord => exact Body.put_mem _ _ _ _ _
  | _ => rfl

theorem qFlush_mem (q : Nat) (b : Body) : (qFlush q b).mem = b.mem := by
  simp only [qFlush, qEmpty, Body.bump_mem, Body.mark_mem, setQueue_mem]

theorem dropStaged_mem (b : Body) : (dropStaged b).mem = b.mem := Body.mark_mem _ _ _ _ _

/-- The recovery of R419 ends tracks, which tells of them through a queue; every other part of it leaves memory alone. -/
theorem ueRecover_wf (m a : Nat) (x : MramRec) {b : Body} (h : Memory.wf b.mem) : Memory.wf (ueRecover m a x b).mem := by
  unfold ueRecover
  dsimp only
  split
  · split
    · split
      · rw [qFlush_mem]
        exact h
      · exact h
    · split
      · exact h
      · split
        · rw [ofeAfresh_mem]
          exact dropTracks_wf h
        · split
          · show Memory.wf (match b.pat.staged with
              | some st => if st.armed.isSome then dropStaged b else b
              | none => b).mem
            split
            · split
              · rw [dropStaged_mem]
                exact h
              · exact h
            · exact h
          · exact h
  · split
    · rw [mramLost_mem]
      exact h
    · split <;> exact h

theorem uncorrectable_wf (m a : Nat) (scrub : Bool) (x : MramRec) {b : Body} (h : Memory.wf b.mem) :
    Memory.wf (uncorrectable m a scrub x b).mem := by
  unfold uncorrectable
  dsimp only
  refine ueRecover_wf m a x ?_
  rw [raiseAs_mem, Body.put_mem, Body.mark_mem, Body.wrap_mem, Body.put_mem]
  exact h

theorem readWord_wf (m a found : Nat) (scrub : Bool) (x : MramRec) {b : Body} (h : Memory.wf b.mem) :
    Memory.wf (readWord m a found scrub x b).mem := by
  unfold readWord
  split
  · split
    · split <;> exact h
    · exact h
  · rw [correction_mem]
    exact h
  · exact uncorrectable_wf m a scrub x h

/-! ### Accesses to memory (R33, R404, R588) -/

theorem fillPage_mem (a : Nat) (b : Body) : (fillPage a b).mem = b.mem := by
  unfold fillPage
  dsimp only
  split <;> rfl

theorem touch_wf (x : BusAcc) (a : Nat) {b : Body} (h : Memory.wf b.mem) : Memory.wf (touch x a b).1.mem := by
  unfold touch
  split
  · exact h
  · refine readWord_wf _ _ _ _ _ ?_
    split
    · rw [fillPage_mem]
      exact h
    · exact h

theorem touchAll_wf (x : BusAcc) (n : Nat) {b : Body} (h : Memory.wf b.mem) : Memory.wf (touchAll x n b).1.mem := by
  unfold touchAll
  dsimp only
  split
  · exact touch_wf x _ h
  · exact touch_wf x _ (touch_wf x _ h)

theorem wordWritten_mem (a : Nat) (b : Body) : (wordWritten a b).mem = b.mem := by
  have harm : ∀ c : Body, (if c.flag MEMI.INJ_CTL.ARM && decide (8 * c.get MEMI.INJ_ADDR.ADDR = a - a % 8) && injectOk c (a - a % 8) then
      let d := c.mark MEMI.INJ_CTL.ARM false
      { d with memi := { d.memi with faults := d.memi.faults ++ [(a - a % 8, popCount (d.get MEMI.INJ_CTL.FLIP))] } }
    else c).mem = c.mem := by
    intro c
    split
    · exact (withMemi_mem _ _).trans (Body.mark_mem _ _ _ _ _)
    · rfl
  exact (harm _).trans (withMemi_mem b _)

/-- The bytes of a write are stored one by one, each in the canonical form; a refused write stores none. -/
theorem memWrite_wf (x : BusAcc) (n v : Nat) {b : Body} (h : Memory.wf b.mem) : Memory.wf (memWrite x n v b).1.mem := by
  unfold memWrite
  split
  · exact h
  · rename_i r hr
    dsimp only
    split
    · rw [worldAccess_mem]
      exact h
    · split
      · exact h
      · have hread : Memory.wf (if x.addr % 8 = 0 ∧ n = 8 then (b, false) else touchAll x n b).1.mem := by
          split
          · exact h
          · exact touchAll_wf x n h
        generalize (if x.addr % 8 = 0 ∧ n = 8 then (b, false) else touchAll x n b) = p at hread ⊢
        have hpage : Memory.wf (if r = .dram then fillPage x.addr p.1 else p.1).mem := by
          split
          · rw [fillPage_mem]
            exact hread
          · exact hread
        have hbytes := wf_setMemBytes (toLe n v) x.addr _ hpage
        split
        · exact hread
        · split <;> simpa only [wordWritten_mem] using hbytes

/-- With power to the engines the write is `memWrite`; without it nothing is written. -/
theorem registerWrite_memory_wf {s : State} {x : BusAcc} (hwf : Memory.wf s.body.mem) (hout : inWindow x.addr = false) :
    Does (.registerWrite x) s (fun b => Memory.wf b.mem) := by
  cases hp : powered s.body with
  | true =>
    refine does_registerWrite hp ?_
    rw [settle_mem, busAnswer_mem]
    unfold busWrite
    rw [hout]
    exact memWrite_wf x _ _ hwf
  | false => exact does_of_unpowered (f := fun b => busAnswer (busWrite x b)) rfl hp hwf

/-- Settles O24: every step of `memWrite`, the checks of the words it reads and the bytes it stores, keeps the form. -/
theorem memoryKeepsItsCanonicalForm : Obligations.MemoryKeepsItsCanonicalForm :=
  fun _ _ hwf hout => registerWrite_memory_wf hwf hout

end Sys2Proof.Machine
end

section
/-! SUPPORT. Scope: register transfers (R7, R8, R10, R11): which answer a bus error, and what the access codes RW, RO, W1C and
RS make of an aligned secure access to a plain register of block SYS. -/

namespace Sys2Proof.Machine

/-! ### Refused and completed transfers -/

theorem busWrite_misfit {x : BusAcc} (hin : inWindow x.addr = true) (h : x.width ≠ 32 ∨ x.addr % 4 ≠ 0) (b : Body) :
    busWrite x b = (b, none) := by
  have hfit : ¬ (x.width = 32 ∧ x.addr % 4 = 0) := by tauto
  simp only [busWrite, hin, if_true, if_neg hfit]

theorem busRead_misfit {x : BusAcc} (hin : inWindow x.addr = true) (h : x.width ≠ 32 ∨ x.addr % 4 ≠ 0) (b : Body) :
    busRead x b = (b, none) := by
  have hfit : ¬ (x.width = 32 ∧ x.addr % 4 = 0) := by tauto
  simp only [busRead, hin, if_true, if_neg hfit]

theorem regWrite_reached {a : Nat} {b : Body} {r : RegRow} {ns : Bool} (hr : rowAt a = some r) (hreach : reach b a r ns ≠ 0)
    (v init : Nat) : regWrite a v ns init b =
      ((writeReg r a (v % 2 ^ 32) (reach b a r ns) ns init (wakeBlock a b)).1, true,
        (writeReg r a (v % 2 ^ 32) (reach b a r ns) ns init (wakeBlock a b)).2) := by
  unfold regWrite
  rw [hr]
  refine (if_neg hreach).trans ?_
  cases writeReg r a (v % 2 ^ 32) (reach b a r ns) ns init (wakeBlock a b)
  rfl

theorem regRead_reached {a : Nat} {b : Body} {r : RegRow} {ns : Bool} (hr : rowAt a = some r) (hreach : reach b a r ns ≠ 0)
    (init : Nat) : regRead a ns init b =
      ((readReg r a (reach b a r ns) (wakeBlock a b)).2, some (readReg r a (reach b a r ns) (wakeBlock a b)).1) := by
  unfold regRead
  rw [hr]
  refine (if_neg hreach).trans ?_
  cases readReg r a (reach b a r ns) (wakeBlock a b)
  rfl

/-- An aligned 32-bit write that reaches a field of a register. -/
theorem busWrite_reached {x : BusAcc} {b : Body} {r : RegRow} (hin : inWindow x.addr = true) (hw : x.width = 32)
    (hal : x.addr % 4 = 0) (hr : rowAt x.addr = some r) (hreach : reach b x.addr r x.ns ≠ 0) :
    busWrite x b = ((writeReg r x.addr (x.data % 2 ^ 32) (reach b x.addr r x.ns) x.ns x.init (wakeBlock x.addr b)).1, some 0) := by
  unfold busWrite
  rw [if_pos hin, if_pos ⟨hw, hal⟩, regWrite_reached hr hreach]
  cases writeReg r x.addr (x.data % 2 ^ 32) (reach b x.addr r x.ns) x.ns x.init (wakeBlock x.addr b)
  rfl

/-- An aligned 32-bit read that reaches a field of a register. -/
theorem busRead_reached {x : BusAcc} {b : Body} {r : RegRow} (hin : inWindow x.addr = true) (hw : x.width = 32)
    (hal : x.addr % 4 = 0) (hr : rowAt x.addr = some r) (hreach : reach b x.addr r x.ns ≠ 0) :
    busRead x b = ((readReg r x.addr (reach b x.addr r x.ns) (wakeBlock x.addr b)).2,
      some (readReg r x.addr (reach b x.addr r x.ns) (wakeBlock x.addr b)).1) := by
  unfold busRead
  rw [if_pos hin, if_pos ⟨hw, hal⟩, regRead_reached hr hreach]

/-! ### Settings kept in MRAM touch no register -/

theorem keepChanged_regs (a : Nat) (o b : Body) : (keepChanged a o b).regs = b.regs := by
  unfold keepChanged keepSetting
  split
  · rfl
  · split <;> rfl

theorem keepChanged_word (a : Nat) (o b : Body) (q : Nat) : (keepChanged a o b).word q = b.word q :=
  Body.word_congr (keepChanged_regs a o b) q

theorem keepChanged_get (a : Nat) (o b : Body) (f : Fld) (i j : Nat) : (keepChanged a o b).get f i j = b.get f i j :=
  Body.get_congr (keepChanged_regs a o b) f i j

theorem keepChanged_flag (a : Nat) (o b : Body) (f : Fld) (i j : Nat) : (keepChanged a o b).flag f i j = b.flag f i j := by
  unfold Body.flag
  rw [keepChanged_get]

/-! ### Access codes (R8) -/

/-- With no Expert field (R118) a write goes to every field under its access code. -/
theorem writeFields_basic {r : RegRow} (h : ∀ f ∈ r.fields, 8 ≤ f.fn) (a v m : Nat) (b : Body) :
    (writeFields r a v m b).1 = b.setWord a (BitVec.ofNat 32 (r.fields.foldl (writeField v m) (b.word a).toNat)) := by
  have hplain : ∀ f ∈ r.fields, expertRefused b a v m f = false := by
    intro f hf
    have hfn : ¬ f.fn < 8 := by have := h f hf; omega
    simp [expertRefused, hfn]
  have hbad : r.fields.filter (expertRefused b a v m) = [] := by
    simpa [List.filter_eq_nil_iff] using hplain
  have hgood : (r.fields.filter fun f => !expertRefused b a v m f) = r.fields := by
    simpa [List.filter_eq_self] using hplain
  simp only [writeFields, hbad, hgood, Body.each, List.foldl_nil]

/-- A write to a register of SYS with no rule of its own: every field under its access code, then what the write starts. -/
theorem busWrite_sys {a : Nat} {r : RegRow} (hr : rowAt a = some r) (hin : inWindow a = true)
    (hblock : (a - 0x40000000) / 0x100000 = 0) (hfn : ∀ f ∈ r.fields, 8 ≤ f.fn)
    {m : Nat} (hreach : ∀ b, reach b a r false = m) (hm : m ≠ 0) (hown : ∀ v b, writeSys a v false b = none)
    {v : Nat} (hv : v < 2 ^ 32) (b : Body) :
    ∃ c, busWrite ⟨a, 32, v, false, 0, 0, .other⟩ b = (keepChanged a b c, some 0) ∧
      c = writeAfter a (Nat.land v m) b (b.setWord a (BitVec.ofNat 32 (r.fields.foldl (writeField v m) (b.word a).toNat))) := by
  have hal : a % 4 = 0 := by
    by_contra hne
    simp [rowAt, hne] at hr
  have hwake : wakeBlock a b = b := by simp [wakeBlock, hblock]
  have hspecial : writeSpecial a (Nat.land v m) false 0 b = none := by
    unfold writeSpecial
    rw [hblock]
    exact hown _ _
  refine ⟨_, ?_, rfl⟩
  rw [busWrite_reached (r := r) hin rfl hal hr (by simp only [hreach]; exact hm)]
  simp only [hreach, hwake, Nat.mod_eq_of_lt hv, writeReg, hblock, hspecial, ite_self, writeFields_basic hfn]
  simp

/-- An RO field is what it was. -/
theorem foldl_writeField_ro {l : List FieldRow} (h : ∀ f ∈ l, f.acc = .ro) (v m w : Nat) : l.foldl (writeField v m) w = w := by
  induction l with
  | nil => rfl
  | cons f t ih =>
    have hf : writeField v m w f = w := by simp [writeField, h f (by simp)]
    rw [List.foldl_cons, hf]
    exact ih fun g hg => h g (List.mem_cons_of_mem _ hg)

/-- Taking from `w` the bits it shares with `x` clears those of `x`. -/
theorem testBit_sub_and (w x k : Nat) : (w - (w &&& x)).testBit k = (w.testBit k && !x.testBit k) := by
  induction k generalizing w x with
  | zero =>
    have hodd : (w &&& x) % 2 = 1 ↔ w % 2 = 1 ∧ x % 2 = 1 := Nat.and_mod_two_eq_one
    have hle : w &&& x ≤ w := Nat.and_le_left
    rw [Bool.eq_iff_iff]
    simp only [Nat.testBit_zero, Bool.and_eq_true, Bool.not_eq_true', decide_eq_true_eq, decide_eq_false_iff_not]
    omega
  | succ k ih =>
    have hhalf : (w &&& x) / 2 = w / 2 &&& x / 2 := Nat.and_div_two
    have hodd : (w &&& x) % 2 = 1 ↔ w % 2 = 1 ∧ x % 2 = 1 := Nat.and_mod_two_eq_one
    have hsub : (w - (w &&& x)) / 2 = w / 2 - (w / 2 &&& x / 2) := by omega
    rw [Nat.testBit_add_one, Nat.testBit_add_one, Nat.testBit_add_one, hsub, ih]

/-- The bits of a field in its register. -/
def FieldRow.mask (f : FieldRow) : Nat := (2 ^ f.w - 1) * 2 ^ f.lo

/-- W1C fields lose the bits of theirs that are written 1 and reached, and nothing else changes. -/
theorem testBit_foldl_w1c {l : List FieldRow} (h : ∀ f ∈ l, f.acc = .w1c) (v m w k : Nat) :
    (l.foldl (writeField v m) w).testBit k =
      (w.testBit k && !(v.testBit k && m.testBit k && l.any fun f => f.mask.testBit k)) := by
  induction l generalizing w with
  | nil => simp
  | cons f t ih =>
    have hf : writeField v m w f = w - (w &&& (v &&& (f.mask &&& m))) := by
      simp only [writeField, h f (by simp)]
      rfl
    rw [List.foldl_cons, ih (fun g hg => h g (List.mem_cons_of_mem _ hg)), hf, testBit_sub_and, Nat.testBit_and,
      Nat.testBit_and, List.any_cons]
    cases w.testBit k <;> cases v.testBit k <;> cases m.testBit k <;> simp

/-- A bit of a register's word. -/
theorem Body.bit_eq_testBit (b : Body) {f : Fld} {k : Nat} (hlo : f.lo = 0) (hw : f.w = 32) (i j : Nat) :
    b.bit f k i j = (b.word (f.at i j)).toNat.testBit k := by
  unfold Body.bit Body.get
  rw [hlo, hw, pow_zero, Nat.div_one, Nat.mod_eq_of_lt (BitVec.isLt _), Nat.testBit_eq_decide_div_mod_eq]

/-! ### Plain registers of SYS -/

/-- The rows of the four registers of SYS that the obligation names. -/
def clkStatRow : RegRow := ⟨0x20, 0x0, 1, 0x0, 1, [⟨5, 1, .ro, .s, 0, 8⟩, ⟨4, 1, .ro, .s, 0, 8⟩, ⟨3, 1, .ro, .s, 0, 8⟩,
  ⟨2, 1, .ro, .s, 1, 8⟩, ⟨1, 1, .ro, .s, 1, 8⟩, ⟨0, 1, .ro, .s, 1, 8⟩]⟩
def clkFaultRow : RegRow := ⟨0x24, 0x0, 1, 0x0, 1, [⟨5, 1, .w1c, .s, 0, 8⟩, ⟨4, 1, .w1c, .s, 0, 8⟩, ⟨3, 1, .w1c, .s, 0, 8⟩,
  ⟨2, 1, .w1c, .s, 0, 8⟩, ⟨1, 1, .w1c, .s, 0, 8⟩, ⟨0, 1, .w1c, .s, 0, 8⟩]⟩
def gateCtlRow : RegRow := ⟨0x28, 0x0, 1, 0x0, 1, [⟨0, 1, .rw, .s, 0, 8⟩]⟩
def wakeLateRow : RegRow := ⟨0x30, 0x0, 1, 0x0, 1, [⟨0, 16, .rs, .s, 0, 8⟩]⟩

theorem rowAt_clkStat : rowAt 0x40000020 = some clkStatRow := rfl
theorem rowAt_clkFault : rowAt 0x40000024 = some clkFaultRow := rfl
theorem rowAt_gateCtl : rowAt 0x40000028 = some gateCtlRow := rfl
theorem rowAt_wakeLate : rowAt 0x40000030 = some wakeLateRow := rfl

/-- The fields of CLK_STAT are RO: its word is what it was. -/
theorem busWrite_clkStat {v : Nat} (hv : v < 2 ^ 32) (b : Body) :
    busWrite ⟨0x40000020, 32, v, false, 0, 0, .other⟩ b =
      (keepChanged 0x40000020 b (b.setWord 0x40000020 (b.word 0x40000020)), some 0) := by
  obtain ⟨c, hwrite, hc⟩ := busWrite_sys rowAt_clkStat rfl rfl (by decide) (m := 63) (fun _ => rfl) (by decide) (fun _ _ => rfl) hv b
  rw [foldl_writeField_ro (by decide), BitVec.ofNat_toNat, BitVec.setWidth_eq] at hc
  rw [hwrite, hc]
  rfl

/-- CLK_FAULT loses each bit that is written 1. -/
theorem busWrite_clkFault {v : Nat} (hv : v < 2 ^ 32) (b : Body) :
    ∃ w : Word, busWrite ⟨0x40000024, 32, v, false, 0, 0, .other⟩ b =
        (keepChanged 0x40000024 b (b.setWord 0x40000024 w), some 0) ∧
      ∀ k, k < 6 → w.toNat.testBit k = ((b.word 0x40000024).toNat.testBit k && !v.testBit k) := by
  obtain ⟨c, hwrite, hc⟩ := busWrite_sys rowAt_clkFault rfl rfl (by decide) (m := 63) (fun _ => rfl) (by decide) (fun _ _ => rfl) hv b
  refine ⟨_, by rw [hwrite, hc]; rfl, fun k hk => ?_⟩
  have hreached : ∀ k < 6, Nat.testBit 63 k = true ∧ (clkFaultRow.fields.any fun f => f.mask.testBit k) = true := by decide
  rw [BitVec.toNat_ofNat, Nat.testBit_mod_two_pow, testBit_foldl_w1c (by decide), (hreached k hk).1, (hreached k hk).2]
  simp [show k < 32 by omega]

theorem gateEn_setWord (b : Body) (w : Word) : (b.setWord 0x40000028 w).get SYS.GATE_CTL.GATE_EN = w.toNat % 2 := by
  unfold Body.get
  rw [show SYS.GATE_CTL.GATE_EN.at 0 0 = 0x40000028 from rfl, Body.word_setWord_same, pow_zero, Nat.div_one, pow_one]

/-- GATE_CTL takes bit 0 and clocks the gated domain when that is 0. -/
theorem busWrite_gateCtl {v : Nat} (hv : v < 2 ^ 32) (b : Body) :
    ∃ w : Word, w.toNat % 2 = v % 2 ∧ busWrite ⟨0x40000028, 32, v, false, 0, 0, .other⟩ b =
      (keepChanged 0x40000028 b (if v % 2 = 1 then b.setWord 0x40000028 w else ungate (b.setWord 0x40000028 w)), some 0) := by
  obtain ⟨c, hwrite, hc⟩ := busWrite_sys rowAt_gateCtl rfl rfl (by decide) (m := 1) (fun _ => rfl) (by decide) (fun _ _ => rfl) hv b
  have hfield : gateCtlRow.fields.foldl (writeField v 1) (b.word 0x40000028).toNat =
      (b.word 0x40000028).toNat - ((b.word 0x40000028).toNat &&& 1) + (v &&& 1) := rfl
  rw [Nat.and_one_is_mod, Nat.and_one_is_mod] at hfield
  have hbit : (BitVec.ofNat 32 (gateCtlRow.fields.foldl (writeField v 1) (b.word 0x40000028).toNat)).toNat % 2 = v % 2 := by
    rw [hfield, BitVec.toNat_ofNat]
    omega
  refine ⟨_, hbit, ?_⟩
  rw [hwrite, hc]
  generalize BitVec.ofNat 32 (gateCtlRow.fields.foldl (writeField v 1) (b.word 0x40000028).toNat) = w at hbit
  have hflag : (b.setWord 0x40000028 w).flag SYS.GATE_CTL.GATE_EN = decide (v % 2 = 1) := by
    unfold Body.flag
    rw [gateEn_setWord, hbit]
    rcases Nat.mod_two_eq_zero_or_one v with h | h <;> simp [h]
  have hafter : ∀ n, writeAfter 0x40000028 n b (b.setWord 0x40000028 w) =
      if (b.setWord 0x40000028 w).flag SYS.GATE_CTL.GATE_EN then b.setWord 0x40000028 w else ungate (b.setWord 0x40000028 w) :=
    fun _ => rfl
  rw [hafter, hflag]
  simp only [decide_eq_true_eq]

theorem readReg_wakeLate (b : Body) : readReg wakeLateRow 0x40000030 65535 b =
    ((b.word 0x40000030).toNat &&& 65535,
      b.setWord 0x40000030 (BitVec.ofNat 32 ((b.word 0x40000030).toNat - ((b.word 0x40000030).toNat &&& 65535)))) := rfl

/-- A read of WAKE_LATE answers its count and clears it. -/
theorem busRead_wakeLate (b : Body) :
    ∃ w : Word, w.toNat % 2 ^ 16 = 0 ∧ busRead ⟨0x40000030, 32, 0, false, 0, 0, .other⟩ b =
      (b.setWord 0x40000030 w, some ((b.word 0x40000030).toNat % 2 ^ 16)) := by
  have hreach : ∀ c, reach c 0x40000030 wakeLateRow false = 65535 := fun _ => rfl
  have hlow : (b.word 0x40000030).toNat &&& 65535 = (b.word 0x40000030).toNat % 2 ^ 16 := Nat.and_two_pow_sub_one_eq_mod _ 16
  have hread := readReg_wakeLate b
  rw [hlow] at hread
  have hbus := busRead_reached (x := ⟨0x40000030, 32, 0, false, 0, 0, .other⟩) (b := b) rfl rfl rfl rowAt_wakeLate
    (by simp only [hreach]; decide)
  simp only [hreach, show wakeBlock 0x40000030 b = b from rfl, hread] at hbus
  refine ⟨_, ?_, hbus⟩
  rw [BitVec.toNat_ofNat]
  omega

/-! ### The obligation -/

theorem settle_keepChanged_regsKept {p : Nat → Prop} {b c : Body} (h : RegsKept p b c) (a : Nat) (o : Body) (v : Option Nat) :
    RegsKept p b (settle (busAnswer (keepChanged a o c, v))) :=
  h.trans (.of_regs (keepChanged_regs a o c))

/-- An access that fits no register transfer answers a bus error and changes nothing else (R7). That this holds of a
non-secure access to a secure register too is the model's own order of R7 before R9 (log entry 105). -/
theorem misfit_changes_nothing {s : State} {x : BusAcc} (hp : powered s.body = true) (hin : inWindow x.addr = true)
    (h : x.width ≠ 32 ∨ x.addr % 4 ≠ 0) :
    Does (.registerWrite x) s (fun b => b = settle { s.body with bus := none }) ∧
      Does (.counterReadClear x) s (fun b => b = settle { s.body with bus := none }) :=
  ⟨does_registerWrite hp (by rw [busWrite_misfit hin h]; rfl), does_counterReadClear hp (by rw [busRead_misfit hin h]; rfl)⟩

/-- An aligned secure 32-bit access to a register completes (R7, R10). -/
theorem reached_completes {s : State} {x : BusAcc} {r : RegRow} (hp : powered s.body = true) (hin : inWindow x.addr = true)
    (hw : x.width = 32) (hal : x.addr % 4 = 0) (hr : rowAt x.addr = some r) (hreach : reach s.body x.addr r x.ns ≠ 0) :
    Does (.registerWrite x) s (fun b => b.bus = some 0) ∧ Does (.counterReadClear x) s (fun b => b.bus.isSome = true) :=
  ⟨does_registerWrite hp (by rw [busWrite_reached hin hw hal hr hreach, settle_bus, busAnswer_bus]),
    does_counterReadClear hp (by rw [busRead_reached hin hw hal hr hreach, settle_bus, busAnswer_bus]; rfl)⟩

theorem gateCtl_write_effect {s : State} {v : Nat} (hp : powered s.body = true) (hv : v < 2 ^ 32) :
    Does (.registerWrite ⟨0x40000028, 32, v, false, 0, 0, .other⟩) s (fun b => b.bus = some 0 ∧
      b.get SYS.GATE_CTL.GATE_EN = v % 2 ∧
      b.flag SYS.CLK_STAT.GATED = (s.body.flag SYS.CLK_STAT.GATED && decide (v % 2 = 1)) ∧
      RegsKept (fun a => a = 0x40000028 ∨ a = SYS.CLK_STAT.word.addr) s.body b) := by
  obtain ⟨w, hbit, hwrite⟩ := busWrite_gateCtl hv s.body
  refine does_registerWrite hp ?_
  rw [hwrite]
  have hget := (gateEn_setWord s.body w).trans hbit
  have hgated : (s.body.setWord 0x40000028 w).flag SYS.CLK_STAT.GATED = s.body.flag SYS.CLK_STAT.GATED := by
    unfold Body.flag Body.get
    rw [Body.word_setWord_other _ _ (by decide)]
  have hkept : RegsKept (fun a => a = 0x40000028 ∨ a = SYS.CLK_STAT.word.addr) s.body (s.body.setWord 0x40000028 w) :=
    .setWord (.inl rfl) _ _
  generalize s.body.setWord 0x40000028 w = c at hget hgated hkept
  simp only [settle_bus, settle_get, settle_flag, busAnswer_bus, busAnswer_get, busAnswer_flag, keepChanged_get, keepChanged_flag]
  split
  · rename_i h1
    exact ⟨trivial, hget, by simp [hgated, h1], settle_keepChanged_regsKept hkept _ _ _⟩
  · rename_i h0
    refine ⟨trivial, ?_, ?_, settle_keepChanged_regsKept (hkept.trans (.setWord (.inr rfl) _ _)) _ _ _⟩
    · exact (Body.get_put_other _ _ _ _ _ _ _ _ (by decide)).trans hget
    · simp only [h0, decide_false, Bool.and_false]
      exact Body.flag_mark_same _ _ _ _ _ rfl (by decide)

theorem clkFault_write_effect {s : State} {v : Nat} (hp : powered s.body = true) (hv : v < 2 ^ 32) :
    Does (.registerWrite ⟨0x40000024, 32, v, false, 0, 0, .other⟩) s (fun b => b.bus = some 0 ∧
      RegsKept (· = 0x40000024) s.body b ∧ ∀ k, k < 6 → b.bit SYS.CLK_FAULT.word k =
        (s.body.bit SYS.CLK_FAULT.word k && decide (v / 2 ^ k % 2 = 0))) := by
  obtain ⟨w, hwrite, hbits⟩ := busWrite_clkFault hv s.body
  refine does_registerWrite hp ?_
  rw [hwrite]
  refine ⟨rfl, settle_keepChanged_regsKept (.setWord (p := (· = 0x40000024)) rfl _ _) _ _ _, fun k hk => ?_⟩
  have hclear : (!v.testBit k) = decide (v / 2 ^ k % 2 = 0) := by
    rw [Nat.testBit_eq_decide_div_mod_eq]
    rcases Nat.mod_two_eq_zero_or_one (v / 2 ^ k) with h | h <;> simp [h]
  rw [Body.bit_eq_testBit _ rfl rfl, Body.bit_eq_testBit _ rfl rfl, show SYS.CLK_FAULT.word.at 0 0 = 0x40000024 from rfl, ← hclear,
    ← hbits k hk, settle_word, busAnswer_word, keepChanged_word, Body.word_setWord_same]

theorem clkStat_write_effect {s : State} {v : Nat} (hp : powered s.body = true) (hv : v < 2 ^ 32) :
    Does (.registerWrite ⟨0x40000020, 32, v, false, 0, 0, .other⟩) s (fun b => b.bus = some 0 ∧
      RegsKept (fun _ => False) s.body b) := by
  refine does_registerWrite hp ?_
  rw [busWrite_clkStat hv]
  refine ⟨rfl, settle_keepChanged_regsKept (fun a _ => ?_) _ _ _⟩
  by_cases ha : a = 0x40000020
  · rw [ha, Body.word_setWord_same]
  · exact Body.word_setWord_other _ _ ha

theorem wakeLate_read_effect {s : State} (hp : powered s.body = true) :
    Does (.counterReadClear ⟨0x40000030, 32, 0, false, 0, 0, .other⟩) s (fun b =>
      b.bus = some (s.body.get SYS.WAKE_LATE.COUNT) ∧ b.get SYS.WAKE_LATE.COUNT = 0) := by
  obtain ⟨w, hlow, hread⟩ := busRead_wakeLate s.body
  have hcount : ∀ b : Body, b.get SYS.WAKE_LATE.COUNT = (b.word 0x40000030).toNat % 2 ^ 16 := by
    intro b
    unfold Body.get
    rw [pow_zero, Nat.div_one]
    rfl
  refine does_counterReadClear hp ?_
  rw [hread, hcount]
  refine ⟨rfl, ?_⟩
  rw [settle_get, busAnswer_get, hcount, Body.word_setWord_same, hlow]

/-- Settles O21: a misfit access is refused before the register is looked at (the model's reading, log entry 105); the
other clauses are the access codes RW, W1C, RO and RS on one register of SYS each. -/
theorem registerWindowTransfersFollowAccessCodes : Obligations.RegisterWindowTransfersFollowAccessCodes := by
  refine ⟨fun s x hp hin => ⟨misfit_changes_nothing hp hin, ?_⟩, fun s v hp hv => ?_⟩
  · rintro hw hal hns ⟨r, hr, hreach⟩
    exact reached_completes hp hin hw hal hr (by rw [hns]; exact hreach)
  · exact ⟨gateCtl_write_effect hp hv, clkFault_write_effect hp hv, clkStat_write_effect hp hv, wakeLate_read_effect hp⟩

end Sys2Proof.Machine
end

section
/-! SUPPORT. Scope: every command completes, and what the idle tick does to the clock (R28, R247). -/

namespace Sys2Proof.Machine

/-! ### Every command completes -/

/-- Whatever the command and the state, the answer is a next state: the queue as given, and a body whose pins are settled. -/
theorem exec_next (c : Instr) (s : State) : ∃ b, exec c s = .next { s with body := settle b } := by
  cases c <;> exact ⟨_, rfl⟩

/-- Settling makes the pins those of the rest of the state, which it leaves alone. -/
theorem pinsFollow_settle (b : Body) (q : List Instr) : PinsFollow { body := settle b, pending := q } := rfl

/-- A command that needs the engines, in a module that has them: the body that its function answers is the body that is left. -/
theorem does_of_result {c : Instr} {s : State} {f : Body → Body} {P : Body → Prop} (hexec : exec c s = onBody f s)
    (hp : powered s.body = true) (h : ∀ b, f s.body = b → P (settle b)) : Does c s P :=
  does_of_onBody hexec hp (h _ rfl)

theorem step_cons (c : Instr) (rest : List Instr) (s : State) :
    step { s with pending := c :: rest } = exec c { s with pending := rest } := rfl

/-! ### What passes with the time leaves the clock alone -/

theorem Body.each_clock {α : Type} {f : Body → α → Body} (h : ∀ x b, (f b x).clock = b.clock) (l : List α) (b : Body) :
    (b.each l f).clock = b.clock :=
  Body.each_keeps (P := fun c => c.clock = b.clock) (fun x c hc => (h x c).trans hc) l rfl

@[simp] theorem settle_clock (b : Body) : (settle b).clock = b.clock := rfl

theorem record_clock (code a0 a1 : Nat) (b : Body) : (record code a0 a1 b).clock = b.clock := by
  unfold record bbOffer
  split
  · rfl
  · split <;> rfl

theorem aonRaise_clock (i : Nat) (b : Body) : (aonRaise i b).clock = b.clock := by
  unfold aonRaise
  split <;> rfl

theorem almFire_clock (late : Bool) (b : Body) (i : Nat) : (almFire late b i).clock = b.clock := by
  have htail : ∀ c : Body, (if mainPower c = true then aonRaise i c else c.mark AON.ALM_CTL.OFF true i).clock = c.clock := by
    intro c
    by_cases hm : mainPower c = true
    · rw [if_pos hm, aonRaise_clock]
    · rw [if_neg hm, Body.mark_clock]
  refine (htail _).trans ?_
  cases late with
  | false => exact (Body.mark_clock _ _ _ _ _).trans (Body.mark_clock _ _ _ _ _)
  | true => exact (Body.mark_clock _ _ _ _ _).trans ((Body.mark_clock _ _ _ _ _).trans (Body.mark_clock _ _ _ _ _))

/-- The alarms of an edge fire, whichever of them `due` names. -/
theorem almsFire_clock (due : Body → Nat → Bool) (late : Body → Nat → Bool) (l : List Nat) (b : Body) :
    (b.each l fun b i => if due b i = true then almFire (late b i) b i else b).clock = b.clock := by
  refine Body.each_clock (fun i c => ?_) l b
  split
  · exact almFire_clock _ _ _
  · rfl

theorem lfxoEdge_clock (b : Body) : (lfxoEdge b).clock = b.clock := by
  unfold lfxoEdge
  dsimp only
  refine (almsFire_clock _ _ _ _).trans ?_
  split
  · rfl
  · exact record_clock _ _ _ _

theorem lfxoEdges_clock (k : Nat) (b : Body) : (lfxoEdges k b).clock = b.clock := by
  unfold lfxoEdges
  split
  · rfl
  · dsimp only
    split
    · split
      · exact (aonRaise_clock _ _).trans ((almsFire_clock _ _ _ _).trans (lfxoEdge_clock b))
      · exact (almsFire_clock _ _ _ _).trans (lfxoEdge_clock b)
    · exact (almsFire_clock _ _ _ _).trans (lfxoEdge_clock b)

theorem noteSpan_clock (t0 : Nat) (b : Body) : (noteSpan t0 b).clock = b.clock := by
  unfold noteSpan
  split <;> rfl

theorem txStamp_clock (p mtype seq tn cyc : Nat) (b : Body) : (txStamp p mtype seq tn cyc b).clock = b.clock := by
  unfold txStamp
  split
  · rfl
  · dsimp only
    split
    · rw [Body.wrap_clock, Body.mark_clock]
    · rfl

theorem frameLeaves_clock (x : Egress) (start : Nat) (b : Body) : (frameLeaves x start b).clock = b.clock := by
  unfold frameLeaves
  split
  · split <;> rfl
  · dsimp only
    split
    · exact txStamp_clock _ _ _ _ _ _
    · rfl

theorem servePort_clock (n p : Nat) (b : Body) : (servePort n p b).clock = b.clock := by
  induction n generalizing b with
  | zero => rfl
  | succ n ih =>
    unfold servePort
    dsimp only
    split
    · rfl
    · split
      · rfl
      · exact (ih _).trans (frameLeaves_clock _ _ _)

theorem servePorts_clock (b : Body) : (servePorts b).clock = b.clock := by
  unfold servePorts
  split
  · rfl
  · exact Body.each_clock (fun p c => servePort_clock _ p c) _ b

/-- Time that passes moves the TCXO count, and network time under ADJ, and nothing else of the clock (R247). -/
theorem advance_clock (n : Nat) (b : Body) : (advance n b).clock =
    { b.clock with cyc := b.clock.cyc + n, net := b.clock.net + n * tickInc (sgn 32 (b.get TB.ADJ_FREQ.ADJ)) } := by
  unfold advance
  rw [servePorts_clock, lfxoEdges_clock, noteSpan_clock]

/-- With nothing waiting and main power present a step is one TCXO cycle (the model's choice of a tick, log entry 2). -/
theorem step_idle_mainPower {s : State} (hq : s.pending = []) (hp : mainPower s.body = true) :
    step s = .next { s with body := settle (advance 1 s.body) } := by
  rw [step_idle hq]
  unfold onAny idle
  rw [if_pos hp]

/-- Settles O57: `exec_next` over the commands, the two cases of `step`, and the clock of the tick. -/
theorem aStepRunsTheFrontCommand : Obligations.AStepRunsTheFrontCommand := by
  refine ⟨fun c s => ?_, fun c s rest => step_cons c rest s, fun s hq hp => ?_⟩
  · obtain ⟨b, hb⟩ := exec_next c s
    exact ⟨_, hb, rfl, pinsFollow_settle b s.pending⟩
  · refine ⟨_, step_idle_mainPower hq hp, hq, ?_, ?_⟩
    · rw [settle_clock, advance_clock]
    · rw [settle_clock, advance_clock, Nat.one_mul]

end Sys2Proof.Machine
end

section
/-! SUPPORT. Scope: a record that reaches MRAM (R580 to R582), and the held bits (R22, R575). -/

namespace Sys2Proof.Machine

/-! ### An enqueue keeps what SAFE and MRAM hold -/

/-- SAFE's waiting records and what MRAM, flash and fuses hold are the same in both. -/
def SameStore (b c : Body) : Prop := c.safe = b.safe ∧ c.nv = b.nv

theorem SameStore.refl (b : Body) : SameStore b b := ⟨rfl, rfl⟩

theorem SameStore.trans {b c e : Body} (h : SameStore b c) (g : SameStore c e) : SameStore b e :=
  ⟨g.1.trans h.1, g.2.trans h.2⟩

theorem SameStore.mark (b : Body) (f : Fld) (v : Bool) (i j : Nat) : SameStore b (b.mark f v i j) :=
  ⟨Body.mark_safe b f v i j, Body.mark_nv b f v i j⟩

theorem SameStore.setQueue (b : Body) (q : Nat) (x : Queue) : SameStore b (setQueue b q x) := ⟨rfl, rfl⟩

theorem sameStore_takeCells (n : Nat) (acc : List Nat) (b : Body) : SameStore b (takeCells n acc b).2 := by
  induction n generalizing acc b with
  | zero => exact .refl b
  | succ n ih => exact (SameStore.trans (c := (b.choose 16384).2) ⟨rfl, rfl⟩ (ih _ _))

theorem sameStore_fillCells (cs l : List Nat) (b : Body) : SameStore b (fillCells cs l b) := by
  rw [fillCells_only_mem]
  exact ⟨rfl, rfl⟩

theorem sameStore_startTimer (q : Nat) (was : Bool) (b : Body) : SameStore b (startTimer q was b) := by
  unfold startTimer
  split <;> exact ⟨rfl, rfl⟩

theorem sameStore_qSwap (q : Nat) (b : Body) : SameStore b (qSwap q b) := by
  unfold qSwap
  dsimp only
  split
  · exact ⟨Body.setBit_safe _ _ _ _ _ _, Body.setBit_nv _ _ _ _ _ _⟩
  · exact .refl b

theorem sameStore_qRefuse (q : Nat) (b : Body) : SameStore b (qRefuse q b) := by
  unfold qRefuse
  exact ⟨by rw [Body.mark_safe, Body.bump_safe], by rw [Body.mark_nv, Body.bump_nv]⟩

/-- An enqueue, admitted or refused, keeps SAFE's records and MRAM. -/
theorem sameStore_qPut (q : Nat) (l : List Nat) (b : Body) : SameStore b (qPut q l b).1 := by
  unfold qPut
  dsimp only
  split
  · exact sameStore_qRefuse q b
  · have hfill := (sameStore_takeCells (cellsFor l.length) [] b).trans
      (sameStore_fillCells (takeCells (cellsFor l.length) [] b).1 l (takeCells (cellsFor l.length) [] b).2)
    have hput : ∀ (was : Bool) (x : Queue) (c : Body), SameStore b c →
        SameStore b (startTimer q was (setQueue (c.mark QM.Q_FLAG.FULL false q) q x)) := fun was x c hc =>
      ((hc.trans (.mark c _ _ _ _)).trans (.setQueue _ _ _)).trans (sameStore_startTimer q was _)
    split
    · split
      · exact (hput _ _ _ hfill).trans (sameStore_qSwap q _)
      · exact hput _ _ _ hfill
    · exact hput _ _ _ hfill

/-- A record that reaches MRAM takes the place behind the newest while the ring has room (R580). -/
theorem bbStore_of_room {b : Body} (h : b.nv.bb.length < 8192) (r : BbRec) :
    (bbStore r b).safe = b.safe ∧ (bbStore r b).nv.bb = b.nv.bb ++ [r] := by
  obtain ⟨hsafe, hnv⟩ := sameStore_qPut 26 r.bytes
    { b with nv := { b.nv with bb := (b.nv.bb ++ [r]).drop ((b.nv.bb ++ [r]).length - 8192) } }
  have hroom : (b.nv.bb ++ [r]).length - 8192 = 0 := by
    rw [List.length_append, List.length_singleton]
    omega
  refine ⟨hsafe, (congrArg Nv.bb hnv).trans ?_⟩
  rw [hroom, List.drop_zero]

theorem bbRecordWrite_moves_oldest {s : State} {r : BbRec} {rest : List BbRec} (hp : powered s.body = true)
    (hq : s.body.safe.bbQ = r :: rest) (hlost : s.body.safe.bbLostDue = 0) (hroom : s.body.nv.bb.length < 8192) :
    Does .bbRecordWrite s (fun b => b.safe.bbQ = rest ∧ b.nv.bb = s.body.nv.bb ++ [r]) := by
  refine does_of_result (f := bbWrite) rfl hp fun b hb => ?_
  obtain ⟨hsafe, hbb⟩ := bbStore_of_room (b := { s.body with safe := { s.body.safe with bbQ := rest } }) hroom r
  have hwrite : bbWrite s.body = bbStore r { s.body with safe := { s.body.safe with bbQ := rest } } := by
    unfold bbWrite
    rw [hq]
    refine if_neg ?_
    rw [hsafe]
    exact Nat.not_lt.2 (le_of_eq hlost)
  rw [← hwrite, hb] at hsafe hbb
  exact ⟨congrArg Safe.bbQ hsafe, hbb⟩

/-- SAFE.BB_SEL takes the value written. -/
theorem bbSel_takes_value {s : State} {v : Nat} (hp : powered s.body = true) (hv : v < 2 ^ 32) :
    Does (.bbSel v) s (fun b => b.get SAFE.BB_SEL.SEQ = v) := by
  refine does_of_onBody (f := (·.put SAFE.BB_SEL.SEQ v)) rfl hp ?_
  rw [settle_get, Body.get_put_same _ _ _ _ _ (by decide)]
  exact Nat.mod_eq_of_lt hv

/-! ### Sending keeps the MOD conflict as it is -/

theorem shEmit_conflict (id : Nat) (m : List Nat) (b : Body) : (shEmit id m b).sha.conflict = b.sha.conflict := by
  unfold shEmit
  cases assocOf b id <;> rfl

theorem pumpN_conflict (n id : Nat) (b : Body) : (pumpN n id b).sha.conflict = b.sha.conflict := by
  induction n generalizing b with
  | zero => rfl
  | succ n ih =>
    unfold pumpN
    split
    · split
      · rfl
      · exact (ih _).trans (shEmit_conflict _ _ _)
    · rfl

theorem shAsk_conflict (id : Nat) (m : List Nat) (o : Option (Nat × Nat)) (b : Body) :
    (shAsk id m o b).sha.conflict = b.sha.conflict := pumpN_conflict _ _ _

theorem shCollect_conflict (t k : Nat) (ns : Bool) (p : List Nat) (b : Body) :
    (shCollect t k ns p b).sha.conflict = b.sha.conflict := by
  have hsubs : ∀ (l : List Nat) (c : Body), c.sha.conflict = b.sha.conflict →
      (c.each l fun c id => shRequest id t p c).sha.conflict = b.sha.conflict := fun l _ hc =>
    Body.each_keeps (P := fun e => e.sha.conflict = b.sha.conflict) (fun _ _ he => (shAsk_conflict _ _ _ _).trans he) l hc
  unfold shCollect
  refine hsubs _ _ ?_
  split
  · exact shAsk_conflict _ _ _ _
  · rfl

/-! ### Errors keep the held bits that stand -/

/-- From `b` to `c` the MOD conflict is as it was and every held bit that stood still stands (R575). -/
def HeldFrame (b c : Body) : Prop :=
  c.sha.conflict = b.sha.conflict ∧ ∀ k, b.bit SAFE.HELD.BLOCK k = true → c.bit SAFE.HELD.BLOCK k = true

theorem HeldFrame.refl (b : Body) : HeldFrame b b := ⟨rfl, fun _ h => h⟩

theorem HeldFrame.trans {b c e : Body} (h : HeldFrame b c) (g : HeldFrame c e) : HeldFrame b e :=
  ⟨g.1.trans h.1, fun k hk => g.2 k (h.2 k hk)⟩

theorem HeldFrame.of_regs {b c : Body} (hs : c.sha.conflict = b.sha.conflict) (hr : c.regs = b.regs) : HeldFrame b c := by
  refine ⟨hs, fun k hk => ?_⟩
  unfold Body.bit at hk ⊢
  rwa [Body.get_congr hr]

theorem HeldFrame.safe (b : Body) (x : Safe) : HeldFrame b { b with safe := x } := .of_regs rfl rfl

theorem HeldFrame.put {f : Fld} {i j : Nat} (hf : f.at i j ≠ 0x40D0003C) (b : Body) (v : Nat) : HeldFrame b (b.put f v i j) := by
  refine ⟨rfl, fun k hk => ?_⟩
  unfold Body.bit at hk ⊢
  rwa [Body.get_put_other _ _ _ _ _ _ _ _ (Ne.symm hf)]

/-- Setting a bit of a number clears none. -/
theorem testBit_insBits_one {n j k : Nat} (h : n.testBit k = true) : (insBits n j 1 1).testBit k = true := by
  rw [Nat.testBit_eq_decide_div_mod_eq, decide_eq_true_eq] at h ⊢
  rcases Nat.lt_trichotomy k j with hk | rfl | hk
  · have hbelow := insBits_below n j 1 1 k 1 (by omega)
    rw [pow_one] at hbelow
    exact hbelow.trans h
  · have hsame := insBits_same n k 1 1
    rw [pow_one] at hsame
    exact hsame
  · have habove := insBits_above n j 1 1 k 1 (by omega)
    rw [pow_one] at habove
    exact habove.trans h

/-- Holding a block's bit clears no other. -/
theorem HeldFrame.hold (j : Nat) (b : Body) : HeldFrame b (b.setBit SAFE.HELD.BLOCK j true) := by
  refine ⟨rfl, fun k hk => ?_⟩
  have hlt : k < 15 := by
    by_contra hge
    have hzero : b.get SAFE.HELD.BLOCK / 2 ^ k = 0 := Nat.div_eq_of_lt
      (lt_of_lt_of_le (b.get_lt SAFE.HELD.BLOCK 0 0) (Nat.pow_le_pow_right (by decide) (Nat.le_of_not_lt hge)))
    simp [Body.bit, hzero] at hk
  unfold Body.bit at hk ⊢
  unfold Body.setBit
  rw [Body.get_put_same _ _ _ _ _ (by decide), ← Nat.testBit_eq_decide_div_mod_eq, Nat.testBit_mod_two_pow]
  rw [← Nat.testBit_eq_decide_div_mod_eq] at hk
  rw [if_pos rfl, testBit_insBits_one hk, Bool.and_true, decide_eq_true_eq]
  exact hlt

theorem bbOffer_held (need code b6 : Nat) (ns : Bool) (a0 a1 : Nat) (b : Body) :
    HeldFrame b (bbOffer need code b6 ns a0 a1 b).1 := by
  unfold bbOffer
  split
  · exact .of_regs rfl rfl
  · split
    · exact .of_regs rfl rfl
    · exact (HeldFrame.put (f := SAFE.BB_LOST.COUNT) (by decide) b _).trans (.of_regs rfl rfl)

/-- The registers of a slot stand before HELD. -/
theorem HeldFrame.slotPuts {s : Nat} (hs : s < 2) (w a0 a1 seq : Nat) (b : Body) :
    HeldFrame b ((((b.put SAFE.ERR.word w s).put SAFE.ERR_ARG0.VALUE a0 s).put SAFE.ERR_ARG1.VALUE a1 s).put
      SAFE.ERR_SEQ.VALUE seq s) := by
  have hne : ∀ f : Fld, f.addr ≤ 0x40D0001C → f.s1 = 0x10 → f.s2 = 0 → f.at s 0 ≠ 0x40D0003C := by
    intro f hlo h1 h2
    simp only [Fld.at, h1, h2]
    omega
  exact (((HeldFrame.put (hne _ (by decide) rfl rfl) _ _).trans (.put (hne _ (by decide) rfl rfl) _ _)).trans
    (.put (hne _ (by decide) rfl rfl) _ _)).trans (.put (hne _ (by decide) rfl rfl) _ _)

/-- Placing an error clears no held bit (R572, R575). -/
theorem placeError_held (code sev a0 a1 : Nat) (b : Body) : HeldFrame b (placeError code sev a0 a1 b) := by
  unfold placeError
  dsimp only
  generalize sev + _ + _ + _ = b6
  have hoffer : HeldFrame b (bbOffer 1 code b6 (errorNs code a0 b) a0 a1 b).1 := bbOffer_held _ _ _ _ _ _ _
  generalize bbOffer 1 code b6 (errorNs code a0 b) a0 a1 b = o at hoffer ⊢
  obtain ⟨c, seq?⟩ := o
  refine HeldFrame.trans ?_ (.of_regs (shCollect_conflict _ _ _ _ _) (shCollect_regs _ _ _ _ _))
  have hslots : ∀ p : Nat × Body, HeldFrame b p.2 → ∀ held pre full : Bool, HeldFrame b
      (if held then
        let c := setSlot 0 code sev (errorNs code a0 b) false a0 a1 p.1 p.2
        { c with safe := { c.safe with primaryAt := c.clock.cyc } }
      else if pre then
        let c := setSlot 0 code sev (errorNs code a0 b) true a0 a1 p.1 (copySlot 0 1 p.2)
        { c with safe := { c.safe with primaryAt := c.clock.cyc } }
      else if full then setSlot 1 code sev (errorNs code a0 b) false a0 a1 p.1 p.2
      else p.2.bump SAFE.ERR_OVF.COUNT) := by
    intro p hp held pre full
    refine hp.trans ?_
    split
    · exact (HeldFrame.slotPuts (by decide) _ _ _ _ _).trans (.safe _ _)
    · split
      · exact ((HeldFrame.slotPuts (by decide) _ _ _ _ _).trans (.slotPuts (by decide) _ _ _ _ _)).trans (.safe _ _)
      · split
        · exact .slotPuts (by decide) _ _ _ _ _
        · exact .put (by decide) _ _
  cases seq? with
  | some s => exact hslots (s, c) hoffer _ _ _
  | none => exact hslots c.freeWord (hoffer.trans (.of_regs rfl rfl)) _ _ _

/-- An error that is not fatal clears no held bit. -/
theorem raise_held {code a0 : Nat} (hsev : severityOf code a0 < 3) (a1 : Nat) (b : Body) : HeldFrame b (raise code a0 a1 b) := by
  unfold raise
  split
  · exact bbOffer_held _ _ _ _ _ _ _
  · unfold raiseAs
    dsimp only
    rw [if_neg (by omega : severityOf code a0 ≠ 3)]
    split
    · exact (placeError_held _ _ _ _ _).trans (.hold _ _)
    · exact placeError_held _ _ _ _ _

/-- A world violation clears no held bit and leaves the MOD conflict as it is (R584). -/
theorem worldAccess_held (addr init : Nat) (write : Bool) (b : Body) : HeldFrame b (worldAccess addr init write b) := by
  have hcount : HeldFrame b (((record 0x0021 addr (init % 16 + (if write then 16 else 0)) b).bump SAFE.WORLD_CNT.COUNT).put
      SAFE.WORLD_LAST.ADDR addr) :=
    ((bbOffer_held _ _ _ _ _ _ b).trans (.put (by decide) _ _)).trans (.put (by decide) _ _)
  unfold worldAccess
  dsimp only
  refine hcount.trans ?_
  generalize ((record 0x0021 addr (init % 16 + (if write then 16 else 0)) b).bump SAFE.WORLD_CNT.COUNT).put
    SAFE.WORLD_LAST.ADDR addr = c
  have hmajor : ∀ a0, severityOf 0x0020 a0 < 3 := fun a0 => by simp [severityOf]
  split
  · exact ((HeldFrame.safe c _).trans (.safe _ _)).trans (raise_held (hmajor _) _ _)
  · exact .safe c _

/-! ### HELD_CLEAR -/

theorem heldClear_conflict {v : Nat} {b : Body} (hv : v % 2 = 1) (hc : b.sha.conflict = 1) : (heldClear v b).sha.conflict = 2 := by
  unfold heldClear
  exact congrArg (fun c : Body => c.sha.conflict) (if_pos ⟨hv, hc⟩)

/-- HELD_CLEAR writes the held bits without those of the value, and no other register. -/
theorem heldClear_regs (v : Nat) (b : Body) :
    (heldClear v b).regs = (b.put SAFE.HELD.BLOCK (b.get SAFE.HELD.BLOCK - Nat.land (b.get SAFE.HELD.BLOCK) v)).regs := by
  unfold heldClear
  dsimp only
  split <;> rfl

theorem heldClear_bit {k : Nat} (hk : k < 15) (v : Nat) (b : Body) :
    (heldClear v b).bit SAFE.HELD.BLOCK k = (b.bit SAFE.HELD.BLOCK k && decide (v / 2 ^ k % 2 = 0)) := by
  have hclear : decide (v / 2 ^ k % 2 = 0) = !v.testBit k := by
    rw [Nat.testBit_eq_decide_div_mod_eq]
    rcases Nat.mod_two_eq_zero_or_one (v / 2 ^ k) with h | h <;> simp [h]
  unfold Body.bit
  rw [Body.get_congr (heldClear_regs v b), Body.get_put_same _ _ _ _ _ (by decide), hclear, ← Nat.testBit_eq_decide_div_mod_eq,
    ← Nat.testBit_eq_decide_div_mod_eq, Nat.testBit_mod_two_pow, decide_eq_true hk, Bool.true_and]
  exact testBit_sub_and _ _ _

theorem exec_heldClear (v : Nat) (secure : Bool) (s : State) : exec (.heldClear v secure) s =
    onBody (fun b => if secure = true then heldClear v b else worldAccess 0x40D0003C 1 true b) s := rfl

theorem heldClear_secure {s : State} {v : Nat} (hp : powered s.body = true) :
    Does (.heldClear v true) s (fun b => (∀ k, k < 15 → b.bit SAFE.HELD.BLOCK k =
        (s.body.bit SAFE.HELD.BLOCK k && decide (v / 2 ^ k % 2 = 0))) ∧
      (v % 2 = 1 → s.body.sha.conflict = 1 → b.sha.conflict = 2) ∧ RegsKept (· = SAFE.HELD.word.addr) s.body b) := by
  have hbits := fun k (hk : k < 15) => heldClear_bit hk v s.body
  have hconflict := heldClear_conflict (v := v) (b := s.body)
  have hkept := (RegsKept.setWord (p := (· = SAFE.HELD.word.addr)) rfl s.body _).trans (.of_regs (heldClear_regs v s.body))
  refine does_of_result (exec_heldClear v true s) hp fun b hb => ?_
  rw [if_pos rfl] at hb
  rw [hb] at hbits hconflict hkept
  exact ⟨hbits, hconflict, hkept⟩

theorem heldClear_nonSecure {s : State} {v : Nat} (hp : powered s.body = true) :
    Does (.heldClear v false) s (fun b => (∀ k, s.body.bit SAFE.HELD.BLOCK k = true → b.bit SAFE.HELD.BLOCK k = true) ∧
      b.get SAFE.WORLD_CNT.COUNT = min (s.body.get SAFE.WORLD_CNT.COUNT + 1) (2 ^ 32 - 1) ∧
      b.get SAFE.WORLD_LAST.ADDR = 0x40D0003C ∧ b.sha.conflict = s.body.sha.conflict) := by
  obtain ⟨hconflict, hheld⟩ := worldAccess_held 0x40D0003C 1 true s.body
  have hcount := worldAccess_count 0x40D0003C 1 true s.body
  have hlast := worldAccess_last (addr := 0x40D0003C) (by decide) 1 true s.body
  refine does_of_result (exec_heldClear v false s) hp fun b hb => ?_
  rw [if_neg Bool.false_ne_true] at hb
  rw [hb] at hconflict hheld hcount hlast
  exact ⟨hheld, hcount, hlast, hconflict⟩

/-- Settles O17: the move of a record is `bbStore_of_room`; HELD_CLEAR is bitwise in the secure world, and a violation in the
other. -/
theorem blackBoxAndHeldBits : Obligations.BlackBoxAndHeldBits := fun _ _ _ _ hp hv =>
  ⟨bbRecordWrite_moves_oldest hp, bbSel_takes_value hp hv, heldClear_secure hp, heldClear_nonSecure hp⟩

end Sys2Proof.Machine
end
section
/-! SUPPORT. Scope: the lock of the world map (R34): what a locked map makes of a write, and that a cold start ends the lock. -/

namespace Sys2Proof.Machine

/-! ### Registers of the world map -/

/-- The registers of the world map: WORLD_BLK, WORLD_TILE_LO, WORLD_TILE_HI and the BASE and TOP of each region. -/
def mapReg (a : Nat) : Prop := a % 4 = 0 ∧ ((0x40000010 ≤ a ∧ a ≤ 0x40000018) ∨ (0x40000100 ≤ a ∧ a < 0x40000300))

/-- The bits of a register that a secure access reaches. -/
def secureMask (r : RegRow) : Nat := (r.fields.map fun f => (2 ^ f.w - 1) * 2 ^ f.lo).sum

theorem reach_secure (b : Body) (a : Nat) (r : RegRow) : reach b a r false = secureMask r := rfl

/-- A register stands at `a`, and a secure access reaches a field of it that is not read-only. -/
def securelyWritable (a : Nat) : Bool := match rowAt a with
  | some r => decide (secureMask r ≠ 0) && decide (Nat.land (secureMask r) (2 ^ 32 - 1 - codeMask r .ro) ≠ 0)
  | none => false

theorem exists_row_of_securelyWritable {a : Nat} (h : securelyWritable a = true) : ∃ r, rowAt a = some r ∧ secureMask r ≠ 0 ∧
    Nat.land (secureMask r) (2 ^ 32 - 1 - codeMask r .ro) ≠ 0 := by
  unfold securelyWritable at h
  cases hr : rowAt a with
  | none => rw [hr] at h; exact absurd h Bool.false_ne_true
  | some r =>
    rw [hr] at h
    simp only [Bool.and_eq_true, decide_eq_true_eq] at h
    exact ⟨r, rfl, h⟩

theorem securelyWritable_block : ∀ i < 3, securelyWritable (0x40000010 + 4 * i) = true := by decide

theorem securelyWritable_regions : ∀ i < 128, securelyWritable (0x40000100 + 4 * i) = true := by decide

theorem securelyWritable_mapReg {a : Nat} (h : mapReg a) : securelyWritable a = true := by
  obtain ⟨hal, ⟨hlo, hhi⟩ | ⟨hlo, hhi⟩⟩ := h
  · obtain ⟨i, rfl⟩ : ∃ i, a = 0x40000010 + 4 * i := ⟨(a - 0x40000010) / 4, by omega⟩
    exact securelyWritable_block i (by omega)
  · obtain ⟨i, rfl⟩ : ∃ i, a = 0x40000100 + 4 * i := ⟨(a - 0x40000100) / 4, by omega⟩
    exact securelyWritable_regions i (by omega)

theorem mapReg_block {a : Nat} (h : mapReg a) : (a - 0x40000000) / 0x100000 = 0 := by
  obtain ⟨_, h⟩ := h
  omega

theorem inWindow_mapReg {a : Nat} (h : mapReg a) : inWindow a = true := by
  obtain ⟨_, h⟩ := h
  unfold inWindow
  rw [Bool.and_eq_true, decide_eq_true_eq, decide_eq_true_eq]
  omega

/-! ### A write to a locked map -/

theorem writeSys_locked {a : Nat} (h : mapReg a) {b : Body} (hlock : b.flag SYS.WORLD_LOCK.LOCK = true) (v : Nat) (ns : Bool) :
    writeSys a v ns b = some (blockRecord 0 (a % 2 ^ 20) v b) := by
  unfold writeSys
  rw [if_pos h.2, if_pos hlock]

/-- The lock turns an aligned secure write of the map into a record (R34). -/
theorem busWrite_locked {a : Nat} (h : mapReg a) {b : Body} (hlock : b.flag SYS.WORLD_LOCK.LOCK = true) (v : Nat) :
    ∃ w, busWrite ⟨a, 32, v, false, 0, 0, .other⟩ b = (keepChanged a b (blockRecord 0 (a % 2 ^ 20) w b), some 0) := by
  obtain ⟨r, hr, hreach, hwrites⟩ := exists_row_of_securelyWritable (securelyWritable_mapReg h)
  have hblock := mapReg_block h
  have hwake : wakeBlock a b = b := by simp [wakeBlock, hblock]
  have hspecial : ∀ w, writeSpecial a w false 0 b = some (blockRecord 0 (a % 2 ^ 20) w b) := by
    intro w
    unfold writeSpecial
    rw [hblock]
    exact writeSys_locked h hlock w false
  refine ⟨Nat.land (v % 2 ^ 32) (secureMask r), ?_⟩
  rw [busWrite_reached (r := r) (inWindow_mapReg h) rfl h.1 hr (by rw [reach_secure]; exact hreach)]
  dsimp only
  rw [reach_secure, hwake]
  unfold writeReg
  rw [if_neg (by simp [hblock]), if_neg hwrites, hspecial]

theorem keepChanged_safe (a : Nat) (o b : Body) : (keepChanged a o b).safe = b.safe := by
  unfold keepChanged keepSetting
  split
  · rfl
  · split <;> rfl

/-- With nothing waiting a record is admitted, alone (R582). -/
theorem record_of_empty {b : Body} (h : b.safe.bbQ = []) (code a0 a1 : Nat) :
    ∃ r, (record code a0 a1 b).safe.bbQ = [r] ∧ r.code = code ∧ r.arg0 = a0 % 2 ^ 32 := by
  have hfree : 16 ≤ bbFree b := by
    unfold bbFree
    rw [h]
    decide
  unfold record bbOffer
  rw [h]
  dsimp only [List.find?_nil]
  rw [if_pos hfree]
  exact ⟨_, rfl, rfl, rfl⟩

/-- A record writes no register of block SYS. -/
theorem record_word_sys {q : Nat} (hq : inBlock 0 q) (code a0 a1 : Nat) (b : Body) : (record code a0 a1 b).word q = b.word q :=
  (record_frame code a0 a1 b).2 q (by unfold inBlock at hq; unfold errorReg; omega)

theorem lockedWrite_recorded {s : State} {v a : Nat} (hp : powered s.body = true) (hlock : s.body.flag SYS.WORLD_LOCK.LOCK = true)
    (h : mapReg a) : Does (.registerWrite ⟨a, 32, v, false, 0, 0, .other⟩) s (fun b => b.bus = some 0 ∧
      (∀ q, inBlock 0 q → b.word q = s.body.word q) ∧
      (s.body.safe.bbQ = [] → ∃ r, b.safe.bbQ = [r] ∧ r.code = 0x0080 ∧ r.arg0 = a - 0x40000000)) := by
  obtain ⟨w, hwrite⟩ := busWrite_locked h hlock v
  refine does_registerWrite hp ?_
  rw [hwrite]
  have hsys := fun q (hq : inBlock 0 q) => record_word_sys hq (0 * 256 + 0x80) (a % 2 ^ 20) w s.body
  have hoffer := fun hq => record_of_empty (b := s.body) hq (0 * 256 + 0x80) (a % 2 ^ 20) w
  unfold blockRecord
  generalize record (0 * 256 + 0x80) (a % 2 ^ 20) w s.body = c at hsys hoffer ⊢
  have hword := keepChanged_word a s.body c
  have hsafe := keepChanged_safe a s.body c
  generalize keepChanged a s.body c = e at hword hsafe ⊢
  refine ⟨rfl, fun q hq => (hword q).trans (hsys q hq), fun hq => ?_⟩
  obtain ⟨r, hr, hcode, harg⟩ := hoffer hq
  refine ⟨r, (congrArg Safe.bbQ hsafe).trans hr, hcode, harg.trans ?_⟩
  obtain ⟨_, h⟩ := h
  omega

/-! ### Locking, and the cold start -/

theorem lockWorld_locks (b : Body) : (lockWorld b).flag SYS.WORLD_LOCK.LOCK = true := Body.flag_mark_same _ _ _ _ _ rfl (by decide)

theorem lockWorld_kept (b : Body) : RegsKept (· = SYS.WORLD_LOCK.word.addr) b (lockWorld b) :=
  .setWord (p := (· = SYS.WORLD_LOCK.word.addr)) rfl b _

/-- Entries of a register that no reset keeps are gone after one. -/
theorem tabGet_coldRegs {a : Nat} (h : ∀ w, keptWord a w = resetWord a) (d : Nat → Word) (l : List (Nat × Word)) :
    tabGet d (l.filterMap fun p =>
      let v := keptWord p.1 p.2.toNat
      if v = resetWord p.1 then none else some (p.1, BitVec.ofNat 32 v)) a = d a := by
  induction l with
  | nil => rfl
  | cons p t ih =>
    obtain ⟨k, w⟩ := p
    rw [List.filterMap_cons]
    by_cases hkept : keptWord k w.toNat = resetWord k
    · simpa only [if_pos hkept] using ih
    · have hne : k ≠ a := fun e => hkept (e ▸ h w.toNat)
      simpa only [if_neg hkept, tabGet, if_neg hne] using ih

/-- No bit of the lock outlasts a reset, and its reset value is 0 (R34). -/
theorem keptWord_worldLock (w : Nat) : keptWord 0x4000001C w = resetWord 0x4000001C := by
  have hmask : keepMask 0x4000001C = 0 := by decide
  have hreset : resetWord 0x4000001C = 0 := by decide
  unfold keptWord
  rw [hmask, hreset]
  exact Nat.and_zero w

theorem coldBody_worldLock (b : Body) : (coldBody b).word 0x4000001C = 0 :=
  (tabGet_coldRegs keptWord_worldLock _ b.regs).trans (by decide)

theorem word_put_worldLock {f : Fld} (hf : f.at 0 0 ≠ 0x4000001C) (b : Body) (v : Nat) :
    (b.put f v).word 0x4000001C = b.word 0x4000001C := Body.word_put_other b f v 0 0 (Ne.symm hf)

theorem word_mark_worldLock {f : Fld} (hf : f.at 0 0 ≠ 0x4000001C) (b : Body) (v : Bool) :
    (b.mark f v).word 0x4000001C = b.word 0x4000001C := word_put_worldLock hf b _

theorem word_withAon (b : Body) (x : Aon) (a : Nat) : ({ b with aon := x } : Body).word a = b.word a := rfl

/-- The registers that a cold start writes beside the reset are AON.STAT, MEMI.STAT, SAFE.ST_RES, SAFE.STAT, CLK_STAT and
CLK_FAULT; an error that follows writes none of SYS. -/
theorem coldStart_worldLock (b : Body) : (coldStart b).word 0x4000001C = (coldBody b).word 0x4000001C := by
  have hraise : ∀ c : Body, (raise 0x0010 0 0 c).word 0x4000001C = c.word 0x4000001C :=
    fun c => raise_only 0x0010 0 0 c 0x4000001C (by decide)
  unfold coldStart
  generalize (b.flag SAFE.STAT.SCAN_EN && b.flag AON.TAMPER.OPEN) = scan
  generalize coldBody b = c
  dsimp only
  split
  · rw [hraise, word_mark_worldLock (by decide), word_withAon, word_mark_worldLock (by decide), word_mark_worldLock (by decide),
      word_put_worldLock (by decide), word_mark_worldLock (by decide), word_mark_worldLock (by decide)]
    rfl
  · rw [word_mark_worldLock (by decide), word_mark_worldLock (by decide), word_put_worldLock (by decide),
      word_mark_worldLock (by decide), word_mark_worldLock (by decide)]
    rfl

theorem coldRestart_unlocks (b : Body) : (coldRestart b).flag SYS.WORLD_LOCK.LOCK = false := by
  have hword : (coldRestart b).word 0x4000001C = 0 := (coldStart_worldLock (bbDrain b)).trans (coldBody_worldLock (bbDrain b))
  unfold Body.flag Body.get
  rw [show SYS.WORLD_LOCK.LOCK.at 0 0 = 0x4000001C from rfl, hword]
  rfl

/-- Settles O25: a locked map turns the write into a record, and the lock is one of the bits that no reset keeps. -/
theorem worldMapLocksUntilReset : Obligations.WorldMapLocksUntilReset := by
  refine fun s v a hp => ⟨does_of_result (f := lockWorld) rfl hp fun b hb => ?_,
    fun hlock hal ha => lockedWrite_recorded hp hlock ⟨hal, ha⟩, does_of_result (f := coldRestart) rfl hp fun b hb => ?_⟩
  · have hlock := lockWorld_locks s.body
    have hkept := lockWorld_kept s.body
    rw [hb] at hlock hkept
    exact ⟨hlock, hkept⟩
  · have hlock := coldRestart_unlocks s.body
    rw [hb] at hlock
    exact hlock

end Sys2Proof.Machine
end
section
/-! SUPPORT. Scope: the mirror set by which a holder tells its twin of an armed switch (R441, R455), and the health its header bears (R466). -/

namespace Sys2Proof.Machine

/-! ### What a statement about a command says of its operation -/

/-- What such a command does with power to the engines is what its operation makes of the state. -/
theorem result_of_does {c : Instr} {s : State} {f : Body → Body} {P : Body → Prop} (h : Does c s P) (hexec : exec c s = onBody f s)
    (hp : powered s.body = true) : P (settle (f s.body)) := by
  obtain ⟨t, ht, -, hP⟩ := h
  rw [hexec, onBody_powered f hp] at ht
  cases ht
  exact hP

theorem flag_of_regsKept {b c : Body} (h : RegsKept (fun _ => False) b c) (f : Fld) (i j : Nat) : c.flag f i j = b.flag f i j := by
  unfold Body.flag Body.get
  rw [h _ not_false]

/-! ### A queue access writes registers of QM alone -/

theorem Only.mark {ks : List Nat} {b : Body} {f : Fld} {v : Bool} {i j : Nat} (h : f.at i j / 0x100000 ∈ ks) :
    Only ks b (b.mark f v i j) := Only.put h

theorem queueField_inQm {f : Fld} {q : Nat} (hlo : 0x40500000 ≤ f.addr) (hhi : f.addr < 0x40501000) (hs : f.s1 = 0x20) (hq : q < 32) :
    f.at q 0 / 0x100000 ∈ [0x405] := by
  rw [List.mem_singleton]
  unfold Fld.at
  rw [hs]
  omega

theorem takeCells_regs (n : Nat) (acc : List Nat) (b : Body) : (takeCells n acc b).2.regs = b.regs := by
  induction n generalizing acc b with
  | zero => rfl
  | succ n ih => exact ih _ _

theorem fillCells_regs (cs l : List Nat) (b : Body) : (fillCells cs l b).regs = b.regs := by
  rw [fillCells_only_mem]

theorem startTimer_regs (q : Nat) (was : Bool) (b : Body) : (startTimer q was b).regs = b.regs := by
  unfold startTimer
  split <;> rfl

theorem qSwap_only {q : Nat} (hq : q < 32) (b : Body) : Only [0x405] b (qSwap q b) := by
  unfold qSwap
  dsimp only
  split
  · exact Only.trans (c := setQueue b q _) (.of_regs rfl) (.put (queueField_inQm (by decide) (by decide) rfl hq))
  · exact .rfl

theorem qRefuse_only {q : Nat} (hq : q < 32) (b : Body) : Only [0x405] b (qRefuse q b) :=
  Only.trans (c := b.bump QM.Q_CNT.REFUSED 1 q) (.put (queueField_inQm (by decide) (by decide) rfl hq))
    (.mark (queueField_inQm (by decide) (by decide) rfl hq))

theorem qPut_only {q : Nat} (hq : q < 32) (l : List Nat) (b : Body) : Only [0x405] b (qPut q l b).1 := by
  unfold qPut
  dsimp only
  split
  · exact qRefuse_only hq b
  · have hfill : Only [0x405] b (fillCells (takeCells (cellsFor l.length) [] b).1 l (takeCells (cellsFor l.length) [] b).2) :=
      .of_regs ((fillCells_regs _ _ _).trans (takeCells_regs _ _ _))
    have hput : ∀ (was : Bool) (x : Queue) (c : Body), Only [0x405] b c →
        Only [0x405] b (startTimer q was (setQueue (c.mark QM.Q_FLAG.FULL false q) q x)) := fun was x c hc =>
      (hc.trans (.mark (queueField_inQm (by decide) (by decide) rfl hq))).trans (.of_regs (startTimer_regs q was _))
    split
    · split
      · exact (hput _ _ _ hfill).trans (qSwap_only hq _)
      · exact hput _ _ _ hfill
    · exact hput _ _ _ hfill

theorem qTake_regs (q : Nat) (b : Body) : (qTake q b).2.regs = b.regs := by
  unfold qTake
  split <;> rfl

/-! ### A mirror set passes the seam -/

theorem mirrorFrame_only (piece frame : List Nat) (b : Body) : Only [0x405] b (mirrorFrame piece frame b).2 := by
  have hpiece := qPut_only (q := 29) (by decide) piece b
  unfold mirrorFrame
  split
  case h_1 c hput => rwa [hput] at hpiece
  case h_2 c hput =>
    rw [hput] at hpiece
    have htaken := hpiece.trans (.of_regs (qTake_regs 29 c))
    have hframe := qPut_only (q := 12) (by decide) (toLe 2 frame.length ++ [0, 0] ++ List.replicate 12 0 ++ frame) (qTake 29 c).2
    dsimp only
    split
    case h_1 e hput => rw [hput] at hframe; exact htaken.trans hframe
    case h_2 e hput => rw [hput] at hframe; exact (htaken.trans hframe).trans (.of_regs (qTake_regs 12 e))

theorem mirrorFrames_only (l : List (List Nat × List Nat)) (b : Body) : Only [0x405] b (mirrorFrames l b).2 := by
  induction l generalizing b with
  | nil => exact .rfl
  | cons p t ih => exact (mirrorFrame_only p.1 p.2 b).trans (ih _)

theorem seamSend_regs (n : Nat) (e : Emission) (b : Body) : (seamSend n e b).regs = b.regs := by
  unfold seamSend
  dsimp only
  split <;> rfl

/-- A mirror set's header bears the health of that moment, and the frames leave it as computed. -/
theorem sendMirror_only (m : MirrorSet) (b : Body) : Only [0x405] (healthFollow b) (sendMirror m b) :=
  (mirrorFrames_only _ _).trans (.of_regs (seamSend_regs _ _ _))

theorem Body.flag_put_bits (b : Body) (f g : Fld) (v i j k l : Nat) (ha : g.at k l = f.at i j) (hf : f.lo + f.w ≤ 32)
    (h : g.lo + g.w ≤ f.lo ∨ f.lo + f.w ≤ g.lo) : (b.put f v i j).flag g k l = b.flag g k l := by
  unfold Body.flag
  rw [Body.get_put_bits _ _ _ _ _ _ _ _ ha hf h]

/-- The mirror of a member that acts is its own state, and so current (R441). -/
theorem healthFollow_mirrorOk {b : Body} (h : 2 ≤ seamRole b) : (healthFollow b).flag SEAM.HEALTH.MIRROR_OK = true := by
  have hok : mirrorOk b = true := by
    unfold mirrorOk
    rw [decide_eq_true (show b.get SEAM.STAT.ROLE ≥ 2 from h), Bool.true_or]
  unfold healthFollow
  dsimp only
  rw [hok, Body.flag_put_bits _ SEAM.HEALTH.CLASS SEAM.HEALTH.MIRROR_OK _ _ _ _ _ rfl (by decide) (by decide),
    Body.flag_mark_bits _ SEAM.HEALTH.SLICES_OK SEAM.HEALTH.MIRROR_OK _ _ _ _ _ rfl (by decide) (by decide),
    Body.flag_mark_bits _ SEAM.HEALTH.MEM_OK SEAM.HEALTH.MIRROR_OK _ _ _ _ _ rfl (by decide) (by decide),
    Body.flag_mark_bits _ SEAM.HEALTH.LOOP_OK SEAM.HEALTH.MIRROR_OK _ _ _ _ _ rfl (by decide) (by decide), Body.flag_mark_same _ _ _ _ _ rfl (by decide)]

/-- After PATTERN_STAGE_DONE has armed a switch in the holder of a pair, SEAM.HEALTH reads the mirror current: the set sent to the
twin at once has computed it. -/
theorem stageDoneTwin_mirrorOk {b : Body} (hwas : b.pat.staged.bind (·.armed) = none)
    (harmed : ((stageDone b).pat.staged.bind (·.armed)).isSome = true) (hrun : seamRun (stageDone b) = true)
    (hrole : seamRole (stageDone b) = 2) : (stageDoneTwin b).flag SEAM.HEALTH.MIRROR_OK = true := by
  unfold stageDoneTwin
  dsimp only
  rw [hwas, harmed, hrun, decide_eq_true hrole, if_pos (by rfl), (sendMirror_only _ _).flag _ _ _ (by decide)]
  exact healthFollow_mirrorOk hrole.ge

/-! ### A holder with a staged pattern -/

/-- A whole pattern, staged without a restart change; nothing asks what else its container says. -/
def stagedWhole : Staged := { container := [], pat := ⟨1, false, 0, []⟩, restart := false, armed := none }

/-- The holder of a pair whose seam runs, as its first pattern stands staged. -/
def holderStaged : State :=
  { State.reset with body := { Body.reset with
      power := .run
      regs := [(SEAM.CTL.word.addr, 1), (SEAM.STAT.word.addr, 2)]
      pat := { Body.reset.pat with run := some ⟨0, false, 0, [⟨sTWIN, 0, [1]⟩]⟩, staged := some stagedWhole } } }

theorem holderStaged_powered : powered holderStaged.body = true := by decide

theorem holderStaged_newly_armed : ((stageDone holderStaged.body).pat.staged.bind (·.armed)).isSome = true := rfl

theorem holderStaged_seamRun : seamRun (stageDone holderStaged.body) = true := by decide

theorem holderStaged_holds : seamRole (stageDone holderStaged.body) = 2 := by decide

theorem holderStaged_mirrorOk : holderStaged.body.flag SEAM.HEALTH.MIRROR_OK = false := by decide

/-- Refutes O27: PATTERN_STAGE_DONE arms the staged switch in the holder of a pair, which tells its twin at once (R441). The header
of that mirror set bears SEAM.HEALTH, computed anew, so that a register changes where the statement keeps them all. -/
theorem not_patternIsStagedAndSwitched : ¬ Obligations.PatternIsStagedAndSwitched := by
  intro h
  obtain ⟨-, -, hstaged, -⟩ := h holderStaged holderStaged_powered
  obtain ⟨harm, -⟩ := hstaged stagedWhole rfl
  obtain ⟨-, hregs⟩ := result_of_does (harm rfl rfl) (f := stageDoneTwin) rfl holderStaged_powered
  have hafter : (stageDoneTwin holderStaged.body).flag SEAM.HEALTH.MIRROR_OK = true :=
    stageDoneTwin_mirrorOk rfl holderStaged_newly_armed holderStaged_seamRun holderStaged_holds
  have hkept := flag_of_regsKept hregs SEAM.HEALTH.MIRROR_OK 0 0
  rw [settle_flag, hafter, holderStaged_mirrorOk] at hkept
  exact absurd hkept (by decide)

end Sys2Proof.Machine
end
section
/-! SUPPORT. Scope: the answers of a witness (R451, R480): a SEQ that the header of R477 cannot carry. -/

namespace Sys2Proof.Machine

/-! ### The SEQ of a message -/

theorem beNat_append_singleton (l : List Nat) (x : Nat) : beNat (l ++ [x]) = 256 * beNat l + x % 256 := by
  simp [beNat, List.foldl_append]

theorem beNat_lt (l : List Nat) : beNat l < 256 ^ l.length := by
  induction l using List.reverseRecOn with
  | nil => exact Nat.one_pos
  | append_singleton l x ih =>
    rw [beNat_append_singleton, List.length_append, List.length_singleton, pow_succ]
    omega

/-- The header of R477 has four bytes for the SEQ. -/
theorem msgSeq_lt (m : List Nat) : msgSeq m < 2 ^ 32 := by
  have hlen : (bytesAt m 4 4).length ≤ 4 := List.length_take_le ..
  calc msgSeq m < 256 ^ (bytesAt m 4 4).length := beNat_lt _
    _ ≤ 256 ^ 4 := Nat.pow_le_pow_right (by decide) hlen
    _ = 2 ^ 32 := by decide

/-! ### A witness and a RENEW -/

/-- A HIERARCHY section of module 0 that manages module 9. -/
def hierarchyOfNine : List Nat := List.replicate 40 0 ++ [1, 0, 0, 0, 9, 0] ++ List.replicate 18 0

/-- An enrolled holder whose pattern makes it the manager, and so the witness, of module 9. -/
def witnessOfNine : State :=
  { State.reset with body := { Body.reset with
      power := .run
      regs := [(UPD.STAT.word.addr, 2 ^ 8), (SEAM.STAT.word.addr, 2)]
      pat := { Body.reset.pat with run := some ⟨1, false, 0, [⟨sHIERARCHY, 0, hierarchyOfNine⟩]⟩ } } }

/-- A RENEW of module 9 whose SEQ operand is 2^32, which `Instr.wf` admits. -/
def renewOfNine : WitMsg :=
  { op := 1, mod := 9, member := 0, role := 2, voteFor := 0, uid := 5, epoch := 1, time := 0, health := 0, remain := 0,
    seq := 2 ^ 32 }

theorem renewOfNine_wf : (Instr.renew renewOfNine).wf = true := by decide

theorem witnessOfNine_powered : powered witnessOfNine.body = true := by decide

theorem witnessOfNine_witnesses : witnesses (witIn renewOfNine witnessOfNine.body) renewOfNine.mod = true := by decide

theorem witnessOfNine_no_association : assocOf (witIn renewOfNine witnessOfNine.body) renewOfNine.mod = none := by decide

theorem witnessOfNine_not_quiet : witQuietLeft (witIn renewOfNine witnessOfNine.body) = 0 := by decide

theorem witnessOfNine_unbound : witRemain (witIn renewOfNine witnessOfNine.body)
    (witRec (witIn renewOfNine witnessOfNine.body) renewOfNine.mod) renewOfNine.member = 0 := by decide

/-- Refutes O51: the witness of module 9 gets a RENEW whose SEQ operand is 2^32. The statement wants an answer whose header bears
that SEQ; the four bytes of R477 cannot. -/
theorem not_leaseIsHeldByVotes : ¬ Obligations.LeaseIsHeldByVotes := by
  intro h
  obtain ⟨-, -, -, -, -, -, -, -, -, -, -, -, -, -, -, -, hwitness, -⟩ := h witnessOfNine renewOfNine witnessOfNine_powered
  obtain ⟨hgrant, -⟩ := hwitness witnessOfNine_witnesses
  have hnew : ∀ a, assocOf (witIn renewOfNine witnessOfNine.body) renewOfNine.mod = some a →
      (∀ k ∈ a.kept, k.1 ≠ renewOfNine.seq) ∧ (a.kept.length < 64 ∨ ∃ k ∈ a.kept, k.1 ≤ renewOfNine.seq) := by
    simp [witnessOfNine_no_association]
  obtain ⟨⟨_, -, -, -, -, answer, -, -, hseq, -⟩, -⟩ := hgrant hnew witnessOfNine_not_quiet witnessOfNine_unbound
  exact absurd (hseq ▸ msgSeq_lt answer : renewOfNine.seq < 2 ^ 32) (by decide)

end Sys2Proof.Machine
end
section
/-! SUPPORT. Scope: a busy receiver's second offer (R495): a request whose bytes end before the SEQ of R477. -/

namespace Sys2Proof.Machine

/-- A request without bytes that found its receiver busy. -/
def bareRequest : ShalReq := { seq := 0, msg := [], sends := 1, at_ := 0, origin := none }

/-- The association with module 9, which has numbered 65,535 requests and waits for no answer. -/
def assocOfNine : Assoc :=
  { id := 9, secure := true, x6 := false, uid := 5, lastAt := 0, nextSeq := 2 ^ 16, sent := [], kept := [], sub := 0, own := true,
    records := 0, keys := 0 }

/-- A module that serves, with its core clock locked, 1 s after module 9 was too busy for the request without bytes. -/
def busyReceiver : State :=
  { State.reset with body := { Body.reset with
      power := .run
      regs := [(SYS.CLK_STAT.word.addr, 8)]
      clock := { Body.reset.clock with cyc := msCyc 1000 }
      sha := { Body.reset.sha with assocs := [assocOfNine], busy := [(9, 0, bareRequest)] } } }

theorem busyReceiver_powered : powered busyReceiver.body = true := by decide

theorem busyReceiver_serves : coresServe busyReceiver.body = true := by decide

theorem busyReceiver_queueFull : queueFull busyReceiver.body 9 = false := by decide

theorem busyReceiver_finds : busyReceiver.body.sha.busy.find? (fun x => decide (x.1 = 9 ∧ x.2.2.seq = 0)) =
    some (9, 0, bareRequest) := by decide

/-- The new number takes bytes 4 to 7 of a request, and of one without bytes the first four: its byte of the TYPE is the number's. -/
theorem msgType_withSeq_nil : msgType (withSeq (2 ^ 16) []) = 1 := by decide

theorem resend_busyReceiver_out : (resend 9 0 busyReceiver.body).out = [.shalan 9 (withSeq (2 ^ 16) [])] := by decide

theorem resend_busyReceiver_queue : queueFor (resend 9 0 busyReceiver.body) 9 = [] := by decide

theorem busyReceiver_not_sent : ¬ Sys2Proof.Sent busyReceiver.body 9 (msgType bareRequest.msg) (msgBody bareRequest.msg)
    (settle (resend 9 0 busyReceiver.body)) := by
  rintro ⟨l, hout, ⟨q, hq, -⟩ | ⟨x, hx, htype, -⟩⟩
  · have hqueue : queueFor (settle (resend 9 0 busyReceiver.body)) 9 = [] := resend_busyReceiver_queue
    rw [hqueue] at hq
    exact absurd hq List.not_mem_nil
  · have hl : l = [.shalan 9 (withSeq (2 ^ 16) [])] := hout.symm.trans resend_busyReceiver_out
    rw [hl, List.mem_singleton] at hx
    injection hx with _ hmsg
    rw [hmsg, msgType_withSeq_nil] at htype
    exact absurd htype (by decide)

/-- Refutes O54: a request without bytes is offered again after 1 s. Its number, 2^16, then fills the bytes of the header, and what
leaves has type 1, while the request reads type 0. -/
theorem not_associationsOpenResendAndClose : ¬ Obligations.AssociationsOpenResendAndClose := by
  intro h
  obtain ⟨-, -, -, hserve⟩ := h busyReceiver 9 0 0 0 0 ⟨false, false, 0, 0, 0, false, false, 0, false⟩ [] busyReceiver_powered
  obtain ⟨-, -, -, -, -, -, -, -, hbusy, -⟩ := hserve busyReceiver_serves
  obtain ⟨-, -, hagain⟩ := hbusy _ busyReceiver_finds
  have hdoes := hagain (by decide) busyReceiver_queueFull
  exact busyReceiver_not_sent (result_of_does hdoes (f := resend 9 0) rfl busyReceiver_powered).2

end Sys2Proof.Machine
end

section
/-! SUPPORT. Scope: what the pins of a settled state show, by the state alone (R53, R68, R443, R537, R543, R547, R559). -/

namespace Sys2Proof.Machine

/-! ### What each pin shows -/

theorem relays_open_without_pattern {b : Body} (h : powered b = false ∨ loaded b = false) :
    (pinsOf b).relays = [false, false, false, false] := by
  have hopen : ∀ k, relayClosed b k = false := fun k => by
    rcases h with h | h <;> simp [relayClosed, h]
  simp [pinsOf, hopen, List.range_succ]

theorem signLit_dark {b : Body} (h : powered b = false ∨ loaded b = false ∨ inHem b = true) : signLit b = false := by
  rcases h with h | h | h <;> simp [signLit, h]

theorem vsign_off_of_dark {b : Body} (h : signLit b = false) : (pinsOf b).vsign = false := by
  simp [pinsOf, h]

theorem sign_drivers_off {b : Body} (h : signOn b = false) : (pinsOf b).sign = ⟨none, none, [], 0⟩ := by
  simp [pinsOf, signDrive, h]

theorem sink_open_without_mainPower {b : Body} (h : mainPower b = false) : (pinsOf b).sink = .open1M := by
  simp [pinsOf, sinkOf, h]

/-! ### Every step settles -/

/-- The body that a step leaves is a settled one: a command's own (`exec_next`), or that of the idle tick. -/
theorem step_settles {s t : State} (h : step s = .next t) : ∃ b, t.body = settle b := by
  obtain ⟨body, pending⟩ := s
  cases pending with
  | nil => exact ⟨_, (onAny_next ((step_idle rfl).symm.trans h)).2⟩
  | cons c rest =>
    obtain ⟨b, hb⟩ := exec_next c ⟨body, rest⟩
    have hnext : Host.Outcome.next _ = Host.Outcome.next t := hb.symm.trans h
    injection hnext with ht
    exact ⟨b, ht ▸ rfl⟩

theorem step_pinsFollow {s t : State} (h : step s = .next t) : PinsFollow t := by
  obtain ⟨b, hb⟩ := step_settles h
  unfold PinsFollow
  rw [hb]
  rfl

/-- Settles O59: a step ends in `settle`, so every pin is `pinsOf` of what it left, and each claim is read off there. -/
theorem everyStepKeepsThePinsTrue : Obligations.EveryStepKeepsThePinsTrue := by
  intro s t _ hstep
  have hpins : t.body.pins = pinsOf t.body := step_pinsFollow hstep
  refine ⟨hpins, ?_⟩
  rw [hpins]
  refine ⟨fun h => ⟨relays_open_without_pattern h, vsign_off_of_dark (signLit_dark ?_)⟩,
    fun h => vsign_off_of_dark (signLit_dark (.inr (.inr h))), sign_drivers_off, sink_open_without_mainPower⟩
  exact h.imp_right .inl

end Sys2Proof.Machine
end

section
/-! SUPPORT. Scope: what ring protection (R397 to R400) reads of SW and what each of its operations makes of that. -/

namespace Sys2Proof.Machine

/-! ### The ring as protection sees it -/

/-- The registers of SW that ring protection reads: control, port status, and ring control, timers and status. -/
abbrev ringReg (a : Nat) : Prop := 0x40400000 ≤ a ∧ a < 0x40400040

/-- What ring protection acts on: its state and waits, what stands of each port (of SW's three), EN and HOLDOFF, the address
table, the failed ports and the operator's command. -/
@[ext] structure RingView where
  state : Nat
  wtr : Bool
  wtb : Bool
  blocked : Nat → Bool
  link : Nat → Bool
  fibre : Nat → Bool
  enabled : Bool
  holdoff : Nat
  fdb : List FdbEntry
  failed : List Nat
  command : Option Nat

def ringView (b : Body) : RingView :=
  { state := erpsState b
    wtr := b.flag SW.ERPS_STAT.WTR
    wtb := b.flag SW.ERPS_STAT.WTB
    blocked := fun q => decide (q < 3) && b.flag SW.PORT_STAT.BLOCKED q
    link := fun q => decide (q < 3) && b.flag SW.PORT_STAT.LINK q
    fibre := fun q => decide (q < 3) && b.flag SW.PORT_STAT.FIBRE q
    enabled := b.flag SW.ERPS_CTL.EN
    holdoff := b.get SW.ERPS_TMR.HOLDOFF
    fdb := b.sw.fdb
    failed := b.sw.erps.failed
    command := b.sw.erps.command }

theorem ringView_blocked (b : Body) {q : Nat} (hq : q < 3) : (ringView b).blocked q = b.flag SW.PORT_STAT.BLOCKED q := by
  simp [ringView, hq]

theorem ringView_link (b : Body) {q : Nat} (hq : q < 3) : (ringView b).link q = b.flag SW.PORT_STAT.LINK q := by
  simp [ringView, hq]

theorem ringView_fibre (b : Body) {q : Nat} (hq : q < 3) : (ringView b).fibre q = b.flag SW.PORT_STAT.FIBRE q := by
  simp [ringView, hq]

/-! ### Operations that leave the ring alone -/

/-- From `b` to `c` nothing that the ring's view shows has changed. -/
structure RingSame (b c : Body) : Prop where
  regs : ∀ a, ringReg a → c.word a = b.word a
  fdb : c.sw.fdb = b.sw.fdb
  erps : c.sw.erps = b.sw.erps

theorem RingSame.refl (b : Body) : RingSame b b := ⟨fun _ _ => rfl, rfl, rfl⟩

theorem RingSame.trans {b c e : Body} (h : RingSame b c) (g : RingSame c e) : RingSame b e :=
  ⟨fun a ha => (g.regs a ha).trans (h.regs a ha), g.fdb.trans h.fdb, g.erps.trans h.erps⟩

theorem RingSame.put {f : Fld} {i j : Nat} (hf : ¬ ringReg (f.at i j)) (b : Body) (v : Nat) : RingSame b (b.put f v i j) :=
  ⟨fun _ ha => Body.word_put_other _ _ _ _ _ fun e => hf (e ▸ ha), rfl, rfl⟩

theorem RingSame.get {b c : Body} (h : RingSame b c) {f : Fld} {i j : Nat} (hf : ringReg (f.at i j)) : c.get f i j = b.get f i j := by
  unfold Body.get
  rw [h.regs _ hf]

theorem RingSame.flag {b c : Body} (h : RingSame b c) {f : Fld} {i j : Nat} (hf : ringReg (f.at i j)) :
    c.flag f i j = b.flag f i j := by
  unfold Body.flag
  rw [h.get hf]

theorem ringReg_portStat {f : Fld} (hf : f.at 0 0 = 0x40400010) (hs : f.s1 = 4) {q : Nat} (hq : q < 3) : ringReg (f.at q 0) := by
  simp only [Fld.at, hs] at hf ⊢
  omega

theorem RingSame.view {b c : Body} (h : RingSame b c) : ringView c = ringView b := by
  have hport : ∀ (f : Fld), f.at 0 0 = 0x40400010 → f.s1 = 4 →
      (fun q => decide (q < 3) && c.flag f q) = fun q => decide (q < 3) && b.flag f q := by
    intro f hf hs
    funext q
    by_cases hq : q < 3
    · rw [h.flag (ringReg_portStat hf hs hq)]
    · simp [hq]
  unfold ringView erpsState
  rw [hport _ rfl rfl, hport _ rfl rfl, hport _ rfl rfl, h.fdb, h.erps, h.get (by decide), h.get (by decide), h.flag (by decide),
    h.flag (by decide), h.flag (by decide)]

/-! ### Records -/

/-- A record touches the register of lost records, SAFE's queue and the next SEQ. -/
theorem record_changes (code a0 a1 : Nat) (b : Body) :
    ∃ r x n, record code a0 a1 b = { b with regs := r, safe := x, nv := { b.nv with bbNext := n } } := by
  unfold record bbOffer
  split
  · exact ⟨_, _, _, rfl⟩
  · split
    · exact ⟨_, _, _, rfl⟩
    · exact ⟨_, _, _, rfl⟩

theorem record_sw (code a0 a1 : Nat) (b : Body) : (record code a0 a1 b).sw = b.sw := by
  obtain ⟨r, x, n, h⟩ := record_changes code a0 a1 b
  rw [h]

theorem record_out (code a0 a1 : Nat) (b : Body) : (record code a0 a1 b).out = b.out := by
  obtain ⟨r, x, n, h⟩ := record_changes code a0 a1 b
  rw [h]

theorem record_mac (code a0 a1 : Nat) (b : Body) : (record code a0 a1 b).nv.mac = b.nv.mac := by
  obtain ⟨r, x, n, h⟩ := record_changes code a0 a1 b
  rw [h]

theorem record_ringSame (code a0 a1 : Nat) (b : Body) : RingSame b (record code a0 a1 b) := by
  have hout : ∀ a, ringReg a → ¬ errorReg a := by
    intro a ha he
    omega
  exact ⟨fun a ha => (record_frame code a0 a1 b).2 a (hout a ha), congrArg Sw.fdb (record_sw _ _ _ _),
    congrArg Sw.erps (record_sw _ _ _ _)⟩

/-! ### Frames that leave -/

theorem txStamp_ringSame (p mtype seq tn cyc : Nat) (b : Body) : RingSame b (txStamp p mtype seq tn cyc b) := by
  have hout : ∀ (c : Body) (f : Fld) (v : Nat), f.addr = 0x40200114 → f.s1 = 0x20 → p < 3 → RingSame c (c.put f v p) := by
    intro c f v ha hs hp
    refine RingSame.put ?_ c v
    simp only [ringReg, Fld.at, ha, hs]
    omega
  unfold txStamp
  split
  · exact .refl b
  · rename_i hguard
    have hp : p < 3 := by
      simp only [Bool.or_eq_true, decide_eq_true_eq, not_or] at hguard
      omega
    dsimp only
    split
    · exact (hout b TB.TXQ_STAT.OVF _ rfl rfl hp).trans (hout _ TB.TXQ_STAT.DROPPED _ rfl rfl hp)
    · exact ⟨fun _ _ => rfl, rfl, rfl⟩

theorem frameLeaves_ringSame (x : Egress) (start : Nat) (b : Body) : RingSame b (frameLeaves x start b) := by
  unfold frameLeaves
  split
  · split
    · exact .refl b
    · refine RingSame.put ?_ b _
      simp only [ringReg, Fld.at]
      omega
  · dsimp only
    split
    · refine RingSame.trans ?_ (txStamp_ringSame _ _ _ _ _ _)
      exact ⟨fun _ _ => rfl, rfl, rfl⟩
    · exact ⟨fun _ _ => rfl, rfl, rfl⟩

theorem servePort_ringSame (n p : Nat) (b : Body) : RingSame b (servePort n p b) := by
  induction n generalizing b with
  | zero => exact .refl b
  | succ n ih =>
    unfold servePort
    dsimp only
    split
    · exact .refl b
    · split
      · exact .refl b
      · refine RingSame.trans ?_ ((frameLeaves_ringSame _ _ _).trans (ih _))
        exact ⟨fun _ _ => rfl, rfl, rfl⟩

theorem sendOut_ringSame (p : Nat) (high transit stamp : Bool) (frame : List Nat) (b : Body) :
    RingSame b (sendOut p high transit stamp frame b) := by
  refine RingSame.trans ?_ (servePort_ringSame _ _ _)
  exact ⟨fun _ _ => rfl, rfl, rfl⟩

theorem sendRaps_ringSame (req : Nat) (rb dnf : Bool) (bpr : Nat) (b : Body) : RingSame b (sendRaps req rb dnf bpr b) := by
  refine Body.each_keeps (P := RingSame b) (fun p c hc => ?_) _ (.refl b)
  split
  · exact hc.trans (sendOut_ringSame _ _ _ _ _ _)
  · exact hc

@[simp] theorem ringView_sendRaps (req : Nat) (rb dnf : Bool) (bpr : Nat) (b : Body) :
    ringView (sendRaps req rb dnf bpr b) = ringView b := (sendRaps_ringSame req rb dnf bpr b).view

/-! ### What the engine's operations make of the view -/

/-- A status bit of port `p` is written: that bit of the port's view moves, and nothing else of the ring. -/
theorem flag_markPort {f g : Fld} (hf : f.at 0 0 = 0x40400010) (hs : f.s1 = 4) (hg : g.at 0 0 = 0x40400010) (hgs : g.s1 = 4)
    (hfw : f.w = 1) (hlo : f.lo + f.w ≤ 32) (hfg : f = g ∨ g.lo + g.w ≤ f.lo ∨ f.lo + f.w ≤ g.lo) (p : Nat) (v : Bool) (b : Body) :
    (fun q => decide (q < 3) && (b.mark f v p).flag g q) =
      if f = g ∧ p < 3 then Function.update (fun q => decide (q < 3) && b.flag g q) p v else fun q => decide (q < 3) && b.flag g q := by
  have hat : ∀ q, (f.at q 0 = 0x40400010 + 4 * q) ∧ g.at q 0 = 0x40400010 + 4 * q := by
    intro q
    simp only [Fld.at, hs, hgs] at hf hg ⊢
    omega
  funext q
  by_cases hq : q = p
  · subst hq
    by_cases he : f = g
    · subst he
      by_cases hq3 : q < 3 <;> simp [hq3, Body.flag_mark_same _ _ _ _ _ hfw hlo]
    · rw [Body.flag_mark_bits _ _ _ _ _ _ _ _ ((hat q).2.trans (hat q).1.symm) hlo (hfg.resolve_left he)]
      simp [he]
  · rw [Body.flag_mark_other _ _ _ _ _ _ _ _ (by rw [(hat q).2, (hat p).1]; omega)]
    split
    · rw [Function.update_of_ne hq]
    · rfl

/-- The rest of the ring's registers stand when a status bit of a port is written. -/
theorem markPort_word {f : Fld} (hf : f.at 0 0 = 0x40400010) (hs : f.s1 = 4) {p a : Nat} (hp : p < 3)
    (ha : a < 0x40400010 ∨ 0x4040001C ≤ a) (v : Bool) (b : Body) : (b.mark f v p).word a = b.word a := by
  refine Body.word_put_other _ _ _ _ _ fun e => ?_
  simp only [Fld.at, hs] at hf e
  omega

theorem ringView_markPort {f : Fld} (hf : f.at 0 0 = 0x40400010) (hs : f.s1 = 4) (hw : f.w = 1) (hlo : f.lo + f.w ≤ 32)
    (hfg : ∀ g ∈ [SW.PORT_STAT.BLOCKED, SW.PORT_STAT.LINK, SW.PORT_STAT.FIBRE], f = g ∨ g.lo + g.w ≤ f.lo ∨ f.lo + f.w ≤ g.lo)
    {p : Nat} (hp : p < 3) (v : Bool) (b : Body) : ringView (b.mark f v p) =
      { ringView b with
        blocked := if f = SW.PORT_STAT.BLOCKED then Function.update (ringView b).blocked p v else (ringView b).blocked
        link := if f = SW.PORT_STAT.LINK then Function.update (ringView b).link p v else (ringView b).link
        fibre := if f = SW.PORT_STAT.FIBRE then Function.update (ringView b).fibre p v else (ringView b).fibre } := by
  have hget : ∀ g : Fld, g.at 0 0 < 0x40400010 ∨ 0x4040001C ≤ g.at 0 0 → (b.mark f v p).get g = b.get g := fun g hg => by
    unfold Body.get
    rw [markPort_word hf hs hp hg]
  have hflag : ∀ g : Fld, g.at 0 0 < 0x40400010 ∨ 0x4040001C ≤ g.at 0 0 → (b.mark f v p).flag g = b.flag g := fun g hg => by
    unfold Body.flag
    rw [hget g hg]
  have hport : ∀ g ∈ [SW.PORT_STAT.BLOCKED, SW.PORT_STAT.LINK, SW.PORT_STAT.FIBRE], g.at 0 0 = 0x40400010 → g.s1 = 4 → _ :=
    fun g hg hg0 hgs => flag_markPort hf hs hg0 hgs hw hlo (hfg g hg) p v b
  unfold ringView erpsState
  rw [hport SW.PORT_STAT.BLOCKED (by simp) rfl rfl, hport SW.PORT_STAT.LINK (by simp) rfl rfl,
    hport SW.PORT_STAT.FIBRE (by simp) rfl rfl, hget _ (by decide), hget _ (by decide), hflag _ (by decide), hflag _ (by decide),
    hflag _ (by decide)]
  simp [hp]

theorem ringView_blockPort {p : Nat} (hp : p < 3) (v : Bool) (b : Body) : ringView (blockPort p v b) =
    { ringView b with blocked := Function.update (ringView b).blocked p v } :=
  (ringView_markPort rfl rfl rfl (by decide) (by decide) hp v b).trans (by simp)

theorem ringView_markLink {p : Nat} (hp : p < 3) (v : Bool) (b : Body) : ringView (b.mark SW.PORT_STAT.LINK v p) =
    { ringView b with link := Function.update (ringView b).link p v } :=
  (ringView_markPort rfl rfl rfl (by decide) (by decide) hp v b).trans (by simp)

theorem ringView_markFibre {p : Nat} (hp : p < 3) (v : Bool) (b : Body) : ringView (b.mark SW.PORT_STAT.FIBRE v p) =
    { ringView b with fibre := Function.update (ringView b).fibre p v } :=
  (ringView_markPort rfl rfl rfl (by decide) (by decide) hp v b).trans (by simp)

end Sys2Proof.Machine
end

section
/-! SUPPORT. Scope: what ring protection's status register, blocking and restoring make of the ring's view (R398, R400). -/

namespace Sys2Proof.Machine

/-! ### The engine's status register -/

/-- A field of ERPS_STAT is written: the state and the waits read what the register then holds, and nothing else moves. -/
theorem ringView_putStat {f : Fld} (hf : f.at 0 0 = 0x4040002C) (v : Nat) (b : Body) : ringView (b.put f v) =
    { ringView b with
      state := (b.put f v).get SW.ERPS_STAT.STATE
      wtr := (b.put f v).flag SW.ERPS_STAT.WTR
      wtb := (b.put f v).flag SW.ERPS_STAT.WTB } := by
  have hget : ∀ (g : Fld) (q : Nat), g.at q 0 ≠ 0x4040002C → (b.put f v).get g q = b.get g q := fun g q hg =>
    Body.get_put_other _ _ _ _ _ _ _ _ (hf ▸ hg)
  have hflag : ∀ (g : Fld) (q : Nat), g.at q 0 ≠ 0x4040002C → (b.put f v).flag g q = b.flag g q := fun g q hg => by
    unfold Body.flag
    rw [hget g q hg]
  have hport : ∀ g : Fld, g.at 0 0 = 0x40400010 → g.s1 = 4 →
      (fun q => decide (q < 3) && (b.put f v).flag g q) = fun q => decide (q < 3) && b.flag g q := by
    intro g hg hs
    funext q
    by_cases hq : q < 3
    · rw [hflag g q (by simp only [Fld.at, hs] at hg ⊢; omega)]
    · simp [hq]
  unfold ringView erpsState
  rw [hport _ rfl rfl, hport _ rfl rfl, hport _ rfl rfl, hget SW.ERPS_TMR.HOLDOFF 0 (by decide), hflag SW.ERPS_CTL.EN 0 (by decide)]
  rfl

/-- What a field of ERPS_STAT keeps when another one of that register is written. -/
theorem get_putStat {f g : Fld} (hf : f.at 0 0 = 0x4040002C) (hg : g.at 0 0 = 0x4040002C) (hw : f.lo + f.w ≤ 32)
    (h : g.lo + g.w ≤ f.lo ∨ f.lo + f.w ≤ g.lo) (v : Nat) (b : Body) : (b.put f v).get g = b.get g :=
  Body.get_put_bits _ _ _ _ _ _ _ _ (hg.trans hf.symm) hw h

theorem flag_putStat {f g : Fld} (hf : f.at 0 0 = 0x4040002C) (hg : g.at 0 0 = 0x4040002C) (hw : f.lo + f.w ≤ 32)
    (h : g.lo + g.w ≤ f.lo ∨ f.lo + f.w ≤ g.lo) (v : Nat) (b : Body) : (b.put f v).flag g = b.flag g := by
  unfold Body.flag
  rw [get_putStat hf hg hw h]

theorem ringView_putState {n : Nat} (hn : n < 8) (b : Body) :
    ringView (b.put SW.ERPS_STAT.STATE n) = { ringView b with state := n } := by
  rw [ringView_putStat rfl, Body.get_put_same _ _ _ _ _ (by decide), Nat.mod_eq_of_lt (show n < 2 ^ 3 from hn),
    flag_putStat (g := SW.ERPS_STAT.WTR) rfl rfl (by decide) (by decide),
    flag_putStat (g := SW.ERPS_STAT.WTB) rfl rfl (by decide) (by decide)]
  rfl

theorem ringView_bumpChanges (b : Body) : ringView (b.bump SW.ERPS_STAT.CHANGES) = ringView b := by
  unfold Body.bump
  rw [ringView_putStat rfl, get_putStat (g := SW.ERPS_STAT.STATE) rfl rfl (by decide) (by decide),
    flag_putStat (g := SW.ERPS_STAT.WTR) rfl rfl (by decide) (by decide),
    flag_putStat (g := SW.ERPS_STAT.WTB) rfl rfl (by decide) (by decide)]
  rfl

theorem ringView_markWtr (v : Bool) (b : Body) : ringView (b.mark SW.ERPS_STAT.WTR v) = { ringView b with wtr := v } := by
  have hown := Body.flag_mark_same b SW.ERPS_STAT.WTR v 0 0 rfl (by decide)
  unfold Body.mark at *
  rw [ringView_putStat rfl, hown, get_putStat (g := SW.ERPS_STAT.STATE) rfl rfl (by decide) (by decide),
    flag_putStat (g := SW.ERPS_STAT.WTB) rfl rfl (by decide) (by decide)]
  rfl

theorem ringView_markWtb (v : Bool) (b : Body) : ringView (b.mark SW.ERPS_STAT.WTB v) = { ringView b with wtb := v } := by
  have hown := Body.flag_mark_same b SW.ERPS_STAT.WTB v 0 0 rfl (by decide)
  unfold Body.mark at *
  rw [ringView_putStat rfl, hown, get_putStat (g := SW.ERPS_STAT.STATE) rfl rfl (by decide) (by decide),
    flag_putStat (g := SW.ERPS_STAT.WTR) rfl rfl (by decide) (by decide)]
  rfl

/-- The engine enters a state: the view's state is that one, whether or not it stood there before. -/
@[simp] theorem ringView_setErps {n : Nat} (hn : n < 8) (b : Body) : ringView (setErps n b) = { ringView b with state := n } := by
  unfold setErps
  split
  · rename_i h
    rw [← h]
    rfl
  · exact ((record_ringSame _ _ _ _).view.trans (ringView_bumpChanges _)).trans (ringView_putState hn b)

@[simp] theorem ringView_stopTimers (b : Body) : ringView (stopTimers b) = { ringView b with wtr := false, wtb := false } := by
  unfold stopTimers
  rw [ringView_markWtb, ringView_markWtr]

@[simp] theorem ringView_setCommand (c : Option Nat) (b : Body) : ringView (setCommand c b) = { ringView b with command := c } := rfl
@[simp] theorem ringView_flushFdb (b : Body) : ringView (flushFdb b) = { ringView b with fdb := [] } := rfl
@[simp] theorem ringView_startGuard (b : Body) : ringView (startGuard b) = ringView b := rfl
@[simp] theorem ringView_settle (b : Body) : ringView (settle b) = ringView b := rfl

/-- A wait that may start moves its own flag alone. -/
theorem ringView_startWtr (b : Body) : ∃ v, ringView (startWtr b) = { ringView b with wtr := v } := by
  unfold startWtr
  split
  · exact ⟨true, ringView_markWtr true b⟩
  · exact ⟨_, rfl⟩

theorem ringView_startWtb (b : Body) : ∃ v, ringView (startWtb b) = { ringView b with wtb := v } := by
  unfold startWtb
  split
  · exact ⟨true, ringView_markWtb true b⟩
  · exact ⟨_, rfl⟩

/-! ### Blocking and unblocking -/

theorem otherPort_lt {p : Nat} : otherPort p < 3 := by
  unfold otherPort
  omega

theorem otherPort_ne {p : Nat} (hp : p < 2) : p ≠ otherPort p := by
  unfold otherPort
  omega

/-- What a switch or failure of port `p` makes of the ports: it is blocked, and the other passes unless it failed. -/
def blockedOnly (v : RingView) (p : Nat) : Nat → Bool :=
  if v.failed.contains (otherPort p) then Function.update v.blocked p true
  else Function.update (Function.update v.blocked p true) (otherPort p) false

theorem blockedOnly_self (v : RingView) {p : Nat} (hp : p < 2) : blockedOnly v p p = true := by
  unfold blockedOnly
  split
  · exact Function.update_self ..
  · rw [Function.update_of_ne (otherPort_ne hp), Function.update_self]

theorem ringView_blockOnly {p : Nat} (hp : p < 2) (req : Nat) (b : Body) : ringView (blockOnly p req b) =
    { ringView b with
      blocked := blockedOnly (ringView b) p
      fdb := if (ringView b).blocked p && decide (req ≠ rSF) then (ringView b).fdb else [] } := by
  have hp3 : p < 3 := by omega
  unfold blockOnly blockedOnly
  rw [ringView_blocked b hp3]
  have hpass : ∀ c : Body, ringView (if portFailed c (otherPort p) then c else blockPort (otherPort p) false c) =
      { ringView c with blocked := if portFailed c (otherPort p) then (ringView c).blocked else
          Function.update (ringView c).blocked (otherPort p) false } := by
    intro c
    split
    · rfl
    · exact ringView_blockPort otherPort_lt false c
  dsimp only
  split
  · rw [ringView_sendRaps, hpass, ringView_blockPort hp3]
    rfl
  · rw [ringView_flushFdb, ringView_sendRaps, hpass, ringView_blockPort hp3]
    rfl

theorem portFailed_none {b : Body} (h : b.sw.erps.failed = []) (p : Nat) : portFailed b p = false := by
  unfold portFailed
  rw [h]
  rfl

theorem ringView_unblockGood {b : Body} (h : b.sw.erps.failed = []) : ringView (unblockGood b) =
    { ringView b with blocked := Function.update (Function.update (ringView b).blocked 0 false) 1 false } := by
  have hpass : ∀ (c : Body) (p : Nat), c.sw.erps.failed = [] → (if portFailed c p then c else blockPort p false c) = blockPort p false c :=
    fun c p hc => by rw [portFailed_none hc, if_neg Bool.false_ne_true]
  unfold unblockGood
  simp only [Body.each, List.foldl_cons, List.foldl_nil]
  rw [hpass b 0 h, hpass (blockPort 0 false b) 1 h, ringView_blockPort (by decide), ringView_blockPort (by decide)]

/-! ### Failures, switches and their end -/

/-- A failure that protection takes: below a forced switch, with the engine on (R400). -/
theorem ringView_localSf {p : Nat} (hp : p < 2) {b : Body} (h0 : erpsState b ≠ 0) (h4 : erpsState b ≠ 4) : ringView (localSf p b) =
    { ringView b with
      state := 2, wtr := false, wtb := false, command := none, fdb := [], blocked := blockedOnly (ringView b) p } := by
  unfold localSf
  rw [if_neg (by simp [h0, h4]), ringView_setErps (by decide), ringView_setCommand, ringView_stopTimers, ringView_blockOnly hp]
  simp

theorem ringView_forcedSwitch {p : Nat} (hp : p < 2) {b : Body} (h0 : erpsState b ≠ 0) : ringView (forcedSwitch p b) =
    { ringView b with
      state := 4, wtr := false, wtb := false, command := some p, blocked := blockedOnly (ringView b) p
      fdb := if (ringView b).blocked p then (ringView b).fdb else [] } := by
  unfold forcedSwitch
  rw [if_neg h0, ringView_setErps (by decide), ringView_setCommand, ringView_stopTimers, ringView_blockOnly hp]
  simp

theorem ringView_manualSwitch {p : Nat} (hp : p < 2) {b : Body} (h : erpsState b = 1 ∨ erpsState b = 5) :
    ringView (manualSwitch p b) =
    { ringView b with
      state := 3, wtr := false, wtb := false, command := some p, blocked := blockedOnly (ringView b) p
      fdb := if (ringView b).blocked p then (ringView b).fdb else [] } := by
  unfold manualSwitch
  rw [if_pos h, ringView_setErps (by decide), ringView_setCommand, ringView_stopTimers, ringView_blockOnly hp]
  simp

/-- A command that ends with no failure standing leaves the node in PENDING without a command. -/
theorem endCommand_pending {b : Body} (h : b.sw.erps.failed = []) :
    (ringView (endCommand b)).state = 5 ∧ (ringView (endCommand b)).command = none := by
  have hwait : ∀ c : Body, ringView c = { ringView b with command := none } →
      (ringView (setErps 5 (startWtb c))).state = 5 ∧ (ringView (setErps 5 (startWtb c))).command = none ∧
        (ringView (setErps 5 (startWtb c))).failed = [] := by
    intro c hc
    obtain ⟨v, hv⟩ := ringView_startWtb c
    rw [ringView_setErps (by decide), hv, hc]
    exact ⟨rfl, rfl, h⟩
  have hend : ∀ c : Body, (ringView c).state = 5 ∧ (ringView c).command = none ∧ (ringView c).failed = [] →
      (ringView (match c.sw.erps.failed with | p :: _ => localSf p c | [] => c)).state = 5 ∧
      (ringView (match c.sw.erps.failed with | p :: _ => localSf p c | [] => c)).command = none := by
    rintro c ⟨hstate, hcommand, hfailed⟩
    have hnone : c.sw.erps.failed = [] := hfailed
    rw [hnone]
    exact ⟨hstate, hcommand⟩
  unfold endCommand
  refine hend _ ?_
  split
  · exact hwait _ (by rw [ringView_sendRaps, ringView_startGuard, ringView_setCommand])
  · exact hwait _ (ringView_setCommand none b)

/-- The ring is restored: idle, the RPL port blocked and the other one passing, with no wait. -/
theorem ringView_ringRestore (b : Body) : ∃ l, ringView (ringRestore b) =
    { ringView b with
      state := 1, wtr := false, wtb := false, fdb := l
      blocked := Function.update (Function.update (ringView b).blocked (rplPort b) true) (otherPort (rplPort b)) false } := by
  have hrpl : rplPort b < 3 := lt_of_lt_of_le (Body.get_lt b SW.ERPS_CTL.RPL_PORT 0 0) (by decide)
  unfold ringRestore
  dsimp only
  split
  · rename_i hwas
    have hstands : Function.update (ringView b).blocked (rplPort b) true = (ringView b).blocked := by
      have hview : (ringView (stopTimers b)).blocked (rplPort b) = true := by rw [ringView_blocked _ hrpl, hwas]
      rw [ringView_stopTimers] at hview
      rw [Function.update_eq_self_iff, hview]
    refine ⟨(ringView b).fdb, ?_⟩
    rw [ringView_setErps (by decide), ringView_blockPort otherPort_lt, ringView_sendRaps, ringView_stopTimers, hstands]
  · refine ⟨[], ?_⟩
    rw [ringView_setErps (by decide), ringView_flushFdb, ringView_blockPort otherPort_lt, ringView_sendRaps,
      ringView_blockPort hrpl, ringView_stopTimers]

end Sys2Proof.Machine
end

section
/-! SUPPORT. Scope: R-APS messages that arrive and that leave (R397, R399, R400), and what a change of a port's medium leaves alone. -/

namespace Sys2Proof

open Machine

/-- A command that recovery mode takes as well, in a module with power to the engines, does what its body function does. -/
theorem does_of_onRom {c : Instr} {s : State} {f : Body → Body} {P : Body → Prop} (hexec : exec c s = onRom f s)
    (hp : powered s.body = true) (h : P (settle (f s.body))) : Does c s P :=
  ⟨_, hexec.trans (onRom_powered f hp), rfl, h⟩

end Sys2Proof

namespace Sys2Proof.Machine

/-! ### R-APS messages that arrive -/

theorem rapsFlush_keeps (m : Raps) (b : Body) : (rapsFlush m b).regs = b.regs ∧ (rapsFlush m b).sw.erps.failed = b.sw.erps.failed := by
  unfold rapsFlush
  dsimp only
  split
  · exact ⟨rfl, rfl⟩
  · split
    · exact ⟨rfl, rfl⟩
    · split <;> exact ⟨rfl, rfl⟩

/-- Under the guard, from another ring or channel, from the node itself or with the engine off a message does nothing. -/
theorem raps_ignored {m : Raps} {b : Body}
    (h : guardRuns b = true ∨ rapsMine b m = false ∨ m.node = b.nv.mac ∨ erpsState b = 0) : raps m b = b := by
  unfold raps
  rw [if_pos]
  rcases h with h | h | h | h <;> simp [h]

theorem raps_taken {m : Raps} {b : Body} (hguard : guardRuns b = false) (hmine : rapsMine b m = true) (hnode : m.node ≠ b.nv.mac)
    (hport : m.port < 2) (hup : portUp b m.port = true) (h0 : erpsState b ≠ 0) (hreq : m.req ∈ [rNR, rMS, rSF, rFS]) :
    raps m b = rapsState m (rapsFlush m b) := by
  unfold raps
  rw [if_neg]
  simp [hguard, hmine, hup, hnode, h0, hreq, Nat.le_of_lt_succ hport]

theorem erpsState_rapsFlush (m : Raps) (b : Body) : erpsState (rapsFlush m b) = erpsState b :=
  Body.get_congr (rapsFlush_keeps m b).1 _ _ _

/-- A remote forced switch unblocks both ring ports and takes its state. -/
theorem rapsState_forced {m : Raps} {b : Body} (hreq : m.req = 13) (h4 : erpsState b ≠ 4) : ringView (rapsState m b) =
    { ringView b with
      state := 4, wtr := false, wtb := false, command := none
      blocked := Function.update (Function.update (ringView b).blocked 1 false) 0 false } := by
  unfold rapsState
  dsimp only
  rw [if_pos hreq, if_neg h4, ringView_setErps (by decide), ringView_setCommand, ringView_stopTimers,
    ringView_blockPort (by decide), ringView_blockPort (by decide)]

/-- A remote failure, with none of its own, unblocks both ring ports. -/
theorem rapsState_failure {m : Raps} {b : Body} (hreq : m.req = 11) (h4 : erpsState b ≠ 4) (hfailed : b.sw.erps.failed = []) :
    ringView (rapsState m b) =
    { ringView b with
      state := 2, wtr := false, wtb := false, command := none
      blocked := Function.update (Function.update (ringView b).blocked 0 false) 1 false } := by
  unfold rapsState
  dsimp only
  rw [if_neg (by rw [hreq]; decide), if_pos hreq, if_neg (by simp [h4, hfailed]), ringView_setErps (by decide), ringView_setCommand,
    ringView_stopTimers, ringView_unblockGood hfailed]

/-- The owner's NR with RB, in a node that waits and is not the owner, ends the wait. -/
theorem rapsState_restored {m : Raps} {b : Body} (hreq : m.req = 0) (hrb : m.rb = true) (h5 : erpsState b = 5)
    (hown : ringOwner b = false) : (ringView (rapsState m b)).state = 1 := by
  unfold rapsState
  dsimp only
  rw [if_neg (by rw [hreq]; decide), if_neg (by rw [hreq]; decide), if_neg (by rw [hreq]; decide), if_pos ⟨hreq, hrb⟩,
    if_neg (by omega), if_pos h5, if_neg (by simp [hown]), ringView_setErps (by decide)]

/-! ### What a link change leaves alone -/

/-- From `b` to `c` SW's own state, what left, the clock, the MAC number and the two control registers stand. -/
structure NetSame (b c : Body) : Prop where
  sw : c.sw = b.sw
  out : c.out = b.out
  clock : c.clock = b.clock
  mac : c.nv.mac = b.nv.mac
  ctl : c.word 0x40400000 = b.word 0x40400000
  erpsCtl : c.word 0x40400020 = b.word 0x40400020

theorem NetSame.refl (b : Body) : NetSame b b := ⟨rfl, rfl, rfl, rfl, rfl, rfl⟩

theorem NetSame.trans {b c e : Body} (h : NetSame b c) (g : NetSame c e) : NetSame b e :=
  ⟨g.sw.trans h.sw, g.out.trans h.out, g.clock.trans h.clock, g.mac.trans h.mac, g.ctl.trans h.ctl, g.erpsCtl.trans h.erpsCtl⟩

theorem NetSame.put {f : Fld} {i j : Nat} (h0 : f.at i j ≠ 0x40400000) (h1 : f.at i j ≠ 0x40400020) (b : Body) (v : Nat) :
    NetSame b (b.put f v i j) :=
  ⟨rfl, rfl, rfl, rfl, Body.word_put_other _ _ _ _ _ h0.symm, Body.word_put_other _ _ _ _ _ h1.symm⟩

theorem NetSame.record (code a0 a1 : Nat) (b : Body) : NetSame b (record code a0 a1 b) :=
  ⟨record_sw _ _ _ _, record_out _ _ _ _, record_clock _ _ _ _, record_mac _ _ _ _,
    (record_ringSame _ _ _ _).regs _ (by decide), (record_ringSame _ _ _ _).regs _ (by decide)⟩

/-- TIME's latencies of a port are registers of TIME, and a missing factory value is recorded (R277). -/
theorem portLatency_same {p : Nat} (hp : p < 3) (b : Body) : RingSame b (portLatency p b) ∧ NetSame b (portLatency p b) := by
  have hing : ∀ (c : Body) (v : Nat), RingSame c (c.put TB.ING_LAT.PS v p) ∧ NetSame c (c.put TB.ING_LAT.PS v p) := fun c v =>
    ⟨.put (by simp only [Fld.at]; omega) c v, .put (by simp only [Fld.at]; omega) (by simp only [Fld.at]; omega) c v⟩
  have hegr : ∀ (c : Body) (v : Nat), RingSame c (c.put TB.EGR_LAT.PS v p) ∧ NetSame c (c.put TB.EGR_LAT.PS v p) := fun c v =>
    ⟨.put (by simp only [Fld.at]; omega) c v, .put (by simp only [Fld.at]; omega) (by simp only [Fld.at]; omega) c v⟩
  have hnom : ∀ (c : Body) (v : Bool), RingSame c (c.setBit TB.STAT.NOMINAL p v) ∧ NetSame c (c.setBit TB.STAT.NOMINAL p v) :=
    fun c v => ⟨.put (by decide) c _, .put (by decide) (by decide) c _⟩
  have hset : ∀ (i e : Nat) (v : Bool), RingSame b (((b.put TB.ING_LAT.PS i p).put TB.EGR_LAT.PS e p).setBit TB.STAT.NOMINAL p v) ∧
      NetSame b (((b.put TB.ING_LAT.PS i p).put TB.EGR_LAT.PS e p).setBit TB.STAT.NOMINAL p v) := fun i e v =>
    ⟨((hing b i).1.trans (hegr _ e).1).trans (hnom _ v).1, ((hing b i).2.trans (hegr _ e).2).trans (hnom _ v).2⟩
  have hrec : ∀ (c : Body) (code a0 a1 : Nat), RingSame b c ∧ NetSame b c → RingSame b (record code a0 a1 c) ∧
      NetSame b (record code a0 a1 c) := fun c code a0 a1 h =>
    ⟨h.1.trans (record_ringSame _ _ _ _), h.2.trans (.record _ _ _ _)⟩
  unfold portLatency
  generalize portFibre b p = fibre
  cases fibre <;> dsimp only
  all_goals
    split
    · split
      · exact hset _ _ _
      · exact hrec _ _ _ _ (hset _ _ _)
    · exact hrec _ _ _ _ (hset _ _ _)

theorem setMedium_same {p : Nat} (hp : p < 3) (fibre : Bool) (b : Body) :
    ringView (setMedium p fibre b) = { ringView b with fibre := Function.update (ringView b).fibre p fibre } ∧
      NetSame b (setMedium p fibre b) := by
  have hmark : NetSame b (b.mark SW.PORT_STAT.FIBRE fibre p) :=
    .put (by simp only [Fld.at]; omega) (by simp only [Fld.at]; omega) b _
  unfold setMedium
  split
  · rename_i h
    refine ⟨?_, .refl b⟩
    have hstands : Function.update (ringView b).fibre p fibre = (ringView b).fibre := by
      rw [Function.update_eq_self_iff, ringView_fibre b hp, h]
    rw [hstands]
  · dsimp only
    split
    · exact ⟨ringView_markFibre hp fibre b, hmark⟩
    · obtain ⟨hring, hnet⟩ := portLatency_same hp (b.mark SW.PORT_STAT.FIBRE fibre p)
      exact ⟨hring.view.trans (ringView_markFibre hp fibre b), hmark.trans hnet⟩

theorem mediumFollow_same (p : Nat) (b : Body) :
    (∃ l, ringView (mediumFollow p b) = { ringView b with fibre := l }) ∧ NetSame b (mediumFollow p b) := by
  unfold mediumFollow
  split
  · exact ⟨⟨_, rfl⟩, .refl b⟩
  · rename_i hguard
    have hp : p < 3 := by
      simp only [Bool.or_eq_true, decide_eq_true_eq, not_or] at hguard
      omega
    obtain ⟨hview, hnet⟩ := setMedium_same hp (decide (mediaOf b p = 1)) b
    exact ⟨⟨_, hview⟩, hnet⟩

/-! ### What leaves when a failure is announced -/

theorem setErps_out (n : Nat) (b : Body) : (setErps n b).out = b.out := by
  unfold setErps
  split
  · rfl
  · exact record_out _ _ _ _

/-- A port that is sending starts nothing. -/
theorem servePort_busy {b : Body} {p : Nat} (h : wireNow b < (leavingOf b p).2) (n : Nat) : servePort n p b = b := by
  cases n with
  | zero => rfl
  | succ n =>
    unfold servePort
    dsimp only
    rw [if_pos h]

theorem servePort_idle {b : Body} {p : Nat} {x : Egress} {start : Nat} (hfree : (leavingOf b p).2 ≤ wireNow b)
    (hnext : nextOut b p (leavingOf b p).2 = some (x, start)) (n : Nat) : servePort (n + 1) p b =
    servePort n p (frameLeaves x start { b with sw := { b.sw with waiting := b.sw.waiting.erase x } }) := by
  conv_lhs => unfold servePort
  dsimp only
  rw [if_neg (Nat.not_lt.2 hfree), hnext]

/-- The one frame that stands at a port, of the high class and come since the port fell idle, is next. -/
theorem nextOut_only {b : Body} {p free : Nat} {x : Egress} (hone : b.sw.waiting.filter (fun e => decide (e.port = p)) = [x])
    (hhigh : x.high = true) (hat : free ≤ x.at_) : nextOut b p free = some (x, x.at_) := by
  unfold nextOut
  dsimp only
  rw [hone]
  simp [hhigh, hat]

theorem frameLeaves_plain {x : Egress} {b : Body} (hmay : mayLeave b x.port x.frame = true) (hstamp : x.stamp = false) (start : Nat) :
    (frameLeaves x start b).out = b.out ++ [.eth x.port x.frame] ∧
    (leavingOf (frameLeaves x start b) x.port).2 = start + 26 * x.frame.length ∧ (frameLeaves x start b).clock = b.clock := by
  unfold frameLeaves
  rw [hmay, hstamp]
  exact ⟨rfl, congrArg Prod.snd (tabGet_tabSet_same _ _ _), rfl⟩

/-- An idle port with nothing waiting sends a frame of the high class that asks for no timestamp at once. -/
theorem sendOut_idle {b : Body} {p : Nat} {frame : List Nat} (hwait : ∀ x ∈ b.sw.waiting, x.port ≠ p)
    (hfree : (leavingOf b p).2 ≤ wireNow b) (hmay : mayLeave b p frame = true) (hlen : 0 < frame.length) :
    (sendOut p true false false frame b).out = b.out ++ [.eth p frame] := by
  let x : Egress := { port := p, high := true, transit := false, stamp := false, at_ := wireNow b, frame := frame }
  let c : Body := { b with sw := { b.sw with waiting := b.sw.waiting ++ [x] } }
  have hone : c.sw.waiting.filter (fun e => decide (e.port = p)) = [x] := by
    have hnone : b.sw.waiting.filter (fun e => decide (e.port = p)) = [] :=
      List.filter_eq_nil_iff.2 fun y hy => by simpa using hwait y hy
    show (b.sw.waiting ++ [x]).filter _ = [x]
    rw [List.filter_append, hnone]
    simp [x]
  have hsends : sendOut p true false false frame b = servePort (b.sw.waiting.length + 1) p c := by
    rw [← List.length_singleton (a := x), ← List.length_append]
    rfl
  obtain ⟨hout, hleaving, hclock⟩ :=
    frameLeaves_plain (x := x) (b := { c with sw := { c.sw with waiting := c.sw.waiting.erase x } }) hmay rfl (wireNow b)
  rw [hsends, servePort_idle (b := c) hfree (nextOut_only (b := c) hone rfl hfree), servePort_busy, hout]
  refine lt_of_lt_of_eq ?_ hleaving.symm
  unfold wireNow
  rw [hclock]
  show b.clock.cyc * 125 < b.clock.cyc * 125 + 26 * frame.length
  omega

/-! ### The module's own R-APS -/

theorem rapsFrame_congr {b c : Body} (hmac : c.nv.mac = b.nv.mac) (hctl : c.word 0x40400020 = b.word 0x40400020) (req : Nat)
    (rb dnf : Bool) (bpr : Nat) : rapsFrame c req rb dnf bpr = rapsFrame b req rb dnf bpr := by
  have hget : ∀ f : Fld, f.at 0 0 = 0x40400020 → c.get f = b.get f := fun f hf => by
    unfold Body.get
    rw [hf, hctl]
  unfold rapsFrame
  rw [hmac, hget _ rfl, hget _ rfl, hget _ rfl]

/-- What the ring's own message is on the wire: an R-APS frame of the configured channel (R397). -/
theorem isRaps_rapsFrame (b : Body) (req : Nat) (rb dnf : Bool) (bpr : Nat) :
    isRaps b (withFcs (rapsFrame b req rb dnf bpr)) = true := by
  have hring : b.get SW.ERPS_CTL.RING_ID < 256 := Body.get_lt _ _ _ _
  have hvid : b.get SW.ERPS_CTL.RAPS_VID < 4096 := Body.get_lt _ _ _ _
  unfold isRaps
  simp [withFcs, rapsFrame, toBe, toLe, frameDst, frameType, innerType, b16, bytesAt, beNat]
  omega

theorem withFcs_length_pos (f : List Nat) : 0 < (withFcs f).length := by
  simp [withFcs, toLe]

theorem portUp_congr {b c : Body} {p : Nat} (hctl : c.word 0x40400000 = b.word 0x40400000)
    (hlink : c.flag SW.PORT_STAT.LINK p = b.flag SW.PORT_STAT.LINK p) : portUp c p = portUp b p := by
  have hen : c.bit SW.CTL.PORT_EN p = b.bit SW.CTL.PORT_EN p := by
    unfold Body.bit Body.get
    rw [show SW.CTL.PORT_EN.at 0 0 = 0x40400000 from rfl, hctl]
  unfold portUp
  rw [hen, hlink]

theorem RingSame.portUp {b c : Body} (h : RingSame b c) {p : Nat} (hp : p < 3) : portUp c p = portUp b p :=
  portUp_congr (h.regs _ (by decide)) (h.flag (ringReg_portStat rfl rfl hp))

/-- A message of the ring leaves by the one ring port whose link is up, when nothing waits there and it is idle. -/
theorem sendRaps_out {b : Body} {p : Nat} (hp : p < 2) (hdown : portUp b p = false) (hwait : ∀ x ∈ b.sw.waiting, x.port ≠ otherPort p)
    (hfree : (leavingOf b (otherPort p)).2 ≤ wireNow b) (req : Nat) (rb dnf : Bool) (bpr : Nat) :
    (sendRaps req rb dnf bpr b).out = b.out ++ (if portUp b (otherPort p) = true
      then [.eth (otherPort p) (withFcs (rapsFrame b req rb dnf bpr))] else []) := by
  have hsent : (if portUp b (otherPort p) then sendOut (otherPort p) true false false (withFcs (rapsFrame b req rb dnf bpr)) b else b).out =
      b.out ++ (if portUp b (otherPort p) = true then [.eth (otherPort p) (withFcs (rapsFrame b req rb dnf bpr))] else []) := by
    split
    · exact sendOut_idle hwait hfree (by simp [mayLeave, isRaps_rapsFrame]) (withFcs_length_pos _)
    · rw [List.append_nil]
  have hstill : portUp (if portUp b (otherPort p) then sendOut (otherPort p) true false false (withFcs (rapsFrame b req rb dnf bpr)) b
      else b) p = false := by
    split
    · rw [(sendOut_ringSame _ _ _ _ _ _).portUp (by omega), hdown]
    · exact hdown
  have hcases : p = 0 ∨ p = 1 := by omega
  unfold sendRaps
  simp only [Body.each, List.foldl_cons, List.foldl_nil]
  rcases hcases with rfl | rfl
  · rw [if_neg (Bool.eq_false_iff.1 hdown)]
    exact hsent
  · rw [show otherPort 1 = 0 from rfl] at hsent hstill ⊢
    rw [if_neg (Bool.eq_false_iff.1 hstill)]
    exact hsent

/-- What a failure of port `p` sends, with DNF when the port was blocked already (R400). -/
theorem localSf_out {b : Body} {p : Nat} (hp : p < 2) (h0 : erpsState b ≠ 0) (h4 : erpsState b ≠ 4) (hdown : portUp b p = false)
    (hwait : ∀ x ∈ b.sw.waiting, x.port ≠ otherPort p) (hfree : (leavingOf b (otherPort p)).2 ≤ wireNow b) :
    (localSf p b).out = b.out ++ (if portUp b (otherPort p) = true
      then [.eth (otherPort p) (withFcs (rapsFrame b rSF false (b.flag SW.PORT_STAT.BLOCKED p) p))] else []) := by
  have hblock : ∀ (c : Body) (q r : Nat) (v : Bool), q < 3 → r < 3 → portUp (blockPort q v c) r = portUp c r := fun c q r v hq hr =>
    portUp_congr (markPort_word rfl rfl hq (.inl (by decide)) v c) (by
      rw [← ringView_link _ hr, ringView_blockPort hq, ringView_link _ hr])
  have hmark : NetSame b (blockPort p true b) :=
    .put (by simp only [Fld.at]; omega) (by simp only [Fld.at]; omega) b _
  have hp3 : p < 3 := by omega
  have hstart : ∀ c : Body, NetSame b c → portUp c p = portUp b p → portUp c (otherPort p) = portUp b (otherPort p) →
      ∀ dnf : Bool, (sendRaps rSF false dnf p c).out = b.out ++ (if portUp b (otherPort p) = true
        then [.eth (otherPort p) (withFcs (rapsFrame b rSF false dnf p))] else []) := by
    intro c hnet hup hoth dnf
    rw [sendRaps_out hp (hup.trans hdown) (by rw [hnet.sw]; exact hwait) (by
      unfold leavingOf wireNow
      rw [hnet.sw, hnet.clock]
      exact hfree), hnet.out, hoth, rapsFrame_congr hnet.mac hnet.erpsCtl]
  have hout : (blockOnly p rSF b).out = b.out ++ (if portUp b (otherPort p) = true
      then [.eth (otherPort p) (withFcs (rapsFrame b rSF false (b.flag SW.PORT_STAT.BLOCKED p) p))] else []) := by
    have hflush : ∀ c : Body, (if (b.flag SW.PORT_STAT.BLOCKED p && decide (rSF ≠ rSF)) = true then c else flushFdb c).out = c.out := by
      intro c
      split <;> rfl
    unfold blockOnly
    dsimp only
    rw [hflush]
    split
    · exact hstart _ hmark (hblock b p p true hp3 hp3) (hblock b p _ true hp3 otherPort_lt) _
    · refine hstart _ (hmark.trans (.put ?_ ?_ _ _)) ((hblock _ _ _ _ otherPort_lt hp3).trans (hblock b p p true hp3 hp3))
        ((hblock _ _ _ _ otherPort_lt otherPort_lt).trans (hblock b p _ true hp3 otherPort_lt)) _
      · simp only [Fld.at]; omega
      · have := otherPort_lt (p := p)
        simp only [Fld.at]; omega
  unfold localSf
  rw [if_neg (by simp [h0, h4]), setErps_out]
  exact hout

end Sys2Proof.Machine
end

section
/-! SUPPORT. Scope: links of the ring ports that go and come (R62, R64, R400, R454). -/

namespace Sys2Proof.Machine

/-! ### Links (R62, R64, R400) -/

/-- Port `p` after its link went, before ring protection looks at it: what waited there is gone (log entry 78). -/
def linkGone (p : Nat) (b : Body) : Body := dropWaiting p (mediumFollow p (b.mark SW.PORT_STAT.LINK false p))

theorem linkDown_ring {p : Nat} (hp : p < 2) {b : Body} (h : b.flag SW.PORT_STAT.LINK p = true) :
    linkDown p b = ringLoss p (linkGone p b) := by
  unfold linkDown
  rw [h]
  dsimp only
  rw [if_neg (by decide), if_pos hp]
  rfl

theorem linkDown_without {p : Nat} {b : Body} (h : b.flag SW.PORT_STAT.LINK p = false) : linkDown p b = b := by
  unfold linkDown
  rw [h]
  rfl

theorem ringView_linkGone {p : Nat} (hp : p < 3) (b : Body) : ∃ l, ringView (linkGone p b) =
    { ringView b with link := Function.update (ringView b).link p false, fibre := l } := by
  obtain ⟨⟨l, hl⟩, -⟩ := mediumFollow_same p (b.mark SW.PORT_STAT.LINK false p)
  have hdrop : ringView (linkGone p b) = ringView (mediumFollow p (b.mark SW.PORT_STAT.LINK false p)) := rfl
  exact ⟨l, by rw [hdrop, hl, ringView_markLink hp]⟩

theorem netSame_beforeDrop {p : Nat} (hp : p < 3) (b : Body) : NetSame b (mediumFollow p (b.mark SW.PORT_STAT.LINK false p)) :=
  NetSame.trans (.put (by simp only [Fld.at]; omega) (by simp only [Fld.at]; omega) b _) (mediumFollow_same p _).2

/-- A failure that may not be taken changes nothing, and one that is taken leaves links and media alone. -/
theorem localSf_links {p : Nat} (hp : p < 2) (b : Body) : (ringView (localSf p b)).link = (ringView b).link := by
  by_cases h : erpsState b = 0 ∨ erpsState b = 4
  · unfold localSf
    rw [if_pos h]
  · rw [not_or] at h
    rw [ringView_localSf hp h.1 h.2]

theorem declareSf_links {p : Nat} (hp : p < 2) (b : Body) : (ringView (declareSf p b)).link = (ringView b).link := by
  unfold declareSf
  dsimp only
  split
  · exact localSf_links hp _
  · rfl

theorem ringLoss_links {p : Nat} (hp : p < 2) (b : Body) : (ringView (ringLoss p b)).link = (ringView b).link := by
  unfold ringLoss
  split
  · exact declareSf_links hp b
  · rfl

theorem reselect_only (b : Body) : Only [0x402] b (reselect b) := by
  have hput : ∀ (v : Nat) (c : Body), c.regs = (b.put TB.STAT.SLAVE_PORT v).regs → Only [0x402] b c := fun v c h =>
    (Only.put (by decide)).trans (Only.of_regs h)
  unfold reselect
  split
  rename_i p a h
  dsimp only
  split
  · exact hput p _ rfl
  · exact hput p _ rfl

theorem seamDown_only (b : Body) : Only hemBlocks b (seamDown b) := by
  unfold seamDown seamLost
  split
  · split
    · exact (Only.mark (by decide)).trans (Only.mark (by decide))
    · exact ((Only.mark (by decide)).trans (Only.mark (by decide))).trans ((Only.mark (by decide)).trans (raise_only _ _ _ _))
  · exact .rfl

/-- A link that is lost is down, on a ring port and on the SEAM port (R454). -/
theorem linkDown_down {q : Nat} (hq : q < 3) {b : Body} (h : b.flag SW.PORT_STAT.LINK q = true) :
    (linkDown q b).flag SW.PORT_STAT.LINK q = false := by
  obtain ⟨l, hgone⟩ := ringView_linkGone hq b
  have hdown : (linkGone q b).flag SW.PORT_STAT.LINK q = false := by
    rw [← ringView_link _ hq, hgone]
    exact Function.update_self ..
  by_cases hring : q < 2
  · rw [linkDown_ring hring h, ← ringView_link _ hq, ringLoss_links hring, ringView_link _ hq, hdown]
  · have hseam : linkDown q b = if seamRun (linkGone q b) then reselect (seamDown (linkGone q b)) else linkGone q b := by
      unfold linkDown
      rw [h]
      dsimp only
      rw [if_neg (by decide), if_neg hring]
      rfl
    have hkeep : ∀ f : Fld, f.at q 0 / 0x100000 = 0x404 → (linkDown q b).flag f q = (linkGone q b).flag f q := by
      intro f hf
      rw [hseam]
      split
      · rw [(reselect_only _).flag _ _ _ (by simp [hf]), (seamDown_only _).flag _ _ _ (by simp [hf])]
      · rfl
    rw [hkeep _ (by simp only [Fld.at]; omega), hdown]

/-- What a declared failure does with the engine on, below a forced switch (R400). -/
theorem declareSf_takes {b : Body} {p : Nat} (hp : p < 2) (hen : b.flag SW.ERPS_CTL.EN = true) (h0 : erpsState b ≠ 0)
    (h4 : erpsState b ≠ 4) (hdown : b.flag SW.PORT_STAT.LINK p = false) :
    (declareSf p b).get SW.ERPS_STAT.STATE = 2 ∧ (declareSf p b).flag SW.PORT_STAT.BLOCKED p = true ∧ (declareSf p b).sw.fdb = [] ∧
    ((∀ x ∈ b.sw.waiting, x.port ≠ 1 - p) → (leavingOf b (1 - p)).2 ≤ wireNow b →
      (declareSf p b).out = b.out ++ (if portUp b (1 - p) = true
        then [.eth (1 - p) (withFcs (rapsFrame b 11 false (b.flag SW.PORT_STAT.BLOCKED p) p))] else [])) := by
  let c : Body := { b with sw := { b.sw with erps := { b.sw.erps with
    holdoff := b.sw.erps.holdoff.filter fun x => decide (x.1 ≠ p), failed := b.sw.erps.failed.filter (· ≠ p) ++ [p] } } }
  have htakes : declareSf p b = localSf p c := if_pos hen
  have hview : ringView (localSf p c) = _ := ringView_localSf hp (b := c) h0 h4
  have hp3 : p < 3 := by omega
  rw [htakes]
  refine ⟨congrArg RingView.state hview, ?_, congrArg RingView.fdb hview, fun hwait hfree => ?_⟩
  · rw [← ringView_blocked _ hp3, hview]
    exact blockedOnly_self _ hp
  · have hup : portUp c p = false := by
      show (_ && b.flag SW.PORT_STAT.LINK p) = false
      rw [hdown, Bool.and_false]
    exact localSf_out (b := c) hp h0 h4 hup hwait hfree

/-- LINK_LOSS of a ring port with hold-off 0: the failure is declared at once, on the ring as it was. -/
theorem linkDown_takes {b : Body} {p : Nat} (hp : p < 2) (hlink : b.flag SW.PORT_STAT.LINK p = true)
    (hhold : b.get SW.ERPS_TMR.HOLDOFF = 0) (hen : b.flag SW.ERPS_CTL.EN = true) (h0 : erpsState b ≠ 0) (h4 : erpsState b ≠ 4) :
    (linkDown p b).get SW.ERPS_STAT.STATE = 2 ∧ (linkDown p b).flag SW.PORT_STAT.BLOCKED p = true ∧ (linkDown p b).sw.fdb = [] ∧
    ((∀ x ∈ b.sw.waiting, x.port ≠ 1 - p) → (leavingOf b (1 - p)).2 ≤ wireNow b →
      (linkDown p b).out = b.out ++ (if portUp b (1 - p) = true
        then [.eth (1 - p) (withFcs (rapsFrame b 11 false (b.flag SW.PORT_STAT.BLOCKED p) p))] else [])) := by
  have hp3 : p < 3 := by omega
  have ho3 : 1 - p < 3 := by omega
  obtain ⟨l, hgone⟩ := ringView_linkGone hp3 b
  have hnet := netSame_beforeDrop hp3 b
  have hstate : erpsState (linkGone p b) = erpsState b := congrArg RingView.state hgone
  have hblocked : (linkGone p b).flag SW.PORT_STAT.BLOCKED p = b.flag SW.PORT_STAT.BLOCKED p := by
    rw [← ringView_blocked _ hp3, ← ringView_blocked _ hp3, hgone]
  have hdown : (linkGone p b).flag SW.PORT_STAT.LINK p = false := by
    rw [← ringView_link _ hp3, hgone]
    exact Function.update_self ..
  have hother : (linkGone p b).flag SW.PORT_STAT.LINK (1 - p) = b.flag SW.PORT_STAT.LINK (1 - p) := by
    rw [← ringView_link _ ho3, ← ringView_link _ ho3, hgone]
    exact Function.update_of_ne (by omega) ..
  have hlost : linkDown p b = declareSf p (linkGone p b) := by
    rw [linkDown_ring hp hlink]
    exact if_pos ((congrArg RingView.holdoff hgone).trans hhold)
  rw [hlost]
  obtain ⟨hs, hb, hf, hout⟩ := declareSf_takes hp ((congrArg RingView.enabled hgone).trans hen) (hstate ▸ h0) (hstate ▸ h4) hdown
  refine ⟨hs, hb, hf, fun hwait hfree => ?_⟩
  have hwait' : ∀ x ∈ (linkGone p b).sw.waiting, x.port ≠ 1 - p := fun x hx =>
    hwait x (hnet.sw ▸ List.mem_of_mem_filter hx)
  have hfree' : (leavingOf (linkGone p b) (1 - p)).2 ≤ wireNow (linkGone p b) := by
    have hleaving : (mediumFollow p (b.mark SW.PORT_STAT.LINK false p)).sw.leaving = b.sw.leaving := congrArg Sw.leaving hnet.sw
    have hclock : (linkGone p b).clock = b.clock := hnet.clock
    unfold leavingOf wireNow
    rw [hclock]
    exact hleaving ▸ hfree
  have hsent : (linkGone p b).out = b.out := hnet.out
  rw [hout hwait' hfree', hsent, hblocked, portUp_congr (b := b) (c := linkGone p b) hnet.ctl hother,
    rapsFrame_congr (b := b) (c := linkGone p b) hnet.mac hnet.erpsCtl]

/-- With a hold-off LINK_LOSS starts the port's timer alone. -/
theorem linkDown_waits {b : Body} {p : Nat} (hp : p < 2) (hlink : b.flag SW.PORT_STAT.LINK p = true)
    (hhold : b.get SW.ERPS_TMR.HOLDOFF ≠ 0) : (p, b.clock.cyc) ∈ (linkDown p b).sw.erps.holdoff ∧
      (linkDown p b).get SW.ERPS_STAT.STATE = b.get SW.ERPS_STAT.STATE ∧ (linkDown p b).out = b.out := by
  have hp3 : p < 3 := by omega
  obtain ⟨l, hgone⟩ := ringView_linkGone hp3 b
  have hnet := netSame_beforeDrop hp3 b
  have hclock : (linkGone p b).clock.cyc = b.clock.cyc := congrArg Clock.cyc hnet.clock
  have hwaits : linkDown p b = { linkGone p b with sw := { (linkGone p b).sw with erps := { (linkGone p b).sw.erps with
      holdoff := ((linkGone p b).sw.erps.holdoff.filter fun x => decide (x.1 ≠ p)) ++ [(p, (linkGone p b).clock.cyc)] } } } := by
    rw [linkDown_ring hp hlink]
    exact if_neg fun h => hhold ((congrArg RingView.holdoff hgone).symm.trans h)
  rw [hwaits]
  exact ⟨by simp [hclock], congrArg RingView.state hgone, hnet.out⟩

/-- A failure that clears leaves links and media alone. -/
theorem clearSf_links (p : Nat) (b : Body) :
    (ringView (clearSf p b)).link = (ringView b).link ∧ (ringView (clearSf p b)).fibre = (ringView b).fibre := by
  have hpending : ∀ c : Body, (ringView (setErps 5 (startWtr (sendRaps rNR false false 0 (startGuard c))))).link = (ringView c).link ∧
      (ringView (setErps 5 (startWtr (sendRaps rNR false false 0 (startGuard c))))).fibre = (ringView c).fibre := by
    intro c
    obtain ⟨v, hv⟩ := ringView_startWtr (sendRaps rNR false false 0 (startGuard c))
    rw [ringView_setErps (by decide), hv, ringView_sendRaps, ringView_startGuard]
    exact ⟨rfl, rfl⟩
  unfold clearSf
  dsimp only
  split
  · exact hpending _
  · exact ⟨rfl, rfl⟩

/-- A link that may come up is up, on its medium. -/
theorem linkUp_up {p : Nat} (hp : p < 2) {fibre : Bool} {b : Body} (hen : b.bit SW.CTL.PORT_EN p = true)
    (hlock : b.flag SYS.CLK_STAT.ETH_LOCK = true) (hok : mediumOk b p fibre = true) :
    (linkUp p fibre b).flag SW.PORT_STAT.LINK p = true ∧ (linkUp p fibre b).flag SW.PORT_STAT.FIBRE p = fibre := by
  have hp3 : p < 3 := by omega
  have hup : linkUp p fibre b = clearSf p (setMedium p fibre (b.mark SW.PORT_STAT.LINK true p)) := by
    unfold linkUp
    rw [hen, hlock, hok]
    dsimp only
    rw [if_neg (by simp; omega), if_pos hp]
  obtain ⟨hlink, hfibre⟩ := clearSf_links p (setMedium p fibre (b.mark SW.PORT_STAT.LINK true p))
  obtain ⟨hview, -⟩ := setMedium_same hp3 fibre (b.mark SW.PORT_STAT.LINK true p)
  rw [hup, ← ringView_link _ hp3, ← ringView_fibre _ hp3, hlink, hfibre, hview, ringView_markLink hp3]
  exact ⟨Function.update_self .., Function.update_self ..⟩

theorem linkUp_refused {p : Nat} {fibre : Bool} {b : Body} (h : b.bit SW.CTL.PORT_EN p = false ∨
    b.flag SYS.CLK_STAT.ETH_LOCK = false ∨ mediumOk b p fibre = false) : linkUp p fibre b = b := by
  unfold linkUp
  rw [if_pos]
  rcases h with h | h | h <;> simp [h]

/-- The two status bits of a cage, written in turn. -/
theorem cageBits {p : Nat} (hp : p < 3) (sfp high : Bool) (b : Body) :
    ((b.mark SW.PORT_STAT.SFP sfp p).mark SW.PORT_STAT.SFP_PWR high p).flag SW.PORT_STAT.SFP p = sfp ∧
    ((b.mark SW.PORT_STAT.SFP sfp p).mark SW.PORT_STAT.SFP_PWR high p).flag SW.PORT_STAT.SFP_PWR p = high ∧
    ringView ((b.mark SW.PORT_STAT.SFP sfp p).mark SW.PORT_STAT.SFP_PWR high p) = ringView b := by
  have hcage : ∀ (f : Fld), f.at 0 0 = 0x40400010 → f.s1 = 4 → f.w = 1 → f.lo = 4 ∨ f.lo = 5 → ∀ (v : Bool) (c : Body),
      ringView (c.mark f v p) = ringView c := by
    intro f hf hs hw hlo v c
    have hne : f ≠ SW.PORT_STAT.BLOCKED ∧ f ≠ SW.PORT_STAT.LINK ∧ f ≠ SW.PORT_STAT.FIBRE := by
      refine ⟨?_, ?_, ?_⟩ <;> rintro rfl <;> simp at hlo
    rw [ringView_markPort hf hs hw (by omega) (fun g hg => .inr (.inl ?_)) hp, if_neg hne.1, if_neg hne.2.1, if_neg hne.2.2]
    have hbelow : ∀ g ∈ [SW.PORT_STAT.BLOCKED, SW.PORT_STAT.LINK, SW.PORT_STAT.FIBRE], g.lo + g.w ≤ 4 := by decide
    have := hbelow g hg
    omega
  refine ⟨?_, Body.flag_mark_same _ _ _ _ _ rfl (by decide), ?_⟩
  · rw [Body.flag_mark_bits _ _ _ _ _ _ _ _ (by rfl) (by decide) (by decide), Body.flag_mark_same _ _ _ _ _ rfl (by decide)]
  · rw [hcage SW.PORT_STAT.SFP_PWR rfl rfl rfl (.inr rfl), hcage SW.PORT_STAT.SFP rfl rfl rfl (.inl rfl)]

/-- A cage that loses its module loses the fibre link with it (R64). -/
theorem sfpRemove_fibre {p : Nat} (hp : p < 2) {b : Body} (hfibre : b.flag SW.PORT_STAT.FIBRE p = true) :
    (sfpRemove p b).flag SW.PORT_STAT.LINK p = false := by
  have hp3 : p < 3 := by omega
  have hrem : sfpRemove p b = ((linkDown p b).mark SW.PORT_STAT.SFP false p).mark SW.PORT_STAT.SFP_PWR false p := by
    unfold sfpRemove
    rw [if_neg (by omega), hfibre]
    rfl
  rw [hrem, ← ringView_link _ hp3, (cageBits hp3 false false _).2.2, ringView_link _ hp3]
  by_cases h : b.flag SW.PORT_STAT.LINK p = true
  · exact linkDown_down hp3 h
  · rw [linkDown_without (Bool.eq_false_iff.2 h)]
    exact Bool.eq_false_iff.2 h

theorem sfpRemove_cage {p : Nat} (hp : p < 2) (b : Body) :
    (sfpRemove p b).flag SW.PORT_STAT.SFP p = false ∧ (sfpRemove p b).flag SW.PORT_STAT.SFP_PWR p = false := by
  have hp3 : p < 3 := by omega
  unfold sfpRemove
  rw [if_neg (by omega)]
  exact ⟨(cageBits hp3 false false _).1, (cageBits hp3 false false _).2.1⟩

end Sys2Proof.Machine
end

section
/-! SUPPORT. Scope: the rows of ring protection (R397 to R400), command by command. -/

namespace Sys2Proof.Machine

/-! ### Commands and expiries -/

/-! The arms of rows whose operation stands under a condition of the row itself. -/

theorem exec_linkLoss (q : Nat) (s : State) : exec (.linkLoss q) s = execLinkLoss q s := rfl
theorem exec_holdoffExpiry (q : Nat) (s : State) : exec (.holdoffExpiry q) s = execHoldoffExpiry q s := rfl
theorem exec_wtrExpiry (s : State) : exec .wtrExpiry s = execWtrExpiry s := rfl
theorem exec_wtbExpiry (s : State) : exec .wtbExpiry s = execWtbExpiry s := rfl

/-- Nothing happens: SW's own state and every register stand. -/
theorem same_of_unchanged {b c : Body} (h : c = b) : (settle c).sw = b.sw ∧ RegsKept (fun _ => False) b (settle c) :=
  h ▸ ⟨rfl, fun _ _ => rfl⟩

theorem ringClear_ends {b : Body} (hst : b.get SW.ERPS_STAT.STATE = 3 ∨ b.get SW.ERPS_STAT.STATE = 4)
    (hcommand : b.sw.erps.command ≠ none) (hfailed : b.sw.erps.failed = []) :
    (ringClear b).get SW.ERPS_STAT.STATE = 5 ∧ (ringClear b).sw.erps.command = none := by
  unfold ringClear
  rw [if_pos ⟨hst, Option.isSome_iff_ne_none.2 hcommand⟩]
  exact endCommand_pending hfailed

theorem ringClear_restores {b : Body} (h5 : erpsState b = 5) (hown : ringOwner b = true) : ringClear b = ringRestore b := by
  unfold ringClear
  rw [if_neg (by omega), if_pos (by simp [h5, hown])]

theorem ringClear_nothing {b : Body} (h : (erpsState b = 3 ∨ erpsState b = 4) ∧ b.sw.erps.command = none ∨ erpsState b < 3 ∨
    5 < erpsState b ∨ (erpsState b = 5 ∧ ringOwner b = false)) : ringClear b = b := by
  have hcommand : ¬ ((erpsState b = 3 ∨ erpsState b = 4) ∧ b.sw.erps.command.isSome = true) := by
    rintro ⟨hst, hsome⟩
    rcases h with h | h | h | h
    · simp [h.2] at hsome
    · omega
    · omega
    · omega
  have hrestore : ¬ ((decide (erpsState b = 5) && ringOwner b) = true) := by
    simp only [Bool.and_eq_true, decide_eq_true_eq]
    rintro ⟨h5, hown⟩
    rcases h with h | h | h | h
    · omega
    · omega
    · omega
    · simp [hown] at h
  unfold ringClear
  rw [if_neg hcommand, if_neg hrestore]

/-- A restored ring: idle, its RPL port blocked, the other passing, no wait running. -/
theorem ringRestore_idle (b : Body) :
    (ringRestore b).get SW.ERPS_STAT.STATE = 1 ∧ (ringRestore b).flag SW.PORT_STAT.BLOCKED (b.get SW.ERPS_CTL.RPL_PORT) = true ∧
    (ringRestore b).flag SW.PORT_STAT.BLOCKED (1 - b.get SW.ERPS_CTL.RPL_PORT) = false ∧
    (ringRestore b).flag SW.ERPS_STAT.WTR = false ∧ (ringRestore b).flag SW.ERPS_STAT.WTB = false := by
  obtain ⟨l, hview⟩ := ringView_ringRestore b
  have hrpl : b.get SW.ERPS_CTL.RPL_PORT < 2 := Body.get_lt _ SW.ERPS_CTL.RPL_PORT _ _
  refine ⟨congrArg RingView.state hview, ?_, ?_, congrArg RingView.wtr hview, congrArg RingView.wtb hview⟩
  · rw [← ringView_blocked _ (by omega), hview]
    exact (Function.update_of_ne (otherPort_ne hrpl) ..).trans (Function.update_self ..)
  · rw [← ringView_blocked _ (by omega), hview]
    exact Function.update_self ..

theorem waitExpiry_restores {b : Body} (h5 : erpsState b = 5) (hown : ringOwner b = true) : waitExpiry b = ringRestore b := by
  unfold waitExpiry
  rw [if_pos (by simp [h5, hown])]

/-- Elsewhere an expiry stops the timers alone. -/
theorem waitExpiry_stops {b : Body} (h : erpsState b ≠ 5 ∨ ringOwner b = false) :
    (waitExpiry b).flag SW.ERPS_STAT.WTR = false ∧ (waitExpiry b).flag SW.ERPS_STAT.WTB = false ∧
      (waitExpiry b).get SW.ERPS_STAT.STATE = b.get SW.ERPS_STAT.STATE := by
  have hstop : waitExpiry b = stopTimers b := by
    unfold waitExpiry
    rw [if_neg]
    rcases h with h | h <;> simp [h]
  have hview := ringView_stopTimers b
  rw [hstop]
  exact ⟨congrArg RingView.wtr hview, congrArg RingView.wtb hview, congrArg RingView.state hview⟩

theorem forcedSwitch_blocks {p : Nat} (hp : p < 2) {b : Body} (h0 : erpsState b ≠ 0) :
    (forcedSwitch p b).get SW.ERPS_STAT.STATE = 4 ∧ (forcedSwitch p b).flag SW.PORT_STAT.BLOCKED p = true ∧
    (forcedSwitch p b).sw.fdb = (if b.flag SW.PORT_STAT.BLOCKED p = true then b.sw.fdb else []) ∧
    (forcedSwitch p b).sw.erps.command = some p := by
  have hview := ringView_forcedSwitch hp h0
  have hp3 : p < 3 := by omega
  rw [ringView_blocked _ hp3] at hview
  refine ⟨congrArg RingView.state hview, ?_, congrArg RingView.fdb hview, congrArg RingView.command hview⟩
  rw [← ringView_blocked _ hp3, hview]
  exact blockedOnly_self _ hp

theorem manualSwitch_blocks {p : Nat} (hp : p < 2) {b : Body} (h : erpsState b = 1 ∨ erpsState b = 5) :
    (manualSwitch p b).get SW.ERPS_STAT.STATE = 3 ∧ (manualSwitch p b).flag SW.PORT_STAT.BLOCKED p = true ∧
    (manualSwitch p b).sw.fdb = (if b.flag SW.PORT_STAT.BLOCKED p = true then b.sw.fdb else []) := by
  have hview := ringView_manualSwitch hp h
  have hp3 : p < 3 := by omega
  rw [ringView_blocked _ hp3] at hview
  refine ⟨congrArg RingView.state hview, ?_, congrArg RingView.fdb hview⟩
  rw [← ringView_blocked _ hp3, hview]
  exact blockedOnly_self _ hp

/-- What a message on the configured channel does, by its request (R397, R400). -/
theorem raps_acts {m : Raps} {b : Body} (hguard : guardRuns b = false) (hmine : rapsMine b m = true) (hnode : m.node ≠ b.nv.mac)
    (hport : m.port < 2) (hup : portUp b m.port = true) (h0 : erpsState b ≠ 0) (h4 : erpsState b ≠ 4) :
    (m.req = 13 → (raps m b).get SW.ERPS_STAT.STATE = 4 ∧ (raps m b).flag SW.PORT_STAT.BLOCKED 0 = false ∧
      (raps m b).flag SW.PORT_STAT.BLOCKED 1 = false) ∧
    (m.req = 11 → b.sw.erps.failed = [] → (raps m b).get SW.ERPS_STAT.STATE = 2 ∧
      (raps m b).flag SW.PORT_STAT.BLOCKED 0 = false ∧ (raps m b).flag SW.PORT_STAT.BLOCKED 1 = false) ∧
    (m.req = 0 → m.rb = true → erpsState b = 5 → ringOwner b = false → (raps m b).get SW.ERPS_STAT.STATE = 1) := by
  have htaken : m.req ∈ [rNR, rMS, rSF, rFS] → raps m b = rapsState m (rapsFlush m b) :=
    raps_taken hguard hmine hnode hport hup h0
  have hstate := erpsState_rapsFlush m b
  obtain ⟨hregs, hfailed⟩ := rapsFlush_keeps m b
  refine ⟨fun hreq => ?_, fun hreq hnone => ?_, fun hreq hrb h5 hown => ?_⟩
  · have hview := rapsState_forced (b := rapsFlush m b) hreq (hstate ▸ h4)
    rw [htaken (by rw [hreq]; decide), ← ringView_blocked _ (by decide), ← ringView_blocked _ (by decide)]
    exact ⟨congrArg RingView.state hview, by rw [hview]; rfl, by rw [hview]; rfl⟩
  · have hview := rapsState_failure (b := rapsFlush m b) hreq (hstate ▸ h4) (hfailed.trans hnone)
    rw [htaken (by rw [hreq]; decide), ← ringView_blocked _ (by decide), ← ringView_blocked _ (by decide)]
    exact ⟨congrArg RingView.state hview, by rw [hview]; rfl, by rw [hview]; rfl⟩
  · have hnot : ringOwner (rapsFlush m b) = false := by
      unfold ringOwner Body.flag
      rw [Body.get_congr hregs]
      exact hown
    rw [htaken (by rw [hreq]; decide)]
    exact rapsState_restored hreq hrb (hstate.trans h5) hnot

theorem guardExpiry_ends {b : Body} (h : guardRuns b = false) : (settle (guardExpiry b)).sw.erps.guard = none ∧
    RegsKept (fun _ => False) b (settle (guardExpiry b)) := by
  unfold guardExpiry
  rw [if_neg (Bool.eq_false_iff.1 h)]
  exact ⟨rfl, fun _ _ => rfl⟩

/-- Settles O46: each row is read off what its operation makes of the ring's view. The requests of FORCED_SWITCH, MANUAL_SWITCH and
CLEAR, the waits and the effect of received messages are those of ITU-T G.8032, the model's choice where R397 to R400 are silent
(log entry 46). -/
theorem ringProtectionFollowsItsRequests : Obligations.RingProtectionFollowsItsRequests := by
  intro s p high fibre m hp hlt st own rpl same failed learnt idle stopped
  have hmod : p % 2 = p := Nat.mod_eq_of_lt hlt
  have hp3 : p < 3 := by omega
  refine ⟨fun q hq hlink => ?_, fun hlink => ⟨fun hhold hen h0 h4 => ?_, fun hhold => ?_⟩, fun hlink => ⟨?_, fun hdue hen h0 h4 => ?_⟩,
    fun h => ?_, fun hen hlock hok => ?_, fun h => ?_, ?_, ?_, fun h0 => ?_, fun h0 => ?_, fun h => ?_, fun h1 h5 => ?_,
    fun h hcommand hfailed => ?_, fun h => ?_, fun h5 hown => ⟨?_, fun hdue => ?_, fun hdue => ?_⟩, fun h => ⟨fun hdue => ?_, fun hdue => ?_⟩,
    fun h => ?_, fun h => ?_, fun h => ?_, fun h => ?_, fun h => ?_, fun hguard hmine hnode hport hup h0 h4 => ?_⟩
  · refine does_of_onRom (exec_linkLoss _ s) hp ?_
    rw [if_pos hq]
    exact linkDown_down hq hlink
  · refine does_of_onRom (exec_linkLoss _ s) hp ?_
    rw [if_pos hp3]
    exact linkDown_takes hlt hlink hhold hen h0 h4
  · refine does_of_onRom (exec_linkLoss _ s) hp ?_
    rw [if_pos hp3]
    exact linkDown_waits hlt hlink hhold
  · refine does_of_onRom (exec_linkLoss _ s) hp ?_
    rw [if_pos hp3]
    exact same_of_unchanged (linkDown_without hlink)
  · refine does_of_onBody (exec_holdoffExpiry _ s) hp ?_
    rw [if_pos (by rw [hdue, hlink]; rfl)]
    exact declareSf_takes hlt hen h0 h4 hlink
  · refine does_of_onBody (exec_holdoffExpiry _ s) hp ?_
    rw [if_neg (by rcases h with h | h <;> simp [h])]
    exact same_of_unchanged rfl
  · exact does_of_onRom rfl hp (linkUp_up hlt hen hlock hok)
  · exact does_of_onRom rfl hp (same_of_unchanged (linkUp_refused h))
  · refine does_of_onRom rfl hp ?_
    unfold sfpInsert
    rw [if_neg (by omega)]
    exact ⟨(cageBits hp3 true high _).1, (cageBits hp3 true high _).2.1, rfl⟩
  · exact does_of_onRom rfl hp ⟨(sfpRemove_cage hlt _).1, (sfpRemove_cage hlt _).2, sfpRemove_fibre hlt⟩
  · refine does_of_onBody rfl hp ?_
    rw [hmod]
    obtain ⟨hstate, hblocked, hfdb, hcommand⟩ := forcedSwitch_blocks hlt h0
    exact ⟨hstate, hblocked, hfdb, hcommand⟩
  · exact does_of_onBody rfl hp (same_of_unchanged (if_pos h0))
  · refine does_of_onBody rfl hp ?_
    rw [hmod]
    exact manualSwitch_blocks hlt h
  · exact does_of_onBody rfl hp (same_of_unchanged (if_neg (not_or.2 ⟨h1, h5⟩)))
  · exact does_of_onBody rfl hp (ringClear_ends h hcommand hfailed)
  · exact does_of_onBody rfl hp (same_of_unchanged (ringClear_nothing h))
  · refine does_of_onBody rfl hp ?_
    rw [ringClear_restores h5 hown]
    exact ringRestore_idle _
  · refine does_of_onBody (exec_wtrExpiry s) hp ?_
    rw [if_pos hdue, waitExpiry_restores h5 hown]
    exact ringRestore_idle _
  · refine does_of_onBody (exec_wtbExpiry s) hp ?_
    rw [if_pos hdue, waitExpiry_restores h5 hown]
    exact ringRestore_idle _
  · refine does_of_onBody (exec_wtrExpiry s) hp ?_
    rw [if_pos hdue]
    exact waitExpiry_stops h
  · refine does_of_onBody (exec_wtbExpiry s) hp ?_
    rw [if_pos hdue]
    exact waitExpiry_stops h
  · exact does_of_onBody (exec_wtrExpiry s) hp (same_of_unchanged (if_neg (Bool.eq_false_iff.1 h)))
  · exact does_of_onBody (exec_wtbExpiry s) hp (same_of_unchanged (if_neg (Bool.eq_false_iff.1 h)))
  · exact does_of_onBody rfl hp (guardExpiry_ends h)
  · exact does_of_onBody rfl hp (same_of_unchanged (if_pos h))
  · exact does_of_onBody rfl hp (same_of_unchanged (raps_ignored h))
  · subst hport
    obtain ⟨hforced, hfailure, hrestored⟩ := raps_acts hguard hmine hnode hlt hup h0 h4
    exact ⟨fun hreq => does_of_onBody rfl hp (hforced hreq), fun hreq hfailed => does_of_onBody rfl hp (hfailure hreq hfailed),
      fun hreq hrb h5 hown => does_of_onBody rfl hp (hrestored hreq hrb h5 hown)⟩

end Sys2Proof.Machine
end

section
/-! SUPPORT. Scope: bits and parts of a register field, and what an error that is not fatal leaves alone of what GIO works on. -/

namespace Sys2Proof.Machine

/-! ### A part of a field -/

/-- Bits below the width of a number cut to it are the number's own. -/
theorem mod_two_pow_part {w l u : Nat} (h : l + u ≤ w) (n : Nat) : n % 2 ^ w / 2 ^ l % 2 ^ u = n / 2 ^ l % 2 ^ u := by
  obtain ⟨d, rfl⟩ := Nat.exists_eq_add_of_le h
  rw [show l + u + d = l + (u + d) by omega, pow_add 2 l, Nat.mod_mul_right_div_self, pow_add, Nat.mod_mul_right_mod]

/-- A part of a field just written reads its value, cut to the part's width. -/
theorem part_insBits_same (b : Body) (f : Fld) {l u : Nat} (h : l + u ≤ f.w) (hw : f.lo + f.w ≤ 32) (v i j : Nat) :
    (b.put f (insBits (b.get f i j) l u v) i j).get f i j / 2 ^ l % 2 ^ u = v % 2 ^ u := by
  rw [Body.get_put_same _ _ _ _ _ hw, mod_two_pow_part h, insBits_same]

/-- Every other part of the field reads as before. -/
theorem part_insBits_other (b : Body) (f : Fld) {l u k t : Nat} (hk : k + t ≤ f.w) (hw : f.lo + f.w ≤ 32)
    (h : k + t ≤ l ∨ l + u ≤ k) (v i j : Nat) :
    (b.put f (insBits (b.get f i j) l u v) i j).get f i j / 2 ^ k % 2 ^ t = b.get f i j / 2 ^ k % 2 ^ t := by
  rw [Body.get_put_same _ _ _ _ _ hw, mod_two_pow_part hk]
  rcases h with h | h
  · exact insBits_below _ _ _ _ _ _ h
  · exact insBits_above _ _ _ _ _ _ h

theorem Body.bit_setBit_same (b : Body) (f : Fld) {k : Nat} (hk : k < f.w) (hw : f.lo + f.w ≤ 32) (v : Bool) (i j : Nat) :
    (b.setBit f k v i j).bit f k i j = v := by
  have h := part_insBits_same b f (l := k) (u := 1) hk hw (if v then 1 else 0) i j
  unfold Body.bit Body.setBit
  rw [pow_one] at h
  rw [h]
  cases v <;> rfl

theorem Body.bit_setBit_other (b : Body) (f : Fld) {k l : Nat} (hl : l < f.w) (hw : f.lo + f.w ≤ 32) (hne : l ≠ k) (v : Bool)
    (i j : Nat) : (b.setBit f k v i j).bit f l i j = b.bit f l i j := by
  have h := part_insBits_other b f (l := k) (u := 1) (k := l) (t := 1) hl hw (by omega) (if v then 1 else 0) i j
  unfold Body.bit Body.setBit
  rw [pow_one] at h
  rw [h]

/-- A bit of another field, of this register or another, reads as before. -/
theorem Body.bit_of_get {b c : Body} {f : Fld} {i j : Nat} (h : c.get f i j = b.get f i j) (k : Nat) : c.bit f k i j = b.bit f k i j := by
  unfold Body.bit
  rw [h]

theorem Body.flag_of_get {b c : Body} {f : Fld} {i j : Nat} (h : c.get f i j = b.get f i j) : c.flag f i j = b.flag f i j := by
  unfold Body.flag
  rw [h]

end Sys2Proof.Machine

namespace Sys2Proof

open Machine

/-! ### What stands outside the registers touched -/

theorem RegsKept.get {p : Nat → Prop} {b c : Body} (h : RegsKept p b c) {f : Fld} {i j : Nat} (hf : ¬ p (f.at i j)) :
    c.get f i j = b.get f i j := by
  unfold Body.get
  rw [h _ hf]

theorem RegsKept.bit {p : Nat → Prop} {b c : Body} (h : RegsKept p b c) {f : Fld} {i j : Nat} (hf : ¬ p (f.at i j)) (k : Nat) :
    c.bit f k i j = b.bit f k i j := Body.bit_of_get (h.get hf) k

theorem RegsKept.flag {p : Nat → Prop} {b c : Body} (h : RegsKept p b c) {f : Fld} {i j : Nat} (hf : ¬ p (f.at i j)) :
    c.flag f i j = b.flag f i j := Body.flag_of_get (h.get hf)

theorem RegsKept.put {p : Nat → Prop} {f : Fld} {i j : Nat} (hf : p (f.at i j)) (b : Body) (v : Nat) :
    RegsKept p b (b.put f v i j) := RegsKept.setWord hf _ _

theorem RegsKept.mono {p q : Nat → Prop} {b c : Body} (h : RegsKept p b c) (hpq : ∀ a, p a → q a) : RegsKept q b c :=
  fun a ha => h a fun hp => ha (hpq a hp)

theorem RegsKept.each {α : Type} {p : Nat → Prop} {f : Body → α → Body} (h : ∀ x c, RegsKept p c (f c x)) (l : List α) (b : Body) :
    RegsKept p b (b.each l f) :=
  Body.each_keeps (P := RegsKept p b) (fun x c hc => hc.trans (h x c)) l (.refl b)

end Sys2Proof

namespace Sys2Proof.Machine

/-! ### What GIO works on beside registers -/

/-- From `b` to `c` GIO's and the Loom's own state, the clock, the pattern, the pair's state and the power stand. -/
structure Stands (b c : Body) : Prop where
  gio : c.gio = b.gio
  loom : c.loom = b.loom
  clock : c.clock = b.clock
  pat : c.pat = b.pat
  seam : c.seam = b.seam
  power : c.power = b.power

theorem Stands.refl (b : Body) : Stands b b := ⟨rfl, rfl, rfl, rfl, rfl, rfl⟩

theorem Stands.trans {b c e : Body} (h : Stands b c) (g : Stands c e) : Stands b e :=
  ⟨g.gio.trans h.gio, g.loom.trans h.loom, g.clock.trans h.clock, g.pat.trans h.pat, g.seam.trans h.seam, g.power.trans h.power⟩

theorem Stands.put (b : Body) (f : Fld) (v i j : Nat) : Stands b (b.put f v i j) := ⟨rfl, rfl, rfl, rfl, rfl, rfl⟩

theorem Stands.mark (b : Body) (f : Fld) (v : Bool) (i j : Nat) : Stands b (b.mark f v i j) := .put b f _ i j

theorem Stands.bump (b : Body) (f : Fld) (n i j : Nat) : Stands b (b.bump f n i j) := .put b f _ i j

theorem Stands.safe (b : Body) (x : Safe) : Stands b { b with safe := x } := ⟨rfl, rfl, rfl, rfl, rfl, rfl⟩

theorem Stands.each {α : Type} {f : Body → α → Body} (h : ∀ x c, Stands c (f c x)) (l : List α) (b : Body) : Stands b (b.each l f) :=
  Body.each_keeps (P := Stands b) (fun x c hc => hc.trans (h x c)) l (.refl b)

theorem record_stands (code a0 a1 : Nat) (b : Body) : Stands b (record code a0 a1 b) := by
  obtain ⟨r, x, n, h⟩ := record_changes code a0 a1 b
  rw [h]
  exact ⟨rfl, rfl, rfl, rfl, rfl, rfl⟩

theorem bbOffer_stands (need code b6 : Nat) (ns : Bool) (a0 a1 : Nat) (b : Body) : Stands b (bbOffer need code b6 ns a0 a1 b).1 := by
  unfold bbOffer
  split
  · exact ⟨rfl, rfl, rfl, rfl, rfl, rfl⟩
  · split <;> exact ⟨rfl, rfl, rfl, rfl, rfl, rfl⟩

theorem shEmit_stands (id : Nat) (m : List Nat) (b : Body) : Stands b (shEmit id m b) := by
  unfold shEmit
  cases assocOf b id <;> exact ⟨rfl, rfl, rfl, rfl, rfl, rfl⟩

theorem pumpN_stands (n id : Nat) (b : Body) : Stands b (pumpN n id b) := by
  induction n generalizing b with
  | zero => exact .refl b
  | succ n ih =>
    unfold pumpN
    split
    · split
      · exact .refl b
      · refine Stands.trans ?_ (ih _)
        refine Stands.trans ?_ (shEmit_stands _ _ _)
        exact ⟨rfl, rfl, rfl, rfl, rfl, rfl⟩
    · exact .refl b

theorem shRequest_stands (id type : Nat) (p : List Nat) (b : Body) : Stands b (shRequest id type p b) := by
  refine Stands.trans ?_ (pumpN_stands _ _ _)
  exact ⟨rfl, rfl, rfl, rfl, rfl, rfl⟩

theorem shCollect_stands (t k : Nat) (ns : Bool) (p : List Nat) (b : Body) : Stands b (shCollect t k ns p b) := by
  unfold shCollect
  refine Stands.trans ?_ (Stands.each (fun id c => shRequest_stands id t p c) _ _)
  split
  · exact shRequest_stands _ _ _ _
  · exact .refl b

theorem Stands.puts (b : Body) (f g h k : Fld) (v w x y i j : Nat) :
    Stands b ((((b.put f v i j).put g w i j).put h x i j).put k y i j) :=
  (((Stands.put b f v i j).trans (.put _ g w i j)).trans (.put _ h x i j)).trans (.put _ k y i j)

theorem setSlot_stands (s code sev : Nat) (ns pre : Bool) (a0 a1 seq : Nat) (b : Body) :
    Stands b (setSlot s code sev ns pre a0 a1 seq b) :=
  .puts b SAFE.ERR.word SAFE.ERR_ARG0.VALUE SAFE.ERR_ARG1.VALUE SAFE.ERR_SEQ.VALUE _ a0 a1 seq s 0

theorem copySlot_stands (s d : Nat) (b : Body) : Stands b (copySlot s d b) :=
  .puts b SAFE.ERR.word SAFE.ERR_ARG0.VALUE SAFE.ERR_ARG1.VALUE SAFE.ERR_SEQ.VALUE _ _ _ _ d 0

/-- Placing an error touches SAFE, the black box, and what Shalan sends (R572, R575, R580). -/
theorem placeError_stands (code sev a0 a1 : Nat) (b : Body) : Stands b (placeError code sev a0 a1 b) := by
  unfold placeError
  dsimp only
  generalize sev + _ + _ + _ = b6
  have hoffer := bbOffer_stands 1 code b6 (errorNs code a0 b) a0 a1 b
  generalize bbOffer 1 code b6 (errorNs code a0 b) a0 a1 b = o at hoffer ⊢
  obtain ⟨c, seq?⟩ := o
  refine Stands.trans ?_ (shCollect_stands _ _ _ _ _)
  have hslots : ∀ p : Nat × Body, Stands b p.2 → ∀ held pre full : Bool, Stands b
      (if held then
        let c := setSlot 0 code sev (errorNs code a0 b) false a0 a1 p.1 p.2
        { c with safe := { c.safe with primaryAt := c.clock.cyc } }
      else if pre then
        let c := setSlot 0 code sev (errorNs code a0 b) true a0 a1 p.1 (copySlot 0 1 p.2)
        { c with safe := { c.safe with primaryAt := c.clock.cyc } }
      else if full then setSlot 1 code sev (errorNs code a0 b) false a0 a1 p.1 p.2
      else p.2.bump SAFE.ERR_OVF.COUNT) := by
    intro p hp held pre full
    refine hp.trans ?_
    split
    · exact (setSlot_stands _ _ _ _ _ _ _ _ _).trans (.safe _ _)
    · split
      · exact ((copySlot_stands 0 1 _).trans (setSlot_stands _ _ _ _ _ _ _ _ _)).trans (.safe _ _)
      · split
        · exact setSlot_stands _ _ _ _ _ _ _ _ _
        · exact .put _ _ _ _ _
  cases seq? with
  | some s => exact hslots (s, c) hoffer _ _ _
  | none => exact hslots c.freeWord (hoffer.trans ⟨rfl, rfl, rfl, rfl, rfl, rfl⟩) _ _ _

/-- An error that is not fatal leaves all that alone. -/
theorem raise_stands {code a0 : Nat} (hsev : severityOf code a0 < 3) (a1 : Nat) (b : Body) : Stands b (raise code a0 a1 b) := by
  unfold raise
  split
  · exact record_stands _ _ _ _
  · unfold raiseAs
    dsimp only
    rw [if_neg (by omega : severityOf code a0 ≠ 3)]
    split
    · exact (placeError_stands _ _ _ _ _).trans (.put _ _ _ _ _)
    · exact placeError_stands _ _ _ _ _

/-- A MAJOR error holds the bit of its block (R575). -/
theorem raise_holds {code a0 : Nat} (hsev : severityOf code a0 = 2) (hblock : code / 256 < 15) (a1 : Nat) (b : Body) :
    (raise code a0 a1 b).bit SAFE.HELD.BLOCK (code / 256) = true := by
  unfold raise raiseAs
  rw [if_neg (by omega), hsev]
  exact Body.bit_setBit_same _ _ hblock (by decide) true 0 0

theorem sliceYield_stands (k : Nat) (b : Body) : Stands b (sliceYield k b) := by
  unfold sliceYield
  split
  · unfold sliceStarved
    split
    · refine Stands.trans ?_ (placeError_stands _ _ _ _ _)
      exact ⟨rfl, rfl, rfl, rfl, rfl, rfl⟩
    · exact ⟨rfl, rfl, rfl, rfl, rfl, rfl⟩
  · exact .refl b

theorem ask_stands (ns : List Nat) (w : Why) (g : Option Nat) (b : Body) : Stands b (ask ns w g b) :=
  (sliceYield_stands 1 b).trans ⟨rfl, rfl, rfl, rfl, rfl, rfl⟩

theorem askAll_stands (w : Why) (b : Body) : Stands b (askAll w b) := .each (fun _ c => ask_stands _ _ _ c) _ b

/-! ### Registers of GIO -/

/-- The registers of GIO. -/
abbrev gioReg (a : Nat) : Prop := 0x40A00000 ≤ a ∧ a < 0x40B00000

theorem Only.gioWord {ks : List Nat} {b c : Body} (h : Only ks b c) (hk : 0x40A ∉ ks) {a : Nat} (ha : gioReg a) : c.word a = b.word a :=
  h a (by rwa [show a / 0x100000 = 0x40A by omega])

/-! ### What emission rests on -/

theorem threadSrc_of_stands {b c : Body} (h : Stands b c) (k : Nat) : threadSrc c k = threadSrc b k := by
  unfold threadSrc routes sectD sect runSects
  rw [h.pat]

theorem airTime_of_stands {b c : Body} (h : Stands b c) : airTime c = airTime b := by
  unfold airTime tnNs
  rw [h.clock]

end Sys2Proof.Machine
end

section
/-! SUPPORT. Scope: what relays do with a request (R542 to R544): which registers it may write, and what it makes of one relay. -/

namespace Sys2Proof.Machine

/-! ### What a relay's move touches -/

/-- From `b` to `c` only relays may have moved: REL_STAT, the instants of their changes and their held requests. -/
def RelaysOnly (b c : Body) : Prop :=
  RegsKept (· = GIO.REL_STAT.word.addr) b c ∧
    ∃ r x y, c = { b with regs := r, gio := { b.gio with relAt := x, relHeld := y } }

theorem RelaysOnly.refl (b : Body) : RelaysOnly b b := ⟨.refl b, b.regs, b.gio.relAt, b.gio.relHeld, rfl⟩

theorem RelaysOnly.trans {b c e : Body} (h : RelaysOnly b c) (g : RelaysOnly c e) : RelaysOnly b e := by
  obtain ⟨hregs, r, x, y, rfl⟩ := h
  obtain ⟨gregs, r', x', y', rfl⟩ := g
  exact ⟨hregs.trans gregs, r', x', y', rfl⟩

theorem RelaysOnly.put {f : Fld} (hf : f.at 0 0 = GIO.REL_STAT.word.addr) (b : Body) (v : Nat) : RelaysOnly b (b.put f v) :=
  ⟨RegsKept.put (p := (· = GIO.REL_STAT.word.addr)) hf b v, _, b.gio.relAt, b.gio.relHeld, rfl⟩

theorem RelaysOnly.withGio (b : Body) (x : List (Nat × Option Nat)) (y : List (Nat × Bool)) :
    RelaysOnly b { b with gio := { b.gio with relAt := x, relHeld := y } } := ⟨.of_regs rfl, b.regs, x, y, rfl⟩

theorem RelaysOnly.get {b c : Body} (h : RelaysOnly b c) {f : Fld} {i j : Nat} (hf : f.at i j ≠ GIO.REL_STAT.word.addr) :
    c.get f i j = b.get f i j := h.1.get hf

theorem RelaysOnly.clock {b c : Body} (h : RelaysOnly b c) : c.clock = b.clock := by
  obtain ⟨-, r, x, y, rfl⟩ := h
  rfl

theorem RelaysOnly.loom {b c : Body} (h : RelaysOnly b c) : c.loom = b.loom := by
  obtain ⟨-, r, x, y, rfl⟩ := h
  rfl

theorem RelaysOnly.inbox {b c : Body} (h : RelaysOnly b c) : c.gio.inbox = b.gio.inbox := by
  obtain ⟨-, r, x, y, rfl⟩ := h
  rfl

theorem RelaysOnly.di {b c : Body} (h : RelaysOnly b c) : c.gio.di = b.gio.di := by
  obtain ⟨-, r, x, y, rfl⟩ := h
  rfl

/-- The rank reads nothing that a relay's move or a write of the host's positions changes. -/
theorem relayMay_congr {b c : Body} (hregs : RegsKept (fun a => a = GIO.REL_CTL.word.addr ∨ a = GIO.REL_STAT.word.addr) b c)
    (hpat : c.pat = b.pat) (k : Nat) (v : Bool) : relayMay c k v = relayMay b k v := by
  have hacting : acting c = acting b := by
    unfold acting
    rw [hregs.get (f := SEAM.STAT.ROLE) (by decide), hregs.get (f := UPD.STAT.ENROL) (by decide)]
  have hhem : inHem c = inHem b := hregs.flag (by decide)
  have hloaded : loaded c = loaded b := by
    unfold loaded
    rw [hpat]
  unfold relayMay
  rw [hacting, hloaded, hhem, hregs.get (f := SEAM.STAT.ROLE) (by decide),
    hregs.get (f := GIO.REL_CFG.SOURCE) (by simp only [Fld.at]; omega)]

theorem RelaysOnly.relayMay {b c : Body} (h : RelaysOnly b c) (k : Nat) (v : Bool) : relayMay c k v = relayMay b k v := by
  refine relayMay_congr (h.1.mono fun a ha => .inr ha) ?_ k v
  obtain ⟨-, r, x, y, rfl⟩ := h
  rfl

theorem relayNow_relaysOnly (k : Nat) (v : Bool) (b : Body) : RelaysOnly b (relayNow k v b) := by
  have hheld : RelaysOnly b (b.setBit GIO.REL_STAT.HELD k false) := .put rfl b _
  unfold relayNow
  dsimp only
  split
  · exact hheld.trans (.withGio _ _ _)
  · exact ((hheld.trans (.withGio _ _ _)).trans (.put (f := GIO.REL_STAT.STATE) rfl _ _)).trans (.withGio _ _ _)

/-! ### A request, by the rank and the interval -/

/-- A request that the rank leaves moves the relay, or is held while the 100 ms of the last change run (R543, R544). -/
theorem relayRequest_eq (k : Nat) (v : Bool) (b : Body) : relayRequest k v b =
    if relayMay b k v then
      if relayBusy b k then
        { b.setBit GIO.REL_STAT.HELD k true with gio := { b.gio with relHeld := tabIns k v (tabDel k b.gio.relHeld) } }
      else relayNow k v b
    else b := by
  unfold relayRequest relayBusy
  cases relayMay b k v with
  | false => rfl
  | true =>
    cases tabGet (fun _ => (none : Option Nat)) b.gio.relAt k with
    | none => rfl
    | some t => by_cases ht : b.clock.cyc - t < msCyc 100 <;> simp [ht]

theorem relayRequest_relaysOnly (k : Nat) (v : Bool) (b : Body) : RelaysOnly b (relayRequest k v b) := by
  rw [relayRequest_eq]
  split
  · split
    · exact (RelaysOnly.put (f := GIO.REL_STAT.HELD) rfl b _).trans (.withGio _ _ _)
    · exact relayNow_relaysOnly k v b
  · exact .refl b

theorem relayNow_moves {k : Nat} (hk : k < 4) (v : Bool) (b : Body) :
    (relayNow k v b).bit GIO.REL_STAT.STATE k = v ∧ (relayNow k v b).bit GIO.REL_STAT.HELD k = false := by
  have hstate : ∀ c : Body, (c.setBit GIO.REL_STAT.HELD k false).bit GIO.REL_STAT.STATE k = c.bit GIO.REL_STAT.STATE k := fun c =>
    Body.bit_of_get (Body.get_put_bits _ _ _ _ _ _ _ _ (by rfl) (by decide) (by decide)) k
  have hheld : ∀ c : Body, (c.setBit GIO.REL_STAT.STATE k v).bit GIO.REL_STAT.HELD k = c.bit GIO.REL_STAT.HELD k := fun c =>
    Body.bit_of_get (Body.get_put_bits _ _ _ _ _ _ _ _ (by rfl) (by decide) (by decide)) k
  have hfree := Body.bit_setBit_same b GIO.REL_STAT.HELD (k := k) hk (by decide) false 0 0
  unfold relayNow
  dsimp only
  split
  · rename_i hsame
    exact ⟨(hstate b).trans (of_decide_eq_true hsame), hfree⟩
  · exact ⟨Body.bit_setBit_same _ GIO.REL_STAT.STATE hk (by decide) v 0 0, (hheld _).trans hfree⟩

theorem relayRequest_moves {k : Nat} (hk : k < 4) {v : Bool} {b : Body} (hmay : relayMay b k v = true) (hbusy : relayBusy b k = false) :
    (relayRequest k v b).bit GIO.REL_STAT.STATE k = v := by
  rw [relayRequest_eq, if_pos hmay, if_neg (Bool.eq_false_iff.1 hbusy)]
  exact (relayNow_moves hk v b).1

theorem relayRequest_held {k : Nat} (hk : k < 4) {v : Bool} {b : Body} (hmay : relayMay b k v = true) (hbusy : relayBusy b k = true) :
    (relayRequest k v b).bit GIO.REL_STAT.HELD k = true ∧
      (relayRequest k v b).bit GIO.REL_STAT.STATE k = b.bit GIO.REL_STAT.STATE k := by
  rw [relayRequest_eq, if_pos hmay, if_pos hbusy]
  exact ⟨Body.bit_setBit_same b GIO.REL_STAT.HELD hk (by decide) true 0 0,
    Body.bit_of_get (c := b.setBit GIO.REL_STAT.HELD k true) (Body.get_put_bits _ _ _ _ _ _ _ _ (by rfl) (by decide) (by decide)) k⟩

theorem relayRequest_refused {k : Nat} {v : Bool} {b : Body} (h : relayMay b k v = false) : relayRequest k v b = b := by
  rw [relayRequest_eq, if_neg (Bool.eq_false_iff.1 h)]

/-! ### The other relays -/

/-- From `b` to `c` only relays may have moved, and relay `k` stands: its position, its held bit and the instant of its change. -/
structure RelayStands (k : Nat) (b c : Body) : Prop where
  only : RelaysOnly b c
  state : c.bit GIO.REL_STAT.STATE k = b.bit GIO.REL_STAT.STATE k
  held : c.bit GIO.REL_STAT.HELD k = b.bit GIO.REL_STAT.HELD k
  changed : tabGet (fun _ => (none : Option Nat)) c.gio.relAt k = tabGet (fun _ => none) b.gio.relAt k

theorem RelayStands.refl (k : Nat) (b : Body) : RelayStands k b b := ⟨.refl b, rfl, rfl, rfl⟩

theorem RelayStands.trans {k : Nat} {b c e : Body} (h : RelayStands k b c) (g : RelayStands k c e) : RelayStands k b e :=
  ⟨h.only.trans g.only, g.state.trans h.state, g.held.trans h.held, g.changed.trans h.changed⟩

theorem RelayStands.busy {k : Nat} {b c : Body} (h : RelayStands k b c) : relayBusy c k = relayBusy b k := by
  unfold relayBusy
  rw [h.changed, h.only.clock]

/-- Moving or holding another relay leaves relay `k` alone. -/
theorem relayNow_stands {j k : Nat} (hk : k < 4) (hne : k ≠ j) (v : Bool) (b : Body) : RelayStands k b (relayNow j v b) := by
  have hfree : RelayStands k b (b.setBit GIO.REL_STAT.HELD j false) :=
    ⟨.put rfl b _, Body.bit_of_get (Body.get_put_bits _ _ _ _ _ _ _ _ (by rfl) (by decide) (by decide)) k,
      Body.bit_setBit_other b GIO.REL_STAT.HELD hk (by decide) hne false 0 0, rfl⟩
  have hmove : ∀ c : Body, RelayStands k c (c.setBit GIO.REL_STAT.STATE j v) := fun c =>
    ⟨.put rfl c _, Body.bit_setBit_other c GIO.REL_STAT.STATE hk (by decide) hne v 0 0,
      Body.bit_of_get (Body.get_put_bits _ _ _ _ _ _ _ _ (by rfl) (by decide) (by decide)) k, rfl⟩
  have hdrop : ∀ (c : Body) (y : List (Nat × Bool)), RelayStands k c { c with gio := { c.gio with relHeld := y } } := fun c y =>
    ⟨.withGio c c.gio.relAt y, rfl, rfl, rfl⟩
  have hstamp : ∀ (c : Body) (t : Option Nat),
      RelayStands k c { c with gio := { c.gio with relAt := tabSet (fun _ => none) c.gio.relAt j t } } := fun c t =>
    ⟨.withGio c _ c.gio.relHeld, rfl, rfl, tabGet_tabSet_other _ _ hne⟩
  unfold relayNow
  dsimp only
  split
  · exact hfree.trans (hdrop _ _)
  · exact ((hfree.trans (hdrop _ _)).trans (hmove _)).trans (hstamp _ _)

theorem relayRequest_stands {j k : Nat} (hk : k < 4) (hne : k ≠ j) (v : Bool) (b : Body) : RelayStands k b (relayRequest j v b) := by
  rw [relayRequest_eq]
  split
  · split
    · exact ⟨(RelaysOnly.put (f := GIO.REL_STAT.HELD) rfl b _).trans (.withGio _ _ _),
        Body.bit_of_get (c := b.setBit GIO.REL_STAT.HELD j true) (Body.get_put_bits _ _ _ _ _ _ _ _ (by rfl) (by decide) (by decide)) k,
        Body.bit_setBit_other b GIO.REL_STAT.HELD hk (by decide) hne true 0 0, rfl⟩
    · exact relayNow_stands hk hne v b
  · exact .refl k b

/-- A pass over the four relays comes to relay `k` with it as it was, and leaves it as its own step does. -/
theorem each_relay {k : Nat} (hk : k < 4) {f : Body → Nat → Body} (hf : ∀ j c, k ≠ j → RelayStands k c (f c j)) (b : Body) :
    ∃ c, RelayStands k b c ∧ RelayStands k (f c k) (b.each [0, 1, 2, 3] f) := by
  have hcases : k = 0 ∨ k = 1 ∨ k = 2 ∨ k = 3 := by omega
  simp only [Body.each, List.foldl_cons, List.foldl_nil]
  rcases hcases with rfl | rfl | rfl | rfl
  · exact ⟨b, .refl 0 b, ((hf 1 _ (by decide)).trans (hf 2 _ (by decide))).trans (hf 3 _ (by decide))⟩
  · exact ⟨_, hf 0 b (by decide), (hf 2 _ (by decide)).trans (hf 3 _ (by decide))⟩
  · exact ⟨_, (hf 0 b (by decide)).trans (hf 1 _ (by decide)), hf 3 _ (by decide)⟩
  · exact ⟨_, ((hf 0 b (by decide)).trans (hf 1 _ (by decide))).trans (hf 2 _ (by decide)), .refl 3 _⟩

theorem each_relays_only {f : Body → Nat → Body} (hf : ∀ j c, RelaysOnly c (f c j)) (l : List Nat) (b : Body) :
    RelaysOnly b (b.each l f) :=
  Body.each_keeps (P := RelaysOnly b) (fun j c hc => hc.trans (hf j c)) l (.refl b)

end Sys2Proof.Machine
end

section
/-! SUPPORT. Scope: the rows that move relays (R542 to R545): events, the host's positions, the end of the interval, the coil. -/

namespace Sys2Proof.Machine

/-! ### Events that wait at GIO -/

theorem gioTake_nothing {port : Nat} {want : Ev → Bool} {f : Ev → Body → Body} {b : Body}
    (h : gioRun b = false ∨ takePort port b.gio.inbox = none) : gioTake port want f b = b := by
  unfold gioTake
  split
  · rfl
  · rename_i htake
    rcases h with h | h
    · rw [h]
      rfl
    · rw [h] at htake
      cases htake

theorem gioTake_oldest {port : Nat} {want : Ev → Bool} {f : Ev → Body → Body} {b : Body} {e : Ev} {rest : List (Nat × Ev)}
    (hrun : gioRun b = true) (htake : takePort port b.gio.inbox = some (e, rest)) : gioTake port want f b =
      if want e then f e { b with gio := { b.gio with inbox := rest } } else b := by
  unfold gioTake
  rw [htake]
  dsimp only
  rw [hrun, Bool.true_and]

/-! ### One relay's request in a pass over the four -/

/-- What a pass makes of relay `k` whose own step is a request for `v` when `asked`, and nothing else. -/
theorem each_relay_request {k : Nat} (hk : k < 4) {f : Body → Nat → Body} {b : Body} {v : Bool} {asked : Prop}
    (hf : ∀ j c, k ≠ j → RelayStands k c (f c j)) (hyes : asked → ∀ c, RelayStands k b c → f c k = relayRequest k v c)
    (hno : ¬ asked → ∀ c, RelayStands k b c → f c k = c) :
    (asked → relayMay b k v = true → relayBusy b k = false → (b.each [0, 1, 2, 3] f).bit GIO.REL_STAT.STATE k = v) ∧
    (asked → relayMay b k v = true → relayBusy b k = true → (b.each [0, 1, 2, 3] f).bit GIO.REL_STAT.HELD k = true ∧
      (b.each [0, 1, 2, 3] f).bit GIO.REL_STAT.STATE k = b.bit GIO.REL_STAT.STATE k) ∧
    (relayMay b k v = false ∨ ¬ asked → (b.each [0, 1, 2, 3] f).bit GIO.REL_STAT.STATE k = b.bit GIO.REL_STAT.STATE k) := by
  obtain ⟨c, hbefore, hafter⟩ := each_relay hk hf b
  refine ⟨fun hask hmay hbusy => ?_, fun hask hmay hbusy => ?_, fun h => ?_⟩
  · rw [hafter.state, hyes hask c hbefore]
    exact relayRequest_moves hk ((hbefore.only.relayMay k v).trans hmay) (hbefore.busy.trans hbusy)
  · obtain ⟨hheld, hstate⟩ := relayRequest_held hk ((hbefore.only.relayMay k v).trans hmay) (hbefore.busy.trans hbusy)
    rw [hafter.state, hafter.held, hyes hask c hbefore, hstate, hbefore.state]
    exact ⟨hheld, rfl⟩
  · rw [hafter.state]
    by_cases hask : asked
    · rw [hyes hask c hbefore, relayRequest_refused ((hbefore.only.relayMay k v).trans (h.resolve_right (not_not.2 hask))), hbefore.state]
    · rw [hno hask c hbefore, hbefore.state]

/-! ### A relay event -/

/-- A relay event that is none, with reserved bits set, is counted (R542). -/
theorem relayEvent_bad {e : Ev} (h : e.payload / 256 ≠ 0) (b : Body) : relayEvent e b = b.bump GIO.COUNT.BAD_EVENT := if_pos h

theorem Body.get_bump_same (b : Body) (f : Fld) (i j : Nat) (hw : f.lo + f.w ≤ 32) :
    (b.bump f 1 i j).get f i j = min (b.get f i j + 1) (2 ^ f.w - 1) := by
  unfold Body.bump
  rw [Body.get_put_same _ _ _ _ _ hw]
  refine Nat.mod_eq_of_lt (lt_of_le_of_lt (min_le_right ..) ?_)
  have : 0 < 2 ^ f.w := by positivity
  omega

/-- The relay that an event names: by its bit, its SOURCE and its THREAD. -/
def relayNamed (e : Ev) (b : Body) (k : Nat) : Prop :=
  e.payload / 2 ^ k % 2 = 1 ∧ b.get GIO.REL_CFG.SOURCE k = 1 ∧ b.get GIO.REL_CFG.THREAD k = e.thread

theorem RelaysOnly.named {b c : Body} (h : RelaysOnly b c) (e : Ev) (k : Nat) : relayNamed e c k ↔ relayNamed e b k := by
  unfold relayNamed
  rw [h.get (f := GIO.REL_CFG.SOURCE) (by simp only [Fld.at]; omega), h.get (f := GIO.REL_CFG.THREAD) (by simp only [Fld.at]; omega)]

/-- The step of a relay event at one relay. -/
def relayEventStep (e : Ev) (b : Body) (k : Nat) : Body :=
  if e.payload / 2 ^ k % 2 = 1 ∧ b.get GIO.REL_CFG.SOURCE k = 1 ∧ b.get GIO.REL_CFG.THREAD k = e.thread then
    relayRequest k (decide (e.payload / 2 ^ (4 + k) % 2 = 1)) b
  else b

theorem relayEvent_good {e : Ev} (h : e.payload / 256 = 0) (b : Body) :
    relayEvent e b = b.each [0, 1, 2, 3] (relayEventStep e) := if_neg (not_not.2 h)

theorem relayEvent_relay {e : Ev} (h : e.payload / 256 = 0) {k : Nat} (hk : k < 4) (b : Body) :
    (relayNamed e b k → relayMay b k (decide (e.payload / 2 ^ (4 + k) % 2 = 1)) = true → relayBusy b k = false →
      (relayEvent e b).bit GIO.REL_STAT.STATE k = decide (e.payload / 2 ^ (4 + k) % 2 = 1)) ∧
    (relayNamed e b k → relayMay b k (decide (e.payload / 2 ^ (4 + k) % 2 = 1)) = true → relayBusy b k = true →
      (relayEvent e b).bit GIO.REL_STAT.HELD k = true ∧
      (relayEvent e b).bit GIO.REL_STAT.STATE k = b.bit GIO.REL_STAT.STATE k) ∧
    (relayMay b k (decide (e.payload / 2 ^ (4 + k) % 2 = 1)) = false ∨ ¬ relayNamed e b k →
      (relayEvent e b).bit GIO.REL_STAT.STATE k = b.bit GIO.REL_STAT.STATE k) := by
  rw [relayEvent_good h]
  refine each_relay_request hk (fun j c hne => ?_) (fun hnamed c hc => if_pos ((hc.only.named e k).2 hnamed))
    fun hnot c hc => if_neg fun hnamed => hnot ((hc.only.named e k).1 hnamed)
  unfold relayEventStep
  split
  · exact relayRequest_stands hk hne _ c
  · exact .refl k c

theorem relayEvent_inbox {e : Ev} (h : e.payload / 256 = 0) (b : Body) : (relayEvent e b).gio.inbox = b.gio.inbox := by
  rw [relayEvent_good h]
  refine (each_relays_only (fun j c => ?_) _ b).inbox
  unfold relayEventStep
  split
  · exact relayRequest_relaysOnly _ _ c
  · exact .refl c

/-! ### The host's positions -/

/-- The step of a write of the host's positions at one relay. -/
def hostRelayStep (b : Body) (k : Nat) : Body :=
  if b.get GIO.REL_CFG.SOURCE k = 0 ∧ (b.bit GIO.REL_CTL.HOST k ≠ b.bit GIO.REL_STAT.STATE k ∨ b.bit GIO.REL_STAT.HELD k) then
    relayRequest k (b.bit GIO.REL_CTL.HOST k) b
  else b

theorem hostRelayStep_only (b : Body) (k : Nat) : RelaysOnly b (hostRelayStep b k) := by
  unfold hostRelayStep
  split
  · exact relayRequest_relaysOnly _ _ b
  · exact .refl b

theorem gioRun_putHost (v : Nat) (b : Body) : gioRun (b.put GIO.REL_CTL.HOST v) = gioRun b :=
  Body.flag_of_get (Body.get_put_other _ _ _ _ _ _ _ _ (by decide))

theorem hostRelay_run {v : Nat} {b : Body} (h : gioRun b = true) :
    hostRelay v b = (b.put GIO.REL_CTL.HOST v).each [0, 1, 2, 3] hostRelayStep := by
  unfold hostRelay
  dsimp only
  rw [gioRun_putHost, h]
  rfl

theorem hostRelay_idle {v : Nat} {b : Body} (h : gioRun b = false) : hostRelay v b = b.put GIO.REL_CTL.HOST v := by
  unfold hostRelay
  dsimp only
  rw [gioRun_putHost, h]
  rfl

theorem hostRelay_host (v : Nat) (b : Body) : (hostRelay v b).get GIO.REL_CTL.HOST = v % 16 := by
  have hput : (b.put GIO.REL_CTL.HOST v).get GIO.REL_CTL.HOST = v % 16 := Body.get_put_same _ _ _ _ _ (by decide)
  cases h : gioRun b with
  | false => rw [hostRelay_idle h, hput]
  | true => rw [hostRelay_run h, (each_relays_only (fun j c => hostRelayStep_only c j) _ _).get (by decide), hput]

theorem hostBit {k : Nat} (hk : k < 4) (v : Nat) (b : Body) :
    (b.put GIO.REL_CTL.HOST v).bit GIO.REL_CTL.HOST k = decide (v / 2 ^ k % 2 = 1) := by
  have hpart := mod_two_pow_part (w := 4) (l := k) (u := 1) hk v
  rw [pow_one] at hpart
  unfold Body.bit
  rw [Body.get_put_same _ _ _ _ _ (by decide), hpart]

/-- What the host's positions make of relay `k` (R542 to R544). -/
theorem hostRelay_relay {k : Nat} (hk : k < 4) {v : Nat} {b : Body} (hrun : gioRun b = true) :
    (b.get GIO.REL_CFG.SOURCE k = 0 → relayMay b k (decide (v / 2 ^ k % 2 = 1)) = true → relayBusy b k = false →
      (hostRelay v b).bit GIO.REL_STAT.STATE k = decide (v / 2 ^ k % 2 = 1)) ∧
    (b.get GIO.REL_CFG.SOURCE k = 0 → relayMay b k (decide (v / 2 ^ k % 2 = 1)) = true → relayBusy b k = true →
      decide (v / 2 ^ k % 2 = 1) ≠ b.bit GIO.REL_STAT.STATE k →
      (hostRelay v b).bit GIO.REL_STAT.STATE k = b.bit GIO.REL_STAT.STATE k ∧ (hostRelay v b).bit GIO.REL_STAT.HELD k = true) ∧
    (relayMay b k (decide (v / 2 ^ k % 2 = 1)) = false ∨ b.get GIO.REL_CFG.SOURCE k ≠ 0 →
      (hostRelay v b).bit GIO.REL_STAT.STATE k = b.bit GIO.REL_STAT.STATE k) := by
  let b' := b.put GIO.REL_CTL.HOST v
  let asked := b.get GIO.REL_CFG.SOURCE k = 0 ∧
    (decide (v / 2 ^ k % 2 = 1) ≠ b.bit GIO.REL_STAT.STATE k ∨ b.bit GIO.REL_STAT.HELD k = true)
  have hkeep : RegsKept (· = GIO.REL_CTL.word.addr) b b' := RegsKept.put (p := (· = GIO.REL_CTL.word.addr)) rfl b v
  have hstate : b'.bit GIO.REL_STAT.STATE k = b.bit GIO.REL_STAT.STATE k := hkeep.bit (by decide) k
  have hheld : b'.bit GIO.REL_STAT.HELD k = b.bit GIO.REL_STAT.HELD k := hkeep.bit (by decide) k
  have hmay : relayMay b' k (decide (v / 2 ^ k % 2 = 1)) = relayMay b k (decide (v / 2 ^ k % 2 = 1)) :=
    relayMay_congr (hkeep.mono fun a ha => .inl ha) rfl k _
  have hbusy : relayBusy b' k = relayBusy b k := rfl
  have hhost : ∀ c, RelayStands k b' c → c.bit GIO.REL_CTL.HOST k = decide (v / 2 ^ k % 2 = 1) := fun c hc =>
    (hc.only.1.bit (by decide) k).trans (hostBit hk v b)
  have hcond : ∀ c, RelayStands k b' c → ((c.get GIO.REL_CFG.SOURCE k = 0 ∧
      (c.bit GIO.REL_CTL.HOST k ≠ c.bit GIO.REL_STAT.STATE k ∨ c.bit GIO.REL_STAT.HELD k = true)) ↔ asked) := fun c hc => by
    rw [hhost c hc, hc.state, hc.held, hstate, hheld, hc.only.get (f := GIO.REL_CFG.SOURCE) (by simp only [Fld.at]; omega),
      hkeep.get (f := GIO.REL_CFG.SOURCE) (by simp only [Fld.at]; omega)]
  have hothers : ∀ j c, k ≠ j → RelayStands k c (hostRelayStep c j) := fun j c hne => by
    unfold hostRelayStep
    split
    · exact relayRequest_stands hk hne _ c
    · exact .refl k c
  obtain ⟨hmoves, hholds, hstays⟩ := each_relay_request (b := b') (v := decide (v / 2 ^ k % 2 = 1)) (asked := asked) hk hothers
    (fun hask c hc => (if_pos ((hcond c hc).2 hask)).trans (by rw [hhost c hc])) (fun hnot c hc => if_neg fun h => hnot ((hcond c hc).1 h))
  rw [hmay, hbusy] at hmoves hholds
  rw [hmay, hstate] at hstays
  rw [hstate] at hholds
  rw [hostRelay_run hrun]
  refine ⟨fun hsource hrank hfree => ?_, fun hsource hrank hrunning hdiff => ?_, fun h => ?_⟩
  · by_cases hask : asked
    · exact hmoves hask hrank hfree
    · have hthere : decide (v / 2 ^ k % 2 = 1) = b.bit GIO.REL_STAT.STATE k := by
        by_contra hne
        exact hask ⟨hsource, .inl hne⟩
      rw [hthere]
      exact hstays (.inr hask)
  · obtain ⟨h1, h2⟩ := hholds ⟨hsource, .inl hdiff⟩ hrank hrunning
    exact ⟨h2, h1⟩
  · exact hstays (h.imp_right fun hsource hask => hsource hask.1)

/-! ### The end of the interval -/

/-- Relay `k` with its interval over and no request held. -/
def relayFree (k : Nat) (b : Body) : Body :=
  { b.setBit GIO.REL_STAT.HELD k false with
    gio := { b.gio with relAt := tabSet (fun _ => none) b.gio.relAt k none, relHeld := tabDel k b.gio.relHeld } }

theorem relayFree_only (k : Nat) (b : Body) : RelaysOnly b (relayFree k b) :=
  (RelaysOnly.put (f := GIO.REL_STAT.HELD) rfl b _).trans (.withGio _ _ _)

theorem relayFree_state (k : Nat) (b : Body) : (relayFree k b).bit GIO.REL_STAT.STATE k = b.bit GIO.REL_STAT.STATE k :=
  Body.bit_of_get (c := b.setBit GIO.REL_STAT.HELD k false) (Body.get_put_bits _ _ _ _ _ _ _ _ (by rfl) (by decide) (by decide)) k

theorem relayFree_held {k : Nat} (hk : k < 4) (b : Body) : (relayFree k b).bit GIO.REL_STAT.HELD k = false :=
  Body.bit_setBit_same b GIO.REL_STAT.HELD hk (by decide) false 0 0

theorem relayFree_idle (k : Nat) (b : Body) : relayBusy (relayFree k b) k = false := by
  have hnone : tabGet (fun _ => (none : Option Nat)) (relayFree k b).gio.relAt k = none :=
    tabGet_tabSet_same (d := fun _ => none) b.gio.relAt k none
  unfold relayBusy
  rw [hnone]

theorem relayHoldEnd_free {k : Nat} {b : Body} (h : relayBusy b k = false) : relayHoldEnd k b =
    match b.gio.relHeld.find? fun p => decide (p.1 = k) with
    | some (_, v) => relayRequest k v (relayFree k b)
    | none => relayFree k b := by
  unfold relayHoldEnd
  rw [h]
  rfl

/-- The latest held request is applied where the rank leaves it (R543, R544). -/
theorem relayHoldEnd_applies {k : Nat} (hk : k < 4) {b : Body} {x : Bool} (hbusy : relayBusy b k = false)
    (hheld : b.gio.relHeld.find? (fun p => decide (p.1 = k)) = some (k, x)) :
    (relayHoldEnd k b).bit GIO.REL_STAT.HELD k = false ∧
    (relayMay b k x = true → (relayHoldEnd k b).bit GIO.REL_STAT.STATE k = x) ∧
    (relayMay b k x = false → (relayHoldEnd k b).bit GIO.REL_STAT.STATE k = b.bit GIO.REL_STAT.STATE k) := by
  have hmay : relayMay (relayFree k b) k x = relayMay b k x := (relayFree_only k b).relayMay k x
  rw [relayHoldEnd_free hbusy, hheld]
  dsimp only
  cases hrank : relayMay b k x with
  | true =>
    rw [relayRequest_eq, if_pos (hmay.trans hrank), if_neg (Bool.eq_false_iff.1 (relayFree_idle k b))]
    obtain ⟨hstate, hfree⟩ := relayNow_moves hk x (relayFree k b)
    exact ⟨hfree, fun _ => hstate, nofun⟩
  | false =>
    rw [relayRequest_refused (hmay.trans hrank)]
    exact ⟨relayFree_held hk b, nofun, fun _ => relayFree_state k b⟩

theorem relayHoldEnd_none {k : Nat} (hk : k < 4) {b : Body} (hbusy : relayBusy b k = false)
    (hheld : b.gio.relHeld.find? (fun p => decide (p.1 = k)) = none) :
    (relayHoldEnd k b).bit GIO.REL_STAT.STATE k = b.bit GIO.REL_STAT.STATE k ∧
      (relayHoldEnd k b).bit GIO.REL_STAT.HELD k = false := by
  rw [relayHoldEnd_free hbusy, hheld]
  exact ⟨relayFree_state k b, relayFree_held hk b⟩

/-! ### The coil -/

/-- A current that contradicts the contact is a fault of the coil (R545). -/
theorem relayCoil_fault {k : Nat} (hk : k < 4) {current : Bool} {b : Body} (h : relayClosed b k ≠ current) :
    (relayCoil k current b).bit GIO.REL_STAT.COIL_FAULT k = true ∧ (relayCoil k current b).bit SAFE.HELD.BLOCK 10 = true := by
  have hsev : severityOf 0x0A04 k = 2 := by simp [severityOf]
  unfold relayCoil
  rw [if_neg h]
  refine ⟨?_, raise_holds hsev (by decide) 0 _⟩
  rw [Body.bit_of_get ((raise_frame (by rw [hsev]; decide) 0 _).get (by decide)) k]
  exact Body.bit_setBit_same b GIO.REL_STAT.COIL_FAULT hk (by decide) true 0 0

/-- What the rank leaves to a request, in the words of R543. -/
theorem relayMay_iff (b : Body) (k : Nat) (v : Bool) : relayMay b k v = true ↔
    (acting b = true ∧ loaded b = true ∧ (inHem b = false ∨ b.get GIO.REL_CFG.SOURCE k = 2)) ∨
      (b.get SEAM.STAT.ROLE = 1 ∧ v = false) := by
  simp [relayMay, and_assoc]

end Sys2Proof.Machine
end

section
/-! SUPPORT. Scope: how a digital input's samples are classified (R48 to R50, R535), and what an emergency leaves of the inputs. -/

namespace Sys2Proof.Machine

/-! ### Classes of samples -/

theorem diClasses_append (b : Body) (i : Nat) (old m : List DiMeas) (was : Nat) :
    ∃ w, diClasses b i was (old ++ m) = diClasses b i was old ++ diClasses b i w m := by
  induction old generalizing was with
  | nil => exact ⟨was, rfl⟩
  | cons d t ih =>
    obtain ⟨w, hw⟩ := ih (diClass b i was d)
    exact ⟨w, by simp only [List.cons_append, diClasses, hw]⟩

theorem diClasses_length (b : Body) (i was : Nat) (m : List DiMeas) : (diClasses b i was m).length = m.length := by
  induction m generalizing was with
  | nil => rfl
  | cons d t ih => simp [diClasses, ih]

/-- Samples of one class, whatever was before the first of them. -/
theorem diClasses_agree {b : Body} {i was st : Nat} {m : List DiMeas}
    (h : ∀ d ∈ m, ∀ w, w = was ∨ w = st → diClass b i w d = st) : diClasses b i was m = List.replicate m.length st := by
  induction m generalizing was with
  | nil => rfl
  | cons d t ih =>
    have hd : diClass b i was d = st := h d (by simp) was (.inl rfl)
    rw [diClasses, hd, ih (was := st) fun x hx w hw => h x (by simp [hx]) w (hw.elim .inr .inr)]
    rfl

/-- FILTER_MS samples of one class give the input that class. -/
theorem diTaken_agree {b : Body} {i st : Nat} {old m : List DiMeas} (hmode : b.get GIO.DI_CFG.MODE i = 1 ∨ b.get GIO.DI_CFG.MODE i = 2)
    (hlen : m.length = b.get GIO.DI_CFG.FILTER_MS i) (hne : m ≠ [])
    (h : ∀ w, diClasses b i (diState b i) (old ++ m) = diClasses b i (diState b i) old ++ diClasses b i w m →
      diClasses b i w m = List.replicate m.length st) : diTaken b i (old ++ m) = some st := by
  obtain ⟨w, hw⟩ := diClasses_append b i old m (diState b i)
  obtain ⟨n, hn⟩ : ∃ n, m.length = n + 1 := Nat.exists_eq_succ_of_ne_zero (by simpa using hne)
  have hlast : (diClasses b i (diState b i) (old ++ m)).reverse.take (b.get GIO.DI_CFG.FILTER_MS i) = st :: List.replicate n st := by
    rw [hw, h w hw, ← hlen, List.reverse_append, List.reverse_replicate, List.take_left' (List.length_replicate ..), hn,
      List.replicate_succ]
  unfold diTaken
  dsimp only
  rw [if_neg (by omega), hlast]
  dsimp only
  rw [if_pos]
  exact ⟨by rw [List.length_replicate]; omega, fun x hx => List.eq_of_mem_replicate hx⟩

theorem diTaken_short {b : Body} {i : Nat} {m : List DiMeas} (h : m.length < b.get GIO.DI_CFG.FILTER_MS i) : diTaken b i m = none := by
  have hfew : ((diClasses b i (diState b i) m).reverse.take (b.get GIO.DI_CFG.FILTER_MS i)).length < b.get GIO.DI_CFG.FILTER_MS i := by
    rw [List.length_take, List.length_reverse, diClasses_length]
    omega
  unfold diTaken
  dsimp only
  split
  · rfl
  · split
    · rfl
    · rename_i c t hl
      rw [hl, List.length_cons] at hfew
      rw [if_neg (by omega)]

theorem diTaken_unused {b : Body} {i : Nat} {m : List DiMeas} (h1 : b.get GIO.DI_CFG.MODE i ≠ 1) (h2 : b.get GIO.DI_CFG.MODE i ≠ 2) :
    diTaken b i m = none := if_pos ⟨h1, h2⟩

theorem diState_lt (b : Body) (i : Nat) : diState b i < 8 := Nat.mod_lt _ (by decide)

theorem diRatio_lt (d : DiMeas) : diRatio d < 8 := by
  unfold diRatio
  split_ifs <;> decide

theorem diClass_lt {b : Body} {i was : Nat} (h : was < 8) (d : DiMeas) : diClass b i was d < 8 := by
  unfold diClass
  split
  · split_ifs
    · decide
    · decide
    · exact h
  · split
    · decide
    · exact diRatio_lt d

theorem diClasses_lt {b : Body} {i was : Nat} (h : was < 8) {m : List DiMeas} : ∀ c ∈ diClasses b i was m, c < 8 := by
  induction m generalizing was with
  | nil => simp [diClasses]
  | cons d t ih =>
    intro c hc
    rcases List.mem_cons.1 hc with rfl | hc
    · exact diClass_lt h d
    · exact ih (diClass_lt h d) c hc

/-- What the samples give is one of the codes of R538. -/
theorem diTaken_lt {b : Body} {i st : Nat} {m : List DiMeas} (h : diTaken b i m = some st) : st < 8 := by
  unfold diTaken at h
  dsimp only at h
  split at h
  · cases h
  · split at h
    · cases h
    · rename_i c t hl
      split at h
      · injection h with h
        have hmem : c ∈ (diClasses b i (diState b i) m).reverse := List.mem_of_mem_take (hl ▸ List.mem_cons_self ..)
        exact h ▸ diClasses_lt (diState_lt b i) c (List.mem_reverse.1 hmem)
      · cases h

/-! ### The inputs through an emergency -/

/-- The registers of GIO's inputs: control, state, faults, the emergency, the count and each input's configuration. -/
abbrev inputReg (a : Nat) : Prop := 0x40A00000 ≤ a ∧ a < 0x40A00200

/-- From `b` to `c` the inputs stand: their registers, their timers and what waits in the crossbar. -/
structure InputsStand (b c : Body) : Prop where
  regs : ∀ a, inputReg a → c.word a = b.word a
  di : c.gio.di = b.gio.di
  loom : c.loom = b.loom

theorem InputsStand.refl (b : Body) : InputsStand b b := ⟨fun _ _ => rfl, rfl, rfl⟩

theorem InputsStand.trans {b c e : Body} (h : InputsStand b c) (g : InputsStand c e) : InputsStand b e :=
  ⟨fun a ha => (g.regs a ha).trans (h.regs a ha), g.di.trans h.di, g.loom.trans h.loom⟩

theorem InputsStand.put {f : Fld} {i j : Nat} (hf : ¬ inputReg (f.at i j)) (b : Body) (v : Nat) : InputsStand b (b.put f v i j) :=
  ⟨fun _ ha => Body.word_put_other _ _ _ _ _ fun e => hf (e ▸ ha), rfl, rfl⟩

theorem InputsStand.of_stands {ks : List Nat} {b c : Body} (h : Stands b c) (hregs : Only ks b c) (hk : 0x40A ∉ ks) : InputsStand b c :=
  ⟨fun _ ha => hregs.gioWord hk ⟨ha.1, by omega⟩, congrArg Gio.di h.gio, h.loom⟩

theorem InputsStand.of_relays {b c : Body} (h : RelaysOnly b c) : InputsStand b c :=
  ⟨fun a ha => h.1 a fun e : a = 0x40A00204 => by omega, h.di, h.loom⟩

theorem InputsStand.each {α : Type} {f : Body → α → Body} (h : ∀ x c, InputsStand c (f c x)) (l : List α) (b : Body) :
    InputsStand b (b.each l f) :=
  Body.each_keeps (P := InputsStand b) (fun x c hc => hc.trans (h x c)) l (.refl b)

theorem InputsStand.get {b c : Body} (h : InputsStand b c) {f : Fld} {i j : Nat} (hf : inputReg (f.at i j)) : c.get f i j = b.get f i j := by
  unfold Body.get
  rw [h.regs _ hf]

/-! Queues and frames -/

theorem takeCells_stands (n : Nat) (acc : List Nat) (b : Body) : Stands b (takeCells n acc b).2 := by
  induction n generalizing acc b with
  | zero => exact .refl b
  | succ n ih =>
    refine Stands.trans ?_ (ih _ _)
    exact ⟨rfl, rfl, rfl, rfl, rfl, rfl⟩

theorem fillCells_stands (cs l : List Nat) (b : Body) : Stands b (fillCells cs l b) := by
  rw [fillCells_only_mem]
  exact ⟨rfl, rfl, rfl, rfl, rfl, rfl⟩

theorem setQueue_stands (b : Body) (q : Nat) (x : Queue) : Stands b (setQueue b q x) := ⟨rfl, rfl, rfl, rfl, rfl, rfl⟩

theorem startTimer_stands (q : Nat) (was : Bool) (b : Body) : Stands b (startTimer q was b) := by
  unfold startTimer
  split
  · exact setQueue_stands _ _ _
  · exact .refl b

theorem qSwap_stands (q : Nat) (b : Body) : Stands b (qSwap q b) := by
  unfold qSwap
  dsimp only
  split
  · exact (setQueue_stands _ _ _).trans (.put _ _ _ _ _)
  · exact .refl b

theorem qRefuse_stands (q : Nat) (b : Body) : Stands b (qRefuse q b) := (Stands.bump b _ _ _ _).trans (.mark _ _ _ _ _)

/-- An item enters queue `q`: FULL falls, the bank takes it and its timer starts. -/
theorem qEnter_stands (q : Nat) (was : Bool) (x : Queue) (b : Body) :
    Stands b (startTimer q was (setQueue (b.mark QM.Q_FLAG.FULL false q) q x)) := by
  have hmark : Stands b (b.mark QM.Q_FLAG.FULL false q) := Stands.mark b QM.Q_FLAG.FULL false q 0
  have hset := setQueue_stands (b.mark QM.Q_FLAG.FULL false q) q x
  exact (hmark.trans hset).trans (startTimer_stands q was _)

theorem qPut_stands (q : Nat) (l : List Nat) (b : Body) : Stands b (qPut q l b).1 := by
  unfold qPut
  dsimp only
  split
  · exact qRefuse_stands q b
  · have hfill : Stands b (fillCells (takeCells (cellsFor l.length) [] b).1 l (takeCells (cellsFor l.length) [] b).2) :=
      (takeCells_stands _ _ _).trans (fillCells_stands _ _ _)
    generalize fillCells (takeCells (cellsFor l.length) [] b).1 l (takeCells (cellsFor l.length) [] b).2 = c at hfill ⊢
    generalize (takeCells (cellsFor l.length) [] b).1 = cs
    generalize decide ((queueOf b q).items = [] ∧ (queueOf b q).fill = []) = was
    split
    · dsimp only
      split
      · exact (hfill.trans (qEnter_stands q was _ c)).trans (qSwap_stands q _)
      · exact hfill.trans (qEnter_stands q was _ c)
    · exact hfill.trans (qEnter_stands q was _ c)

theorem InputsStand.air (b : Body) (x : Air) : InputsStand b { b with air := x } := ⟨fun _ _ => rfl, rfl, rfl⟩

/-- Building an emergency frame changes AIR's own state alone. -/
theorem buildEmerg_air (r : Nat) (rel : Bool) (b : Body) : ∃ x, buildEmerg r rel b = { b with air := x } := by
  cases rel <;> exact ⟨_, rfl⟩

theorem buildEmerg_inputs (r : Nat) (rel : Bool) (b : Body) : InputsStand b (buildEmerg r rel b) := by
  obtain ⟨x, h⟩ := buildEmerg_air r rel b
  rw [h]
  exact .air b x

theorem bankPut_inputs {r : Nat} (hr : r < 32) (f : List Nat) (flags : Nat) (b : Body) : InputsStand b (bankPut r f flags b).1 :=
  .of_stands (qPut_stands _ _ _) (qPut_only hr _ _) (by decide)

theorem buildDesc_emerg_inputs {r : Nat} (hr : r < 32) (b : Body) : InputsStand b (buildDesc (.emerg r) b) := by
  have hfirst : ∀ c : Body, InputsStand c (if tabGet (fun _ => []) c.air.emergBuilt r = [] then buildEmerg r false c else c) := by
    intro c
    split
    · exact buildEmerg_inputs _ _ _
    · exact .refl c
  unfold buildDesc
  exact (((InputsStand.air b _).trans (hfirst (dropDesc (.emerg r) b))).trans (bankPut_inputs hr _ _ _)).trans
    ((buildEmerg_inputs _ _ _).trans (buildEmerg_inputs _ _ _))

theorem flush_inputs (b : Body) (n : Nat) : InputsStand b (b.bump AIR.TXD.FLUSHED n) := .put (by decide) b _

theorem setQueue_inputs (b : Body) (q : Nat) (x : Queue) : InputsStand b (setQueue b q x) := ⟨fun _ _ => rfl, rfl, rfl⟩

theorem emergEdge_inputs (b : Body) : InputsStand b (emergEdge b) := by
  unfold emergEdge
  split
  · exact .refl b
  · have hstep : ∀ r, r < 32 → ∀ c : Body, InputsStand c
        (buildDesc (.emerg r) (setQueue (c.bump AIR.TXD.FLUSHED (queueOf c r).fill.length) r { queueOf c r with fill := [] })) := by
      intro r hr c
      refine InputsStand.trans ?_ (buildDesc_emerg_inputs hr _)
      exact (flush_inputs c _).trans (setQueue_inputs _ r _)
    have hpass : ∀ (l : List Nat) (c : Body), (∀ r ∈ l, r < 32) → InputsStand c (c.each l fun b r =>
        buildDesc (.emerg r) (setQueue (b.bump AIR.TXD.FLUSHED (queueOf b r).fill.length) r { queueOf b r with fill := [] })) := by
      intro l
      induction l with
      | nil => exact fun c _ => .refl c
      | cons r t ih => exact fun c hl => (hstep r (hl r (by simp)) c).trans (ih _ fun q hq => hl q (by simp [hq]))
    refine hpass _ b fun r hr => ?_
    have hlist : ∀ q ∈ [0, 1, 2, 3, 4], q < 32 := by decide
    exact hlist r (List.mem_of_mem_filter hr)

theorem addDescs_inputs (l : List Desc) (b : Body) : InputsStand b (addDescs l b) :=
  (InputsStand.of_stands (sliceYield_stands 3 b) (sliceYield_only 3 (by decide) b) (by decide)).trans (.air _ _)

theorem askAll_inputs (w : Why) (b : Body) : InputsStand b (askAll w b) :=
  .of_stands (askAll_stands w b) (askAll_only w b) (by decide)

theorem relaysEmergency_inputs (b : Body) : InputsStand b (relaysEmergency b) := by
  unfold relaysEmergency
  split
  · refine .of_relays (each_relays_only (fun k c => ?_) _ b)
    split
    · unfold relayEmergency
      split
      · exact relayNow_relaysOnly _ _ _
      · exact relayRequest_relaysOnly _ _ _
    · exact .refl c
  · exact .refl b

theorem suspendFollow_inputs (b : Body) : InputsStand b (suspendFollow b) := by
  have hslice : ∀ (f : Fld) (v : Nat) (k : Nat) (c : Body), 0x40D00000 ≤ f.addr → f.s2 = 0 → InputsStand c (c.put f v k) := by
    intro f v k c hf hs
    refine .put ?_ c v
    simp only [Fld.at, hs]
    omega
  have hstop : ∀ (k : Nat) (c : Body), InputsStand c
      (if c.flag SAFE.SLICE.RUNNING k then (c.mark SAFE.SLICE.RUNNING false k).put SAFE.SLICE.LAST 3 k else c) := by
    intro k c
    split
    · exact (hslice SAFE.SLICE.RUNNING _ k c (by decide) rfl).trans (hslice SAFE.SLICE.LAST 3 k _ (by decide) rfl)
    · exact .refl c
  unfold suspendFollow
  dsimp only
  split
  · exact (InputsStand.each hstop _ b).trans (hslice SAFE.STAT.SLICES_SUSP _ 0 _ (by decide) rfl)
  · exact hslice SAFE.STAT.SLICES_SUSP _ 0 b (by decide) rfl

/-- The emergency shows whether an input contributes to it, and moves nothing else of the inputs (R539). -/
theorem emergencyFollow_inputs (i : Nat) (b : Body) :
    (∀ a, inputReg a → a ≠ GIO.EMERG.word.addr → (emergencyFollow i b).word a = b.word a) ∧
    (emergencyFollow i b).get GIO.EMERG.CONTRIB = b.get GIO.EMERG.CONTRIB ∧
    (emergencyFollow i b).flag GIO.EMERG.ACTIVE = decide (b.get GIO.EMERG.CONTRIB ≠ 0) ∧
    (emergencyFollow i b).gio.di = b.gio.di ∧ (emergencyFollow i b).loom = b.loom := by
  unfold emergencyFollow
  dsimp only
  generalize decide (b.get GIO.EMERG.CONTRIB ≠ 0) = act
  split
  · rename_i h
    exact ⟨fun _ _ _ => rfl, rfl, h.symm, rfl, rfl⟩
  · have hshow : ∀ c : Body, InputsStand (b.mark GIO.EMERG.ACTIVE act) c →
        (∀ a, inputReg a → a ≠ GIO.EMERG.word.addr → c.word a = b.word a) ∧ c.get GIO.EMERG.CONTRIB = b.get GIO.EMERG.CONTRIB ∧
        c.flag GIO.EMERG.ACTIVE = act ∧ c.gio.di = b.gio.di ∧ c.loom = b.loom := fun c hc =>
      ⟨fun a ha hne => (hc.regs a ha).trans (Body.word_put_other _ _ _ _ _ hne),
        (hc.get (by decide)).trans (Body.get_put_bits _ _ _ _ _ _ _ _ (by rfl) (by decide) (by decide)),
        (Body.flag_of_get (hc.get (by decide))).trans (Body.flag_mark_same _ _ _ _ _ rfl (by decide)), hc.di, hc.loom⟩
    have hce : ∀ c : Body, InputsStand c (if act then c.put CE.STAT.EMERG_DI (i + 1) else c) := by
      intro c
      split
      · exact .put (by decide) c _
      · exact .refl c
    have hair : ∀ c : Body, InputsStand c (if (!acting c || c.flag SAFE.STAT.HEM_SILENT) = true then c
        else if act then emergEdge c else addDescs ((enabledRadios c).map Desc.release) c) := by
      intro c
      split
      · exact .refl c
      · split
        · exact emergEdge_inputs c
        · exact addDescs_inputs _ c
    have hask : ∀ c : Body, InputsStand c
        (if runsRules c = true then askAll (if (act || inHem c) = true then Why.safe else Why.release) c else c) := by
      intro c
      split
      · exact askAll_inputs _ c
      · exact .refl c
    have hmark : ∀ c : Body, InputsStand c (c.mark CE.STAT.EMERG_ACTIVE act) := fun c => .put (by decide) c _
    have hclock : ∀ c : Body, InputsStand c (ungate c) := fun c => .put (by decide) c _
    refine hshow _ (InputsStand.trans ?_ (suspendFollow_inputs _))
    refine InputsStand.trans ?_ (relaysEmergency_inputs _)
    refine InputsStand.trans ?_ (hask _)
    refine InputsStand.trans ?_ (hair _)
    refine InputsStand.trans ?_ (hclock _)
    exact (hmark _).trans (hce _)

end Sys2Proof.Machine
end

section
/-! SUPPORT. Scope: what an input's edge moves (R535 to R540): its state, its stamp, its fault, and what it emits. -/

namespace Sys2Proof.Machine

/-- A pass moves along a relation that each element's step keeps. -/
theorem Body.each_along {α : Type} {f : Body → α → Body} {R : Body → Body → Prop} (hrefl : ∀ b, R b b)
    (htrans : ∀ b c e, R b c → R c e → R b e) {l : List α} (hf : ∀ x ∈ l, ∀ c, R c (f c x)) (b : Body) : R b (b.each l f) := by
  induction l generalizing b with
  | nil => exact hrefl b
  | cons x t ih =>
    obtain ⟨hx, ht⟩ := List.forall_mem_cons.1 hf
    exact htrans _ _ _ (hx b) (ih ht (f b x))

/-- A pass over distinct elements comes to element `k` along a relation that the others' steps keep, and goes on from there along it. -/
theorem Body.each_at {α : Type} {f : Body → α → Body} {R : Body → Body → Prop} (hrefl : ∀ b, R b b)
    (htrans : ∀ b c e, R b c → R c e → R b e) {k : α} (hf : ∀ j c, k ≠ j → R c (f c j)) {l : List α} (hk : k ∈ l) (hl : l.Nodup)
    (b : Body) : ∃ c, R b c ∧ R (f c k) (b.each l f) := by
  induction l generalizing b with
  | nil => cases hk
  | cons x t ih =>
    obtain ⟨hx, ht⟩ := List.nodup_cons.1 hl
    rcases List.mem_cons.1 hk with rfl | hkt
    · exact ⟨b, hrefl b, Body.each_along hrefl htrans (fun j hj c => hf j c fun e => hx (e ▸ hj)) (f b k)⟩
    · obtain ⟨c, hbefore, hafter⟩ := ih hkt ht (f b x)
      exact ⟨c, htrans _ _ _ (hf x b fun e => hx (e ▸ hkt)) hbefore, hafter⟩

/-! ### Emission -/

/-- Emission touches CLK_STAT alone, and leaves GIO as it is. -/
theorem gioEmit_only (thread p : Nat) (b : Body) :
    RegsKept (· = SYS.CLK_STAT.word.addr) b (gioEmit thread p b) ∧ (gioEmit thread p b).gio = b.gio := by
  unfold gioEmit
  split
  · exact ⟨RegsKept.put (p := (· = SYS.CLK_STAT.word.addr)) (f := SYS.CLK_STAT.GATED) rfl b 0, rfl⟩
  · exact ⟨.refl b, rfl⟩

/-- On a thread whose source is GIO's port the event enters the crossbar, which clocks the gated domain (R131, R77). -/
theorem gioEmit_wired {thread : Nat} {b : Body} (h : threadSrc b thread = some (0x44, 0)) (p : Nat) :
    (gioEmit thread p b).loom.xbar = b.loom.xbar ++ [⟨p % 2 ^ 64, 0, thread, false, 0x44, 0⟩] ∧
      (gioEmit thread p b).flag SYS.CLK_STAT.GATED = false := by
  unfold gioEmit
  rw [if_pos h]
  exact ⟨rfl, Body.flag_mark_same b SYS.CLK_STAT.GATED false 0 0 rfl (by decide)⟩

/-! ### The state of an input -/

/-- The registers of GIO's inputs but those an edge itself moves: the states, the faults and the emergency. -/
abbrev inputCfgReg (a : Nat) : Prop :=
  inputReg a ∧ a ≠ GIO.DI_STAT.word.addr ∧ a ≠ GIO.DI_FAULT.word.addr ∧ a ≠ GIO.EMERG.word.addr

/-- The state of input `i` and the stamp it takes. -/
def diStated (i st : Nat) (b : Body) : Body :=
  setDiRec (b.put GIO.DI_STAT.STATE (insBits (b.get GIO.DI_STAT.STATE) (3 * i) 3 st)) i
    ⟨if st = 1 then some b.clock.cyc else none, false⟩

/-- Input `i` after its state and its error, before what its FUNC asks for. -/
def diEntered (i st : Nat) (b : Body) : Body :=
  if st ≥ 2 then raise 0x0A01 i st ((diStated i st b).setBit GIO.DI_FAULT.FAULT i true) else diStated i st b

/-- What the FUNC of input `i` makes of its new state (R538 to R540). -/
def diActs (i st : Nat) (b : Body) : Body :=
  if b.get GIO.DI_CFG.FUNC i = 2 then
    if st ≤ 1 then diOverride i (decide (st = 1)) b else b
  else if (diEvent i st b).get GIO.DI_CFG.FUNC i = 1 ∧ st ≤ 1 then
    emergencyFollow i ((diEvent i st b).setBit GIO.EMERG.CONTRIB i (decide (st = 1)))
  else diEvent i st b

theorem diEdge_idle {i st : Nat} {b : Body} (h : gioRun b = false ∨ st = diState b i) : diEdge i st b = b :=
  if_pos (h.elim (fun h => .inl (by simp [h])) fun h => .inr (.inr h))

theorem diEdge_moves {i st : Nat} {b : Body} (hi : i < 8) (hrun : gioRun b = true) (hne : st ≠ diState b i) :
    diEdge i st b = diActs i st (diEntered i st b) := by
  unfold diEdge
  rw [if_neg]
  · rfl
  · rintro (h | h | h)
    · simp [hrun] at h
    · omega
    · exact hne h

theorem diState_of_get {b c : Body} (h : c.get GIO.DI_STAT.STATE = b.get GIO.DI_STAT.STATE) (i : Nat) : diState c i = diState b i := by
  unfold diState
  rw [h]

theorem diStated_stands (i st : Nat) (b : Body) :
    RegsKept (· = GIO.DI_STAT.word.addr) b (diStated i st b) ∧ (diStated i st b).loom = b.loom ∧
      (diStated i st b).clock = b.clock ∧ (diStated i st b).pat = b.pat :=
  ⟨RegsKept.put (p := (· = GIO.DI_STAT.word.addr)) (f := GIO.DI_STAT.STATE) rfl b _, rfl, rfl, rfl⟩

theorem diStated_same {i st : Nat} (hi : i < 8) (hst : st < 8) (b : Body) : diState (diStated i st b) i = st := by
  have h := part_insBits_same b GIO.DI_STAT.STATE (l := 3 * i) (u := 3) (show 3 * i + 3 ≤ 24 by omega) (by decide) st 0 0
  rwa [Nat.mod_eq_of_lt (show st < 2 ^ 3 from hst)] at h

theorem diStated_other {i j st : Nat} (hj : j < 8) (hne : j ≠ i) (b : Body) : diState (diStated i st b) j = diState b j :=
  part_insBits_other b GIO.DI_STAT.STATE (l := 3 * i) (u := 3) (k := 3 * j) (t := 3) (show 3 * j + 3 ≤ 24 by omega) (by decide)
    (by omega) st 0 0

theorem diRec_setDiRec (b : Body) (i : Nat) (x : DiSt) : diRec (setDiRec b i x) i = x := tabGet_tabIns_tabDel _ _ _

/-- The input's error: its FAULT bit and what the error manager takes, nothing of the states. -/
theorem diEntered_inputs (i st : Nat) (b : Body) :
    RegsKept (fun a => a = GIO.DI_FAULT.word.addr ∨ errorReg a) (diStated i st b) (diEntered i st b) ∧
      Stands (diStated i st b) (diEntered i st b) := by
  have hsev : severityOf 0x0A01 i < 3 := by simp [severityOf]
  unfold diEntered
  split
  · have hset : RegsKept (fun a => a = GIO.DI_FAULT.word.addr ∨ errorReg a) (diStated i st b)
        ((diStated i st b).setBit GIO.DI_FAULT.FAULT i true) :=
      RegsKept.put (f := GIO.DI_FAULT.FAULT) (.inl rfl) _ _
    exact ⟨hset.trans ((raise_frame hsev st _).2.mono fun _ => .inr), (Stands.put _ _ _ _ _).trans (raise_stands hsev st _)⟩
  · exact ⟨.refl _, .refl _⟩

theorem diEntered_fault {i st : Nat} (hi : i < 8) (hst : 2 ≤ st) (b : Body) :
    (diEntered i st b).bit GIO.DI_FAULT.FAULT i = true ∧ (diEntered i st b).bit SAFE.HELD.BLOCK 10 = true := by
  have hsev : severityOf 0x0A01 i = 2 := by simp [severityOf]
  unfold diEntered
  rw [if_pos hst]
  refine ⟨?_, raise_holds hsev (by decide) st _⟩
  rw [(raise_frame (by rw [hsev]; decide) st _).2.bit (by decide)]
  exact Body.bit_setBit_same _ _ hi (by decide) true 0 0

/-- An input that takes state `st`: what the rest of the module sees of it. -/
structure DiTakes (i st : Nat) (b c : Body) : Prop where
  state : diState c i = st
  others : ∀ j, j < 8 → j ≠ i → diState c j = diState b j
  onAt : (diRec c i).onAt = if st = 1 then some b.clock.cyc else none
  cfg : ∀ a, inputCfgReg a → c.word a = b.word a
  v24 : c.flag GIO.DI_STAT.V24_FAULT = b.flag GIO.DI_STAT.V24_FAULT
  fault : 2 ≤ st → c.bit GIO.DI_FAULT.FAULT i = true ∧ c.bit SAFE.HELD.BLOCK 10 = true

theorem DiTakes.get {i st : Nat} {b c : Body} (h : DiTakes i st b c) {f : Fld} {j k : Nat} (hf : inputCfgReg (f.at j k)) :
    c.get f j k = b.get f j k := by
  unfold Body.get
  rw [h.cfg _ hf]

theorem diEntered_takes {i st : Nat} (hi : i < 8) (hst : st < 8) (b : Body) : DiTakes i st b (diEntered i st b) := by
  obtain ⟨hregs, hstands⟩ := diEntered_inputs i st b
  have hstate : (diEntered i st b).get GIO.DI_STAT.STATE = (diStated i st b).get GIO.DI_STAT.STATE := hregs.get (by decide)
  refine ⟨?_, fun j hj hne => ?_, ?_, fun a ha => ?_, ?_, fun h => diEntered_fault hi h b⟩
  · exact (diState_of_get hstate i).trans (diStated_same hi hst b)
  · exact (diState_of_get hstate j).trans (diStated_other hj hne b)
  · have hrec : diRec (diEntered i st b) i = diRec (diStated i st b) i := by
      unfold diRec
      rw [hstands.gio]
    rw [hrec]
    exact congrArg DiSt.onAt (diRec_setDiRec _ i _)
  · obtain ⟨hin, h1, h2, -⟩ := ha
    refine (hregs a ?_).trans ((diStated_stands i st b).1 a h1)
    rintro (h | h)
    · exact h2 h
    · unfold errorReg at h
      unfold inputReg at hin
      omega
  · refine (hregs.flag (by decide)).trans (Body.flag_of_get ?_)
    exact Body.get_put_bits b GIO.DI_STAT.STATE GIO.DI_STAT.V24_FAULT _ 0 0 0 0 (by rfl) (by decide) (by decide)

theorem diEntered_loom (i st : Nat) (b : Body) : (diEntered i st b).loom = b.loom := (diEntered_inputs i st b).2.loom

theorem diEntered_threadSrc (i st : Nat) (b : Body) (k : Nat) : threadSrc (diEntered i st b) k = threadSrc b k :=
  threadSrc_of_stands (b := diStated i st b) (diEntered_inputs i st b).2 k

theorem diEntered_airTime (i st : Nat) (b : Body) : airTime (diEntered i st b) = airTime b :=
  airTime_of_stands (b := diStated i st b) (diEntered_inputs i st b).2

/-! ### What the FUNC makes of it -/

theorem DiTakes.emit {i st : Nat} {b c : Body} (h : DiTakes i st b c) (thread p : Nat) : DiTakes i st b (gioEmit thread p c) := by
  obtain ⟨hregs, hgio⟩ := gioEmit_only thread p c
  have hword : ∀ a, 0x40A00000 ≤ a → (gioEmit thread p c).word a = c.word a := fun a ha =>
    hregs a fun e : a = 0x40000020 => by omega
  have hstate : (gioEmit thread p c).get GIO.DI_STAT.STATE = c.get GIO.DI_STAT.STATE := hregs.get (by decide)
  refine ⟨?_, fun j hj hne => ?_, ?_, fun a ha => (hword a ha.1.1).trans (h.cfg a ha), (hregs.flag (by decide)).trans h.v24, fun hf => ?_⟩
  · exact (diState_of_get hstate i).trans h.state
  · exact (diState_of_get hstate j).trans (h.others j hj hne)
  · rw [← h.onAt]
    unfold diRec
    rw [hgio]
  · obtain ⟨hfault, hheld⟩ := h.fault hf
    exact ⟨(hregs.bit (by decide) i).trans hfault, (hregs.bit (by decide) 10).trans hheld⟩

theorem DiTakes.emergency {i st : Nat} {b c : Body} (h : DiTakes i st b c) (hst : st ≤ 1) (j : Nat) (v : Bool) :
    DiTakes i st b (emergencyFollow j (c.setBit GIO.EMERG.CONTRIB i v)) := by
  obtain ⟨hregs, -, -, hdi, -⟩ := emergencyFollow_inputs j (c.setBit GIO.EMERG.CONTRIB i v)
  have hword : ∀ a, inputReg a → a ≠ GIO.EMERG.word.addr → (emergencyFollow j (c.setBit GIO.EMERG.CONTRIB i v)).word a = c.word a :=
    fun a ha hne => (hregs a ha hne).trans (Body.word_put_other _ _ _ _ _ hne)
  have hget : ∀ f : Fld, inputReg (f.at 0 0) → f.at 0 0 ≠ GIO.EMERG.word.addr →
      (emergencyFollow j (c.setBit GIO.EMERG.CONTRIB i v)).get f = c.get f := by
    intro f hin hne
    unfold Body.get
    rw [hword _ hin hne]
  have hstate := hget GIO.DI_STAT.STATE (by decide) (by decide)
  refine ⟨?_, fun k hk hne => ?_, ?_, fun a ha => (hword a ha.1 ha.2.2.2).trans (h.cfg a ha), ?_, fun hf => by omega⟩
  · exact (diState_of_get hstate i).trans h.state
  · exact (diState_of_get hstate k).trans (h.others k hk hne)
  · rw [← h.onAt]
    unfold diRec
    rw [hdi]
    rfl
  · exact (Body.flag_of_get (hget GIO.DI_STAT.V24_FAULT (by decide) (by decide))).trans h.v24

end Sys2Proof.Machine
end

section
/-! SUPPORT. Scope: an input's edge as its FUNC has it (R538 to R540), its timeout (R541), and the field supply (R48, R536). -/

namespace Sys2Proof.Machine

/-! ### The edge by FUNC -/

/-- The OVERRIDE of input `i` (R540). -/
def overrideOf (b : Body) (i : Nat) (set : Bool) : Nat :=
  b.get GIO.DI_OVR.LEVEL i + b.get GIO.DI_OVR.TARGET i * 2 ^ 16 + b.get GIO.DI_OVR.SCOPE i * 2 ^ 28 +
    (if set then 2 ^ 30 else 0) + (if set then b.get GIO.DI_OVP.PRESET_SET i else b.get GIO.DI_OVP.PRESET_REL i) * 2 ^ 48

/-- The payload of DI_EVENT (R538). -/
def codeOf (b : Body) (i st : Nat) : Nat := i + st * 8 + airTime b % 2 ^ 32 * 2 ^ 32

theorem diOverride_eq (i : Nat) (set : Bool) (b : Body) :
    diOverride i set b = gioEmit (b.get GIO.DI_CFG.THREAD i) (overrideOf b i set) b := rfl

theorem diEvent_eq (i st : Nat) (b : Body) : diEvent i st b = gioEmit (b.get GIO.DI_CFG.THREAD i) (codeOf b i st) b := rfl

/-- An input's configuration stands apart from what its edge moves. -/
theorem inputCfg_at {f : Fld} {i : Nat} (hi : i < 8) (hlo : 0x40A00100 ≤ f.addr) (hhi : f.addr < 0x40A00110) (h1 : f.s1 = 0x10)
    (h2 : f.s2 = 0) : inputCfgReg (f.at i 0) := by
  have haddr : ∀ a : Nat, 0x40A00100 ≤ a → a < 0x40A00200 → inputCfgReg a := by
    intro a h h'
    have hstat : GIO.DI_STAT.word.addr < 0x40A00100 := by decide
    have hfault : GIO.DI_FAULT.word.addr < 0x40A00100 := by decide
    have hemerg : GIO.EMERG.word.addr < 0x40A00100 := by decide
    exact ⟨⟨by omega, h'⟩, by omega, by omega, by omega⟩
  refine haddr _ ?_ ?_ <;> (simp only [Fld.at, h1, h2]; omega)

/-- From `b` to `c` stands what an input's events are made of: its configuration, its thread's source and network time. -/
structure SameSource (i : Nat) (b c : Body) : Prop where
  cfg : ∀ f : Fld, 0x40A00100 ≤ f.addr → f.addr < 0x40A00110 → f.s1 = 0x10 → f.s2 = 0 → c.get f i = b.get f i
  source : ∀ k, threadSrc c k = threadSrc b k
  time : airTime c = airTime b
  xbar : c.loom.xbar = b.loom.xbar

theorem SameSource.override {i : Nat} {b c : Body} (h : SameSource i b c) (set : Bool) : overrideOf c i set = overrideOf b i set := by
  unfold overrideOf
  rw [h.cfg GIO.DI_OVR.LEVEL, h.cfg GIO.DI_OVR.TARGET, h.cfg GIO.DI_OVR.SCOPE, h.cfg GIO.DI_OVP.PRESET_SET,
    h.cfg GIO.DI_OVP.PRESET_REL] <;> decide

theorem SameSource.func {i : Nat} {b c : Body} (h : SameSource i b c) : c.get GIO.DI_CFG.FUNC i = b.get GIO.DI_CFG.FUNC i :=
  h.cfg _ (by decide) (by decide) rfl rfl

theorem SameSource.thread {i : Nat} {b c : Body} (h : SameSource i b c) : c.get GIO.DI_CFG.THREAD i = b.get GIO.DI_CFG.THREAD i :=
  h.cfg _ (by decide) (by decide) rfl rfl

/-- On a thread of GIO's port, DI_EVENT enters the crossbar. -/
theorem SameSource.event {i : Nat} {b c : Body} (h : SameSource i b c)
    (hwired : threadSrc b (b.get GIO.DI_CFG.THREAD i) = some (0x44, 0)) (st : Nat) :
    (diEvent i st c).loom.xbar = b.loom.xbar ++ [⟨codeOf b i st % 2 ^ 64, 0, b.get GIO.DI_CFG.THREAD i, false, 0x44, 0⟩] ∧
      (diEvent i st c).flag SYS.CLK_STAT.GATED = false := by
  have hcode : codeOf c i st = codeOf b i st := by
    unfold codeOf
    rw [h.time]
  rw [diEvent_eq, h.thread, hcode, ← h.xbar]
  exact gioEmit_wired ((h.source _).trans hwired) _

/-- On a thread of GIO's port, the OVERRIDE enters the crossbar. -/
theorem SameSource.overridden {i : Nat} {b c : Body} (h : SameSource i b c)
    (hwired : threadSrc b (b.get GIO.DI_CFG.THREAD i) = some (0x44, 0)) (set : Bool) :
    (diOverride i set c).loom.xbar = b.loom.xbar ++ [⟨overrideOf b i set % 2 ^ 64, 0, b.get GIO.DI_CFG.THREAD i, false, 0x44, 0⟩] ∧
      (diOverride i set c).flag SYS.CLK_STAT.GATED = false := by
  rw [diOverride_eq, h.thread, h.override, ← h.xbar]
  exact gioEmit_wired ((h.source _).trans hwired) _

theorem diEntered_source {i st : Nat} (hi : i < 8) (hst : st < 8) (b : Body) : SameSource i b (diEntered i st b) :=
  ⟨fun _ hlo hhi h1 h2 => (diEntered_takes hi hst b).get (inputCfg_at hi hlo hhi h1 h2), diEntered_threadSrc i st b,
    diEntered_airTime i st b, congrArg Loom.xbar (diEntered_loom i st b)⟩

theorem diEvent_func {i : Nat} (hi : i < 8) (st : Nat) (b : Body) :
    (diEvent i st b).get GIO.DI_CFG.FUNC i = b.get GIO.DI_CFG.FUNC i := by
  refine (gioEmit_only _ _ b).1.get fun e => ?_
  have hcfg := (inputCfg_at (f := GIO.DI_CFG.FUNC) hi (by decide) (by decide) rfl rfl).1.1
  rw [e] at hcfg
  exact absurd hcfg (by decide)

/-- The new state outlasts whatever the FUNC makes of it. -/
theorem DiTakes.acts {i st : Nat} {b c : Body} (h : DiTakes i st b c) : DiTakes i st b (diActs i st c) := by
  unfold diActs
  split
  · split
    · exact h.emit _ _
    · exact h
  · split
    · rename_i hfn
      exact (h.emit _ _).emergency hfn.2 i _
    · exact h.emit _ _

theorem diEdge_takes {i st : Nat} {b : Body} (hi : i < 8) (hst : st < 8) (hrun : gioRun b = true) (hne : st ≠ diState b i) :
    DiTakes i st b (diEdge i st b) := by
  rw [diEdge_moves hi hrun hne]
  exact (diEntered_takes hi hst b).acts

section Edge

variable {i st : Nat} {b : Body} (hi : i < 8) (hst : st < 8) (hrun : gioRun b = true) (hne : st ≠ diState b i)
include hi hst hrun hne

/-- FUNC 0: the event alone (R538). -/
theorem diEdge_event (hfunc : b.get GIO.DI_CFG.FUNC i = 0) : diEdge i st b = diEvent i st (diEntered i st b) := by
  have hsame := (diEntered_source hi hst b).func.trans hfunc
  rw [diEdge_moves hi hrun hne, diActs, if_neg (by omega), if_neg]
  rw [diEvent_func hi, hsame]
  omega

/-- FUNC 2: the OVERRIDE of the state, faults aside (R540). -/
theorem diEdge_override (hfunc : b.get GIO.DI_CFG.FUNC i = 2) (hplain : st ≤ 1) :
    diEdge i st b = diOverride i (decide (st = 1)) (diEntered i st b) := by
  rw [diEdge_moves hi hrun hne, diActs, if_pos ((diEntered_source hi hst b).func.trans hfunc), if_pos hplain]

/-- FUNC 1: the event and, faults aside, the contribution to the emergency (R539). -/
theorem diEdge_emergency (hfunc : b.get GIO.DI_CFG.FUNC i = 1) : diEdge i st b =
    if st ≤ 1 then emergencyFollow i ((diEvent i st (diEntered i st b)).setBit GIO.EMERG.CONTRIB i (decide (st = 1)))
    else diEvent i st (diEntered i st b) := by
  have hsame := (diEntered_source hi hst b).func.trans hfunc
  rw [diEdge_moves hi hrun hne, diActs, if_neg (by omega), diEvent_func hi, hsame]
  by_cases h : st ≤ 1
  · rw [if_pos ⟨rfl, h⟩, if_pos h]
  · rw [if_neg fun h' => h h'.2, if_neg h]

theorem diEdge_contributes (hfunc : b.get GIO.DI_CFG.FUNC i = 1) (hplain : st ≤ 1) :
    (diEdge i st b).bit GIO.EMERG.CONTRIB i = decide (st = 1) ∧
      (diEdge i st b).flag GIO.EMERG.ACTIVE = decide ((diEdge i st b).get GIO.EMERG.CONTRIB ≠ 0) := by
  rw [diEdge_emergency hi hst hrun hne hfunc, if_pos hplain]
  obtain ⟨-, hcontrib, hactive, -, -⟩ :=
    emergencyFollow_inputs i ((diEvent i st (diEntered i st b)).setBit GIO.EMERG.CONTRIB i (decide (st = 1)))
  refine ⟨?_, by rw [hactive, hcontrib]⟩
  rw [Body.bit_of_get hcontrib]
  exact Body.bit_setBit_same _ _ hi (by decide) _ 0 0

theorem diEdge_emits (hfunc : b.get GIO.DI_CFG.FUNC i = 1)
    (hwired : threadSrc b (b.get GIO.DI_CFG.THREAD i) = some (0x44, 0)) :
    ⟨codeOf b i st % 2 ^ 64, 0, b.get GIO.DI_CFG.THREAD i, false, 0x44, 0⟩ ∈ (diEdge i st b).loom.xbar := by
  have hin : (⟨codeOf b i st % 2 ^ 64, 0, b.get GIO.DI_CFG.THREAD i, false, 0x44, 0⟩ : Ev) ∈
      (diEvent i st (diEntered i st b)).loom.xbar := by
    rw [((diEntered_source hi hst b).event hwired st).1]
    exact List.mem_append_right _ (List.mem_singleton.2 rfl)
  rw [diEdge_emergency hi hst hrun hne hfunc]
  split
  · obtain ⟨-, -, -, -, hloom⟩ :=
      emergencyFollow_inputs i ((diEvent i st (diEntered i st b)).setBit GIO.EMERG.CONTRIB i (decide (st = 1)))
    rw [hloom]
    exact hin
  · exact hin

end Edge

/-! ### Samples -/

theorem diSamples_takes {i st : Nat} {m : List DiMeas} {b : Body} (h : diTaken b i m = some st) : diSamples i m b = diEdge i st b := by
  unfold diSamples
  rw [h]

theorem diSamples_nothing {i : Nat} {m : List DiMeas} {b : Body}
    (h : gioRun b = false ∨ diTaken b i m = none ∨ diTaken b i m = some (diState b i)) : diSamples i m b = b := by
  cases htaken : diTaken b i m with
  | none =>
    unfold diSamples
    rw [htaken]
  | some st =>
    rw [diSamples_takes htaken]
    refine diEdge_idle (h.imp_right fun h => ?_)
    rw [htaken] at h
    exact Option.some.inj (h.resolve_left (by simp))

/-- Samples that agree on a state leave the input in it. -/
theorem diSamples_state {i st : Nat} {m : List DiMeas} {b : Body} (hi : i < 8) (hrun : gioRun b = true) (h : diTaken b i m = some st) :
    diState (diSamples i m b) i = st := by
  by_cases hne : st = diState b i
  · rw [diSamples_nothing (.inr (.inr (hne ▸ h)))]
    exact hne.symm
  · rw [diSamples_takes h]
    exact (diEdge_takes hi (diTaken_lt h) hrun hne).state

/-- Samples between the thresholds leave a plain input as it is (R49). -/
theorem diTaken_between {i : Nat} {m : List DiMeas} {b : Body} (hmode : b.get GIO.DI_CFG.MODE i = 1)
    (hlen : m.length = b.get GIO.DI_CFG.FILTER_MS i) (hne : m ≠ []) (h : ∀ d ∈ m, 5000 < d.mv ∧ d.mv < 15000) :
    diTaken b i m = some (diState b i) := by
  have hclass : ∀ w, ∀ d ∈ m, diClass b i w d = w := by
    intro w d hd
    unfold diClass
    rw [if_pos hmode, if_neg (by have := (h d hd).1; omega), if_neg (by have := (h d hd).2; omega)]
  refine diTaken_agree (old := []) (.inl hmode) hlen hne fun w hw => ?_
  refine (diClasses_agree (st := w) fun d hd v hv => ?_).trans ?_
  · rcases hv with rfl | rfl <;> exact hclass _ d hd
  · obtain ⟨d, t, rfl⟩ := List.exists_cons_of_ne_nil hne
    have hfirst : diClasses b i (diState b i) (d :: t) = diClasses b i w (d :: t) := hw
    simp only [diClasses, List.cons.injEq] at hfirst
    rw [hclass _ d (by simp), hclass _ d (by simp)] at hfirst
    rw [hfirst.1]

end Sys2Proof.Machine
end

section
/-! SUPPORT. Scope: the classes of samples (R49, R50), the timeout of an input (R541), and the field supply (R48, R536). -/

namespace Sys2Proof.Machine

/-! ### Classes -/

theorem diTaken_of_class {i st : Nat} {old m : List DiMeas} {b : Body}
    (hmode : b.get GIO.DI_CFG.MODE i = 1 ∨ b.get GIO.DI_CFG.MODE i = 2) (hlen : m.length = b.get GIO.DI_CFG.FILTER_MS i) (hne : m ≠ [])
    (h : ∀ d ∈ m, ∀ w, diClass b i w d = st) : diTaken b i (old ++ m) = some st :=
  diTaken_agree hmode hlen hne fun _ _ => diClasses_agree fun d hd w _ => h d hd w

theorem diClass_off {i : Nat} {b : Body} (hmode : b.get GIO.DI_CFG.MODE i = 1) {d : DiMeas} (h : d.mv ≤ 5000) (w : Nat) :
    diClass b i w d = 0 := by
  unfold diClass
  rw [if_pos hmode, if_pos h]

theorem diClass_on {i : Nat} {b : Body} (hmode : b.get GIO.DI_CFG.MODE i = 1) {d : DiMeas} (h : 15000 ≤ d.mv) (w : Nat) :
    diClass b i w d = 1 := by
  unfold diClass
  rw [if_pos hmode, if_neg (by omega), if_pos h]

theorem diClass_open {i : Nat} {b : Body} (hmode : b.get GIO.DI_CFG.MODE i = 2) (hv24 : b.flag GIO.DI_STAT.V24_FAULT = true)
    (d : DiMeas) (w : Nat) : diClass b i w d = 2 := by
  unfold diClass
  rw [if_neg (by omega), if_pos hv24]

theorem diClass_ratio {i : Nat} {b : Body} (hmode : b.get GIO.DI_CFG.MODE i = 2) (hv24 : b.flag GIO.DI_STAT.V24_FAULT = false)
    {d : DiMeas} (href : 0 < d.ref) (w : Nat) : diClass b i w d =
      if 100 * d.mv < 10 * d.ref then 2 else if 25 * d.ref ≤ 100 * d.mv ∧ 100 * d.mv ≤ 50 * d.ref then 0
      else if 80 * d.ref ≤ 100 * d.mv ∧ 100 * d.mv ≤ 93 * d.ref then 1 else if 96 * d.ref < 100 * d.mv then 3 else 4 := by
  unfold diClass diRatio
  rw [if_neg (by omega), if_neg (Bool.eq_false_iff.1 hv24), if_neg (by omega)]

/-! ### The timeout -/

/-- An input that stands at ON or ACTIVE, has stood so for TIMEOUT_S and was not reported yet (R541). -/
def diDue (b : Body) (i : Nat) : Prop :=
  gioRun b = true ∧ b.get GIO.DI_TMO.TIMEOUT_S i ≠ 0 ∧ diState b i = 1 ∧ (diRec b i).timed = false ∧
    ∃ t, (diRec b i).onAt = some t ∧ b.get GIO.DI_TMO.TIMEOUT_S i * 26000000 ≤ b.clock.cyc - t

theorem diTimed_iff (b : Body) (i : Nat) :
    diTimed b i = true ↔ ∃ t, (diRec b i).onAt = some t ∧ b.get GIO.DI_TMO.TIMEOUT_S i * 26000000 ≤ b.clock.cyc - t := by
  unfold diTimed
  cases (diRec b i).onAt <;> simp

/-- Input `i` noted as reported. -/
def diNoted (i : Nat) (b : Body) : Body := setDiRec b i { diRec b i with timed := true }

/-- Input `i` marked and its error raised. -/
def diExpired (i : Nat) (b : Body) : Body := raise 0x0A03 i 0 ((diNoted i b).setBit GIO.DI_FAULT.TIMEOUT i true)

/-- What the FUNC of input `i` makes of its timeout (R541). -/
def diTimeoutActs (i : Nat) (b : Body) : Body :=
  if b.get GIO.DI_CFG.FUNC i = 0 then diEvent i 5 b
  else if b.get GIO.DI_CFG.FUNC i = 2 then diOverride i false b
  else b

theorem diTimeout_nothing {i : Nat} {b : Body} (h : ¬ diDue b i) : diTimeout i b = b := by
  unfold diTimeout
  refine if_pos ?_
  by_contra hall
  simp only [Bool.or_eq_true, not_or, Bool.not_eq_true, Bool.not_eq_false', decide_eq_false_iff_not] at hall
  obtain ⟨⟨⟨⟨⟨-, hrun⟩, htmo⟩, hst⟩, htimed⟩, hdue⟩ := hall
  exact h ⟨hrun, htmo, not_not.1 hst, htimed, (diTimed_iff b i).1 hdue⟩

theorem diTimeout_due {i : Nat} {b : Body} (hi : i < 8) (h : diDue b i) : diTimeout i b = diTimeoutActs i (diExpired i b) := by
  obtain ⟨hrun, htmo, hst, htimed, hlong⟩ := h
  have hdue := (diTimed_iff b i).2 hlong
  unfold diTimeout
  rw [if_neg]
  · rfl
  · simp only [Bool.or_eq_true, not_or, Bool.not_eq_true, Bool.not_eq_false', decide_eq_true_eq]
    exact ⟨⟨⟨⟨⟨by omega, hrun⟩, htmo⟩, not_not.2 hst⟩, htimed⟩, hdue⟩

theorem diExpired_inputs (i : Nat) (b : Body) :
    RegsKept (fun a => a = GIO.DI_FAULT.word.addr ∨ errorReg a) b (diExpired i b) ∧
      Stands (diNoted i b) (diExpired i b) := by
  have hsev : severityOf 0x0A03 i < 3 := by simp [severityOf]
  have hset : RegsKept (fun a => a = GIO.DI_FAULT.word.addr ∨ errorReg a) b
      ((diNoted i b).setBit GIO.DI_FAULT.TIMEOUT i true) :=
    RegsKept.put (f := GIO.DI_FAULT.TIMEOUT) (.inl rfl) b _
  exact ⟨hset.trans ((raise_frame hsev 0 _).2.mono fun _ => .inr), (Stands.put _ _ _ _ _).trans (raise_stands hsev 0 _)⟩

theorem diExpired_marks {i : Nat} (hi : i < 8) (b : Body) :
    (diExpired i b).bit GIO.DI_FAULT.TIMEOUT i = true ∧ (diRec (diExpired i b) i).timed = true := by
  have hsev : severityOf 0x0A03 i < 3 := by simp [severityOf]
  constructor
  · unfold diExpired
    rw [(raise_frame hsev 0 _).2.bit (by decide)]
    exact Body.bit_setBit_same _ _ hi (by decide) true 0 0
  · have hrec : diRec (diExpired i b) i = diRec (diNoted i b) i := by
      unfold diRec
      rw [(diExpired_inputs i b).2.gio]
    rw [hrec]
    exact congrArg DiSt.timed (diRec_setDiRec b i _)

theorem diExpired_source {i : Nat} (hi : i < 8) (b : Body) : SameSource i b (diExpired i b) := by
  obtain ⟨hregs, hstands⟩ := diExpired_inputs i b
  refine ⟨fun f hlo hhi h1 h2 => hregs.get ?_, threadSrc_of_stands (b := diNoted i b) hstands,
    airTime_of_stands (b := diNoted i b) hstands, congrArg Loom.xbar hstands.loom⟩
  obtain ⟨hin, -, hfault, -⟩ := inputCfg_at hi hlo hhi h1 h2
  rintro (h | h)
  · exact hfault h
  · unfold errorReg at h
    unfold inputReg at hin
    omega

/-- What the timeout emits leaves the mark and the stamp. -/
theorem diTimeoutActs_marks (i : Nat) (b : Body) :
    (diTimeoutActs i b).bit GIO.DI_FAULT.TIMEOUT i = b.bit GIO.DI_FAULT.TIMEOUT i ∧ diRec (diTimeoutActs i b) i = diRec b i := by
  have hemit : ∀ thread p : Nat, (gioEmit thread p b).bit GIO.DI_FAULT.TIMEOUT i = b.bit GIO.DI_FAULT.TIMEOUT i ∧
      diRec (gioEmit thread p b) i = diRec b i := by
    intro thread p
    obtain ⟨hregs, hgio⟩ := gioEmit_only thread p b
    refine ⟨hregs.bit (by decide) i, ?_⟩
    unfold diRec
    rw [hgio]
  unfold diTimeoutActs
  split
  · exact hemit _ _
  · split
    · exact hemit _ _
    · exact ⟨rfl, rfl⟩

theorem diTimeout_reports {i : Nat} {b : Body} (hi : i < 8) (h : diDue b i) :
    (diTimeout i b).bit GIO.DI_FAULT.TIMEOUT i = true ∧ (diRec (diTimeout i b) i).timed = true ∧
    (b.get GIO.DI_CFG.FUNC i = 0 → diTimeout i b = diEvent i 5 (diExpired i b)) ∧
    (b.get GIO.DI_CFG.FUNC i = 2 → diTimeout i b = diOverride i false (diExpired i b)) := by
  have hfunc := (diExpired_source hi b).func
  obtain ⟨hbit, hrec⟩ := diTimeoutActs_marks i (diExpired i b)
  obtain ⟨hmark, htimed⟩ := diExpired_marks hi b
  rw [diTimeout_due hi h]
  refine ⟨hbit.trans hmark, by rw [hrec, htimed], fun h0 => ?_, fun h2 => ?_⟩
  · rw [diTimeoutActs, if_pos (hfunc.trans h0)]
  · rw [diTimeoutActs, if_neg (by omega), if_pos (hfunc.trans h2)]

/-! ### The field supply -/

/-- From `b` to `c` input `i` stands, GIO's run, the modes and the supply's fault stand, and a held bit stays held. -/
structure SupplyKeeps (i : Nat) (b c : Body) : Prop where
  state : diState c i = diState b i
  mode : c.get GIO.DI_CFG.MODE i = b.get GIO.DI_CFG.MODE i
  run : gioRun c = gioRun b
  v24 : c.flag GIO.DI_STAT.V24_FAULT = b.flag GIO.DI_STAT.V24_FAULT
  held : b.bit SAFE.HELD.BLOCK 10 = true → c.bit SAFE.HELD.BLOCK 10 = true

theorem SupplyKeeps.refl (i : Nat) (b : Body) : SupplyKeeps i b b := ⟨rfl, rfl, rfl, rfl, id⟩

theorem SupplyKeeps.trans {i : Nat} {b c e : Body} (h : SupplyKeeps i b c) (g : SupplyKeeps i c e) : SupplyKeeps i b e :=
  ⟨g.state.trans h.state, g.mode.trans h.mode, g.run.trans h.run, g.v24.trans h.v24, g.held ∘ h.held⟩

/-- A supervised input reads OPEN (R48). -/
def supplyStep (b : Body) (i : Nat) : Body := if b.get GIO.DI_CFG.MODE i = 2 then diEdge i 2 b else b

theorem supplyFollow_fault {b : Body} (h : b.flag GIO.DI_STAT.V24_FAULT = true) :
    supplyFollow b = b.each (List.range 8) supplyStep := if_pos h

/-- An edge to OPEN of any input moves only that input. -/
theorem diEdge_open_keeps {i j : Nat} (hi : i < 8) (hne : i ≠ j) (b : Body) : SupplyKeeps i b (diEdge j 2 b) := by
  by_cases hidle : gioRun b = false ∨ 2 = diState b j
  · rw [diEdge_idle hidle]
    exact .refl i b
  · by_cases hj : j < 8
    · obtain ⟨hrun, hst⟩ := not_or.1 hidle
      have htakes := diEdge_takes (st := 2) hj (by decide) (by simpa using hrun) hst
      exact ⟨htakes.others i hi hne, htakes.get (inputCfg_at hi (by decide) (by decide) rfl rfl),
        Body.flag_of_get (htakes.get (by decide)), htakes.v24, fun _ => (htakes.fault le_rfl).2⟩
    · rw [show diEdge j 2 b = b from if_pos (.inr (.inl (by omega)))]
      exact .refl i b

theorem supplyStep_keeps {i j : Nat} (hi : i < 8) (hne : i ≠ j) (b : Body) : SupplyKeeps i b (supplyStep b j) := by
  unfold supplyStep
  split
  · exact diEdge_open_keeps hi hne b
  · exact .refl i b

/-- The step of input `i` itself: OPEN when it is supervised and GIO runs. -/
theorem supplyStep_own {i : Nat} (hi : i < 8) (b : Body) :
    (gioRun b = true → b.get GIO.DI_CFG.MODE i = 2 → diState (supplyStep b i) i = 2) ∧
    (gioRun b = false ∨ b.get GIO.DI_CFG.MODE i ≠ 2 → diState (supplyStep b i) i = diState b i) ∧
    (supplyStep b i).flag GIO.DI_STAT.V24_FAULT = b.flag GIO.DI_STAT.V24_FAULT ∧
    (b.bit SAFE.HELD.BLOCK 10 = true → (supplyStep b i).bit SAFE.HELD.BLOCK 10 = true) := by
  unfold supplyStep
  split
  · rename_i hmode
    by_cases hidle : gioRun b = false ∨ 2 = diState b i
    · rw [diEdge_idle hidle]
      exact ⟨fun hrun _ => (hidle.resolve_left (by simp [hrun])).symm, fun _ => rfl, rfl, id⟩
    · obtain ⟨hrun, hst⟩ := not_or.1 hidle
      have htakes := diEdge_takes (st := 2) hi (by decide) (by simpa using hrun) hst
      exact ⟨fun _ _ => htakes.state, fun h => absurd (h.resolve_right (not_not.2 hmode)) hrun, htakes.v24,
        fun _ => (htakes.fault le_rfl).2⟩
  · rename_i hmode
    exact ⟨fun _ h => absurd h hmode, fun _ => rfl, rfl, id⟩

/-- DI_SUPPLY at one input. -/
theorem diSupply_input {i : Nat} (hi : i < 8) {b : Body} (h : b.flag GIO.DI_STAT.V24_FAULT = false) :
    (diSupply b).flag GIO.DI_STAT.V24_FAULT = true ∧ (diSupply b).bit SAFE.HELD.BLOCK 10 = true ∧
    (gioRun b = true → b.get GIO.DI_CFG.MODE i = 2 → diState (diSupply b) i = 2) ∧
    (gioRun b = false ∨ b.get GIO.DI_CFG.MODE i ≠ 2 → diState (diSupply b) i = diState b i) := by
  have hsev : severityOf 0x0A02 0 = 2 := by simp [severityOf]
  have hraise := raise_frame (code := 0x0A02) (a0 := 0) (by rw [hsev]; decide) 0 (b.mark GIO.DI_STAT.V24_FAULT true)
  have hheld := raise_holds (code := 0x0A02) (a0 := 0) hsev (by decide) 0 (b.mark GIO.DI_STAT.V24_FAULT true)
  unfold diSupply
  rw [if_neg (Bool.eq_false_iff.1 h)]
  generalize raise 0x0A02 0 0 (b.mark GIO.DI_STAT.V24_FAULT true) = c at hraise hheld ⊢
  have hregs : ∀ f : Fld, ∀ k, inputCfgReg (f.at k 0) → c.get f k = b.get f k := by
    intro f k hf
    refine (hraise.2.get ?_).trans (Body.get_put_other _ _ _ _ _ _ _ _ hf.2.1)
    obtain ⟨hin, -⟩ := hf
    unfold errorReg
    unfold inputReg at hin
    omega
  have hv24 : c.flag GIO.DI_STAT.V24_FAULT = true :=
    (hraise.2.flag (by decide)).trans (Body.flag_mark_same b GIO.DI_STAT.V24_FAULT true 0 0 rfl (by decide))
  have hstate : diState c i = diState b i :=
    (diState_of_get (hraise.2.get (by decide)) i).trans (diState_of_get (c := b.mark GIO.DI_STAT.V24_FAULT true)
      (Body.get_put_bits _ _ _ _ _ _ _ _ (by rfl) (by decide) (by decide)) i)
  have hmode : c.get GIO.DI_CFG.MODE i = b.get GIO.DI_CFG.MODE i := hregs _ _ (inputCfg_at hi (by decide) (by decide) rfl rfl)
  have hrun : gioRun c = gioRun b := Body.flag_of_get (hregs GIO.CTL.RUN 0 (by decide))
  rw [supplyFollow_fault hv24]
  obtain ⟨e, hbefore, hafter⟩ := Body.each_at (R := SupplyKeeps i) (.refl i) (fun _ _ _ => .trans)
    (fun j c hne => supplyStep_keeps hi hne c) (List.mem_range.2 hi) List.nodup_range c
  obtain ⟨hopen, hkeep, hown, howned⟩ := supplyStep_own hi e
  refine ⟨by rw [hafter.v24, hown, hbefore.v24, hv24], hafter.held (howned (hbefore.held hheld)), fun hr hm => ?_, fun hx => ?_⟩
  · rw [hafter.state]
    exact hopen ((hbefore.run.trans hrun).trans hr) ((hbefore.mode.trans hmode).trans hm)
  · rw [hafter.state, hkeep, hbefore.state, hstate]
    exact hx.imp (hbefore.run.trans hrun).trans fun hm => by rwa [hbefore.mode, hmode]

end Sys2Proof.Machine
end

section
/-! SUPPORT. Scope: O55, the rows of GIO's inputs and relays (R48 to R50, R535 to R545). -/

namespace Sys2Proof.Machine

theorem exec_diFilteredEdge (i : Nat) (m : List DiMeas) (s : State) : exec (.diFilteredEdge i m) s = execDiFilteredEdge i m s := rfl
theorem exec_diTimeout (i : Nat) (s : State) : exec (.diTimeout i) s = execDiTimeout i s := rfl
theorem exec_fieldSupplyRestored (s : State) :
    exec .fieldSupplyRestored s = onBody (fun b => b.mark GIO.DI_STAT.V24_FAULT false) s := rfl
theorem exec_diSupply (s : State) : exec .diSupply s = execDiSupply s := rfl
theorem exec_relay (s : State) : exec .relay s = execRelay s := rfl
theorem exec_hostRelayWrite (v : Nat) (s : State) : exec (.hostRelayWrite v) s = execHostRelayWrite v s := rfl
theorem exec_relayHoldEnd (k : Nat) (s : State) : exec (.relayHoldEnd k) s = execRelayHoldEnd k s := rfl
theorem exec_relayCoil (k : Nat) (cur : Bool) (s : State) : exec (.relayCoil k cur) s = execRelayCoil k cur s := rfl

/-- Nothing happens: GIO's own state, the Loom's and every register stand. -/
theorem gio_of_unchanged {b c : Body} (h : c = b) :
    (settle c).gio = b.gio ∧ (settle c).loom = b.loom ∧ RegsKept (fun _ => False) b (settle c) :=
  h ▸ ⟨rfl, rfl, fun _ _ => rfl⟩

/-- What holds of a row's result and does not look at the pins, the row does. -/
theorem does_of_unpinned {c : Instr} {s : State} {f : Body → Body} {P : Body → Prop} (hexec : exec c s = onBody f s)
    (hp : powered s.body = true) (h : P (f s.body)) (hpins : ∀ b, P b → P (settle b)) : Does c s P :=
  does_of_onBody hexec hp (hpins _ h)

/-- A filtered edge: what the samples give the input, and what follows from it. -/
theorem does_edge {i : Nat} {m : List DiMeas} {s : State} {P : Body → Prop} (hp : powered s.body = true)
    (h : P (settle (diSamples i m s.body))) : Does (.diFilteredEdge i m) s P :=
  does_of_onBody (exec_diFilteredEdge i m s) hp h

theorem does_edge_state {i st : Nat} {m : List DiMeas} {s : State} (hp : powered s.body = true) (hi : i < 8)
    (hrun : gioRun s.body = true) (h : diTaken s.body i m = some st) : Does (.diFilteredEdge i m) s (fun b => diState b i = st) :=
  does_edge hp (diSamples_state hi hrun h)

theorem relayMay_refused {b : Body} {k : Nat} {v : Bool}
    (h : ¬ ((acting b = true ∧ loaded b = true ∧ (inHem b = false ∨ b.get GIO.REL_CFG.SOURCE k = 2)) ∨
      (b.get SEAM.STAT.ROLE = 1 ∧ v = false))) : relayMay b k v = false :=
  Bool.eq_false_iff.2 fun hmay => h ((relayMay_iff b k v).1 hmay)

/-- With GIO idle a position written by the host waits in the register. -/
theorem hostRelay_waits {v : Nat} {b : Body} (h : gioRun b = false) :
    (hostRelay v b).gio = b.gio ∧ RegsKept (· = GIO.REL_CTL.word.addr) b (hostRelay v b) := by
  rw [hostRelay_idle h]
  exact ⟨rfl, RegsKept.put (p := (· = GIO.REL_CTL.word.addr)) (f := GIO.REL_CTL.HOST) rfl b v⟩

/-- Without the right to move, or with another source, the host's write leaves the relay. -/
theorem hostRelay_leaves {k : Nat} (hk : k < 4) {v : Nat} {b : Body}
    (h : relayMay b k (decide (v / 2 ^ k % 2 = 1)) = false ∨ b.get GIO.REL_CFG.SOURCE k ≠ 0) :
    (hostRelay v b).bit GIO.REL_STAT.STATE k = b.bit GIO.REL_STAT.STATE k := by
  cases hrun : gioRun b with
  | true => exact (hostRelay_relay hk hrun).2.2 h
  | false =>
    rw [hostRelay_idle hrun]
    exact Body.bit_of_get (Body.get_put_other _ _ _ _ _ _ _ _ (by decide)) k

/-- A RELAY event with reserved bits leaves every relay and is counted. -/
theorem relayEvent_counts {e : Ev} (h : e.payload / 256 ≠ 0) (k : Nat) (b : Body) :
    (relayEvent e b).gio = b.gio ∧ (relayEvent e b).bit GIO.REL_STAT.STATE k = b.bit GIO.REL_STAT.STATE k ∧
      (relayEvent e b).get GIO.COUNT.BAD_EVENT = min (b.get GIO.COUNT.BAD_EVENT + 1) 0xFFFF := by
  rw [relayEvent_bad h]
  exact ⟨rfl, Body.bit_of_get (Body.get_put_other _ _ _ _ _ _ _ _ (by decide)) k, Body.get_bump_same _ _ _ _ (by decide)⟩

theorem codeOf_lt {i st : Nat} (hi : i < 8) (hst : st < 8) (b : Body) : codeOf b i st < 2 ^ 64 := by
  have htime : airTime b % 2 ^ 32 < 2 ^ 32 := Nat.mod_lt _ (by decide)
  unfold codeOf
  omega

/-- The timeout of R541: marked once, and reported as the FUNC has it. -/
theorem does_timeout {i : Nat} {s : State} (hp : powered s.body = true) (hi : i < 8) (hdue : diDue s.body i) :
    Does (.diTimeout i) s (fun b => b.bit GIO.DI_FAULT.TIMEOUT i = true ∧ (diRec b i).timed = true ∧
      (s.body.get GIO.DI_CFG.FUNC i = 0 → threadSrc s.body (s.body.get GIO.DI_CFG.THREAD i) = some (0x44, 0) →
        b.loom.xbar = s.body.loom.xbar ++ [⟨codeOf s.body i 5 % 2 ^ 64, 0, s.body.get GIO.DI_CFG.THREAD i, false, 0x44, 0⟩] ∧
          b.flag SYS.CLK_STAT.GATED = false) ∧
      (s.body.get GIO.DI_CFG.FUNC i = 2 → threadSrc s.body (s.body.get GIO.DI_CFG.THREAD i) = some (0x44, 0) →
        b.loom.xbar = s.body.loom.xbar ++ [⟨overrideOf s.body i false % 2 ^ 64, 0, s.body.get GIO.DI_CFG.THREAD i, false, 0x44, 0⟩] ∧
          b.flag SYS.CLK_STAT.GATED = false)) := by
  refine does_of_result (exec_diTimeout i s) hp fun b hb => ?_
  obtain ⟨hmark, htimed, hevent, hoverride⟩ := diTimeout_reports hi hdue
  have hsource := diExpired_source hi s.body
  rw [hb] at hmark htimed hevent hoverride
  refine ⟨hmark, htimed, fun hf hw => ?_, fun hf hw => ?_⟩
  · have hout := hsource.event hw 5
    rw [← hevent hf] at hout
    exact hout
  · have hout := hsource.overridden hw false
    rw [← hoverride hf] at hout
    exact hout

/-- The field supply is back: its fault clears, and nothing else moves (R48). -/
theorem supplyRestored_clears (b : Body) : (b.mark GIO.DI_STAT.V24_FAULT false).flag GIO.DI_STAT.V24_FAULT = false ∧
    RegsKept (· = GIO.DI_STAT.word.addr) b (b.mark GIO.DI_STAT.V24_FAULT false) :=
  ⟨Body.flag_mark_same b GIO.DI_STAT.V24_FAULT false 0 0 rfl (by decide),
    RegsKept.put (p := (· = GIO.DI_STAT.word.addr)) (f := GIO.DI_STAT.V24_FAULT) rfl b 0⟩

/-- The oldest relay event, while GIO runs. -/
theorem does_relay {s : State} {e : Ev} {rest : List (Nat × Ev)} {P : Body → Prop} (hp : powered s.body = true)
    (hrun : gioRun s.body = true) (htake : takePort 1 s.body.gio.inbox = some (e, rest))
    (h : P (settle (relayEvent e { s.body with gio := { s.body.gio with inbox := rest } }))) : Does .relay s P := by
  refine does_of_onBody (exec_relay s) hp ?_
  rw [gioTake_oldest hrun htake]
  exact h

/-- Settles O55. A filtered edge moves one input's state and acts by its FUNC; the field supply's fault reads as OPEN on every
supervised input; a relay moves by its own request alone. A zero reference reads INVALID, and the statement's ratios are those of
a reference above 0 (log entry 91); that a standby opens its own relays is log entry 66. -/
theorem inputsAndRelaysFollowTheirRules : Obligations.InputsAndRelaysFollowTheirRules := by
  intro s i k v m old cur e rest hp hi hk run now mode func thread wired put coded ovr nothing moves ratio fills
  have hmay : ∀ x : Bool, relayMay s.body k x = true ↔ moves x := relayMay_iff s.body k
  have hno : ∀ x : Bool, ¬ moves x → relayMay s.body k x = false := fun _ => relayMay_refused
  have hkm : k % 4 = k := Nat.mod_eq_of_lt hk
  refine ⟨fun hrun hmode ⟨hlen, hne⟩ => ⟨fun h => ?_, fun h => ?_, fun h => ?_⟩, fun hrun hmode hv24 ⟨hlen, hne⟩ => ?_,
    fun st hrun hmode hv24 ⟨hlen, hne⟩ h => ?_, fun h => ?_, fun h => ?_, fun h1 h2 => ?_, fun st hrun htaken hst => ?_, ⟨?_, ?_⟩,
    fun h => ?_, fun h => ?_, ?_, fun h => ?_, fun hrun htake => ⟨fun hbad => ?_, fun hgood => ?_⟩, ?_, fun h => ?_,
    ⟨fun hrun hm hsrc => ⟨fun hbusy => ?_, fun hbusy hne => ?_⟩, fun h => ?_⟩, fun h => ?_,
    fun hbusy => ⟨fun x hheld => ?_, fun hheld => ?_⟩,
    fun h => ?_, fun h => ?_⟩
  · exact does_edge_state hp hi hrun (diTaken_of_class (.inl hmode) hlen hne fun d hd => diClass_off hmode (h d hd))
  · exact does_edge_state hp hi hrun (diTaken_of_class (.inl hmode) hlen hne fun d hd => diClass_on hmode (h d hd))
  · exact does_edge hp (gio_of_unchanged (diSamples_nothing (.inr (.inr (diTaken_between hmode hlen hne h)))))
  · exact does_edge_state hp hi hrun (diTaken_of_class (.inr hmode) hlen hne fun d _ => diClass_open hmode hv24 d)
  · refine does_edge_state hp hi hrun (diTaken_of_class (.inr hmode) hlen hne fun d hd w => ?_)
    obtain ⟨href, hratio⟩ := h d hd
    exact (diClass_ratio hmode hv24 href w).trans hratio
  · exact does_edge hp (gio_of_unchanged (diSamples_nothing (.inr (.inl (diTaken_short h)))))
  · exact does_edge hp (gio_of_unchanged (diSamples_nothing h))
  · exact does_edge hp (gio_of_unchanged (diSamples_nothing (.inr (.inl (diTaken_unused h1 h2)))))
  · have hlt := diTaken_lt htaken
    have hsource := diEntered_source hi hlt s.body
    have htakes := diEdge_takes hi hlt hrun hst
    have hdoes : ∀ P : Body → Prop, P (diEdge i st s.body) → (∀ b, P b → P (settle b)) → Does (.diFilteredEdge i m) s P :=
      fun P h hpins => does_edge hp (hpins _ (by rwa [diSamples_takes htaken]))
    refine ⟨hdoes _ ⟨htakes.state, htakes.others, htakes.onAt, htakes.fault⟩ fun _ h => h, fun hf hw => hdoes _ ?_ fun _ h => h,
      fun hf hw => hdoes _ ?_ fun _ h => h, fun hf hplain => hdoes _ ?_ fun _ h => h, fun hf hplain hw => hdoes _ ?_ fun _ h => h⟩
    · rw [diEdge_event hi hlt hrun hst hf]
      exact hsource.event hw st
    · have hin := diEdge_emits hi hlt hrun hst hf hw
      rw [Nat.mod_eq_of_lt (codeOf_lt hi hlt s.body)] at hin
      exact hin
    · exact diEdge_contributes hi hlt hrun hst hf hplain
    · rw [diEdge_override hi hlt hrun hst hf hplain]
      exact hsource.overridden hw _
  · exact fun hdue => does_timeout hp hi hdue
  · exact fun hdue => does_of_onBody (exec_diTimeout i s) hp (gio_of_unchanged (diTimeout_nothing hdue))
  · exact does_of_onBody (exec_diSupply s) hp (diSupply_input hi h)
  · exact does_of_onBody (exec_diSupply s) hp (gio_of_unchanged (if_pos h))
  · exact does_of_unpinned (exec_fieldSupplyRestored s) hp (supplyRestored_clears s.body) fun _ h => h
  · exact does_of_onBody (exec_relay s) hp (gio_of_unchanged (gioTake_nothing h))
  · obtain ⟨hgio, hstate, hcount⟩ := relayEvent_counts hbad k { s.body with gio := { s.body.gio with inbox := rest } }
    exact does_relay hp hrun htake ⟨congrArg Gio.inbox hgio, hstate, hcount⟩
  · obtain ⟨hmove, hhold, hleave⟩ := relayEvent_relay hgood hk { s.body with gio := { s.body.gio with inbox := rest } }
    have hinbox := relayEvent_inbox hgood { s.body with gio := { s.body.gio with inbox := rest } }
    exact ⟨fun hm hn hb => does_relay hp hrun htake ⟨hinbox, hmove hn ((hmay _).2 hm) hb⟩,
      fun hm hn hb => does_relay hp hrun htake ⟨hinbox, hhold hn ((hmay _).2 hm) hb⟩,
      fun h => does_relay hp hrun htake ⟨hinbox, hleave (h.imp_left (hno _))⟩⟩
  · exact does_of_onBody (exec_hostRelayWrite v s) hp (hostRelay_host v s.body)
  · exact does_of_onBody (exec_hostRelayWrite v s) hp (hostRelay_waits h)
  · exact does_of_onBody (exec_hostRelayWrite v s) hp ((hostRelay_relay hk hrun).1 hsrc ((hmay _).2 hm) hbusy)
  · exact does_of_onBody (exec_hostRelayWrite v s) hp ((hostRelay_relay hk hrun).2.1 hsrc ((hmay _).2 hm) hbusy hne)
  · exact does_of_onBody (exec_hostRelayWrite v s) hp (hostRelay_leaves hk (h.imp_left (hno _)))
  · refine does_of_onBody (exec_relayHoldEnd k s) hp (gio_of_unchanged ?_)
    rw [hkm]
    exact if_pos h
  · obtain ⟨hfree, hmove, hleave⟩ := relayHoldEnd_applies hk hbusy hheld
    refine does_of_onBody (exec_relayHoldEnd k s) hp ?_
    rw [hkm]
    exact ⟨hfree, fun hm => hmove ((hmay x).2 hm), fun hm => hleave (hno x hm)⟩
  · refine does_of_onBody (exec_relayHoldEnd k s) hp ?_
    rw [hkm]
    exact relayHoldEnd_none hk hbusy hheld
  · refine does_of_onBody (exec_relayCoil k cur s) hp (gio_of_unchanged ?_)
    rw [hkm]
    exact if_pos h
  · refine does_of_onBody (exec_relayCoil k cur s) hp ?_
    rw [hkm]
    exact relayCoil_fault hk h

end Sys2Proof.Machine
end

section
/-! SUPPORT. Scope: the sign's content (R549): what an event makes of the back buffer, and which events are none. -/

namespace Sys2Proof.Machine

/-! ### One pixel of the back buffer -/

/-- The pixel of the back buffer at row `r`, column `c`. -/
def backPix (b : Body) (r c : Nat) : Nat := b.get GIO.FB_BACK.PIX r (c / 4) / 2 ^ (8 * (c % 4)) % 256

/-- From `b` to `c` the sign's size and the pixel at (`q`, `w`) stand, and all of GIO's own state. -/
structure PixStands (q w : Nat) (b c : Body) : Prop where
  pix : backPix c q w = backPix b q w
  rows : signRows c = signRows b
  cols : signCols c = signCols b
  gio : c.gio = b.gio

theorem PixStands.refl (q w : Nat) (b : Body) : PixStands q w b b := ⟨rfl, rfl, rfl, rfl⟩

theorem PixStands.trans {q w : Nat} {b c e : Body} (h : PixStands q w b c) (g : PixStands q w c e) : PixStands q w b e :=
  ⟨g.pix.trans h.pix, g.rows.trans h.rows, g.cols.trans h.cols, g.gio.trans h.gio⟩

/-- The frame buffers lie above the sign's configuration. -/
theorem backAddr_ne_cfg (r c : Nat) : GIO.SIGN_CFG.word.addr ≠ GIO.FB_BACK.PIX.at r (c / 4) := by
  have h : GIO.SIGN_CFG.word.addr < 0x40A01000 := by decide
  simp only [Fld.at]
  omega

theorem putBack_size (r c v : Nat) (b : Body) :
    signRows (putBack r c v b) = signRows b ∧ signCols (putBack r c v b) = signCols b ∧ (putBack r c v b).gio = b.gio := by
  unfold putBack
  split
  · exact ⟨rfl, rfl, rfl⟩
  · exact ⟨Body.get_put_other _ _ GIO.SIGN_CFG.ROWS _ _ _ _ _ (backAddr_ne_cfg r c),
      Body.get_put_other _ _ GIO.SIGN_CFG.COLS _ _ _ _ _ (backAddr_ne_cfg r c), rfl⟩

theorem putBack_same {r c : Nat} {b : Body} (hr : r < signRows b) (hc : c < signCols b) (v : Nat) :
    backPix (putBack r c v b) r c = v % 256 := by
  unfold putBack
  rw [if_neg (by omega)]
  exact part_insBits_same b GIO.FB_BACK.PIX (l := 8 * (c % 4)) (u := 8) (show 8 * (c % 4) + 8 ≤ 32 by omega) (by decide) v r (c / 4)

/-- Another pixel stands: of the same row, or of another one when both columns lie in their own row's words. -/
theorem putBack_other {r c q w : Nat} (h : (q = r ∧ w ≠ c) ∨ (q ≠ r ∧ w < 64 ∧ c < 64)) (v : Nat) (b : Body) :
    PixStands q w b (putBack r c v b) := by
  obtain ⟨hrows, hcols, hgio⟩ := putBack_size r c v b
  refine ⟨?_, hrows, hcols, hgio⟩
  unfold putBack
  split
  · rfl
  · by_cases hword : GIO.FB_BACK.PIX.at q (w / 4) = GIO.FB_BACK.PIX.at r (c / 4)
    · have hat : q = r ∧ w / 4 = c / 4 := by
        simp only [Fld.at] at hword
        omega
      obtain ⟨rfl, hw⟩ := hat
      unfold backPix
      rw [hw]
      exact part_insBits_other b GIO.FB_BACK.PIX (l := 8 * (c % 4)) (u := 8) (k := 8 * (w % 4)) (t := 8)
        (show 8 * (w % 4) + 8 ≤ 32 by omega) (by decide) (by omega) v q (c / 4)
    · unfold backPix
      rw [Body.get_put_other _ _ _ _ _ _ _ _ hword]

/-! ### Six columns, a rectangle -/

/-- Six columns of row `r` from column `c` on. -/
def putSix (r c : Nat) (v : Nat → Nat) (b : Body) : Body := b.each (List.range 6) fun b k => putBack r (c + k) (v k) b

theorem putSix_pix {r c k : Nat} (hk : k < 6) {v : Nat → Nat} {b : Body} (hr : r < signRows b) (hc : c + k < signCols b) :
    backPix (putSix r c v b) r (c + k) = v k % 256 := by
  obtain ⟨e, hbefore, hafter⟩ := Body.each_at (R := PixStands r (c + k)) (f := fun b j => putBack r (c + j) (v j) b) (.refl _ _)
    (fun _ _ _ => .trans) (fun j e hne => putBack_other (.inl ⟨rfl, by omega⟩) _ e) (List.mem_range.2 hk) List.nodup_range b
  exact hafter.pix.trans (putBack_same (hbefore.rows ▸ hr) (hbefore.cols ▸ hc) _)

theorem putSix_gio (r c : Nat) (v : Nat → Nat) (b : Body) : (putSix r c v b).gio = b.gio :=
  Body.each_keeps (P := fun e => e.gio = b.gio) (fun k e he => (putBack_size r (c + k) (v k) e).2.2.trans he) _ rfl

/-- One row of a rectangle. -/
def fillRow (cs : List Nat) (v : Nat) (b : Body) (r : Nat) : Body := b.each cs fun b c => putBack r c v b

theorem fillRow_other {cs : List Nat} (hcs : ∀ c ∈ cs, c < 64) {r q w : Nat} (hne : q ≠ r) (hw : w < 64) (v : Nat) (b : Body) :
    PixStands q w b (fillRow cs v b r) :=
  Body.each_along (R := PixStands q w) (.refl q w) (fun _ _ _ => .trans)
    (fun c hc e => putBack_other (.inr ⟨hne, hw, hcs c hc⟩) v e) b

theorem fillRow_same {cs : List Nat} (hnd : cs.Nodup) {r c : Nat} (hc : c ∈ cs) {v : Nat} {b : Body} (hr : r < signRows b)
    (hcol : c < signCols b) : backPix (fillRow cs v b r) r c = v % 256 := by
  obtain ⟨e, hbefore, hafter⟩ := Body.each_at (R := PixStands r c) (f := fun b c => putBack r c v b) (.refl _ _)
    (fun _ _ _ => .trans) (fun j e hne => putBack_other (.inl ⟨rfl, hne⟩) _ e) hc hnd b
  exact hafter.pix.trans (putBack_same (hbefore.rows ▸ hr) (hbefore.cols ▸ hcol) v)

/-- A rectangle of the back buffer. -/
def fillRect (rs cs : List Nat) (v : Nat) (b : Body) : Body := b.each rs (fillRow cs v)

theorem fillRect_pix {rs cs : List Nat} (hrs : rs.Nodup) (hcs : cs.Nodup) (hlt : ∀ c ∈ cs, c < 64) {r c v : Nat} {b : Body}
    (hr : r ∈ rs) (hc : c ∈ cs) (hrow : r < signRows b) (hcol : c < signCols b) : backPix (fillRect rs cs v b) r c = v % 256 := by
  obtain ⟨e, hbefore, hafter⟩ := Body.each_at (R := PixStands r c) (.refl _ _) (fun _ _ _ => .trans)
    (fun j e hne => fillRow_other hlt hne (hlt c hc) v e) hr hrs b
  exact hafter.pix.trans (fillRow_same hcs hc (hbefore.rows ▸ hrow) (hbefore.cols ▸ hcol))

theorem fillRect_gio (rs cs : List Nat) (v : Nat) (b : Body) : (fillRect rs cs v b).gio = b.gio :=
  Body.each_keeps (P := fun e => e.gio = b.gio) (fun r _ he =>
    Body.each_keeps (P := fun e => e.gio = b.gio) (fun c e he => (putBack_size r c v e).2.2.trans he) cs he) rs rfl

/-! ### An event -/

theorem signContent_six {e : Ev} (htag : e.tag = 0) (h : bits e.payload 10 6 = 0) (b : Body) : signContent e b =
    putSix (bits e.payload 0 4) (bits e.payload 4 6) (fun k => bits e.payload (16 + 8 * k) 8) b := by
  unfold signContent
  dsimp only
  rw [if_pos htag, if_neg (not_not.2 h)]
  rfl

/-- The rows of a fill. -/
def fillRows (p : Nat) : List Nat := (List.range 16).filter fun r => decide (bits p 0 4 ≤ r ∧ r ≤ bits p 4 4)
/-- The columns of a fill. -/
def fillCols (p : Nat) : List Nat := (List.range 64).filter fun c => decide (bits p 8 6 ≤ c ∧ c ≤ bits p 14 6)

theorem fillRows_nodup (p : Nat) : (fillRows p).Nodup := List.nodup_range.filter _
theorem fillCols_nodup (p : Nat) : (fillCols p).Nodup := List.nodup_range.filter _

theorem signContent_fill {e : Ev} (htag : e.tag = 1) (h : bits e.payload 28 36 = 0) (b : Body) :
    signContent e b = fillRect (fillRows e.payload) (fillCols e.payload) (bits e.payload 20 8) b := by
  unfold signContent
  dsimp only
  rw [if_neg (by omega), if_pos htag, if_neg (not_not.2 h)]
  rfl

theorem signContent_commit {e : Ev} (htag : e.tag = 2) (h : e.payload = 0) (b : Body) :
    signContent e b = { b with gio := { b.gio with commitDue := true } } := by
  unfold signContent
  dsimp only
  rw [if_neg (by omega), if_neg (by omega), if_pos htag, if_neg (not_not.2 h)]

/-- A payload that is none of R549: reserved bits set, or no tag of its own. -/
def contentBad (e : Ev) : Prop :=
  (e.tag = 0 ∧ bits e.payload 10 6 ≠ 0) ∨ (e.tag = 1 ∧ bits e.payload 28 36 ≠ 0) ∨ (e.tag = 2 ∧ e.payload ≠ 0) ∨ 2 < e.tag

theorem signContent_bad {e : Ev} (h : contentBad e) (b : Body) : signContent e b = b.bump GIO.COUNT.BAD_EVENT := by
  unfold signContent
  dsimp only
  rcases h with ⟨htag, h⟩ | ⟨htag, h⟩ | ⟨htag, h⟩ | htag
  · rw [if_pos htag, if_pos h]
  · rw [if_neg (by omega), if_pos htag, if_pos h]
  · rw [if_neg (by omega), if_neg (by omega), if_pos htag, if_pos h]
  · rw [if_neg (by omega), if_neg (by omega), if_neg (by omega)]

/-- A pixel of a fill's rectangle. -/
theorem signContent_fillPix {e : Ev} (htag : e.tag = 1) (h : bits e.payload 28 36 = 0) {r c : Nat} {b : Body}
    (hr1 : bits e.payload 0 4 ≤ r) (hr2 : r ≤ bits e.payload 4 4) (hc1 : bits e.payload 8 6 ≤ c) (hc2 : c ≤ bits e.payload 14 6)
    (hrow : r < signRows b) (hcol : c < signCols b) : backPix (signContent e b) r c = bits e.payload 20 8 := by
  have hr : r ∈ fillRows e.payload := by
    have hlt : bits e.payload 4 4 < 16 := Nat.mod_lt _ (by decide)
    exact List.mem_filter.2 ⟨List.mem_range.2 (by omega), decide_eq_true ⟨hr1, hr2⟩⟩
  have hc : c ∈ fillCols e.payload := by
    have hlt : bits e.payload 14 6 < 64 := Nat.mod_lt _ (by decide)
    exact List.mem_filter.2 ⟨List.mem_range.2 (by omega), decide_eq_true ⟨hc1, hc2⟩⟩
  have hcols : ∀ c ∈ fillCols e.payload, c < 64 := fun c hc => List.mem_range.1 (List.mem_of_mem_filter hc)
  rw [signContent_fill htag h, fillRect_pix (fillRows_nodup _) (fillCols_nodup _) hcols hr hc hrow hcol]
  exact Nat.mod_mod _ _

/-- A pixel of six columns. -/
theorem signContent_sixPix {e : Ev} (htag : e.tag = 0) (h : bits e.payload 10 6 = 0) {k : Nat} (hk : k < 6) {b : Body}
    (hrow : bits e.payload 0 4 < signRows b) (hcol : bits e.payload 4 6 + k < signCols b) :
    backPix (signContent e b) (bits e.payload 0 4) (bits e.payload 4 6 + k) = bits e.payload (16 + 8 * k) 8 := by
  rw [signContent_six htag h, putSix_pix hk hrow hcol]
  exact Nat.mod_mod _ _

end Sys2Proof.Machine
end

section
/-! SUPPORT. Scope: a frame of the sign (R546, R550, R552, R557): what its checks leave alone, the copy, and the temperature. -/

namespace Sys2Proof.Machine

/-! ### SIGN_STATUS and the factor -/

/-- An event touches CLK_STAT alone. -/
theorem emitEv_only (src port p tag : Nat) (b : Body) :
    RegsKept (· = SYS.CLK_STAT.word.addr) b (emitEv src port p tag b) ∧ (emitEv src port p tag b).gio = b.gio := by
  unfold emitEv
  dsimp only
  split
  · exact ⟨.refl b, rfl⟩
  · exact ⟨RegsKept.put (p := (· = SYS.CLK_STAT.word.addr)) (f := SYS.CLK_STAT.GATED) rfl b 0, rfl⟩

/-- SIGN_STATUS touches CLK_STAT and what it sent last. -/
theorem signStatus_only (b : Body) :
    RegsKept (· = SYS.CLK_STAT.word.addr) b (signStatus b) ∧ ∃ x, (signStatus b).gio = { b.gio with status := x } := by
  have hstatus : ∀ x, RegsKept (· = SYS.CLK_STAT.word.addr) b { b with gio := { b.gio with status := x } } := fun x => .of_regs rfl
  unfold signStatus
  dsimp only
  split
  · exact ⟨.refl b, b.gio.status, rfl⟩
  · split
    · exact ⟨.refl b, b.gio.status, rfl⟩
    · exact ⟨(hstatus _).trans (emitEv_only _ _ _ _ _).1, _, (emitEv_only _ _ _ _ _).2⟩

theorem signFactor_only (b : Body) : RegsKept (· = GIO.SIGN_FACT.word.addr) b (signFactor b) ∧ (signFactor b).gio = b.gio :=
  ⟨RegsKept.put (p := (· = GIO.SIGN_FACT.word.addr)) (f := GIO.SIGN_FACT.G) rfl b _, rfl⟩

/-! ### What a frame's checks leave alone -/

/-- The two frame buffers. -/
abbrev frameReg (a : Nat) : Prop := 0x40A01000 ≤ a ∧ a < 0x40A01800

/-- From `b` to `c` the frame buffers, the sign's size, what waits for the frame, the row scanned and the temperature's flags stand. -/
structure FrameKeeps (b c : Body) : Prop where
  frames : ∀ a, frameReg a → c.word a = b.word a
  rows : signRows c = signRows b
  commit : c.gio.commitDue = b.gio.commitDue
  clear : c.gio.clearDue = b.gio.clearDue
  row : c.gio.row = b.gio.row
  fault : c.flag GIO.SIGN_STAT.NTC_FAULT = b.flag GIO.SIGN_STAT.NTC_FAULT
  temp : c.get GIO.SIGN_STAT.TEMP_C = b.get GIO.SIGN_STAT.TEMP_C

theorem FrameKeeps.refl (b : Body) : FrameKeeps b b := ⟨fun _ _ => rfl, rfl, rfl, rfl, rfl, rfl, rfl⟩

theorem FrameKeeps.trans {b c e : Body} (h : FrameKeeps b c) (g : FrameKeeps c e) : FrameKeeps b e :=
  ⟨fun a ha => (g.frames a ha).trans (h.frames a ha), g.rows.trans h.rows, g.commit.trans h.commit, g.clear.trans h.clear,
    g.row.trans h.row, g.fault.trans h.fault, g.temp.trans h.temp⟩

theorem FrameKeeps.each {α : Type} {f : Body → α → Body} (h : ∀ x c, FrameKeeps c (f c x)) (l : List α) (b : Body) :
    FrameKeeps b (b.each l f) :=
  Body.each_keeps (P := FrameKeeps b) (fun x c hc => hc.trans (h x c)) l (.refl b)

/-- The registers that such a step may write: none of the frame buffers, the sign's size or its state. -/
abbrev frameFree (a : Nat) : Prop := ¬ frameReg a ∧ a ≠ GIO.SIGN_CFG.word.addr ∧ a ≠ GIO.SIGN_STAT.word.addr

theorem FrameKeeps.of_regs {p : Nat → Prop} {b c : Body} (h : RegsKept p b c) (hp : ∀ a, p a → frameFree a)
    (hcommit : c.gio.commitDue = b.gio.commitDue) (hclear : c.gio.clearDue = b.gio.clearDue) (hrow : c.gio.row = b.gio.row) :
    FrameKeeps b c := by
  have hcfg : ¬ p GIO.SIGN_CFG.word.addr := fun hc => (hp _ hc).2.1 rfl
  have hstat : ¬ p GIO.SIGN_STAT.word.addr := fun hc => (hp _ hc).2.2 rfl
  exact ⟨fun a ha => h a fun hc => (hp a hc).1 ha, h.get (f := GIO.SIGN_CFG.ROWS) hcfg, hcommit, hclear, hrow,
    h.flag (f := GIO.SIGN_STAT.NTC_FAULT) hstat, h.get (f := GIO.SIGN_STAT.TEMP_C) hstat⟩

theorem FrameKeeps.put {f : Fld} {i j : Nat} (hf : frameFree (f.at i j)) (b : Body) (v : Nat) : FrameKeeps b (b.put f v i j) :=
  .of_regs (RegsKept.put (p := (· = f.at i j)) rfl b v) (fun _ ha => ha ▸ hf) rfl rfl rfl

/-- A flag of SIGN_STAT below the temperature's. -/
theorem FrameKeeps.stat {f : Fld} (ha : f.at 0 0 = GIO.SIGN_STAT.word.addr) (hf : f.lo + f.w ≤ 5) (b : Body) (v : Bool) :
    FrameKeeps b (b.mark f v) := by
  have hne : ∀ a, frameReg a → a ≠ f.at 0 0 := fun a h e => by
    rw [ha] at e
    exact absurd (e ▸ h) (by decide)
  exact ⟨fun a h => Body.word_put_other _ _ _ _ _ (hne a h), Body.get_put_other _ _ GIO.SIGN_CFG.ROWS _ _ _ _ _ (by rw [ha]; decide),
    rfl, rfl, rfl, Body.flag_put_bits _ _ GIO.SIGN_STAT.NTC_FAULT _ _ _ _ _ ha.symm (by omega) (.inr hf),
    Body.get_put_bits _ _ GIO.SIGN_STAT.TEMP_C _ _ _ _ _ ha.symm (by omega) (.inr (by simp only; omega))⟩

theorem pixOpen_free {r c : Nat} : frameFree (GIO.PIX_OPEN.OPEN.at r c) := by
  have hcfg : GIO.SIGN_CFG.word.addr < 0x40A01800 := by decide
  have hstat : GIO.SIGN_STAT.word.addr < 0x40A01800 := by decide
  have hat : 0x40A01800 ≤ GIO.PIX_OPEN.OPEN.at r c := by simp only [Fld.at]; omega
  exact ⟨fun h => by omega, by omega, by omega⟩

theorem raise_frameKeeps {code a0 : Nat} (hsev : severityOf code a0 < 3) (a1 : Nat) (b : Body) : FrameKeeps b (raise code a0 a1 b) := by
  have hgio := (raise_stands hsev a1 b).gio
  refine .of_regs (raise_frame hsev a1 b).2 (fun a ha => ?_) (by rw [hgio]) (by rw [hgio]) (by rw [hgio])
  have hcfg : GIO.SIGN_CFG.word.addr < 0x40D00000 := by decide
  have hstat : GIO.SIGN_STAT.word.addr < 0x40D00000 := by decide
  unfold errorReg at ha
  exact ⟨fun h => by omega, by omega, by omega⟩

theorem pixChecked_keeps (cur : List (Nat × Nat)) (p : Nat × Nat) (b : Body) : FrameKeeps b (pixChecked cur b p) := by
  unfold pixChecked
  dsimp only
  split
  · split
    · exact .refl b
    · exact (FrameKeeps.put pixOpen_free b _).trans (raise_frameKeeps (by simp [severityOf]) _ _)
  · exact ⟨fun _ _ => rfl, rfl, rfl, rfl, rfl, rfl, rfl⟩

theorem agesFollow_keeps (b : Body) : FrameKeeps b (agesFollow b) := by
  unfold agesFollow
  refine .each (fun f c => ?_) _ b
  dsimp only
  split
  · exact .refl c
  · exact ⟨fun _ _ => rfl, rfl, rfl, rfl, rfl, rfl, rfl⟩

/-- A row's supply setpoint. -/
theorem vrow_free {r : Nat} (hr : r < 256) : frameFree (GIO.SIGN_VROW.MV.at r 0) := by
  have hcfg : GIO.SIGN_CFG.word.addr < 0x40A00380 := by decide
  have hstat : GIO.SIGN_STAT.word.addr < 0x40A00380 := by decide
  have hat : 0x40A00380 ≤ GIO.SIGN_VROW.MV.at r 0 ∧ GIO.SIGN_VROW.MV.at r 0 < 0x40A01000 := by simp only [Fld.at]; omega
  exact ⟨fun h => by omega, by omega, by omega⟩

theorem signRows_lt (b : Body) : signRows b < 256 := b.get_lt GIO.SIGN_CFG.ROWS 0 0

theorem signSupply_keeps (head : List (Nat × Nat)) (b : Body) : FrameKeeps b (signSupply head b) := by
  have hlow : ∀ (runs : List (Nat × Nat)) (low : Bool), FrameKeeps b
      (if low then { b with gio := { b.gio with lowRun := runs } }.mark GIO.SIGN_STAT.COMPLIANCE true
        else { b with gio := { b.gio with lowRun := runs } }) := by
    intro runs low
    have hruns : FrameKeeps b { b with gio := { b.gio with lowRun := runs } } := ⟨fun _ _ => rfl, rfl, rfl, rfl, rfl, rfl, rfl⟩
    split
    · exact hruns.trans (.stat (f := GIO.SIGN_STAT.COMPLIANCE) rfl (by decide) _ true)
    · exact hruns
  unfold signSupply
  refine FrameKeeps.trans (hlow _ _) (Body.each_along FrameKeeps.refl (fun _ _ _ => .trans) (fun r hr c => ?_) _)
  split
  · exact .refl c
  · exact .put (vrow_free ((List.mem_range.1 hr).trans (signRows_lt _))) c _

theorem blankFollow_keeps (b : Body) : FrameKeeps b (blankFollow b) := by
  have hwhole : ∀ c : Body, FrameKeeps c (c.mark GIO.SIGN_STAT.WHOLE_BLANK true) := fun c => .stat rfl (by decide) c true
  have hfields : ∀ (opens : List (Nat × Nat)) (c : Body), FrameKeeps c (c.each (signFields c) fun b f =>
      if opens.any fun p => inField b f p.1 p.2 then b.setBit GIO.SIGN_BLANK.FIELD f true else b) := by
    intro opens c
    refine .each (fun f e => ?_) _ c
    split
    · exact .put (by decide) e _
    · exact .refl e
  unfold blankFollow
  dsimp only
  split
  · exact .refl b
  · split
    · exact hwhole b
    · split
      · exact (hfields _ b).trans (hwhole _)
      · exact hfields _ b

theorem signStatus_keeps (b : Body) : FrameKeeps b (signStatus b) := by
  obtain ⟨hregs, x, hgio⟩ := signStatus_only b
  exact .of_regs hregs (fun _ ha => ha ▸ by decide) (by rw [hgio]) (by rw [hgio]) (by rw [hgio])

end Sys2Proof.Machine
end

section
/-! SUPPORT. Scope: a frame's start (R550, R552, R557) and a stretched row (R556). -/

namespace Sys2Proof.Machine

/-! ### The temperature -/

/-- The reading and its flags, and the factor that follows (R552). -/
def tempShown (t : Int) (bad thermal : Bool) (b : Body) : Body :=
  signFactor (((b.mark GIO.SIGN_STAT.NTC_FAULT bad).mark GIO.SIGN_STAT.THERMAL thermal).put GIO.SIGN_STAT.TEMP_C (uns 9 t))

theorem signTemp_eq (t : Int) (b : Body) : ∃ d hot thermal, signTemp t b =
    tempShown t (decide (t < -40) || decide (150 < t)) thermal { b with gio := { b.gio with dT := d, hot := hot } } := ⟨_, _, _, rfl⟩

theorem uns_lt (w : Nat) (i : Int) : uns w i < 2 ^ w := by
  have hpos : (0 : Int) < (2 ^ w : Nat) := by positivity
  have hlt : i % (2 ^ w : Nat) < (2 ^ w : Nat) := Int.emod_lt_of_pos _ hpos
  unfold uns
  omega

theorem tempShown_shows (t : Int) (bad thermal : Bool) (b : Body) :
    (tempShown t bad thermal b).flag GIO.SIGN_STAT.NTC_FAULT = bad ∧ (tempShown t bad thermal b).get GIO.SIGN_STAT.TEMP_C = uns 9 t := by
  have hfactor := fun f : Fld => fun hf : f.at 0 0 ≠ GIO.SIGN_FACT.word.addr =>
    (signFactor_only (((b.mark GIO.SIGN_STAT.NTC_FAULT bad).mark GIO.SIGN_STAT.THERMAL thermal).put
      GIO.SIGN_STAT.TEMP_C (uns 9 t))).1.get hf
  have hthermal : ∀ c : Body, (c.mark GIO.SIGN_STAT.THERMAL thermal).flag GIO.SIGN_STAT.NTC_FAULT = c.flag GIO.SIGN_STAT.NTC_FAULT :=
    fun c => Body.flag_put_bits _ _ _ _ _ _ _ _ rfl (by decide) (by decide)
  have htemp : ∀ c : Body, (c.put GIO.SIGN_STAT.TEMP_C (uns 9 t)).flag GIO.SIGN_STAT.NTC_FAULT = c.flag GIO.SIGN_STAT.NTC_FAULT :=
    fun c => Body.flag_put_bits _ _ _ _ _ _ _ _ rfl (by decide) (by decide)
  unfold tempShown
  constructor
  · rw [Body.flag_of_get (hfactor GIO.SIGN_STAT.NTC_FAULT (by decide)), htemp, hthermal]
    exact Body.flag_mark_same b _ bad 0 0 rfl (by decide)
  · rw [hfactor GIO.SIGN_STAT.TEMP_C (by decide), Body.get_put_same _ _ _ _ _ (by decide)]
    exact Nat.mod_eq_of_lt (uns_lt 9 t)

/-- The registers of the sign's state and of its factor. -/
abbrev tempReg (a : Nat) : Prop := a = GIO.SIGN_STAT.word.addr ∨ a = GIO.SIGN_FACT.word.addr

theorem tempShown_regs (t : Int) (bad thermal : Bool) (b : Body) : RegsKept tempReg b (tempShown t bad thermal b) := by
  have hbad : ∀ c : Body, RegsKept tempReg c (c.mark GIO.SIGN_STAT.NTC_FAULT bad) := fun c => RegsKept.put (.inl rfl) c _
  have hthermal : ∀ c : Body, RegsKept tempReg c (c.mark GIO.SIGN_STAT.THERMAL thermal) := fun c => RegsKept.put (.inl rfl) c _
  have htemp : ∀ c : Body, RegsKept tempReg c (c.put GIO.SIGN_STAT.TEMP_C (uns 9 t)) := fun c => RegsKept.put (.inl rfl) c _
  have hfactor : ∀ c : Body, RegsKept tempReg c (signFactor c) := fun c => (signFactor_only c).1.mono fun _ => .inr
  exact (((hbad b).trans (hthermal _)).trans (htemp _)).trans (hfactor _)

theorem tempShown_gio (t : Int) (bad thermal : Bool) (b : Body) : (tempShown t bad thermal b).gio = b.gio := by
  have hbad := Stands.mark b GIO.SIGN_STAT.NTC_FAULT bad 0 0
  have hthermal := hbad.trans (Stands.mark _ GIO.SIGN_STAT.THERMAL thermal 0 0)
  have htemp := hthermal.trans (Stands.put _ GIO.SIGN_STAT.TEMP_C (uns 9 t) 0 0)
  unfold tempShown
  rw [(signFactor_only _).2, htemp.gio]

/-! ### The copy -/

/-- From `b` to `c` the back buffer stands and the word `w` of row `q` of the front buffer. -/
structure FrontStands (q w : Nat) (b c : Body) : Prop where
  front : c.get GIO.FB_FRONT.PIX q w = b.get GIO.FB_FRONT.PIX q w
  back : c.get GIO.FB_BACK.PIX q w = b.get GIO.FB_BACK.PIX q w

theorem FrontStands.refl (q w : Nat) (b : Body) : FrontStands q w b b := ⟨rfl, rfl⟩

theorem FrontStands.trans {q w : Nat} {b c e : Body} (h : FrontStands q w b c) (g : FrontStands q w c e) : FrontStands q w b e :=
  ⟨g.front.trans h.front, g.back.trans h.back⟩

/-- A word of the back buffer goes to the front. -/
def copyWord (r : Nat) (b : Body) (w : Nat) : Body := b.put GIO.FB_FRONT.PIX (b.get GIO.FB_BACK.PIX r w) r w

theorem copyWord_other {r v q w : Nat} (hq : q < 16) (hw : w < 16) (h : (q = r ∧ w ≠ v) ∨ (q ≠ r ∧ v < 16)) (b : Body) :
    FrontStands q w b (copyWord r b v) := by
  have hfront : GIO.FB_FRONT.PIX.at q w ≠ GIO.FB_FRONT.PIX.at r v := by simp only [Fld.at]; omega
  have hback : GIO.FB_BACK.PIX.at q w ≠ GIO.FB_FRONT.PIX.at r v := by simp only [Fld.at]; omega
  exact ⟨Body.get_put_other _ _ _ _ _ _ _ _ hfront, Body.get_put_other _ _ _ _ _ _ _ _ hback⟩

theorem copyWord_same (r w : Nat) (b : Body) : (copyWord r b w).get GIO.FB_FRONT.PIX r w = b.get GIO.FB_BACK.PIX r w := by
  unfold copyWord
  rw [Body.get_put_same _ _ _ _ _ (by decide)]
  exact Nat.mod_eq_of_lt (b.get_lt GIO.FB_BACK.PIX r w)

/-- A row of the back buffer goes to the front. -/
def copyRow (b : Body) (r : Nat) : Body := b.each (List.range 16) (copyWord r)

theorem copyRow_other {r q w : Nat} (hq : q < 16) (hw : w < 16) (hne : q ≠ r) (b : Body) : FrontStands q w b (copyRow b r) :=
  Body.each_along (R := FrontStands q w) (.refl q w) (fun _ _ _ => .trans)
    (fun _ hv c => copyWord_other hq hw (.inr ⟨hne, List.mem_range.1 hv⟩) c) b

theorem copyRow_same {q w : Nat} (hq : q < 16) (hw : w < 16) (b : Body) :
    (copyRow b q).get GIO.FB_FRONT.PIX q w = b.get GIO.FB_BACK.PIX q w := by
  obtain ⟨e, hbefore, hafter⟩ := Body.each_at (R := FrontStands q w) (.refl q w) (fun _ _ _ => .trans)
    (fun v c hne => copyWord_other (r := q) hq hw (.inl ⟨rfl, hne⟩) c) (List.mem_range.2 hw) List.nodup_range b
  exact hafter.front.trans ((copyWord_same q w e).trans hbefore.back)

theorem copyFront_pix {q w : Nat} (hq : q < 16) (hw : w < 16) (b : Body) :
    (copyFront b).get GIO.FB_FRONT.PIX q w = b.get GIO.FB_BACK.PIX q w := by
  obtain ⟨e, hbefore, hafter⟩ := Body.each_at (R := FrontStands q w) (f := copyRow) (.refl q w) (fun _ _ _ => .trans)
    (fun r c hne => copyRow_other hq hw hne c) (List.mem_range.2 hq) List.nodup_range b
  exact hafter.front.trans ((copyRow_same hq hw e).trans hbefore.back)

theorem copyFront_only (b : Body) : RegsKept frameReg b (copyFront b) ∧ (copyFront b).gio = b.gio := by
  have hword : ∀ r, r < 16 → ∀ w, w < 16 → ∀ c : Body, RegsKept frameReg c (copyWord r c w) ∧ (copyWord r c w).gio = c.gio := by
    intro r hr w hw c
    have hat : frameReg (GIO.FB_FRONT.PIX.at r w) := by simp only [Fld.at]; omega
    exact ⟨RegsKept.put hat c _, rfl⟩
  have htrans : ∀ b c e : Body, RegsKept frameReg b c ∧ c.gio = b.gio → RegsKept frameReg c e ∧ e.gio = c.gio →
      RegsKept frameReg b e ∧ e.gio = b.gio := fun _ _ _ h g => ⟨h.1.trans g.1, g.2.trans h.2⟩
  have hrefl : ∀ b : Body, RegsKept frameReg b b ∧ b.gio = b.gio := fun b => ⟨.refl b, rfl⟩
  exact Body.each_along (R := fun b c => RegsKept frameReg b c ∧ c.gio = b.gio) hrefl htrans (fun r hr c =>
    Body.each_along (R := fun b c => RegsKept frameReg b c ∧ c.gio = b.gio) hrefl htrans (fun w hw e =>
      hword r (List.mem_range.1 hr) w (List.mem_range.1 hw) e) c) b

/-! ### CLEAR_OPEN -/

theorem clearOpens_keeps (b : Body) : FrameKeeps b (clearOpens b) := by
  have hrow : ∀ (r : Nat) (c : Body), FrameKeeps c ((c.put GIO.PIX_OPEN.OPEN 0 r 0).put GIO.PIX_OPEN.OPEN 0 r 1) := fun r c =>
    (FrameKeeps.put pixOpen_free c 0).trans (.put pixOpen_free _ 0)
  have hblank : ∀ c : Body, FrameKeeps c (c.put GIO.SIGN_BLANK.FIELD 0) := fun c => .put (by decide) c 0
  have hwhole : ∀ c : Body, FrameKeeps c (c.mark GIO.SIGN_STAT.WHOLE_BLANK false) := fun c => .stat rfl (by decide) c false
  unfold clearOpens
  exact ((FrameKeeps.each hrow _ b).trans (hblank _)).trans (hwhole _)

/-! ### The frame's start -/

/-- What the frame that ends showed is judged. -/
def frameJudged (m : SignMeas) (b : Body) : Body :=
  if signOn b then
    agesFollow (signSupply m.head (b.each ((allPix b).filter fun p => pixLit b p.1 p.2 && decide (500 ≤ onTime b p.1 p.2))
      (pixChecked m.cur)))
  else b

/-- A waiting commit takes effect (R550). -/
def frameCopied (b : Body) : Body :=
  if b.gio.commitDue then copyFront { b with gio := { b.gio with commitDue := false } } else b

/-- A waiting CLEAR_OPEN takes effect (R557). -/
def frameCleared (b : Body) : Body :=
  if b.gio.clearDue then clearOpens { b with gio := { b.gio with clearDue := false } } else b

theorem signFrame_starts {m : SignMeas} {b : Body} (hrun : gioRun b = true) (hrows : signRows b ≠ 0) :
    signFrame m b = signStatus (blankFollow (frameCleared (frameCopied (signTemp m.temp (frameJudged m b))))) := by
  unfold signFrame
  rw [if_neg]
  · rfl
  · simp [hrun, hrows]

theorem signFrame_idle {m : SignMeas} {b : Body} (h : gioRun b = false ∨ signRows b = 0) : signFrame m b = b :=
  if_pos (by rcases h with h | h <;> simp [h])

theorem frameJudged_keeps (m : SignMeas) (b : Body) : FrameKeeps b (frameJudged m b) := by
  unfold frameJudged
  split
  · exact ((FrameKeeps.each (fun p c => pixChecked_keeps m.cur p c) _ b).trans (signSupply_keeps _ _)).trans (agesFollow_keeps _)
  · exact .refl b

theorem frameCopied_copies (b : Body) : (frameCopied b).gio.commitDue = false ∧ (frameCopied b).gio.clearDue = b.gio.clearDue ∧
    RegsKept frameReg b (frameCopied b) ∧ ∀ q w, q < 16 → w < 16 → (frameCopied b).get GIO.FB_FRONT.PIX q w =
      if b.gio.commitDue then b.get GIO.FB_BACK.PIX q w else b.get GIO.FB_FRONT.PIX q w := by
  unfold frameCopied
  split
  · obtain ⟨hregs, hgio⟩ := copyFront_only { b with gio := { b.gio with commitDue := false } }
    rw [hgio]
    exact ⟨rfl, rfl, hregs, fun q w hq hw => copyFront_pix hq hw _⟩
  · rename_i h
    exact ⟨Bool.eq_false_iff.2 h, rfl, .refl b, fun _ _ _ _ => rfl⟩

theorem frameCleared_clears (b : Body) : (frameCleared b).gio.clearDue = false ∧ (frameCleared b).gio.commitDue = b.gio.commitDue ∧
    (∀ a, frameReg a → (frameCleared b).word a = b.word a) ∧
    (frameCleared b).flag GIO.SIGN_STAT.NTC_FAULT = b.flag GIO.SIGN_STAT.NTC_FAULT ∧
    (frameCleared b).get GIO.SIGN_STAT.TEMP_C = b.get GIO.SIGN_STAT.TEMP_C := by
  unfold frameCleared
  split
  · have hkeeps := clearOpens_keeps { b with gio := { b.gio with clearDue := false } }
    exact ⟨hkeeps.clear, hkeeps.commit, hkeeps.frames, hkeeps.fault, hkeeps.temp⟩
  · rename_i h
    exact ⟨Bool.eq_false_iff.2 h, rfl, fun _ _ => rfl, rfl, rfl⟩

/-- A frame starts: nothing waits any longer, the temperature shows, and the front buffer is what it is to be. -/
theorem signFrame_shows {m : SignMeas} {b : Body} (hrun : gioRun b = true) (hrows : signRows b ≠ 0) :
    (signFrame m b).gio.commitDue = false ∧ (signFrame m b).gio.clearDue = false ∧
    (signFrame m b).flag GIO.SIGN_STAT.NTC_FAULT = (decide (m.temp < -40) || decide (150 < m.temp)) ∧
    (signFrame m b).get GIO.SIGN_STAT.TEMP_C = uns 9 m.temp ∧
    ∀ q w, q < 16 → w < 16 → (signFrame m b).get GIO.FB_FRONT.PIX q w =
      if b.gio.commitDue then b.get GIO.FB_BACK.PIX q w else b.get GIO.FB_FRONT.PIX q w := by
  have hjudged := frameJudged_keeps m b
  rw [signFrame_starts hrun hrows]
  generalize frameJudged m b = c at hjudged ⊢
  obtain ⟨d, hot, thermal, htemp⟩ := signTemp_eq m.temp c
  rw [htemp]
  obtain ⟨hfault, hread⟩ := tempShown_shows m.temp (decide (m.temp < -40) || decide (150 < m.temp)) thermal
    { c with gio := { c.gio with dT := d, hot := hot } }
  have hregs := tempShown_regs m.temp (decide (m.temp < -40) || decide (150 < m.temp)) thermal
    { c with gio := { c.gio with dT := d, hot := hot } }
  have hgio := tempShown_gio m.temp (decide (m.temp < -40) || decide (150 < m.temp)) thermal
    { c with gio := { c.gio with dT := d, hot := hot } }
  generalize tempShown m.temp (decide (m.temp < -40) || decide (150 < m.temp)) thermal
    { c with gio := { c.gio with dT := d, hot := hot } } = e at hfault hread hregs hgio ⊢
  have hframes : ∀ a, frameReg a → e.word a = b.word a := by
    intro a ha
    refine (hregs a ?_).trans (hjudged.frames a ha)
    rintro (rfl | rfl) <;> exact absurd ha (by decide)
  have hcommit : e.gio.commitDue = b.gio.commitDue := by rw [hgio]; exact hjudged.commit
  obtain ⟨hdone, hcl, hcopied, hpix⟩ := frameCopied_copies e
  obtain ⟨hcleared, hstill, hfront, hfault', hread'⟩ := frameCleared_clears (frameCopied e)
  have hlast := (blankFollow_keeps (frameCleared (frameCopied e))).trans (signStatus_keeps _)
  refine ⟨hlast.commit.trans (hstill.trans hdone), hlast.clear.trans hcleared, ?_, ?_, fun q w hq hw => ?_⟩
  · exact hlast.fault.trans (hfault'.trans ((hcopied.flag (by decide)).trans hfault))
  · exact hlast.temp.trans (hread'.trans ((hcopied.get (by decide)).trans hread))
  · have hin : frameReg (GIO.FB_FRONT.PIX.at q w) ∧ frameReg (GIO.FB_BACK.PIX.at q w) := by simp only [Fld.at]; omega
    have hget : ∀ {b c : Body} {f : Fld}, c.word (f.at q w) = b.word (f.at q w) → c.get f q w = b.get f q w := by
      intro b c f h
      unfold Body.get
      rw [h]
    rw [hget (hlast.frames _ hin.1), hget (hfront _ hin.1), hpix q w hq hw, hcommit, hget (hframes _ hin.1), hget (hframes _ hin.2)]

/-! ### A stretched row -/

theorem rowStretch_next {cur : List (Nat × Nat)} {b : Body} (h : signOn b = true) :
    (rowStretch cur b).gio.row = (b.gio.row % signRows b + 1) % signRows b := by
  have hchecked : ∀ l : List (Nat × Nat), FrameKeeps b
      (b.each l (pixChecked (cur.map fun x => (64 * (b.gio.row % signRows b) + x.1, x.2)))) :=
    fun l => .each (fun p c => pixChecked_keeps _ p c) l b
  unfold rowStretch
  rw [if_neg (by simp [h]), (agesFollow_keeps _).row]
  exact congrArg (fun n => (b.gio.row % signRows b + 1) % n) (hchecked _).rows

end Sys2Proof.Machine
end

section
/-! SUPPORT. Scope: the sign's power (R553, R71), its colour (R554) and its port (R560). -/

namespace Sys2Proof.Machine

/-! ### Power -/

/-- The cap in force: the runtime's by the ambient temperature in Basic mode, else the register's (R71, R562). -/
def capOf (amb : Int) (b : Body) : Nat := if expert b 6 then b.get GIO.SIGN_PWR.CAP_DW else if 60 < amb then 80 else 120

/-- The budget factor after a second of mean power `p` (R553). -/
def budgetOf (p cap dP : Nat) : Nat := if cap < p then dP * cap / p else if 10 * p < 9 * cap then min 65536 (dP + 655) else dP

/-- The ambient's class and the cap it gives. -/
def powerCapped (amb : Int) (b : Body) : Body :=
  if expert b 6 then { b with gio := { b.gio with ambHot := decide (60 < amb) } }
  else signCap { b with gio := { b.gio with ambHot := decide (60 < amb) } }

theorem powerCapped_cap (amb : Int) (b : Body) :
    (powerCapped amb b).get GIO.SIGN_PWR.CAP_DW = capOf amb b ∧ (powerCapped amb b).gio.dP = b.gio.dP := by
  unfold powerCapped capOf
  split
  · exact ⟨rfl, rfl⟩
  · refine ⟨?_, rfl⟩
    unfold signCap
    rw [Body.get_put_same _ _ _ _ _ (by decide)]
    by_cases hhot : 60 < amb <;> simp [hhot]

/-- The power's register after the reading. -/
def powerShown (p : Nat) (amb : Int) (b : Body) : Body := (powerCapped amb b).put GIO.SIGN_PWR.P_DW (min p 65535)

theorem putPower_shows (b : Body) {w : Nat} (h : w < 2 ^ 16) : (b.put GIO.SIGN_PWR.P_DW w).get GIO.SIGN_PWR.P_DW = w ∧
    (b.put GIO.SIGN_PWR.P_DW w).get GIO.SIGN_PWR.CAP_DW = b.get GIO.SIGN_PWR.CAP_DW ∧ (b.put GIO.SIGN_PWR.P_DW w).gio = b.gio := by
  have hsame := Body.get_put_same b GIO.SIGN_PWR.P_DW w 0 0 (by decide)
  have hother := Body.get_put_bits b GIO.SIGN_PWR.P_DW GIO.SIGN_PWR.CAP_DW w 0 0 0 0 (by rfl) (by decide) (by decide)
  exact ⟨hsame.trans (Nat.mod_eq_of_lt h), hother, (Stands.put b GIO.SIGN_PWR.P_DW w 0 0).gio⟩

theorem powerShown_shows (p : Nat) (amb : Int) (b : Body) : (powerShown p amb b).get GIO.SIGN_PWR.P_DW = min p 65535 ∧
    (powerShown p amb b).get GIO.SIGN_PWR.CAP_DW = capOf amb b ∧ (powerShown p amb b).gio.dP = b.gio.dP := by
  have hlt : min p 65535 < 2 ^ 16 := Nat.lt_of_le_of_lt (Nat.min_le_right p 65535) (by decide)
  obtain ⟨hcap, hdP⟩ := powerCapped_cap amb b
  obtain ⟨hread, hkept, hgio⟩ := putPower_shows (powerCapped amb b) hlt
  exact ⟨hread, hkept.trans hcap, (congrArg Gio.dP hgio).trans hdP⟩

theorem signPower_eq {p : Nat} {amb : Int} {b : Body} (hrun : gioRun b = true) : signPower p amb b =
    signStatus (signFactor { powerShown p amb b with gio := { (powerShown p amb b).gio with
      dP := budgetOf p ((powerShown p amb b).get GIO.SIGN_PWR.CAP_DW) (powerShown p amb b).gio.dP } }) := by
  unfold signPower
  rw [if_neg (by simp [hrun])]
  rfl

theorem signPower_idle {p : Nat} {amb : Int} {b : Body} (hrun : gioRun b = false) : signPower p amb b = b := if_pos (by simp [hrun])

/-- The factor and SIGN_STATUS follow the budget, and leave the power's register. -/
theorem budgeted_shows (d : Nat) (b : Body) :
    let c := signStatus (signFactor { b with gio := { b.gio with dP := d } })
    c.get GIO.SIGN_PWR.P_DW = b.get GIO.SIGN_PWR.P_DW ∧ c.get GIO.SIGN_PWR.CAP_DW = b.get GIO.SIGN_PWR.CAP_DW ∧ c.gio.dP = d := by
  obtain ⟨hfactor, hsame⟩ := signFactor_only { b with gio := { b.gio with dP := d } }
  obtain ⟨hregs, x, hgio⟩ := signStatus_only (signFactor { b with gio := { b.gio with dP := d } })
  have hkept : ∀ f : Fld, f.at 0 0 ≠ SYS.CLK_STAT.word.addr → f.at 0 0 ≠ GIO.SIGN_FACT.word.addr →
      (signStatus (signFactor { b with gio := { b.gio with dP := d } })).get f = b.get f := fun f hclk hfact =>
    (hregs.get hclk).trans ((hfactor.get hfact).trans (Body.get_congr rfl f 0 0))
  exact ⟨hkept _ (by decide) (by decide), hkept _ (by decide) (by decide), by rw [hgio, hsame]⟩

theorem signPower_shows {p : Nat} {amb : Int} {b : Body} (hrun : gioRun b = true) :
    (signPower p amb b).get GIO.SIGN_PWR.P_DW = min p 65535 ∧ (signPower p amb b).get GIO.SIGN_PWR.CAP_DW = capOf amb b ∧
      (signPower p amb b).gio.dP = budgetOf p (capOf amb b) b.gio.dP := by
  obtain ⟨hp, hcap, hdP⟩ := powerShown_shows p amb b
  obtain ⟨hread, hkept, hbudget⟩ := budgeted_shows (budgetOf p (capOf amb b) b.gio.dP) (powerShown p amb b)
  rw [signPower_eq hrun, hcap, hdP]
  exact ⟨hread.trans hp, hkept.trans hcap, hbudget⟩

/-! ### The port -/

/-- VSIGN off for a short, from now on (R58, R560). -/
def portFaulted (b : Body) : Body :=
  { b.mark GIO.SIGN_STAT.PORT_FAULT true with gio := { b.gio with portOff := true, latched := false, portAt := b.clock.cyc } }

theorem signPort_on {b : Body} (h : signOn b = true) : signPort b = signStatus (raise 0x0A06 b.gio.retries 0 (portFaulted b)) := by
  unfold signPort
  rw [if_neg (by simp [h])]
  rfl

theorem signPort_off {b : Body} (h : signOn b = false) : signPort b = b := if_pos (by simp [h])

theorem portFaulted_flag (b : Body) : (portFaulted b).flag GIO.SIGN_STAT.PORT_FAULT = true :=
  Body.flag_mark_same b GIO.SIGN_STAT.PORT_FAULT true 0 0 rfl (by decide)

theorem portError_severity (n : Nat) : severityOf 0x0A06 n = 2 := by simp [severityOf]

theorem signPort_faults {b : Body} (h : signOn b = true) :
    (signPort b).flag GIO.SIGN_STAT.PORT_FAULT = true ∧ (signPort b).gio.portOff = true ∧ (signPort b).gio.portAt = b.clock.cyc ∧
      (signPort b).bit SAFE.HELD.BLOCK 10 = true := by
  have hsev : severityOf 0x0A06 b.gio.retries < 3 := by rw [portError_severity]; decide
  have hraise := raise_frame hsev 0 (portFaulted b)
  have hgio := (raise_stands hsev 0 (portFaulted b)).gio
  have hheld := raise_holds (portError_severity b.gio.retries) (by decide) 0 (portFaulted b)
  rw [signPort_on h]
  generalize raise 0x0A06 b.gio.retries 0 (portFaulted b) = c at hraise hgio hheld ⊢
  obtain ⟨hregs, x, hstatus⟩ := signStatus_only c
  rw [hstatus, hgio]
  exact ⟨(hregs.flag (by decide)).trans ((hraise.2.flag (by decide)).trans (portFaulted_flag b)), rfl, rfl,
    (hregs.bit (by decide) 10).trans hheld⟩

/-- The fault is gone: its flag, the latch and the count of failures clear (R560). -/
theorem portClear_clears (b : Body) : (portClear b).gio.portOff = false ∧ (portClear b).gio.latched = false ∧
    (portClear b).gio.retries = 0 ∧ (portClear b).flag GIO.SIGN_STAT.PORT_FAULT = false := by
  have hflag := Body.flag_mark_same b GIO.SIGN_STAT.PORT_FAULT false 0 0 rfl (by decide)
  obtain ⟨hregs, x, hstatus⟩ := signStatus_only { b.mark GIO.SIGN_STAT.PORT_FAULT false with
    gio := { b.gio with portOff := false, latched := false, retries := 0 } }
  have heq : (portClear b).gio = { b.gio with portOff := false, latched := false, retries := 0, status := x } := hstatus
  rw [heq]
  exact ⟨rfl, rfl, rfl, (hregs.flag (by decide)).trans hflag⟩

/-- A retry is due: the port is off, not latched, and 10 s have passed (R560). -/
def retryDue (b : Body) : Prop := b.gio.portOff = true ∧ b.gio.latched = false ∧ 10 ≤ sinceS b b.gio.portAt

theorem signPortRetry_early {ok : Bool} {b : Body} (h : ¬ retryDue b) : signPortRetry ok b = b := by
  unfold signPortRetry
  refine if_pos ?_
  by_contra hall
  simp only [Bool.or_eq_true, not_or, Bool.not_eq_true, Bool.not_eq_false', decide_eq_false_iff_not, not_lt] at hall
  obtain ⟨⟨hoff, hlatched⟩, hlong⟩ := hall
  exact h ⟨hoff, hlatched, hlong⟩

theorem retryDue_go {b : Body} (h : retryDue b) :
    ¬ (!b.gio.portOff || b.gio.latched || decide (sinceS b b.gio.portAt < 10)) = true := by
  obtain ⟨hoff, hlatched, hlong⟩ := h
  simp [hoff, hlatched, hlong]

theorem signPortRetry_holds {b : Body} (h : retryDue b) : signPortRetry true b = portClear b := by
  unfold signPortRetry
  rw [if_neg (retryDue_go h), if_pos rfl]

/-- A failed retry is counted, and the third latches the fault. -/
def retryFailed (b : Body) : Body :=
  { b with gio := { b.gio with retries := b.gio.retries + 1, latched := decide (3 ≤ b.gio.retries + 1), portAt := b.clock.cyc } }

theorem signPortRetry_fails {b : Body} (h : retryDue b) :
    signPortRetry false b = raise 0x0A06 (b.gio.retries + 1) 0 (retryFailed b) := by
  unfold signPortRetry
  rw [if_neg (retryDue_go h)]
  rfl

theorem signPortRetry_counts {b : Body} (h : retryDue b) : (signPortRetry false b).gio = (retryFailed b).gio := by
  rw [signPortRetry_fails h]
  exact (raise_stands (by rw [portError_severity]; decide) 0 (retryFailed b)).gio

end Sys2Proof.Machine
end

section
/-! SUPPORT. Scope: the sign's colour (R554): lost reads, and the trim of a class that gives light. -/

namespace Sys2Proof.Machine

/-! ### What light rests on -/

/-- The registers that a colour reading may write. -/
abbrev colourReg (a : Nat) : Prop := a = GIO.SIGN_TRIM.word.addr ∨ a = GIO.SIGN_STAT.word.addr

/-- From `b` to `c` stands all that light rests on but the trims. -/
structure LightSame (b c : Body) : Prop where
  regs : RegsKept colourReg b c
  blank : c.flag GIO.SIGN_STAT.WHOLE_BLANK = b.flag GIO.SIGN_STAT.WHOLE_BLANK
  power : c.power = b.power
  pat : c.pat = b.pat
  lapsed : c.seam.lapsedAt = b.seam.lapsedAt
  off : c.gio.portOff = b.gio.portOff

theorem LightSame.refl (b : Body) : LightSame b b := ⟨.refl b, rfl, rfl, rfl, rfl, rfl⟩

theorem LightSame.trans {b c e : Body} (h : LightSame b c) (g : LightSame c e) : LightSame b e :=
  ⟨h.regs.trans g.regs, g.blank.trans h.blank, g.power.trans h.power, g.pat.trans h.pat, g.lapsed.trans h.lapsed, g.off.trans h.off⟩

section Light

variable {b c : Body} (h : LightSame b c)
include h

theorem LightSame.size : signRows c = signRows b ∧ signCols c = signCols b :=
  ⟨h.regs.get (f := GIO.SIGN_CFG.ROWS) (by decide), h.regs.get (f := GIO.SIGN_CFG.COLS) (by decide)⟩

theorem LightSame.pixels : allPix c = allPix b := by
  unfold allPix
  rw [h.size.1, h.size.2]

theorem LightSame.on : signOn c = signOn b := by
  have hpowered : powered c = powered b := by
    unfold powered
    rw [h.power]
  have hloaded : loaded c = loaded b := by
    unfold loaded
    rw [h.pat]
  have hacting : acting c = acting b := by
    unfold acting
    rw [h.regs.get (f := SEAM.STAT.ROLE) (by decide), h.regs.get (f := UPD.STAT.ENROL) (by decide)]
  have hhem : inHem c = inHem b := h.regs.flag (by decide)
  unfold signOn signLit gioRun
  rw [h.regs.flag (f := GIO.CTL.RUN) (by decide), h.regs.flag (f := GIO.CTL.SIGN_EN) (by decide),
    h.regs.get (f := GIO.SIGN_CFG.ROWS) (by decide), h.regs.get (f := SEAM.STAT.ROLE) (by decide), hpowered, hloaded, hacting, hhem,
    h.lapsed, h.off]

theorem LightSame.blanked (r w : Nat) : pixBlank c r w = pixBlank b r w := by
  have hfields : signFields c = signFields b := by
    unfold signFields
    rw [h.regs.get (f := GIO.SIGN_CFG.FIELD_CNT) (by decide)]
  have hfield : ∀ f, c.bit GIO.SIGN_BLANK.FIELD f = b.bit GIO.SIGN_BLANK.FIELD f := h.regs.bit (by decide)
  have hin : ∀ f, inField c f r w = inField b f r w := by
    intro f
    unfold inField fieldRect sectD sect runSects
    rw [h.pat]
  unfold pixBlank
  rw [h.blank, hfields]
  simp only [hfield, hin]

theorem LightSame.cls (w : Nat) : pixClass c w = pixClass b w := by
  have hat : ¬ colourReg (GIO.SIGN_CLS.CLS.at (w / 16) 0) := by
    have hlo : 0x40A00330 ≤ GIO.SIGN_CLS.CLS.at (w / 16) 0 := by simp only [Fld.at]; omega
    have htrim : GIO.SIGN_TRIM.word.addr < 0x40A00330 := by decide
    have hstat : GIO.SIGN_STAT.word.addr < 0x40A00330 := by decide
    rintro (h | h) <;> omega
  unfold pixClass
  rw [h.regs.get hat]

theorem LightSame.front (r w : Nat) : frontPix c r w = frontPix b r w := by
  have hat : ¬ colourReg (GIO.FB_FRONT.PIX.at r (w / 4)) := by
    have hlo : 0x40A01400 ≤ GIO.FB_FRONT.PIX.at r (w / 4) := by simp only [Fld.at]; omega
    have htrim : GIO.SIGN_TRIM.word.addr < 0x40A01400 := by decide
    have hstat : GIO.SIGN_STAT.word.addr < 0x40A01400 := by decide
    rintro (h | h) <;> omega
  unfold frontPix
  rw [h.regs.get hat]

/-- A pixel's light rests on the trim of its own class. -/
theorem LightSame.lit {r w : Nat} (htrim : classTrim c (pixClass b w) = classTrim b (pixClass b w)) : pixLit c r w = pixLit b r w := by
  have hact : tAct c = tAct b := by
    unfold tAct
    rw [h.size.1]
  have htime : onTime c r w = onTime b r w := by
    unfold onTime
    rw [hact, h.front, h.regs.get (f := GIO.SIGN_FACT.G) (by decide), h.cls, htrim]
  unfold pixLit
  rw [h.on, h.blanked, htime]

end Light

/-- A pixel of class `k` gives light. -/
def classLit (b : Body) (k : Nat) : Bool := (allPix b).any fun p => decide (pixClass b p.2 = k) && pixLit b p.1 p.2

theorem LightSame.classLit {b c : Body} (h : LightSame b c) {k : Nat} (htrim : classTrim c k = classTrim b k) :
    classLit c k = classLit b k := by
  have hpix : ∀ p : Nat × Nat, (decide (pixClass c p.2 = k) && pixLit c p.1 p.2) = (decide (pixClass b p.2 = k) && pixLit b p.1 p.2) := by
    intro p
    rw [h.cls]
    by_cases hk : pixClass b p.2 = k
    · rw [h.lit (by rw [hk, htrim])]
    · simp [hk]
  unfold Machine.classLit
  rw [h.pixels]
  simp only [hpix]

/-! ### One class -/

/-- The target of class `k`. -/
def classGoal (b : Body) (k : Nat) : Nat := b.get GIO.SIGN_CTGT.TGT / 2 ^ (8 * k) % 256
/-- What the sensor saw of class `k`, in 1/256 of its clear channel. -/
def classSeen (l : List Nat) (k : Nat) : Nat := 256 * u16 l (2 * k) / u16 l 6

/-- The trim of class `k` after a reading: by at most one towards the target, between 192 and 256. -/
def trimNext (l : List Nat) (b : Body) (k : Nat) : Nat :=
  if (classSeen l k : Int) > (classGoal b k : Int) + 4 then max (classTrim b k - 1) 192
  else if (classSeen l k : Int) < (classGoal b k : Int) - 4 then min (classTrim b k + 1) 256 else classTrim b k

theorem trimNext_eq (l : List Nat) (b : Body) (k : Nat) : trimNext l b k =
    if classGoal b k + 4 < classSeen l k then max (classTrim b k - 1) 192
    else if classSeen l k + 4 < classGoal b k then min (classTrim b k + 1) 256 else classTrim b k := by
  have hover : (classSeen l k : Int) > (classGoal b k : Int) + 4 ↔ classGoal b k + 4 < classSeen l k := by omega
  have hunder : (classSeen l k : Int) < (classGoal b k : Int) - 4 ↔ classSeen l k + 4 < classGoal b k := by omega
  simp only [trimNext, hover, hunder]

/-- A reading at one class. -/
def trimStep (l : List Nat) (b : Body) (k : Nat) : Body :=
  if !classLit b k || decide (u16 l 6 = 0) then b
  else b.put GIO.SIGN_TRIM.TRIM (insBits (b.get GIO.SIGN_TRIM.TRIM) (8 * k) 8 (trimNext l b k - 192))

/-- The sensor answers: it is not lost. -/
def sensorFound (b : Body) : Body := { b.mark GIO.SIGN_STAT.SENSOR_LOST false with gio := { b.gio with lostRun := 0 } }

theorem colourRead_idle {v : Option (List Nat)} {b : Body} (hrun : gioRun b = false) : colourRead v b = b := if_pos (by simp [hrun])

theorem colourRead_some {l : List Nat} {b : Body} (hrun : gioRun b = true) :
    colourRead (some l) b = signStatus ((sensorFound b).each [0, 1, 2] (trimStep l)) := by
  unfold colourRead
  rw [if_neg (by simp [hrun])]
  rfl

theorem classTrim_field {k : Nat} (hk : k < 3) (b : Body) : classTrim b k = b.get GIO.SIGN_TRIM.TRIM / 2 ^ (8 * k) % 2 ^ 8 + 192 :=
  if_neg (by omega)

theorem trimNext_range {k : Nat} (hk : k < 3) (l : List Nat) (b : Body) : 192 ≤ trimNext l b k ∧ trimNext l b k - 192 < 2 ^ 8 := by
  have hlt : b.get GIO.SIGN_TRIM.TRIM / 2 ^ (8 * k) % 2 ^ 8 < 2 ^ 8 := Nat.mod_lt _ (by decide)
  have hrange : 192 ≤ classTrim b k ∧ classTrim b k - 192 < 2 ^ 8 := by
    rw [classTrim_field hk]
    omega
  obtain ⟨hlo, hhi⟩ := hrange
  rw [trimNext_eq]
  split_ifs <;> omega

theorem trimStep_same {k : Nat} (hk : k < 3) (l : List Nat) (b : Body) :
    classTrim (trimStep l b k) k = if classLit b k = false ∨ u16 l 6 = 0 then classTrim b k else trimNext l b k := by
  obtain ⟨hlo, hhi⟩ := trimNext_range hk l b
  have hiff : (!classLit b k || decide (u16 l 6 = 0)) = true ↔ classLit b k = false ∨ u16 l 6 = 0 := by simp
  unfold trimStep
  by_cases hnone : classLit b k = false ∨ u16 l 6 = 0
  · rw [if_pos (hiff.2 hnone), if_pos hnone]
  · rw [if_neg fun h => hnone (hiff.1 h), if_neg hnone, classTrim_field hk,
      part_insBits_same b GIO.SIGN_TRIM.TRIM (l := 8 * k) (u := 8) (show 8 * k + 8 ≤ 24 by omega) (by decide),
      Nat.mod_eq_of_lt hhi]
    omega

theorem sensorFound_light (b : Body) : LightSame b (sensorFound b) :=
  ⟨RegsKept.put (p := colourReg) (f := GIO.SIGN_STAT.SENSOR_LOST) (.inr rfl) b 0,
    Body.flag_put_bits b GIO.SIGN_STAT.SENSOR_LOST GIO.SIGN_STAT.WHOLE_BLANK 0 0 0 0 0 (by rfl) (by decide) (by decide), rfl, rfl, rfl, rfl⟩

/-- From `b` to `c` only trims may have moved, and that of class `k` stands. -/
structure TrimStands (k : Nat) (b c : Body) : Prop where
  regs : RegsKept (· = GIO.SIGN_TRIM.word.addr) b c
  stands : Stands b c
  trim : classTrim c k = classTrim b k

theorem TrimStands.refl (k : Nat) (b : Body) : TrimStands k b b := ⟨.refl b, .refl b, rfl⟩

theorem TrimStands.trans {k : Nat} {b c e : Body} (h : TrimStands k b c) (g : TrimStands k c e) : TrimStands k b e :=
  ⟨h.regs.trans g.regs, h.stands.trans g.stands, g.trim.trans h.trim⟩

theorem TrimStands.light {k : Nat} {b c : Body} (h : TrimStands k b c) : LightSame b c :=
  ⟨h.regs.mono fun _ => .inl, h.regs.flag (by decide), h.stands.power, h.stands.pat, by rw [h.stands.seam], by rw [h.stands.gio]⟩

theorem trimStep_only (l : List Nat) (j : Nat) (b : Body) :
    RegsKept (· = GIO.SIGN_TRIM.word.addr) b (trimStep l b j) ∧ Stands b (trimStep l b j) := by
  unfold trimStep
  split
  · exact ⟨.refl b, .refl b⟩
  · exact ⟨RegsKept.put (p := (· = GIO.SIGN_TRIM.word.addr)) (f := GIO.SIGN_TRIM.TRIM) rfl b _, .put _ _ _ _ _⟩

theorem trimStep_other {j k : Nat} (hk : k < 3) (hne : k ≠ j) (l : List Nat) (b : Body) : TrimStands k b (trimStep l b j) := by
  obtain ⟨hregs, hstands⟩ := trimStep_only l j b
  refine ⟨hregs, hstands, ?_⟩
  rw [classTrim_field hk, classTrim_field hk]
  unfold trimStep
  split
  · rfl
  · rw [part_insBits_other b GIO.SIGN_TRIM.TRIM (l := 8 * j) (u := 8) (k := 8 * k) (t := 8) (show 8 * k + 8 ≤ 24 by omega) (by decide)
      (by omega)]

theorem classGoal_of_trims {k : Nat} {b c : Body} (h : LightSame b c) : classGoal c k = classGoal b k := by
  unfold classGoal
  rw [h.regs.get (f := GIO.SIGN_CTGT.TGT) (by decide)]

/-- A pass over the classes moves the trim of class `k` as its own reading says. -/
theorem trims_move {k : Nat} (hk : k < 3) (l : List Nat) (b : Body) :
    classTrim ((sensorFound b).each [0, 1, 2] (trimStep l)) k =
      if classLit b k = false ∨ u16 l 6 = 0 then classTrim b k else trimNext l b k := by
  have hmem : k ∈ [0, 1, 2] := by simp only [List.mem_cons, List.not_mem_nil, or_false]; omega
  obtain ⟨c, hbefore, hafter⟩ := Body.each_at (R := TrimStands k) (.refl k) (fun _ _ _ => .trans)
    (fun j c hne => trimStep_other hk hne l c) hmem (by decide) (sensorFound b)
  have hlight := (sensorFound_light b).trans hbefore.light
  have hfound : classTrim (sensorFound b) k = classTrim b k := by
    rw [classTrim_field hk, classTrim_field hk]
    exact congrArg (fun n => n / 2 ^ (8 * k) % 2 ^ 8 + 192)
      (Body.get_put_other b GIO.SIGN_STAT.SENSOR_LOST GIO.SIGN_TRIM.TRIM 0 0 0 0 0 (by decide))
  have htrim : classTrim c k = classTrim b k := hbefore.trim.trans hfound
  have hnext : trimNext l c k = trimNext l b k := by
    unfold trimNext
    rw [classGoal_of_trims hlight, htrim]
  rw [hafter.trim, trimStep_same hk, hlight.classLit htrim, htrim, hnext]

/-- The sensor answers: the lost reads end, and each class that gives light takes its trim. -/
theorem colourRead_moves {l : List Nat} {b : Body} (hrun : gioRun b = true) :
    (colourRead (some l) b).gio.lostRun = 0 ∧ (colourRead (some l) b).flag GIO.SIGN_STAT.SENSOR_LOST = false ∧
    ∀ k, k < 3 → classTrim (colourRead (some l) b) k =
      if classLit b k = false ∨ u16 l 6 = 0 then classTrim b k else trimNext l b k := by
  have hmoves := fun k => fun hk : k < 3 => trims_move hk l b
  have honly : ∀ c : Body, RegsKept (· = GIO.SIGN_TRIM.word.addr) c (c.each [0, 1, 2] (trimStep l)) ∧
      Stands c (c.each [0, 1, 2] (trimStep l)) := fun c =>
    ⟨.each (fun j e => (trimStep_only l j e).1) _ c, .each (fun j e => (trimStep_only l j e).2) _ c⟩
  obtain ⟨hregs, hstands⟩ := honly (sensorFound b)
  rw [colourRead_some hrun]
  generalize (sensorFound b).each [0, 1, 2] (trimStep l) = c at hmoves hregs hstands ⊢
  obtain ⟨hstatus, x, hgio⟩ := signStatus_only c
  have hlost : (sensorFound b).flag GIO.SIGN_STAT.SENSOR_LOST = false :=
    Body.flag_mark_same b GIO.SIGN_STAT.SENSOR_LOST false 0 0 rfl (by decide)
  refine ⟨?_, (hstatus.flag (by decide)).trans ((hregs.flag (by decide)).trans hlost), fun k hk => ?_⟩
  · rw [hgio, hstands.gio]
    rfl
  · rw [← hmoves k hk, classTrim_field hk, classTrim_field hk, hstatus.get (f := GIO.SIGN_TRIM.TRIM) (by decide)]

/-- A failed read is counted; the third in a row marks the sensor lost. -/
theorem colourRead_none {b : Body} (hrun : gioRun b = true) :
    (colourRead none b).gio.lostRun = min 3 (b.gio.lostRun + 1) ∧
      (2 ≤ b.gio.lostRun → (colourRead none b).flag GIO.SIGN_STAT.SENSOR_LOST = true) := by
  have hlost : ∀ c : Body, c.gio.lostRun = min 3 (b.gio.lostRun + 1) →
      (signStatus (if c.gio.lostRun = 3 then c.mark GIO.SIGN_STAT.SENSOR_LOST true else c)).gio.lostRun = min 3 (b.gio.lostRun + 1) ∧
      (2 ≤ b.gio.lostRun →
        (signStatus (if c.gio.lostRun = 3 then c.mark GIO.SIGN_STAT.SENSOR_LOST true else c)).flag GIO.SIGN_STAT.SENSOR_LOST = true) := by
    intro c hc
    split
    · obtain ⟨hregs, x, hgio⟩ := signStatus_only (c.mark GIO.SIGN_STAT.SENSOR_LOST true)
      rw [hgio]
      exact ⟨hc, fun _ => (hregs.flag (by decide)).trans (Body.flag_mark_same c _ true 0 0 rfl (by decide))⟩
    · obtain ⟨hregs, x, hgio⟩ := signStatus_only c
      rw [hgio]
      exact ⟨hc, fun h => by omega⟩
  unfold colourRead
  rw [if_neg (by simp [hrun])]
  exact hlost { b with gio := { b.gio with lostRun := min 3 (b.gio.lostRun + 1) } } rfl

end Sys2Proof.Machine
end

section
/-! SUPPORT. Scope: O56, the rows of the guidance sign (R546 to R560). -/

namespace Sys2Proof.Machine

theorem exec_pixels (s : State) : exec .pixels s = onBody (gioTake 0 (signWants 0) signContent) s := rfl
theorem exec_fill (s : State) : exec .fill s = onBody (gioTake 0 (signWants 1) signContent) s := rfl
theorem exec_signCommit (s : State) : exec .signCommit s = onBody (gioTake 0 (signWants 2) signContent) s := rfl
theorem exec_signCmdCommit (s : State) : exec .signCmdCommit s = onBody signCmdCommit s := rfl
theorem exec_clearOpen (s : State) : exec .clearOpen s = onBody signCmdClear s := rfl
theorem exec_signFrameStart (m : SignMeas) (s : State) : exec (.signFrameStart m) s = onBody (signFrame m) s := rfl
theorem exec_rowStretch (cur : List (Nat × Nat)) (s : State) : exec (.rowStretch cur) s = onBody (rowStretch cur) s := rfl
theorem exec_signPowerCheck (p : Nat) (amb : Int) (s : State) : exec (.signPowerCheck p amb) s = onBody (signPower p amb) s := rfl
theorem exec_colourSensorRead (v : Option (List Nat)) (s : State) : exec (.colourSensorRead v) s = onBody (colourRead v) s := rfl
theorem exec_signPort (s : State) : exec .signPort s = onBody signPort s := rfl
theorem exec_signPortRetry (ok : Bool) (s : State) : exec (.signPortRetry ok) s = onBody (signPortRetry ok) s := rfl
theorem exec_retry (s : State) : exec .retry s = onBody signRetry s := rfl

/-- Nothing happens: GIO's own state and every register stand. -/
theorem sign_of_unchanged {b c : Body} (h : c = b) : (settle c).gio = b.gio ∧ RegsKept (fun _ => False) b (settle c) :=
  h ▸ ⟨rfl, fun _ _ => rfl⟩

section Content

variable {c : Instr} {tag : Nat} {s : State} (hexec : exec c s = onBody (gioTake 0 (signWants tag) signContent) s)
  (hp : powered s.body = true)
include hexec hp

theorem does_content_nothing (h : gioRun s.body = false ∨ takePort 0 s.body.gio.inbox = none) :
    Does c s (fun b => b.gio = s.body.gio ∧ RegsKept (fun _ => False) s.body b) :=
  does_of_onBody hexec hp (sign_of_unchanged (gioTake_nothing h))

variable {e : Ev} {rest : List (Nat × Ev)} (hrun : gioRun s.body = true) (htake : takePort 0 s.body.gio.inbox = some (e, rest))
include hrun htake

/-- An event of another row's tag waits for that row. -/
theorem does_content_waits (h : e.tag ≤ 2) (hne : e.tag ≠ tag) :
    Does c s (fun b => b.gio = s.body.gio ∧ RegsKept (fun _ => False) s.body b) := by
  have hwant : ¬ signWants tag e = true := by
    simp only [signWants, Bool.or_eq_true, decide_eq_true_eq, not_or]
    omega
  refine does_of_onBody hexec hp (sign_of_unchanged ?_)
  rw [gioTake_oldest hrun htake, if_neg hwant]

/-- An event of the row's tag, or of none, is taken. -/
theorem does_content {P : Body → Prop} (hwant : e.tag = tag ∨ 2 < e.tag) (hpins : ∀ b, P b → P (settle b))
    (h : P (signContent e { s.body with gio := { s.body.gio with inbox := rest } })) : Does c s P := by
  have htaken : signWants tag e = true := by
    simp only [signWants, Bool.or_eq_true, decide_eq_true_eq]
    exact hwant
  refine does_of_unpinned hexec hp ?_ hpins
  rw [gioTake_oldest hrun htake, if_pos htaken]
  exact h

/-- An event that is none is counted (R549). -/
theorem does_content_bad (hwant : e.tag = tag ∨ 2 < e.tag) (hbad : contentBad e) : Does c s (fun b =>
    b.get GIO.COUNT.BAD_EVENT = min (s.body.get GIO.COUNT.BAD_EVENT + 1) 0xFFFF ∧ b.gio.inbox = rest ∧
      RegsKept (· = GIO.COUNT.word.addr) s.body b) := by
  refine does_content hexec hp hrun htake hwant (fun _ h => h) ?_
  rw [signContent_bad hbad]
  exact ⟨Body.get_bump_same _ _ _ _ (by decide), rfl,
    RegsKept.put (p := (· = GIO.COUNT.word.addr)) (f := GIO.COUNT.BAD_EVENT) rfl { s.body with gio := { s.body.gio with inbox := rest } } _⟩

end Content

theorem signContent_keepsInbox {e : Ev} (h : ¬ contentBad e) (b : Body) : (signContent e b).gio.inbox = b.gio.inbox := by
  have htag : e.tag ≤ 2 := Nat.le_of_not_lt fun hlt => h (.inr (.inr (.inr hlt)))
  have hcases : e.tag = 0 ∨ e.tag = 1 ∨ e.tag = 2 := by omega
  rcases hcases with h0 | h1 | h2
  · rw [signContent_six h0 (by_contra fun hr => h (.inl ⟨h0, hr⟩)), putSix_gio]
  · rw [signContent_fill h1 (by_contra fun hr => h (.inr (.inl ⟨h1, hr⟩))), fillRect_gio]
  · rw [signContent_commit h2 (by_contra fun hr => h (.inr (.inr (.inl ⟨h2, hr⟩))))]

/-- VSIGN is off while the port is. -/
theorem vsign_off_of_port {b : Body} (h : b.gio.portOff = true) : (settle b).pins.vsign = false := by
  show (signLit b && !b.gio.portOff) = false
  rw [h, Bool.not_true, Bool.and_false]

/-- Settles O56. Content goes to the back buffer, and a frame's start shows it; the sign's power, colour and port keep their
readings and faults. That the fault is latched at the third failed retry is the model's reading of R560 (log entry 67). -/
theorem signShowsWhatWasCommitted : Obligations.SignShowsWhatWasCommitted := by
  intro s m p r c amb ok dark cur e rest hp run cap back nothing bad seen goal trim
  refine ⟨fun h => ⟨does_content_nothing (exec_pixels s) hp h, does_content_nothing (exec_fill s) hp h,
      does_content_nothing (exec_signCommit s) hp h⟩,
    fun hrun htake => ⟨fun htag hok => ?_, fun htag hok => ?_, fun htag hok => ?_,
      fun htag hbad => does_content_bad (exec_pixels s) hp hrun htake (.inl htag) (.inl ⟨htag, hbad⟩),
      fun htag hbad => does_content_bad (exec_fill s) hp hrun htake (.inl htag) (.inr (.inl ⟨htag, hbad⟩)),
      fun htag hbad => does_content_bad (exec_signCommit s) hp hrun htake (.inl htag) (.inr (.inr (.inl ⟨htag, hbad⟩))),
      fun htag => ⟨does_content_bad (exec_pixels s) hp hrun htake (.inr htag) (.inr (.inr (.inr htag))),
        does_content_bad (exec_fill s) hp hrun htake (.inr htag) (.inr (.inr (.inr htag))),
        does_content_bad (exec_signCommit s) hp hrun htake (.inr htag) (.inr (.inr (.inr htag)))⟩,
      does_content_waits (exec_pixels s) hp hrun htake, does_content_waits (exec_fill s) hp hrun htake,
      does_content_waits (exec_signCommit s) hp hrun htake⟩,
    does_of_onBody (exec_signCmdCommit s) hp ⟨rfl, fun _ _ => rfl⟩, does_of_onBody (exec_clearOpen s) hp ⟨rfl, fun _ _ => rfl⟩,
    fun hrun hrows => ?_, fun h => ?_, fun h => ?_, fun h => ?_, fun hrun => ?_, fun hrun => ⟨?_, ?_, ?_⟩, fun hrun => ⟨?_, ?_⟩,
    fun h => ?_, fun h => ?_, ⟨fun hdue => ⟨?_, ?_⟩, fun hdue => ?_⟩, fun h => ?_, fun h => ?_⟩
  · have hgood : ¬ contentBad e := by
      rintro (⟨-, h⟩ | ⟨h, -⟩ | ⟨h, -⟩ | h)
      · exact h hok
      all_goals omega
    exact does_content (exec_pixels s) hp hrun htake (.inl htag) (fun _ h => h) ⟨signContent_keepsInbox hgood _,
      fun k hk hrow hcol => signContent_sixPix htag hok hk hrow hcol⟩
  · have hgood : ¬ contentBad e := by
      rintro (⟨h, -⟩ | ⟨-, h⟩ | ⟨h, -⟩ | h)
      · omega
      · exact h hok
      all_goals omega
    exact does_content (exec_fill s) hp hrun htake (.inl htag) (fun _ h => h) ⟨signContent_keepsInbox hgood _,
      fun hr1 hr2 hc1 hc2 hrow hcol => signContent_fillPix htag hok hr1 hr2 hc1 hc2 hrow hcol⟩
  · refine does_content (exec_signCommit s) hp hrun htake (.inl htag) (fun _ h => h) ?_
    rw [signContent_commit htag hok]
    exact ⟨rfl, rfl, fun _ _ => rfl⟩
  · exact does_of_unpinned (exec_signFrameStart m s) hp (signFrame_shows hrun hrows) fun _ h => h
  · exact does_of_onBody (exec_signFrameStart m s) hp (sign_of_unchanged (signFrame_idle h))
  · exact does_of_unpinned (exec_rowStretch cur s) hp (rowStretch_next h) fun _ h => h
  · exact does_of_onBody (exec_rowStretch cur s) hp (sign_of_unchanged (if_pos (by simp [h])))
  · exact does_of_unpinned (exec_signPowerCheck p amb s) hp (signPower_shows hrun) fun _ h => h
  · exact does_of_onBody (exec_signPowerCheck p amb s) hp (sign_of_unchanged (signPower_idle hrun))
  · exact does_of_onBody (exec_colourSensorRead none s) hp (sign_of_unchanged (colourRead_idle hrun))
  · exact does_of_onBody (exec_colourSensorRead (some dark) s) hp (sign_of_unchanged (colourRead_idle hrun))
  · exact does_of_unpinned (exec_colourSensorRead none s) hp (colourRead_none hrun) fun _ h => h
  · obtain ⟨hrun0, hfound, htrim⟩ := colourRead_moves (l := dark) hrun
    refine does_of_unpinned (exec_colourSensorRead (some dark) s) hp ⟨hrun0, hfound, fun k hk => ?_⟩ fun _ h => h
    rw [htrim k hk, trimNext_eq]
    rfl
  · obtain ⟨hflag, hoff, hat, hheld⟩ := signPort_faults h
    exact does_of_onBody (exec_signPort s) hp ⟨hflag, hoff, hat, vsign_off_of_port hoff, hheld⟩
  · exact does_of_onBody (exec_signPort s) hp (sign_of_unchanged (signPort_off h))
  · obtain ⟨hoff, -, hretries, hflag⟩ := portClear_clears s.body
    refine does_of_unpinned (exec_signPortRetry true s) hp ?_ fun _ h => h
    rw [signPortRetry_holds hdue]
    exact ⟨hoff, hflag, hretries⟩
  · refine does_of_unpinned (exec_signPortRetry false s) hp ?_ fun _ h => h
    rw [signPortRetry_counts hdue]
    exact ⟨hdue.1, rfl, rfl, rfl⟩
  · exact does_of_onBody (exec_signPortRetry ok s) hp (sign_of_unchanged (signPortRetry_early hdue))
  · obtain ⟨hoff, hlatched, -, hflag⟩ := portClear_clears s.body
    refine does_of_unpinned (exec_retry s) hp ?_ fun _ h => h
    rw [signRetry, if_pos h]
    exact ⟨hoff, hlatched, hflag⟩
  · exact does_of_onBody (exec_retry s) hp (sign_of_unchanged (if_neg (by simp [h])))

end Sys2Proof.Machine
end
section
/-! SUPPORT. Scope: what an error that is not fatal, and a slice that gives way to work, leave alone (R566, R567, R570, R572). -/

namespace Sys2Proof

open Machine

/-- A write of a field touches its own register alone. -/
theorem RegsKept.put_at {f : Fld} {i j a : Nat} (h : f.at i j = a) (b : Body) (v : Nat) : RegsKept (· = a) b (b.put f v i j) :=
  fun _ hq => Body.word_put_other _ _ _ _ _ fun e => hq (e.trans h)

end Sys2Proof

namespace Sys2Proof.Machine

/-! ### What placing an error moves beside registers -/

/-- From `b` to `c` nothing moved but registers, SAFE's own state, the next SEQ, what Shalan holds, free choices and what left. -/
def Told (b c : Body) : Prop :=
  ∃ r x n y k o, c = { b with regs := r, safe := x, nv := { b.nv with bbNext := n }, sha := y, picks := k, out := o }

theorem Told.refl (b : Body) : Told b b := ⟨_, _, _, _, _, _, rfl⟩

theorem Told.trans {b c e : Body} (h : Told b c) (g : Told c e) : Told b e := by
  obtain ⟨r, x, n, y, k, o, rfl⟩ := h
  obtain ⟨r', x', n', y', k', o', rfl⟩ := g
  exact ⟨_, _, _, _, _, _, rfl⟩

theorem Told.put (b : Body) (f : Fld) (v i j : Nat) : Told b (b.put f v i j) := ⟨_, _, _, _, _, _, rfl⟩

theorem Told.each {α : Type} {f : Body → α → Body} (h : ∀ x c, Told c (f c x)) (l : List α) (b : Body) : Told b (b.each l f) :=
  Body.each_keeps (P := Told b) (fun x c hc => hc.trans (h x c)) l (.refl b)

theorem Told.air {b c : Body} (h : Told b c) : c.air = b.air := by obtain ⟨r, x, n, y, k, o, rfl⟩ := h; rfl
theorem Told.ce {b c : Body} (h : Told b c) : c.ce = b.ce := by obtain ⟨r, x, n, y, k, o, rfl⟩ := h; rfl
theorem Told.qm {b c : Body} (h : Told b c) : c.qm = b.qm := by obtain ⟨r, x, n, y, k, o, rfl⟩ := h; rfl
theorem Told.boot {b c : Body} (h : Told b c) : c.nv.boot = b.nv.boot := by obtain ⟨r, x, n, y, k, o, rfl⟩ := h; rfl
theorem Told.stands {b c : Body} (h : Told b c) : Stands b c := by
  obtain ⟨r, x, n, y, k, o, rfl⟩ := h
  exact ⟨rfl, rfl, rfl, rfl, rfl, rfl⟩

theorem bbOffer_told (need code b6 : Nat) (ns : Bool) (a0 a1 : Nat) (b : Body) : Told b (bbOffer need code b6 ns a0 a1 b).1 := by
  unfold bbOffer
  split
  · exact ⟨_, _, _, _, _, _, rfl⟩
  · split
    · exact ⟨_, _, _, _, _, _, rfl⟩
    · exact ⟨_, _, _, _, _, _, rfl⟩

theorem record_told (code a0 a1 : Nat) (b : Body) : Told b (record code a0 a1 b) := bbOffer_told _ _ _ _ _ _ _

theorem shEmit_told (id : Nat) (m : List Nat) (b : Body) : Told b (shEmit id m b) := by
  unfold shEmit
  cases assocOf b id <;> exact ⟨_, _, _, _, _, _, rfl⟩

theorem pumpN_told (n id : Nat) (b : Body) : Told b (pumpN n id b) := by
  induction n generalizing b with
  | zero => exact .refl b
  | succ n ih =>
    unfold pumpN
    split
    · split
      · exact .refl b
      · refine Told.trans ?_ (ih _)
        refine Told.trans ?_ (shEmit_told _ _ _)
        exact ⟨_, _, _, _, _, _, rfl⟩
    · exact .refl b

theorem shRequest_told (id type : Nat) (p : List Nat) (b : Body) : Told b (shRequest id type p b) :=
  Told.trans ⟨_, _, _, _, _, _, rfl⟩ (pumpN_told _ _ _)

theorem shCollect_told (t k : Nat) (ns : Bool) (p : List Nat) (b : Body) : Told b (shCollect t k ns p b) := by
  unfold shCollect
  refine Told.trans ?_ (Told.each (fun id c => shRequest_told id t p c) _ _)
  split
  · exact shRequest_told _ _ _ _
  · exact .refl b

theorem Told.puts (b : Body) (f g h k : Fld) (v w x y i j : Nat) :
    Told b ((((b.put f v i j).put g w i j).put h x i j).put k y i j) :=
  (((Told.put b f v i j).trans (.put _ g w i j)).trans (.put _ h x i j)).trans (.put _ k y i j)

/-- Filling a slot as primary notes when. -/
theorem primary_told {b c : Body} (h : Told b c) (x : Safe) : Told b { c with safe := x } :=
  h.trans ⟨_, _, _, _, _, _, rfl⟩

theorem setSlot_told (s code sev : Nat) (ns pre : Bool) (a0 a1 seq : Nat) (b : Body) :
    Told b (setSlot s code sev ns pre a0 a1 seq b) :=
  .puts b SAFE.ERR.word SAFE.ERR_ARG0.VALUE SAFE.ERR_ARG1.VALUE SAFE.ERR_SEQ.VALUE _ a0 a1 seq s 0

theorem copySlot_told (s d : Nat) (b : Body) : Told b (copySlot s d b) :=
  .puts b SAFE.ERR.word SAFE.ERR_ARG0.VALUE SAFE.ERR_ARG1.VALUE SAFE.ERR_SEQ.VALUE _ _ _ _ d 0

/-- Placing an error moves SAFE, the black box and what Shalan sends (R572, R575, R580). -/
theorem placeError_told (code sev a0 a1 : Nat) (b : Body) : Told b (placeError code sev a0 a1 b) := by
  unfold placeError
  dsimp only
  generalize sev + _ + _ + _ = b6
  have hoffer := bbOffer_told 1 code b6 (errorNs code a0 b) a0 a1 b
  generalize bbOffer 1 code b6 (errorNs code a0 b) a0 a1 b = o at hoffer ⊢
  obtain ⟨c, seq?⟩ := o
  refine Told.trans ?_ (shCollect_told _ _ _ _ _)
  have hslots : ∀ p : Nat × Body, Told b p.2 → ∀ held pre full : Bool, Told b
      (if held then
        let c := setSlot 0 code sev (errorNs code a0 b) false a0 a1 p.1 p.2
        { c with safe := { c.safe with primaryAt := c.clock.cyc } }
      else if pre then
        let c := setSlot 0 code sev (errorNs code a0 b) true a0 a1 p.1 (copySlot 0 1 p.2)
        { c with safe := { c.safe with primaryAt := c.clock.cyc } }
      else if full then setSlot 1 code sev (errorNs code a0 b) false a0 a1 p.1 p.2
      else p.2.bump SAFE.ERR_OVF.COUNT) := by
    intro p hp held pre full
    split
    · exact primary_told (hp.trans (setSlot_told _ _ _ _ _ _ _ _ _)) _
    · split
      · exact primary_told (hp.trans ((copySlot_told 0 1 _).trans (setSlot_told _ _ _ _ _ _ _ _ _))) _
      · split
        · exact hp.trans (setSlot_told _ _ _ _ _ _ _ _ _)
        · exact hp.trans (.put _ _ _ _ _)
  cases seq? with
  | some s => exact hslots (s, c) hoffer _ _ _
  | none => exact hslots c.freeWord (hoffer.trans ⟨_, _, _, _, _, _, rfl⟩) _ _ _

/-- So does an error that is not fatal. -/
theorem raise_told {code a0 : Nat} (hsev : severityOf code a0 < 3) (a1 : Nat) (b : Body) : Told b (raise code a0 a1 b) := by
  unfold raise
  split
  · exact record_told _ _ _ _
  · unfold raiseAs
    dsimp only
    rw [if_neg (by omega : severityOf code a0 ≠ 3)]
    split
    · exact (placeError_told _ _ _ _ _).trans (.put _ _ _ _ _)
    · exact placeError_told _ _ _ _ _

/-! ### A slice that gives way -/

/-- The registers that a slice of target `k` may write when it gives way. -/
abbrev sliceReg (k a : Nat) : Prop := errorReg a ∨ a = SAFE.SLICE.word.at k 0

/-- A slice of target `k` that was running is marked aborted, and its aborts are counted (R566). -/
def sliceAborted (k : Nat) (b : Body) : Body :=
  ((b.mark SAFE.SLICE.RUNNING false k).put SAFE.SLICE.LAST 3 k).bump SAFE.SLICE.ABORTS 1 k

theorem sliceAborted_kept (k : Nat) (b : Body) : RegsKept (· = SAFE.SLICE.word.at k 0) b (sliceAborted k b) :=
  ((RegsKept.put_at (f := SAFE.SLICE.RUNNING) rfl b _).trans (.put_at (f := SAFE.SLICE.LAST) rfl _ _)).trans
    (.put_at (f := SAFE.SLICE.ABORTS) rfl _ _)

theorem sliceAborted_aborts (k : Nat) (b : Body) :
    (sliceAborted k b).get SAFE.SLICE.ABORTS k = min (b.get SAFE.SLICE.ABORTS k + 1) 255 := by
  unfold sliceAborted
  rw [Body.get_bump_same _ _ _ _ (by decide), Body.get_put_bits _ _ _ _ _ _ _ _ (by rfl) (by decide) (by decide), Body.mark,
    Body.get_put_bits _ _ _ _ _ _ _ _ (by rfl) (by decide) (by decide)]
  rfl

theorem sliceAborted_idle (k : Nat) (b : Body) : (sliceAborted k b).flag SAFE.SLICE.RUNNING k = false := by
  unfold sliceAborted Body.bump
  rw [Body.flag_of_get (Body.get_put_bits _ _ _ _ _ _ _ _ (by rfl) (by decide) (by decide)),
    Body.flag_of_get (Body.get_put_bits _ _ _ _ _ _ _ _ (by rfl) (by decide) (by decide)),
    Body.flag_mark_same _ _ _ _ _ rfl (by decide)]

theorem sliceYield_idle {k : Nat} {b : Body} (h : b.flag SAFE.SLICE.RUNNING k = false) : sliceYield k b = b := by
  unfold sliceYield
  rw [h]
  rfl

/-- What giving way can be: nothing, an abort, or the sixteenth abort in a row, which is an error (R567). -/
theorem sliceYield_cases (k : Nat) (b : Body) :
    (b.flag SAFE.SLICE.RUNNING k = false ∧ sliceYield k b = b) ∨
    (b.get SAFE.SLICE.ABORTS k ≠ 15 ∧ sliceYield k b = sliceAborted k b) ∨
    (b.get SAFE.SLICE.ABORTS k = 15 ∧ sliceYield k b = placeError 0x0D06 1 k 0 (sliceAborted k b)) := by
  cases hrun : b.flag SAFE.SLICE.RUNNING k with
  | false => exact .inl ⟨rfl, sliceYield_idle hrun⟩
  | true =>
    have hyield : sliceYield k b = sliceStarved k (sliceAborted k b) := if_pos hrun
    rw [hyield]
    unfold sliceStarved
    rw [sliceAborted_aborts]
    by_cases h : b.get SAFE.SLICE.ABORTS k = 15
    · exact .inr (.inr ⟨h, if_pos (by rw [h]; rfl)⟩)
    · exact .inr (.inl ⟨h, if_neg (by omega)⟩)

theorem sliceYield_told (k : Nat) (b : Body) : Told b (sliceYield k b) := by
  have habort : Told b (sliceAborted k b) := ⟨_, _, _, _, _, _, rfl⟩
  obtain ⟨-, h⟩ | ⟨-, h⟩ | ⟨-, h⟩ := sliceYield_cases k b <;> rw [h]
  · exact .refl b
  · exact habort
  · exact habort.trans (placeError_told _ _ _ _ _)

theorem sliceYield_kept (k : Nat) (b : Body) : RegsKept (sliceReg k) b (sliceYield k b) := by
  have habort : RegsKept (sliceReg k) b (sliceAborted k b) := (sliceAborted_kept k b).mono fun _ h => .inr h
  obtain ⟨-, h⟩ | ⟨-, h⟩ | ⟨-, h⟩ := sliceYield_cases k b <;> rw [h]
  · exact .refl b
  · exact habort
  · exact habort.trans ((placeError_frame _ _ _ _ _).2.mono fun _ h => .inl h)

/-- A slice not yet at its fifteenth abort gives way without an error: its own register alone is written, and nothing leaves. -/
theorem sliceYield_calm {k : Nat} {b : Body} (hcalm : b.get SAFE.SLICE.ABORTS k ≠ 15) :
    RegsKept (· = SAFE.SLICE.word.at k 0) b (sliceYield k b) ∧ (sliceYield k b).out = b.out := by
  obtain ⟨-, h⟩ | ⟨-, h⟩ | ⟨h, -⟩ := sliceYield_cases k b
  · rw [h]
    exact ⟨.refl b, rfl⟩
  · rw [h]
    exact ⟨sliceAborted_kept k b, rfl⟩
  · exact absurd h hcalm

end Sys2Proof.Machine
end
section
/-! SUPPORT. Scope: what an entry into hem leaves of the cause and the marks that it sets (R573, R577, R578). -/

namespace Sys2Proof.Machine

/-! ### After the marks -/

/-- The two registers of SAFE that say whether, how and why the module is in hem. -/
abbrev hemReg (a : Nat) : Prop := a = SAFE.STAT.word.addr ∨ a = SAFE.HEM_CAUSE.CODE.addr

/-- From `b` to `c` hem's marks and its cause stand. -/
abbrev HemKept (b c : Body) : Prop := RegsKept (fun a => ¬ hemReg a) b c

theorem hemKept_of_only {ks : List Nat} {b c : Body} (h : Only ks b c) (hk : 0x40D ∉ ks) : HemKept b c := fun a ha => by
  have hsafe : hemReg a := not_not.1 ha
  exact h a (by rcases hsafe with rfl | rfl <;> exact hk)

theorem hemKept_of_told {b c : Body} {k : Nat} (h : RegsKept (sliceReg k) b c) : HemKept b c := h.mono fun a ha hhem => by
  rcases hhem with rfl | rfl <;> rcases ha with ha | ha
  · exact absurd ha (by decide)
  · simp only [Fld.at] at ha
    omega
  · exact absurd ha (by decide)
  · simp only [Fld.at] at ha
    omega

theorem hemKept_of_errorFrame {b c : Body} (h : ErrorFrame b c) : HemKept b c :=
  hemKept_of_told (k := 0) (h.2.mono fun _ ha => .inl ha)

theorem hemKept_ask (ns : List Nat) (w : Why) (g : Option Nat) (b : Body) : HemKept b (ask ns w g b) := by
  unfold ask
  exact (hemKept_of_told (sliceYield_kept 1 b)).trans (.of_regs rfl)

theorem hemKept_askAll (w : Why) (b : Body) : HemKept b (askAll w b) := .each (fun _ c => hemKept_ask _ _ _ c) _ b

/-- The cause and the marks of an entry into hem, with the fallback of an image on trial (R521). -/
def hemMarked (code : Nat) (silent : Bool) (b : Body) : Body :=
  (((fallbackWord (b.put SAFE.HEM_CAUSE.CODE code)).mark SAFE.STAT.HEM true).mark SAFE.STAT.HEM_SILENT silent).mark CE.STAT.HEM true

/-- All that follows the marks leaves them and the cause. -/
theorem enterHem_kept {b : Body} (h : inHem b = false) (code : Nat) (silent : Bool) :
    HemKept (hemMarked code silent b) (enterHem code silent b) := by
  unfold enterHem
  rw [if_neg (by simp [h])]
  dsimp only
  unfold hemMarked
  generalize (((fallbackWord (b.put SAFE.HEM_CAUSE.CODE code)).mark SAFE.STAT.HEM true).mark SAFE.STAT.HEM_SILENT silent).mark
    CE.STAT.HEM true = c
  have htiles : HemKept c (c.each (c.loom.tiles.map (·.1)) fun b t => dropAct t b) :=
    .each (fun t e => hemKept_of_only (dropAct_only t e) (by decide)) _ c
  generalize (c.each (c.loom.tiles.map (·.1)) fun b t => dropAct t b) = e at htiles ⊢
  have hmoves : HemKept c (hemHand (relaysHem e)) :=
    (htiles.trans (hemKept_of_only (relaysHem_only e) (by decide))).trans (hemKept_of_only (hemHand_only _) (by decide))
  generalize hemHand (relaysHem e) = g at hmoves ⊢
  have hpower : HemKept c (if g.power = .start ∨ g.power = .run then { g with power := .hem } else g) := by
    split
    · exact hmoves.trans (.of_regs rfl)
    · exact hmoves
  generalize (if g.power = .start ∨ g.power = .run then { g with power := .hem } else g) = k at hpower ⊢
  have hstaged : HemKept c (match k.pat.staged with
      | some st => if st.armed.isSome then
          blockRecord 12 0x0040 st.pat.serial { k.mark LOOM.STAT.HELD false with pat := { k.pat with staged := none } }
        else k
      | none => k) := by
    split
    · split
      · have hheld : HemKept k (k.mark LOOM.STAT.HELD false) := hemKept_of_only (ks := [0x406]) (Only.mark (by decide)) (by decide)
        exact ((hpower.trans hheld).trans (.of_regs rfl)).trans (hemKept_of_errorFrame (record_frame _ _ _ _))
      · exact hpower
    · exact hpower
  have hasked := hstaged.trans (hemKept_askAll .safe _)
  split
  · exact hasked.trans (.of_regs rfl)
  · exact hasked

theorem fallbackWord_cause (code : Nat) (b : Body) :
    (fallbackWord (b.put SAFE.HEM_CAUSE.CODE code)).get SAFE.HEM_CAUSE.CODE = code % 2 ^ 16 := by
  rw [(fallbackWord_only _).get _ _ _ (by decide), Body.get_put_same _ _ _ _ _ (by decide)]

theorem hemMarked_shows (code : Nat) (silent : Bool) (b : Body) :
    (hemMarked code silent b).flag SAFE.STAT.HEM = true ∧ (hemMarked code silent b).flag SAFE.STAT.HEM_SILENT = silent ∧
      (hemMarked code silent b).get SAFE.HEM_CAUSE.CODE = code % 2 ^ 16 := by
  unfold hemMarked
  refine ⟨?_, ?_, ?_⟩
  · rw [Body.flag_mark_other _ _ _ _ _ _ _ _ (by decide), Body.flag_mark_bits _ _ _ _ _ _ _ _ (by rfl) (by decide) (by decide),
      Body.flag_mark_same _ _ _ _ _ rfl (by decide)]
  · rw [Body.flag_mark_other _ _ _ _ _ _ _ _ (by decide), Body.flag_mark_same _ _ _ _ _ rfl (by decide)]
  · have hother : ∀ (f : Fld) (v : Bool) (c : Body), SAFE.HEM_CAUSE.CODE.at 0 0 ≠ f.at 0 0 →
        (c.mark f v).get SAFE.HEM_CAUSE.CODE = c.get SAFE.HEM_CAUSE.CODE := fun f v c h => Body.get_put_other _ _ _ _ _ _ _ _ h
    rw [hother _ _ _ (by decide), hother _ _ _ (by decide), hother _ _ _ (by decide), fallbackWord_cause]

/-- After an entry the module is in hem, in the silent kind when that was asked for, and SAFE.HEM_CAUSE has the first cause. -/
theorem enterHem_shows {code : Nat} (hcode : code < 2 ^ 16) (silent : Bool) (b : Body) :
    inHem (enterHem code silent b) = true ∧ (silent = true → (enterHem code silent b).flag SAFE.STAT.HEM_SILENT = true) ∧
      (enterHem code silent b).get SAFE.HEM_CAUSE.CODE = if inHem b then b.get SAFE.HEM_CAUSE.CODE else code := by
  cases hin : inHem b with
  | false =>
    have hkept := enterHem_kept hin code silent
    obtain ⟨hhem, hsilent, hcause⟩ := hemMarked_shows code silent b
    refine ⟨(hkept.flag (by decide)).trans hhem, fun h => (hkept.flag (by decide)).trans (hsilent.trans h), ?_⟩
    rw [hkept.get (by decide), hcause]
    exact Nat.mod_eq_of_lt hcode
  | true =>
    have henter : enterHem code silent b = if silent && !b.flag SAFE.STAT.HEM_SILENT then
        { b.mark SAFE.STAT.HEM_SILENT true with air := { b.air with stopAtStitch := true } } else b := if_pos hin
    rw [henter]
    split
    · refine ⟨?_, fun _ => Body.flag_mark_same b SAFE.STAT.HEM_SILENT true 0 0 rfl (by decide), ?_⟩
      · exact (Body.flag_mark_bits b SAFE.STAT.HEM_SILENT SAFE.STAT.HEM true 0 0 0 0 (by rfl) (by decide) (by decide)).trans hin
      · exact Body.get_put_other b SAFE.STAT.HEM_SILENT SAFE.HEM_CAUSE.CODE _ 0 0 0 0 (by decide)
    · rename_i h
      exact ⟨hin, fun hs => by simpa [hs] using h, rfl⟩

/-- A fatal error leaves the module in hem, in its kind of it, with the first cause (R573), whatever the error slots hold. -/
theorem raise_fatal_shows {code a0 : Nat} (hsev : severityOf code a0 = 3) (hcode : code < 2 ^ 16) (a1 : Nat) (b : Body) :
    inHem (raise code a0 a1 b) = true ∧ (silentOf code a0 = true → (raise code a0 a1 b).flag SAFE.STAT.HEM_SILENT = true) ∧
      (raise code a0 a1 b).get SAFE.HEM_CAUSE.CODE = if inHem b then b.get SAFE.HEM_CAUSE.CODE else code := by
  have hplaced : HemKept b ((placeError code 3 a0 a1 b).setBit SAFE.HELD.BLOCK (code / 256) true) :=
    (hemKept_of_errorFrame (placeError_frame code 3 a0 a1 b)).trans (.put (by decide) _ _)
  have hraise : raise code a0 a1 b =
      enterHem code (silentOf code a0) ((placeError code 3 a0 a1 b).setBit SAFE.HELD.BLOCK (code / 256) true) := by
    unfold raise raiseAs
    rw [hsev]
    rfl
  obtain ⟨hhem, hsilent, hcause⟩ := enterHem_shows hcode (silentOf code a0)
    ((placeError code 3 a0 a1 b).setBit SAFE.HELD.BLOCK (code / 256) true)
  rw [hraise]
  refine ⟨hhem, hsilent, hcause.trans ?_⟩
  have hin : inHem ((placeError code 3 a0 a1 b).setBit SAFE.HELD.BLOCK (code / 256) true) = inHem b := hplaced.flag (by decide)
  rw [hin, hplaced.get (by decide)]

end Sys2Proof.Machine
end
section
/-! SUPPORT. Scope: what leaves block SYS alone: errors, and links that go and come back with ETHCLK (R89, R400, R454). -/

namespace Sys2Proof.Machine

/-! ### Registers above SYS -/

/-- A register of a block above SYS. -/
abbrev aboveSys (a : Nat) : Prop := 0x40100000 ≤ a

/-- From `b` to `c` block SYS stands. -/
abbrev SysKept (b c : Body) : Prop := RegsKept aboveSys b c

/-- Whatever its indices, a field of a higher block lies above SYS. -/
theorem sysKept_put {f : Fld} (hf : aboveSys f.addr) (b : Body) (v i j : Nat) : SysKept b (b.put f v i j) :=
  .put (le_trans hf (by unfold Fld.at; omega)) b v

theorem sysKept_mark {f : Fld} (hf : aboveSys f.addr) (b : Body) (v : Bool) (i j : Nat) : SysKept b (b.mark f v i j) :=
  sysKept_put hf b _ i j

theorem sysKept_of_only {ks : List Nat} {b c : Body} (h : Only ks b c) (hk : ∀ k ∈ ks, 0x401 ≤ k) : SysKept b c :=
  fun a ha => h a fun hin => by
    have := hk _ hin
    have hlow : a < 0x40100000 := not_le.1 ha
    omega

theorem sysKept_record (code a0 a1 : Nat) (b : Body) : SysKept b (record code a0 a1 b) :=
  sysKept_of_only (record_only _ _ _ _) (by decide)

theorem sysKept_raise (code a0 a1 : Nat) (b : Body) : SysKept b (raise code a0 a1 b) := sysKept_of_only (raise_only _ _ _ _) (by decide)

/-! ### Frames that leave -/

theorem sysKept_txStamp (p mtype seq tn cyc : Nat) (b : Body) : SysKept b (txStamp p mtype seq tn cyc b) := by
  unfold txStamp
  split
  · exact .refl b
  · dsimp only
    split
    · exact (sysKept_mark (by decide) b _ _ _).trans (sysKept_put (f := TB.TXQ_STAT.DROPPED) (by decide) _ _ _ _)
    · exact .of_regs rfl

theorem sysKept_frameLeaves (x : Egress) (start : Nat) (b : Body) : SysKept b (frameLeaves x start b) := by
  unfold frameLeaves
  split
  · split
    · exact .refl b
    · exact sysKept_put (f := SW.DROP2.QUEUE) (by decide) b _ _ _
  · dsimp only
    split
    · exact RegsKept.trans (.of_regs rfl) (sysKept_txStamp _ _ _ _ _ _)
    · exact .of_regs rfl

theorem sysKept_servePort (n p : Nat) (b : Body) : SysKept b (servePort n p b) := by
  induction n generalizing b with
  | zero => exact .refl b
  | succ n ih =>
    unfold servePort
    dsimp only
    split
    · exact .refl b
    · split
      · exact .refl b
      · refine RegsKept.trans ?_ (ih _)
        refine RegsKept.trans ?_ (sysKept_frameLeaves _ _ _)
        exact .of_regs rfl

theorem sysKept_sendRaps (req : Nat) (rb dnf : Bool) (bpr : Nat) (b : Body) : SysKept b (sendRaps req rb dnf bpr b) := by
  refine RegsKept.each (fun p c => ?_) _ b
  split
  · exact RegsKept.trans (.of_regs rfl) (sysKept_servePort _ _ _)
  · exact .refl c

/-! ### Ring protection -/

theorem sysKept_setErps (n : Nat) (b : Body) : SysKept b (setErps n b) := by
  unfold setErps
  split
  · exact .refl b
  · exact ((sysKept_put (f := SW.ERPS_STAT.STATE) (by decide) b _ _ _).trans
      (sysKept_put (f := SW.ERPS_STAT.CHANGES) (by decide) _ _ _ _)).trans ((sysKept_record _ _ _ _).trans (.of_regs rfl))

theorem sysKept_stopTimers (b : Body) : SysKept b (stopTimers b) :=
  (sysKept_mark (by decide) b _ _ _).trans (sysKept_mark (by decide) _ _ _ _)

theorem sysKept_blockPort (p : Nat) (v : Bool) (b : Body) : SysKept b (blockPort p v b) := sysKept_mark (by decide) b _ _ _

theorem sysKept_startWtr (b : Body) : SysKept b (startWtr b) := by
  unfold startWtr
  split
  · exact (sysKept_mark (f := SW.ERPS_STAT.WTR) (by decide) b _ _ _).trans (.of_regs rfl)
  · exact .refl b

theorem sysKept_blockOnly (p req : Nat) (b : Body) : SysKept b (blockOnly p req b) := by
  unfold blockOnly
  dsimp only
  have hports : SysKept b (if portFailed (blockPort p true b) (otherPort p) then blockPort p true b
      else blockPort (otherPort p) false (blockPort p true b)) := by
    split
    · exact sysKept_blockPort _ _ _
    · exact (sysKept_blockPort _ _ _).trans (sysKept_blockPort _ _ _)
  have hsent := hports.trans (sysKept_sendRaps req false (b.flag SW.PORT_STAT.BLOCKED p) p _)
  split
  · exact hsent
  · exact hsent.trans (.of_regs rfl)

theorem sysKept_localSf (p : Nat) (b : Body) : SysKept b (localSf p b) := by
  unfold localSf
  split
  · exact .refl b
  · exact ((sysKept_blockOnly _ _ _).trans (sysKept_stopTimers _)).trans (RegsKept.trans (.of_regs rfl) (sysKept_setErps _ _))

theorem sysKept_declareSf (p : Nat) (b : Body) : SysKept b (declareSf p b) := by
  unfold declareSf
  dsimp only
  split
  · refine RegsKept.trans ?_ (sysKept_localSf _ _)
    exact .of_regs rfl
  · exact .of_regs rfl

theorem sysKept_ringLoss (p : Nat) (b : Body) : SysKept b (ringLoss p b) := by
  unfold ringLoss
  split
  · exact sysKept_declareSf p b
  · exact .of_regs rfl

theorem sysKept_clearSf (p : Nat) (b : Body) : SysKept b (clearSf p b) := by
  unfold clearSf
  dsimp only
  split
  · refine RegsKept.trans ?_ (sysKept_setErps _ _)
    refine RegsKept.trans ?_ (sysKept_startWtr _)
    refine RegsKept.trans ?_ (sysKept_sendRaps _ _ _ _ _)
    exact .of_regs rfl
  · exact .of_regs rfl

/-! ### Links -/

theorem sysKept_portLatency (p : Nat) (b : Body) : SysKept b (portLatency p b) := by
  have hset : ∀ (i e : Nat) (v : Bool), SysKept b (((b.put TB.ING_LAT.PS i p).put TB.EGR_LAT.PS e p).setBit TB.STAT.NOMINAL p v) :=
    fun i e v => ((sysKept_put (by decide) b _ _ _).trans (sysKept_put (by decide) _ _ _ _)).trans
      (sysKept_put (f := TB.STAT.NOMINAL) (by decide) _ _ _ _)
  unfold portLatency
  generalize portFibre b p = fibre
  cases fibre <;> dsimp only
  all_goals
    split
    · split
      · exact hset _ _ _
      · exact (hset _ _ _).trans (sysKept_record _ _ _ _)
    · exact (hset _ _ _).trans (sysKept_record _ _ _ _)

theorem sysKept_setMedium (p : Nat) (fibre : Bool) (b : Body) : SysKept b (setMedium p fibre b) := by
  unfold setMedium
  split
  · exact .refl b
  · dsimp only
    split
    · exact sysKept_mark (by decide) b _ _ _
    · exact (sysKept_mark (by decide) b _ _ _).trans (sysKept_portLatency _ _)

theorem sysKept_linkDown (p : Nat) (b : Body) : SysKept b (linkDown p b) := by
  have hgone : SysKept b (linkGone p b) := by
    have hmark : SysKept b (b.mark SW.PORT_STAT.LINK false p) := sysKept_mark (by decide) b _ _ _
    unfold linkGone mediumFollow
    split
    · exact hmark.trans (.of_regs rfl)
    · exact (hmark.trans (sysKept_setMedium _ _ _)).trans (.of_regs rfl)
  unfold linkDown
  split
  · exact .refl b
  · dsimp only
    split
    · exact hgone.trans (sysKept_ringLoss _ _)
    · split
      · exact hgone.trans ((sysKept_of_only (seamDown_only _) (by decide)).trans (sysKept_of_only (reselect_only _) (by decide)))
      · exact hgone

theorem sysKept_linkUp (p : Nat) (fibre : Bool) (b : Body) : SysKept b (linkUp p fibre b) := by
  unfold linkUp
  split
  · exact .refl b
  · have hup : SysKept b (setMedium p fibre (b.mark SW.PORT_STAT.LINK true p)) :=
      (sysKept_mark (by decide) b _ _ _).trans (sysKept_setMedium _ _ _)
    dsimp only
    split
    · exact hup.trans (sysKept_clearSf _ _)
    · exact hup

end Sys2Proof.Machine
end
section
/-! SUPPORT. Scope: O1 and O58, faults of the clocks (R89), fatal errors (R573), and the module right after reset. -/

namespace Sys2Proof

open Machine

/-- A command of any power state does what its body function does. -/
theorem does_of_onAny {c : Instr} {s : State} {f : Body → Body} {P : Body → Prop} (hexec : exec c s = onAny f s)
    (h : P (settle (f s.body))) : Does c s P := ⟨_, hexec, rfl, h⟩

/-- What SW holds beside its registers is none of a register's concern. -/
theorem RegsKept.withSw {p : Nat → Prop} (b : Body) (x : Sw) : RegsKept p b { b with sw := x } := fun _ _ => rfl

/-- One write on both sides keeps what stands between them. -/
theorem RegsKept.both {p : Nat → Prop} {b c : Body} (h : RegsKept p b c) {f : Fld} {i j : Nat} (hf : ¬ p (f.at i j)) (v : Nat) :
    RegsKept p (b.put f v i j) (c.put f v i j) := fun a ha => by
  by_cases hat : a = f.at i j
  · rw [hat, Body.word_put_same, Body.word_put_same, h _ hf]
  · rw [Body.word_put_other _ _ _ _ _ hat, Body.word_put_other _ _ _ _ _ hat, h a ha]

end Sys2Proof

namespace Sys2Proof.Machine

theorem exec_tcxoFail (s : State) : exec .tcxoFail s = execTcxoFail s := rfl
theorem exec_fclkUnlock (s : State) : exec .fclkUnlock s = execFclkUnlock s := rfl
theorem exec_cclkUnlock (s : State) : exec .cclkUnlock s = execCclkUnlock s := rfl
theorem exec_ethUnlock (s : State) : exec .ethUnlock s = execEthUnlock s := rfl
theorem exec_lfxoStop (s : State) : exec .lfxoStop s = execLfxoStop s := rfl
theorem exec_lockstep (s : State) : exec .lockstep s = execLockstep s := rfl
theorem exec_hemReq (s : State) : exec .hemReq s = execHemReq s := rfl

theorem monitored_iff (b : Body) : monitored b = true ↔ mainPower b = true ∧ b.power ≠ .held := by simp [monitored]

/-- The clock monitor runs with main power in a module that is not held (R88, R564). -/
theorem does_of_onMonitor {c : Instr} {s : State} {f : Body → Body} {P : Body → Prop} (hexec : exec c s = onMonitor f s)
    (hm : monitored s.body = true) (h : P (f s.body)) (hpins : ∀ b, P b → P (settle b)) : Does c s P :=
  does_of_onAny (hexec.trans rfl) (by
    rw [if_pos hm]
    exact hpins _ h)

/-! ### A clock fault -/

/-- The marks of a clock fault, and whatever leaves block SYS alone after them. -/
theorem clockFault_of_sysKept {f g : Fld} (hf : ¬ aboveSys (f.at 0 0)) (hg : ¬ aboveSys (g.at 0 0)) (hfw : f.w = 1)
    (hflo : f.lo + f.w ≤ 32) (hgw : g.w = 1) (hglo : g.lo + g.w ≤ 32) (hne : f.at 0 0 ≠ g.at 0 0) {s b : Body}
    (h : SysKept ((s.mark f true).mark g false) b) : ClockFault f g s b := by
  refine ⟨?_, ?_, fun a ha => h a ?_⟩
  · rw [h.flag hf, Body.flag_mark_other _ _ _ _ _ _ _ _ hne, Body.flag_mark_same _ _ _ _ _ hfw hflo]
  · rw [h.flag hg, Body.flag_mark_same _ _ _ _ _ hgw hglo]
  · have hlow : a < 0x40000000 + 0x100000 * (0 + 1) := ha.2
    exact not_le.2 hlow

/-- The error of a fatal clock fault: its marks, and silent hem with the first cause. -/
theorem clockFault_fatal {f g : Fld} (hf : ¬ aboveSys (f.at 0 0)) (hg : ¬ aboveSys (g.at 0 0)) (hfw : f.w = 1)
    (hflo : f.lo + f.w ≤ 32) (hgw : g.w = 1) (hglo : g.lo + g.w ≤ 32) (hne : f.at 0 0 ≠ g.at 0 0) {code : Nat}
    (hsev : severityOf code 0 = 3) (hsilent : silentOf code 0 = true) (hcode : code < 2 ^ 16) (b : Body) :
    ClockFault f g b (raise code 0 0 ((b.mark f true).mark g false)) ∧
      inHem (raise code 0 0 ((b.mark f true).mark g false)) = true ∧
      (raise code 0 0 ((b.mark f true).mark g false)).flag SAFE.STAT.HEM_SILENT = true ∧
      (raise code 0 0 ((b.mark f true).mark g false)).get SAFE.HEM_CAUSE.CODE =
        if inHem b then b.get SAFE.HEM_CAUSE.CODE else code := by
  have hmarks : HemKept b ((b.mark f true).mark g false) := by
    have hsys : ∀ k : Fld, ¬ aboveSys (k.at 0 0) → ¬ hemReg (k.at 0 0) := fun k hk hhem => hk (by
      rcases hhem with hh | hh <;> rw [hh] <;> decide)
    exact (RegsKept.put (hsys f hf) b _).trans (.put (hsys g hg) _ _)
  obtain ⟨hhem, hkind, hcause⟩ := raise_fatal_shows hsev hcode 0 ((b.mark f true).mark g false)
  refine ⟨clockFault_of_sysKept hf hg hfw hflo hgw hglo hne (sysKept_raise _ _ _ _), hhem, hkind hsilent, hcause.trans ?_⟩
  have hin : inHem ((b.mark f true).mark g false) = inHem b := hmarks.flag (by decide)
  rw [hin, hmarks.get (by decide)]

/-- ETHCLK's fault is marked and raised, and every port that was up goes down. -/
theorem ethUnlock_sysKept (b : Body) :
    SysKept ((b.mark SYS.CLK_FAULT.ETH_UNLOCK true).mark SYS.CLK_STAT.ETH_LOCK false) (ethUnlock b) := by
  have hdown : ∀ (l : List (Nat × Bool)) (c : Body), SysKept c (c.each l fun b p => linkDown p.1 b) := by
    intro l c
    refine RegsKept.each (fun p e => ?_) l c
    exact sysKept_linkDown p.1 e
  have hlost : ∀ (l : List (Nat × Bool)) (c : Body), SysKept c
      (Body.each { c with sw := { c.sw with noLink := l } } l fun b p => linkDown p.1 b) := fun l c =>
    RegsKept.trans (.withSw c _) (hdown l _)
  unfold ethUnlock
  exact (sysKept_raise _ _ _ _).trans (hlost _ _)

/-! ### LFXO -/

/-- LFXO's stop in AON: OSF set, LFXO_RUN clear, and no delta written for it yet. -/
def lfxoMarked (b : Body) : Body :=
  { (b.mark AON.STAT.OSF true).mark AON.STAT.LFXO_RUN false with aon := { b.aon with osfFix := 0 } }

theorem lfxoMarked_sysKept (b : Body) : SysKept b (lfxoMarked b) :=
  (sysKept_mark (f := AON.STAT.OSF) (by decide) b _ _ _).trans (sysKept_mark (f := AON.STAT.LFXO_RUN) (by decide) _ _ _ _)

theorem lfxoMarked_shows (b : Body) : (lfxoMarked b).flag AON.STAT.OSF = true ∧ (lfxoMarked b).flag AON.STAT.LFXO_RUN = false := by
  have hosf : ((b.mark AON.STAT.OSF true).mark AON.STAT.LFXO_RUN false).flag AON.STAT.OSF = true := by
    rw [Body.flag_mark_bits _ _ _ _ _ _ _ _ (by rfl) (by decide) (by decide), Body.flag_mark_same _ _ _ _ _ rfl (by decide)]
  exact ⟨hosf, Body.flag_mark_same (b.mark AON.STAT.OSF true) AON.STAT.LFXO_RUN false 0 0 rfl (by decide)⟩

theorem lfxoStop_monitored {b : Body} (h : monitored b = true) :
    lfxoStop b = raise 0x0010 0 0 (((lfxoMarked b).mark SYS.CLK_FAULT.LFXO_STOP true).mark SYS.CLK_STAT.LFXO_OK false) :=
  if_pos h

theorem lfxoStop_unmonitored {b : Body} (h : monitored b = false) :
    lfxoStop b = { lfxoMarked b with aon := { (lfxoMarked b).aon with stopDue := true } } :=
  if_neg (Bool.eq_false_iff.1 h)

/-- LFXO's stop shows in AON at once, and in SYS where the monitor runs (R89, R429). -/
theorem lfxoStop_shows (b : Body) : (lfxoStop b).flag AON.STAT.OSF = true ∧ (lfxoStop b).flag AON.STAT.LFXO_RUN = false ∧
    (monitored b = true → ClockFault SYS.CLK_FAULT.LFXO_STOP SYS.CLK_STAT.LFXO_OK b (lfxoStop b)) := by
  obtain ⟨hosf, hrun⟩ := lfxoMarked_shows b
  cases hm : monitored b with
  | false =>
    rw [lfxoStop_unmonitored hm]
    exact ⟨hosf, hrun, fun h => absurd h (by decide)⟩
  | true =>
    rw [lfxoStop_monitored hm]
    have haon : RegsKept (· ≠ AON.STAT.word.addr) (lfxoMarked b)
        (raise 0x0010 0 0 (((lfxoMarked b).mark SYS.CLK_FAULT.LFXO_STOP true).mark SYS.CLK_STAT.LFXO_OK false)) := by
      refine ((RegsKept.put (by decide) _ _).trans (.put (by decide) _ _)).trans fun a ha => raise_only _ _ _ _ a ?_
      rw [not_not.1 ha]
      decide
    refine ⟨(haon.flag (by decide)).trans hosf, (haon.flag (by decide)).trans hrun, fun _ => ?_⟩
    refine clockFault_of_sysKept (by decide) (by decide) rfl (by decide) rfl (by decide) (by decide) ?_
    exact (((lfxoMarked_sysKept b).both (by decide) _).both (by decide) _).trans (sysKept_raise _ _ _ _)

/-! ### The obligations -/

/-- Settles O1: each fault is its two marks of SYS, and an error that leaves SYS alone; a fatal one enters hem
(`raise_fatal_shows`), whatever `placeError` finds in the slots. -/
theorem clockFaultsAreLatchedAndFatalOnesEnterHem : Obligations.ClockFaultsAreLatchedAndFatalOnesEnterHem := by
  refine ⟨fun s hmain hheld => ?_, fun s => ?_, fun s hp => ⟨?_, ?_⟩⟩
  · have hm := (monitored_iff s.body).2 ⟨hmain, hheld⟩
    refine ⟨?_, ?_, ?_, fun hlock => ?_, fun hlock => ?_⟩
    · refine does_of_onMonitor (exec_tcxoFail s) hm ?_ fun _ h => h
      exact clockFault_fatal (by decide) (by decide) rfl (by decide) rfl (by decide) (by decide) (by decide) (by decide)
        (by decide) s.body
    · refine does_of_onMonitor (exec_fclkUnlock s) hm ?_ fun _ h => h
      exact clockFault_fatal (by decide) (by decide) rfl (by decide) rfl (by decide) (by decide) (by decide) (by decide)
        (by decide) s.body
    · refine does_of_onMonitor (exec_cclkUnlock s) hm ?_ fun _ h => h
      exact clockFault_of_sysKept (by decide) (by decide) rfl (by decide) rfl (by decide) (by decide) (sysKept_raise _ _ _ _)
    · refine does_of_onMonitor (exec_ethUnlock s) hm ?_ fun _ h => h
      rw [if_pos hlock]
      exact clockFault_of_sysKept (by decide) (by decide) rfl (by decide) rfl (by decide) (by decide) (ethUnlock_sysKept s.body)
    · refine does_of_onMonitor (exec_ethUnlock s) hm ?_ fun _ h => h
      rw [if_neg (Bool.eq_false_iff.1 hlock)]
      exact .refl _
  · obtain ⟨hosf, hrun, hfault⟩ := lfxoStop_shows s.body
    refine does_of_onAny (exec_lfxoStop s) ?_
    exact ⟨hosf, hrun, fun hmain hheld => hfault ((monitored_iff s.body).2 ⟨hmain, hheld⟩)⟩
  · obtain ⟨hhem, hsilent, hcause⟩ := raise_fatal_shows (code := 0x0D02) (a0 := 0) (by decide) (by decide) 0 s.body
    refine does_of_unpinned (exec_lockstep s) hp ?_ fun _ h => h
    exact ⟨hhem, hsilent (by decide), hcause⟩
  · obtain ⟨hhem, -, hcause⟩ := raise_fatal_shows (code := 0x0D04) (a0 := 0) (by decide) (by decide) 0 s.body
    refine does_of_unpinned (exec_hemReq s) hp ?_ fun _ h => h
    exact ⟨hhem, hcause⟩

/-- Settles O58: no pattern is loaded, so no contact closes and VSIGN stays off, and AIR does not run. -/
theorem resetShowsNothingOutside : Obligations.ResetShowsNothingOutside := by
  have hpins : PinsFollow State.reset := by
    unfold PinsFollow
    decide +kernel
  have hloaded : loaded State.reset.body = false := rfl
  have hair : (pinsOf State.reset.body).ledAir = .off := by decide +kernel
  refine ⟨hpins, ⟨?_, ?_, ?_⟩, rfl⟩ <;> rw [hpins]
  · exact relays_open_without_pattern (.inr hloaded)
  · exact vsign_off_of_dark (signLit_dark (.inr (.inl hloaded)))
  · exact hair

end Sys2Proof.Machine
end
section
/-! SUPPORT. Scope: O2, relocks (R89), core sleep (R85, R86) and the gated domain (R75 to R83). -/

namespace Sys2Proof.Machine

theorem exec_cclkRelock (s : State) : exec .cclkRelock s = execCclkRelock s := rfl
theorem exec_ethRelock (s : State) : exec .ethRelock s = execEthRelock s := rfl
theorem exec_lfxoRunning (s : State) : exec .lfxoRunning s = execLfxoRunning s := rfl
theorem exec_coreSleep (k : Nat) (s : State) : exec (.coreSleep k) s = execCoreSleep k s := rfl
theorem exec_coreWake (k : Nat) (s : State) : exec (.coreWake k) s = execCoreWake k s := rfl
theorem exec_gateStop (s : State) : exec .gateStop s = execGateStop s := rfl
theorem exec_onDemandWake (s : State) : exec .onDemandWake s = execOnDemandWake s := rfl
theorem exec_scheduledWake (r : Nat) (late : Bool) (s : State) :
    exec (.scheduledWake r late) s = execScheduledWake r late s := rfl

/-! ### Relocks -/

theorem ethRelock_locked (b : Body) : (ethRelock b).flag SYS.CLK_STAT.ETH_LOCK = true := by
  unfold ethRelock
  split
  · assumption
  · dsimp only
    have hup : ∀ (l : List (Nat × Bool)) (c : Body), SysKept c (c.each l fun b p => linkUp p.1 p.2 b) := by
      intro l c
      refine RegsKept.each (fun p e => ?_) l c
      exact sysKept_linkUp p.1 p.2 e
    rw [(hup _ _).flag (by decide)]
    exact Body.flag_mark_same b SYS.CLK_STAT.ETH_LOCK true 0 0 rfl (by decide)

/-! ### LFXO -/

/-- From `b` to `c` SYS stands and LFXO_RUN keeps its value. -/
def RunKept (b c : Body) : Prop := SysKept b c ∧ c.flag AON.STAT.LFXO_RUN = b.flag AON.STAT.LFXO_RUN

theorem RunKept.refl (b : Body) : RunKept b b := ⟨.refl b, rfl⟩

theorem RunKept.trans {b c e : Body} (h : RunKept b c) (g : RunKept c e) : RunKept b e := ⟨h.1.trans g.1, g.2.trans h.2⟩

/-- A field of AON outside its STAT. -/
theorem RunKept.put {f : Fld} (hf : aboveSys f.addr) (hne : AON.STAT.LFXO_RUN.at 0 0 ≠ f.at 0 0) (b : Body) (v : Nat) :
    RunKept b (b.put f v) :=
  ⟨sysKept_put hf b v 0 0, Body.flag_of_get (Body.get_put_other b f _ v 0 0 0 0 hne)⟩

theorem RunKept.aon (b : Body) (x : Aon) : RunKept b { b with aon := x } := ⟨.of_regs rfl, rfl⟩

theorem adjGo_runKept (b : Body) : RunKept b (adjGo b) := by
  unfold adjGo onAon
  split
  · exact .refl b
  · dsimp only
    split
    · exact .put (f := AON.ADJ_STAT.REJ) (by decide) (by decide) b _
    · exact RunKept.trans ⟨sysKept_mark (f := AON.STAT.ADJ_PEND) (by decide) b true 0 0,
        Body.flag_mark_bits b AON.STAT.ADJ_PEND AON.STAT.LFXO_RUN true 0 0 0 0 rfl (by decide) (by decide)⟩ (.aon _ _)

theorem osfDelta_runKept (b : Body) : RunKept b (osfDelta b) := by
  have hwrite : ∀ c : Body, RunKept c (writeDelta c) := by
    intro c
    unfold writeDelta onAon
    split
    · exact .refl c
    · refine RunKept.trans ?_ (adjGo_runKept _)
      exact (RunKept.put (f := AON.ADJ_LO.DELTA) (by decide) (by decide) c _).trans
        (.put (f := AON.ADJ_HI.word) (by decide) (by decide) _ _)
  unfold osfDelta
  split
  · exact (RunKept.aon b _).trans (hwrite _)
  · exact .refl b

/-- LFXO runs again: AON shows it, and SYS where the monitor runs (R89). -/
theorem lfxoRunning_shows (b : Body) : (lfxoRunning b).flag AON.STAT.LFXO_RUN = true ∧
    (monitored b = true → (lfxoRunning b).flag SYS.CLK_STAT.LFXO_OK = true) := by
  have hrun : (b.mark AON.STAT.LFXO_RUN true).flag AON.STAT.LFXO_RUN = true := Body.flag_mark_same _ _ _ _ _ rfl (by decide)
  have hmon : monitored (b.mark AON.STAT.LFXO_RUN true) = monitored b := rfl
  unfold lfxoRunning
  dsimp only
  rw [hmon]
  split
  · have hok := Body.flag_mark_same (b.mark AON.STAT.LFXO_RUN true) SYS.CLK_STAT.LFXO_OK true 0 0 rfl (by decide)
    have hrun' : ((b.mark AON.STAT.LFXO_RUN true).mark SYS.CLK_STAT.LFXO_OK true).flag AON.STAT.LFXO_RUN = true := by
      rw [Body.flag_mark_other _ _ _ _ _ _ _ _ (by decide), hrun]
    split
    · obtain ⟨hsys, hkept⟩ := osfDelta_runKept ((b.mark AON.STAT.LFXO_RUN true).mark SYS.CLK_STAT.LFXO_OK true)
      exact ⟨hkept.trans hrun', fun _ => (hsys.flag (by decide)).trans hok⟩
    · exact ⟨hrun', fun _ => hok⟩
  · next h => exact ⟨hrun, fun hm => absurd hm h⟩

/-! ### The gated domain -/

theorem sysKept_sliceYield (k : Nat) (b : Body) : SysKept b (sliceYield k b) :=
  (sliceYield_kept k b).mono fun a h => by
    have hslice : 0x40D00000 ≤ SAFE.SLICE.word.at k 0 := le_trans (b := SAFE.SLICE.word.addr) (by decide) (by unfold Fld.at; omega)
    have ha : errorReg a ∨ a = SAFE.SLICE.word.at k 0 := h
    unfold aboveSys
    omega

/-- The wake counted, or not where another radio shares the start (R81, R82). -/
def wakeCounted (shared : Bool) (b : Body) : Body := if shared then ungate b else (ungate b).wrap SYS.WAKE_CNT.COUNT

theorem ungate_gated (b : Body) : (ungate b).flag SYS.CLK_STAT.GATED = false := Body.flag_mark_same _ _ _ _ _ rfl (by decide)

theorem ungate_kept (b : Body) : RegsKept (· = SYS.CLK_STAT.word.addr) b (ungate b) :=
  .put_at (f := SYS.CLK_STAT.GATED) (i := 0) (j := 0) rfl b _

theorem wakeCounted_shows (shared : Bool) (b : Body) : (wakeCounted shared b).flag SYS.CLK_STAT.GATED = false ∧
    (wakeCounted shared b).get SYS.WAKE_CNT.COUNT = (b.get SYS.WAKE_CNT.COUNT + if shared then 0 else 1) % 2 ^ 32 ∧
    (wakeCounted shared b).get SYS.WAKE_LATE.COUNT = b.get SYS.WAKE_LATE.COUNT := by
  have hcnt : (ungate b).get SYS.WAKE_CNT.COUNT = b.get SYS.WAKE_CNT.COUNT := (ungate_kept b).get (by decide)
  have hlate : (ungate b).get SYS.WAKE_LATE.COUNT = b.get SYS.WAKE_LATE.COUNT := (ungate_kept b).get (by decide)
  cases shared with
  | true =>
    refine ⟨ungate_gated b, ?_, hlate⟩
    have hlt : b.get SYS.WAKE_CNT.COUNT < 2 ^ 32 := Nat.mod_lt _ (by decide)
    exact hcnt.trans (Nat.mod_eq_of_lt hlt).symm
  | false =>
    have hwrap : wakeCounted false b = (ungate b).put SYS.WAKE_CNT.COUNT ((ungate b).get SYS.WAKE_CNT.COUNT + 1) := rfl
    rw [hwrap]
    refine ⟨?_, ?_, ?_⟩
    · rw [Body.flag_of_get (Body.get_put_other _ _ _ _ _ _ _ _ (by decide)), ungate_gated]
    · rw [Body.get_put_same _ _ _ _ _ (by decide), hcnt]
      rfl
    · rw [Body.get_put_other _ _ _ _ _ _ _ _ (by decide), hlate]

/-- A late wake is counted, its stitch is lost, and the rest of SYS that its caller reads stands (R83). -/
theorem lateWake_shows (r : Nat) (b : Body) : (lateWake r b).get SYS.WAKE_LATE.COUNT = min (b.get SYS.WAKE_LATE.COUNT + 1) 0xFFFF ∧
    (lateWake r b).air.lateRadios.contains r = true ∧
    (lateWake r b).flag SYS.CLK_STAT.GATED = b.flag SYS.CLK_STAT.GATED ∧
    (lateWake r b).get SYS.WAKE_CNT.COUNT = b.get SYS.WAKE_CNT.COUNT := by
  have hcount : (b.bump SYS.WAKE_LATE.COUNT).get SYS.WAKE_LATE.COUNT = min (b.get SYS.WAKE_LATE.COUNT + 1) 0xFFFF :=
    Body.get_bump_same b SYS.WAKE_LATE.COUNT 0 0 (by decide)
  have hgated : (b.bump SYS.WAKE_LATE.COUNT).flag SYS.CLK_STAT.GATED = b.flag SYS.CLK_STAT.GATED :=
    (RegsKept.put_at (f := SYS.WAKE_LATE.COUNT) rfl b _).flag (by decide)
  have hcnt : (b.bump SYS.WAKE_LATE.COUNT).get SYS.WAKE_CNT.COUNT = b.get SYS.WAKE_CNT.COUNT :=
    (RegsKept.put_at (f := SYS.WAKE_LATE.COUNT) rfl b _).get (by decide)
  have hin : (b.air.lateRadios ++ [r]).contains r = true := by simp
  unfold lateWake
  dsimp only
  split
  · have hslip : ∀ (c : Body) (a0 : Nat),
        RegsKept (fun a => aboveSys a ∨ a = SYS.CLK_FAULT.word.addr) c (raise 0x0015 a0 0 (c.mark SYS.CLK_FAULT.WAKE_SLIP true)) :=
      fun c a0 => RegsKept.trans (.put (.inr rfl) c _) ((sysKept_raise _ _ _ _).mono fun _ h => .inl h)
    refine ⟨((hslip _ _).get (by decide)).trans hcount, ?_, ((hslip _ _).flag (by decide)).trans hgated,
      ((hslip _ _).get (by decide)).trans hcnt⟩
    have hsev : ∀ a0, severityOf 0x0015 a0 < 3 := fun _ => (by decide : 1 < 3)
    rw [(raise_told (hsev _) _ _).air]
    exact hin
  · exact ⟨hcount, hin, hgated, hcnt⟩

/-- The synthesiser of radio `r` is started for its next marked stitch (R81). -/
def wakeBegun (r : Nat) (b : Body) : Body :=
  let c := sliceYield (9 + r) (wakeCounted (b.air.woken.any fun p => decide (p.2 = wakeStitch b r + 1)) b)
  { c with air := { c.air with woken := tabSet (fun _ => 0) c.air.woken r (wakeStitch b r + 1) } }

theorem wakeBegun_shows (r : Nat) (b : Body) : (wakeBegun r b).flag SYS.CLK_STAT.GATED = false ∧
    (wakeBegun r b).get SYS.WAKE_CNT.COUNT = (b.get SYS.WAKE_CNT.COUNT +
      (if b.air.woken.any (fun p => decide (p.2 = wakeStitch b r + 1)) then 0 else 1)) % 2 ^ 32 ∧
    (wakeBegun r b).get SYS.WAKE_LATE.COUNT = b.get SYS.WAKE_LATE.COUNT := by
  obtain ⟨hgated, hcnt, hlate⟩ := wakeCounted_shows (b.air.woken.any fun p => decide (p.2 = wakeStitch b r + 1)) b
  have hsys : SysKept _ (wakeBegun r b) := (sysKept_sliceYield _ _).trans (.of_regs rfl)
  exact ⟨(hsys.flag (by decide)).trans hgated, (hsys.get (by decide)).trans hcnt, (hsys.get (by decide)).trans hlate⟩

theorem scheduledWake_due {r : Nat} (late : Bool) {b : Body} (h : ¬ (airMarks b r = false ∨ tnNs b + 50000 < wakeStitch b r)) :
    scheduledWake r late b =
      if late || decide (wakeStitch b r < tnNs (wakeBegun r b)) then lateWake r (wakeBegun r b) else wakeBegun r b :=
  if_neg (by simpa using h)

theorem scheduledWake_idle {r : Nat} {late : Bool} {b : Body}
    (h : airMarks b r = false ∨ tnNs b + 50000 < wakeStitch b r) : scheduledWake r late b = b :=
  if_pos (by simpa using h)

/-- From the wake point of a marked stitch on, the wake is counted and the gated domain clocked (R81, R83). -/
theorem scheduledWake_shows {r : Nat} {late : Bool} {b : Body} (hmarks : airMarks b r = true)
    (hpoint : wakeStitch b r ≤ tnNs b + 50000) :
    (scheduledWake r late b).flag SYS.CLK_STAT.GATED = false ∧
    (scheduledWake r late b).get SYS.WAKE_CNT.COUNT = (b.get SYS.WAKE_CNT.COUNT +
      (if b.air.woken.any (fun p => decide (p.2 = wakeStitch b r + 1)) then 0 else 1)) % 2 ^ 32 ∧
    (late = true → (scheduledWake r late b).get SYS.WAKE_LATE.COUNT = min (b.get SYS.WAKE_LATE.COUNT + 1) 0xFFFF ∧
      (scheduledWake r late b).air.lateRadios.contains r = true) := by
  have hdue : ¬ (airMarks b r = false ∨ tnNs b + 50000 < wakeStitch b r) := by simpa [hmarks] using hpoint
  obtain ⟨hgated, hcnt, hlate⟩ := wakeBegun_shows r b
  rw [scheduledWake_due late hdue]
  split
  · obtain ⟨hl, hin, hg, hc⟩ := lateWake_shows r (wakeBegun r b)
    exact ⟨hg.trans hgated, hc.trans hcnt, fun _ => ⟨hlate ▸ hl, hin⟩⟩
  · next hno => exact ⟨hgated, hcnt, fun ht => absurd (by rw [ht]; rfl) hno⟩

theorem setCore_sleep (k : Nat) (v : Bool) (b : Body) :
    tabGet (fun _ => false) (setCore k v b).clock.coreSleep k = v := tabGet_tabSet_same b.clock.coreSleep k v

/-! ### The obligation -/

/-- Settles O2: each command writes the mark that it names; the errors, links and slices that follow leave SYS alone. -/
theorem clocksCoresAndTheGatedDomainWake : Obligations.ClocksCoresAndTheGatedDomainWake := by
  refine ⟨fun s hmain hheld => ?_, fun s => ?_, fun s k hp => ⟨fun hc => ?_, fun hc => ?_, ?_⟩,
    fun s r hp => ⟨fun hi => ?_, fun hi => ?_, ?_, fun late hm hw => ?_, fun late h => ?_⟩⟩
  · have hm := (monitored_iff s.body).2 ⟨hmain, hheld⟩
    constructor
    · refine does_of_onMonitor (exec_cclkRelock s) hm ?_ fun _ h => h
      exact ⟨Body.flag_mark_same _ _ _ _ _ rfl (by decide), .put_at (f := SYS.CLK_STAT.CCLK_LOCK) (i := 0) (j := 0) rfl s.body _⟩
    · refine does_of_onMonitor (exec_ethRelock s) hm ?_ fun _ h => h
      exact ethRelock_locked s.body
  · obtain ⟨hrun, hok⟩ := lfxoRunning_shows s.body
    refine does_of_onAny (exec_lfxoRunning s) ?_
    exact ⟨hrun, fun hmain hheld => hok ((monitored_iff s.body).2 ⟨hmain, hheld⟩)⟩
  · refine does_of_unpinned (exec_coreSleep k s) hp ?_ fun _ h => h
    rw [hc]
    exact setCore_sleep k true s.body
  · refine does_of_unpinned (exec_coreSleep k s) hp ?_ fun _ h => h
    rw [hc]
    exact ⟨rfl, rfl⟩
  · refine does_of_unpinned (exec_coreWake k s) hp ?_ fun _ h => h
    exact ⟨setCore_sleep k false s.body, rfl⟩
  · refine does_of_unpinned (exec_gateStop s) hp ?_ fun _ h => h
    rw [hi]
    exact ⟨Body.flag_mark_same _ _ _ _ _ rfl (by decide), rfl, rfl, rfl, rfl,
      .put_at (f := SYS.CLK_STAT.GATED) (i := 0) (j := 0) rfl s.body _⟩
  · refine does_of_unpinned (exec_gateStop s) hp ?_ fun _ h => h
    rw [hi]
    exact ⟨rfl, .refl _⟩
  · refine does_of_unpinned (exec_onDemandWake s) hp ?_ fun _ h => h
    exact ⟨ungate_gated _, ungate_kept _⟩
  · refine does_of_unpinned (exec_scheduledWake r late s) hp ?_ fun _ h => h
    exact scheduledWake_shows hm hw
  · refine does_of_unpinned (exec_scheduledWake r late s) hp ?_ fun _ h => h
    rw [scheduledWake_idle h]
    exact ⟨rfl, .refl _⟩

end Sys2Proof.Machine
end
section
/-! SUPPORT. Scope: O3, main power falls and rises, and restarts start cold (R40, R41, R90, R580). -/

namespace Sys2Proof.Machine

theorem exec_powerStop (high : Bool) (s : State) : exec (.powerStop high) s = execPowerStop high s := rfl
theorem exec_coldStart (s : State) : exec .coldStart s = execColdStart s := rfl
theorem exec_overvoltageRestart (s : State) : exec .overvoltageRestart s = execOvervoltageRestart s := rfl
theorem exec_restart (s : State) : exec .restart s = onBody coldRestart s := rfl

/-! ### Power stop -/

/-- The effect of a power stop with main power present, before the pins follow. -/
theorem powerStop_main {b : Body} (hmain : mainPower b = true) (high : Bool) : powerStop high b =
    { (coldBody b).mark AON.STAT.MAIN false with power := if high then Power.cellOver else Power.cell } :=
  if_neg (by simp [hmain])

/-- Without power to the engines nothing outside is driven (R53, R68). -/
theorem dark_of_unpowered {b : Body} (h : powered b = false) : Dark (settle b) := by
  refine ⟨relays_open_without_pattern (.inl h), vsign_off_of_dark (signLit_dark (.inl h)), ?_⟩
  change ledAir b = .off
  unfold ledAir
  rw [h]
  rfl

theorem powered_of_cell (b : Body) (high : Bool) :
    powered { b with power := if high then Power.cellOver else Power.cell } = false := by
  cases high <;> rfl

/-! ### Cold start -/

/-- A cold start has begun as the `n`th start: nothing is loaded, and the cycles are counted from 0. -/
def Begun (n : Nat) (b : Body) : Prop :=
  b.power = .start ∧ b.clock.cyc = 0 ∧ b.nv.boot = n ∧ b.pat.run = none ∧ b.flag AON.STAT.MAIN = true

theorem Begun.put {n : Nat} {b : Body} (h : Begun n b) {f : Fld} (hf : AON.STAT.MAIN.at 0 0 ≠ f.at 0 0) (v : Nat) :
    Begun n (b.put f v) := by
  obtain ⟨hpower, hcyc, hboot, hrun, hflag⟩ := h
  exact ⟨hpower, hcyc, hboot, hrun, (Body.flag_of_get (Body.get_put_other b f _ v 0 0 0 0 hf)).trans hflag⟩

theorem Begun.mark {n : Nat} {b : Body} (h : Begun n b) {f : Fld} (hf : AON.STAT.MAIN.at 0 0 ≠ f.at 0 0) (v : Bool) :
    Begun n (b.mark f v) := h.put hf _

/-- The error of LFXO's stop leaves the start as it began. -/
theorem Begun.lfxoError {n : Nat} {b : Body} (h : Begun n b) : Begun n (raise 0x0010 0 0 b) := by
  obtain ⟨hpower, hcyc, hboot, hrun, hflag⟩ := h
  have htold : Told b (raise 0x0010 0 0 b) := raise_told (by decide) 0 b
  refine ⟨htold.stands.power.trans hpower, ?_, htold.boot.trans hboot, ?_, ?_⟩
  · rw [htold.stands.clock, hcyc]
  · rw [htold.stands.pat, hrun]
  · rw [(raise_only 0x0010 0 0 b).flag _ _ _ (by decide), hflag]

/-- The start and its marks; `scan` is what becomes of scan enable (R586). -/
def coldMarked (scan : Bool) (c : Body) : Body :=
  let b := { c with power := .start, nv := { c.nv with boot := (c.nv.boot + 1) % 65536 } }
  let b := (b.mark AON.STAT.MAIN true).mark MEMI.STAT.INIT_DONE false
  let b := (b.put SAFE.ST_RES.LAST_FAIL b.nv.stFail).mark SAFE.STAT.SCAN_EN scan
  b.mark SYS.CLK_STAT.LFXO_OK (b.flag AON.STAT.LFXO_RUN)

/-- A stop of LFXO while main power was absent is raised (R429). -/
def lateStop (b : Body) : Body :=
  if b.aon.stopDue then
    raise 0x0010 0 0 ({ b with aon := { b.aon with stopDue := false } }.mark SYS.CLK_FAULT.LFXO_STOP true)
  else b

theorem coldStart_steps (b : Body) :
    coldStart b = lateStop (coldMarked (b.flag SAFE.STAT.SCAN_EN && b.flag AON.TAMPER.OPEN) (coldBody b)) := rfl

theorem coldMarked_begun {n : Nat} {c : Body} (hcyc : c.clock.cyc = 0) (hrun : c.pat.run = none) (hboot : c.nv.boot = n)
    (scan : Bool) : Begun ((n + 1) % 65536) (coldMarked scan c) := by
  subst hboot
  have hmain : Begun ((c.nv.boot + 1) % 65536)
      ({ c with power := .start, nv := { c.nv with boot := (c.nv.boot + 1) % 65536 } }.mark AON.STAT.MAIN true) :=
    ⟨rfl, hcyc, rfl, hrun, Body.flag_mark_same _ AON.STAT.MAIN true 0 0 rfl (by decide)⟩
  exact (((hmain.mark (f := MEMI.STAT.INIT_DONE) (by decide) false).put (f := SAFE.ST_RES.LAST_FAIL) (by decide) _).mark
    (f := SAFE.STAT.SCAN_EN) (by decide) scan).mark (f := SYS.CLK_STAT.LFXO_OK) (by decide) _

theorem Begun.lateStop {n : Nat} {b : Body} (h : Begun n b) : Begun n (lateStop b) := by
  have haon : Begun n { b with aon := { b.aon with stopDue := false } } := h
  unfold Machine.lateStop
  split
  · exact (haon.mark (f := SYS.CLK_FAULT.LFXO_STOP) (by decide) true).lfxoError
  · exact h

theorem coldStart_begun (b : Body) : Begun ((b.nv.boot + 1) % 65536) (coldStart b) := by
  have hcyc : (coldBody b).clock.cyc = 0 := rfl
  have hrun : (coldBody b).pat.run = none := rfl
  have hboot : (coldBody b).nv.boot = b.nv.boot := rfl
  rw [coldStart_steps]
  exact (coldMarked_begun hcyc hrun hboot _).lateStop

/-! ### Cold restart -/

/-- The black box with ring `l`. -/
def withRing (l : List BbRec) (b : Body) : Body := { b with nv := { b.nv with bb := l } }

theorem withRing_boot (l : List BbRec) (b : Body) : (withRing l b).nv.boot = b.nv.boot := rfl

theorem bbStore_ring (r : BbRec) (b : Body) :
    bbStore r b = (qPut 26 r.bytes (withRing ((b.nv.bb ++ [r]).drop ((b.nv.bb ++ [r]).length - 8192)) b)).1 := rfl

theorem bbStore_boot (r : BbRec) (b : Body) : (bbStore r b).nv.boot = b.nv.boot := by
  rw [bbStore_ring, (sameStore_qPut 26 r.bytes _).2, withRing_boot]

theorem bbWrite_boot (b : Body) : (bbWrite b).nv.boot = b.nv.boot := by
  unfold bbWrite
  split
  · rfl
  · next r t _ =>
    have hstore : (bbStore r { b with safe := { b.safe with bbQ := t } }).nv.boot = b.nv.boot := bbStore_boot r _
    have hsev : ∀ a0, severityOf 0x0D07 a0 < 3 := fun _ => (by decide : 1 < 3)
    dsimp only
    split
    · exact (raise_told (hsev _) _ _).boot.trans hstore
    · exact hstore

theorem bbWrites_boot (n : Nat) (b : Body) : (bbWrites n b).nv.boot = b.nv.boot := by
  induction n generalizing b with
  | zero => rfl
  | succ n ih => exact (ih _).trans (bbWrite_boot b)

theorem coldRestart_begun (b : Body) : Begun ((b.nv.boot + 1) % 65536) (coldRestart b) := by
  have h := coldStart_begun (bbDrain b)
  rwa [bbDrain, bbWrites_boot] at h

/-! ### The obligation -/

/-- Settles O3: a power stop keeps what `coldBody` keeps in a state without power to the engines, and every start begins by
`coldStart`, before which a restart only writes the records that wait. -/
theorem mainPowerFallsAndRises : Obligations.MainPowerFallsAndRises := by
  refine fun s high => ⟨fun hmain => ?_, fun hmain => ?_, fun hmain => ?_, fun hover => ?_, fun hover => ?_, fun hp => ?_⟩
  · refine does_of_onAny (exec_powerStop high s) ?_
    rw [powerStop_main hmain]
    exact ⟨rfl, Body.flag_mark_same (coldBody s.body) AON.STAT.MAIN false 0 0 rfl (by decide), rfl, rfl,
      dark_of_unpowered (powered_of_cell _ high)⟩
  · obtain ⟨hpower, hcyc, hboot, hrun, hflag⟩ := coldStart_begun s.body
    refine does_of_onAny (exec_coldStart s) ?_
    rw [hmain]
    exact ⟨hpower, hcyc, hboot, hrun, hflag⟩
  · refine does_of_onAny (exec_coldStart s) ?_
    rw [hmain]
    exact ⟨rfl, rfl⟩
  · obtain ⟨-, -, hboot, hrun, -⟩ := coldStart_begun s.body
    refine does_of_onAny (exec_overvoltageRestart s) ?_
    rw [if_pos hover]
    exact ⟨hboot, hrun⟩
  · refine does_of_onAny (exec_overvoltageRestart s) ?_
    rw [if_neg hover]
    exact ⟨rfl, rfl⟩
  · obtain ⟨-, hcyc, hboot, hrun, -⟩ := coldRestart_begun s.body
    refine does_of_unpinned (exec_restart s) hp ?_ fun _ h => h
    exact ⟨hboot, hrun, hcyc⟩

end Sys2Proof.Machine
end
section
/-! SUPPORT. Scope: O41, what a stitch does with its frames: sync frames, the frame of a DOWN stitch, refusals (R83, R283 to R294). -/

namespace Sys2Proof.Machine

theorem exec_beaconStitch (r : Nat) (dbm : Int) (s : State) : exec (.beaconStitch r dbm) s = execBeaconStitch r dbm s := rfl
theorem exec_anchorStitch (dbm : Int) (s : State) : exec (.anchorStitch dbm) s = execAnchorStitch dbm s := rfl
theorem exec_downStitch (r st : Nat) (dbm : Int) (s : State) : exec (.downStitch r st dbm) s = execDownStitch r st dbm s := rfl

/-! ### Who takes part in a stitch -/

theorem stitchBoundary_stays {b : Body} (h : b.air.stopAtStitch = false) : stitchBoundary b = b :=
  if_neg (Bool.eq_false_iff.1 h)

/-- At the boundary at which silent hem stops AIR, RUN clears (R578). -/
theorem stitchBoundary_stops {b : Body} (h : b.air.stopAtStitch = true) : (stitchBoundary b).flag AIR.CTL.RUN = false := by
  have hstop : stitchBoundary b = { b.mark AIR.CTL.RUN false with air := { b.air with stopAtStitch := false } } := if_pos h
  rw [hstop]
  exact Body.flag_mark_same b AIR.CTL.RUN false 0 0 rfl (by decide)

theorem stitchBoundary_quiet (b : Body) : (stitchBoundary b).out = b.out ∧ (stitchBoundary b).qm = b.qm := by
  unfold stitchBoundary
  split <;> exact ⟨rfl, rfl⟩

theorem takeLate_none {r : Nat} {b : Body} (h : b.air.lateRadios.contains r = false) : takeLate r b = (false, b) := by
  have hnone : b.air.lateRadios.filter (· ≠ r) = b.air.lateRadios := by
    refine List.filter_eq_self.2 fun q hq => decide_eq_true fun e => ?_
    subst e
    simp [hq] at h
  unfold takeLate
  rw [h, hnone]

/-- The state in which a stitch of radio `r` begins: at its boundary, the late mark of the radio taken. -/
def stitchBegun (r : Nat) (b : Body) : Body := (takeLate r (stitchBoundary b)).2

theorem stitchBegun_quiet (r : Nat) (b : Body) : (stitchBegun r b).out = b.out ∧ (stitchBegun r b).qm = b.qm :=
  stitchBoundary_quiet b

/-- Radio `r` stays out of its stitch: AIR does not run there, or its wake came late. -/
def sitsOut (r : Nat) (b : Body) : Prop :=
  airOn (stitchBegun r b) r = false ∨ (stitchBoundary b).air.lateRadios.contains r = true

theorem airOn_of_stopped {r : Nat} {b : Body} (h : b.flag AIR.CTL.RUN = false) : airOn b r = false := by
  simp [airOn, airRuns, h]

theorem sitsOut_of_stop (r : Nat) {b : Body} (h : b.air.stopAtStitch = true) :
    sitsOut r b ∧ (stitchBegun r b).flag AIR.CTL.RUN = false :=
  ⟨.inl (airOn_of_stopped (b := stitchBegun r b) (stitchBoundary_stops h)), stitchBoundary_stops h⟩

theorem sitsOut_of_idle {r : Nat} {b : Body} (hstop : b.air.stopAtStitch = false)
    (h : airOn b r = false ∨ b.air.lateRadios.contains r = true) : sitsOut r b := by
  unfold sitsOut stitchBegun
  rw [stitchBoundary_stays hstop]
  exact h

theorem beacon_sitsOut {r : Nat} {b : Body} (h : sitsOut r b) (dbm : Int) : beacon r dbm b = stitchBegun r b :=
  if_pos (by rcases h with h | h <;> simp [stitchBegun, takeLate] at h ⊢ <;> simp [h])

theorem anchor_sitsOut {b : Body} (h : sitsOut 3 b) (dbm : Int) : anchor dbm b = stitchBegun 3 b :=
  if_pos (by rcases h with h | h <;> simp [stitchBegun, takeLate] at h ⊢ <;> simp [h])

theorem downStitch_sitsOut {r : Nat} {b : Body} (h : sitsOut r b) (st : Nat) (dbm : Int) :
    downStitch r st dbm b = stitchBegun r b :=
  if_pos (by rcases h with h | h <;> simp [stitchBegun, takeLate] at h ⊢ <;> simp [h])

/-- Radio `r` takes part in its stitch. -/
structure TakesPart (r : Nat) (b : Body) : Prop where
  boundary : b.air.stopAtStitch = false
  on : airOn b r = true
  intime : b.air.lateRadios.contains r = false

/-! ### Sync frames -/

theorem toLe_length (k n : Nat) : (toLe k n).length = k := by
  induction k generalizing n with
  | zero => rfl
  | succ k ih => exact congrArg (· + 1) (ih _)

theorem syncHead_length (b : Body) (r sfd : Nat) : (syncHead b r sfd).length = 3 := by
  unfold syncHead
  simp [toLe_length]

/-- A frame begins with the first byte of its header. -/
theorem protect_first (key : List Nat) (x : Nat) (h payload : List Nat) : u8 (protect key (x :: h) payload) 0 = x % 256 := by
  unfold protect
  split <;> rfl

theorem sendSync_busy {ty r chan keyidx : Nat} {dbm : Int} {sfd : Nat} {payload : List Nat} {b : Body}
    (h : lbtBusy b r dbm = true) : sendSync ty r chan keyidx dbm sfd payload b = b.bump AIR.TXC.DEFER_LBT 1 r := if_pos h

theorem sendSync_guarded {ty r chan keyidx : Nat} {dbm : Int} {sfd : Nat} {payload : List Nat} {b : Body}
    (hfree : lbtBusy b r dbm = false) (h : dwellPass b r chan (frameUs b r (25 + payload.length)) = false) :
    sendSync ty r chan keyidx dbm sfd payload b = b.bump AIR.TXC.DEFER_DWELL 1 r :=
  (if_neg (Bool.eq_false_iff.1 hfree)).trans (if_pos (by rw [h]; rfl))

theorem sendSync_sends {ty r chan keyidx : Nat} {dbm : Int} {sfd : Nat} {payload : List Nat} {b : Body}
    (hfree : lbtBusy b r dbm = false) (h : dwellPass b r chan (frameUs b r (25 + payload.length)) = true) :
    ∃ f, (sendSync ty r chan keyidx dbm sfd payload b).out = b.out ++ [.air r chan (phrOf b r) f] ∧ u8 f 0 = fcOf ty % 256 ∧
      (sendSync ty r chan keyidx dbm sfd payload b).qm = b.qm := by
  have hsent : sendSync ty r chan keyidx dbm sfd payload b =
      (dwellAdd r chan (frameUs b r (25 + payload.length)) b).emit (.air r chan (phrOf b r) (protect (keyBytes b keyidx)
        (airHeader b ty (groupDest 0 true false false true) keyidx (airOfNs sfd)) payload)) :=
    (if_neg (Bool.eq_false_iff.1 hfree)).trans (if_neg (by rw [h]; decide))
  rw [hsent]
  exact ⟨_, rfl, protect_first _ _ _ _, rfl⟩

/-- The BEACON of a radio that takes part: 11 bytes and the UNITs it lists, on the hop channel of stitch 0 (R283, R298). -/
theorem beacon_sync {r : Nat} {b : Body} (h : TakesPart r b) (dbm : Int) : ∃ key sfd payload,
    25 + payload.length = 36 + 2 * (pendUnits b r).length ∧
    beacon r dbm b = sendSync 0 r (hop b (boltNow b r) 0 r) key dbm sfd payload b := by
  obtain ⟨hstop, hon, hintime⟩ := h
  have hunits : ((pendUnits b r).flatMap (toLe 2)).length = 2 * (pendUnits b r).length := by
    rw [List.length_flatMap, List.map_congr_left fun a _ => toLe_length 2 a, List.map_const', List.sum_replicate]
    exact Nat.mul_comm _ _
  unfold beacon
  rw [stitchBoundary_stays hstop]
  dsimp only
  rw [takeLate_none hintime]
  dsimp only
  rw [if_neg (by simp [hon])]
  refine ⟨_, _, _, ?_, rfl⟩
  simp only [List.length_append, List.length_cons, List.length_nil, syncHead_length, toLe_length, hunits]
  omega

/-- The ANCHOR of TRX3: 3 bytes, on the anchor channel (R283, R298). -/
theorem anchor_sync {b : Body} (h : TakesPart 3 b) (dbm : Int) : ∃ key sfd payload, 25 + payload.length = 28 ∧
    anchor dbm b = sendSync 1 3 (anchorIdx b) key dbm sfd payload b := by
  obtain ⟨hstop, hon, hintime⟩ := h
  unfold anchor
  rw [stitchBoundary_stays hstop]
  dsimp only
  rw [takeLate_none hintime]
  dsimp only
  rw [if_neg (by simp [hon])]
  exact ⟨_, _, _, by rw [syncHead_length], rfl⟩

/-! ### DOWN stitches -/

theorem stitchKind_odd {st : Nat} (h : st % 2 = 1) (b : Body) (r : Nat) : stitchKind b r st = .down := by
  unfold stitchKind
  rw [if_neg (by omega), if_neg (by omega), if_pos h]

/-- The channel and the guard of a DOWN stitch whose sending bank holds the one frame `it`. -/
theorem downStitch_single {r st : Nat} {b : Body} (h : TakesPart r b) (dbm : Int) {it : Item} (hit : (queueOf b r).items = [it])
    (hodd : st % 2 = 1) (hlast : st < 255) (hfits : fitsStitch b r [it.len - 8] = true) : downStitch r st dbm b =
      if lbtBusy b r dbm then b.bump AIR.TXC.DEFER_LBT 1 r
      else if !dwellPass b r (hop b (boltNow b r) st r) (frameUs b r (it.len - 8)) then b.bump AIR.TXC.DEFER_DWELL 1 r
      else sendFrames r (hop b (boltNow b r) st r) 1
        { b with air := { b.air with woken := tabSet (fun _ => 0) b.air.woken r (stitchStart b r st + 1) } } := by
  obtain ⟨hstop, hon, hintime⟩ := h
  have hlens : stitchLens b r (itemLens [it]) [] = [it.len - 8] := if_pos hfits
  have hus : ([it.len - 8].map fun l => frameUs b r l).sum = frameUs b r (it.len - 8) := Nat.add_zero _
  unfold downStitch
  rw [stitchBoundary_stays hstop]
  dsimp only
  rw [takeLate_none hintime]
  dsimp only
  rw [if_neg (by simp [hon, stitchKind_odd hodd, hit]), hit, hlens, hus, if_neg (by omega)]
  rfl

/-- The one frame of the sending bank leaves, and the bank is empty. -/
theorem sendFrames_single {r chan : Nat} {b : Body} {it : Item} (hit : (queueOf b r).items = [it]) :
    (sendFrames r chan 1 b).out = b.out ++ [.air r chan (phrOf b r) (itemFrame (itemBytes b it))] ∧
      (queueOf (sendFrames r chan 1 b) r).items = [] := by
  obtain ⟨hbytes, hrest, -⟩ := qTake_oldest hit
  have hframe : ∀ (l : List Nat) (c : Body), qTake r b = (some l, c) → phrOf c r = phrOf b r ∧ c.out = b.out := by
    intro l c hc
    unfold qTake at hc
    rw [hit] at hc
    obtain ⟨-, rfl⟩ := Prod.mk.inj hc
    exact ⟨rfl, rfl⟩
  unfold sendFrames
  generalize htake : qTake r b = t at hbytes hrest
  obtain ⟨o, c⟩ := t
  cases hbytes
  obtain ⟨hphr, hout⟩ := hframe _ _ htake
  refine ⟨?_, hrest⟩
  change c.out ++ [.air r chan (phrOf c r) _] = _
  rw [hphr, hout]

/-! ### The wake point of a DOWN stitch -/

/-- From `b` to `c` at most AIR's own state and the cells of items in memory moved. -/
def Rebuilt (b c : Body) : Prop := ∃ x m n, c = { b with air := x, mem := m, memi := n }

theorem Rebuilt.refl (b : Body) : Rebuilt b b := ⟨_, _, _, rfl⟩

theorem Rebuilt.trans {b c e : Body} (h : Rebuilt b c) (g : Rebuilt c e) : Rebuilt b e := by
  obtain ⟨x, m, n, rfl⟩ := h
  obtain ⟨x', m', n', rfl⟩ := g
  exact ⟨_, _, _, rfl⟩

theorem Rebuilt.qm {b c : Body} (h : Rebuilt b c) : c.qm = b.qm := by obtain ⟨x, m, n, rfl⟩ := h; rfl
theorem Rebuilt.out {b c : Body} (h : Rebuilt b c) : c.out = b.out := by obtain ⟨x, m, n, rfl⟩ := h; rfl

theorem buildFrame_rebuilt (ty dest : Nat) (payload : List Nat) (b : Body) : Rebuilt b (buildFrame ty dest payload b).2 := ⟨_, _, _, rfl⟩

theorem restamp_rebuilt (f : List Nat) (b : Body) : Rebuilt b (restamp f b).2 := by
  unfold restamp
  split
  · exact ⟨_, _, _, rfl⟩
  · exact buildFrame_rebuilt _ _ _ _

theorem fillCells_rebuilt (cs l : List Nat) (b : Body) : Rebuilt b (fillCells cs l b) := by
  rw [fillCells_only_mem]
  exact ⟨_, _, _, rfl⟩

theorem restampItem_rebuilt (it : Item) (b : Body) : Rebuilt b (restampItem it b) :=
  (restamp_rebuilt _ b).trans (fillCells_rebuilt _ _ _)

theorem restampAged_rebuilt (r start : Nat) (b : Body) : Rebuilt b (restampAged r start b) := by
  unfold restampAged
  split
  · exact Body.each_keeps (P := Rebuilt b) (fun it c hc => hc.trans (restampItem_rebuilt it c)) _ (.refl b)
  · exact .refl b

theorem downWake_on {r : Nat} {b : Body} (h : airOn b r = true) :
    downWake r b = restampAged r (tnNs b + 50000) (qSwap r b) := if_neg (by simp [h])

theorem downWake_off {r : Nat} {b : Body} (h : airOn b r = false) : downWake r b = b := if_pos (by simp [h])

theorem qSwap_busy {q : Nat} {b : Body} (h : (queueOf b q).items ≠ []) : qSwap q b = b := if_neg fun hswap => h hswap.2.1

theorem qSwap_swaps {q : Nat} {b : Body} (horg : b.get QM.Q_CFG.ORG q = 1) (hitems : (queueOf b q).items = [])
    (hfill : (queueOf b q).fill ≠ []) : (queueOf (qSwap q b) q).items = (queueOf b q).fill ∧
      (queueOf (qSwap q b) q).fill = [] ∧ (qSwap q b).out = b.out := by
  have hsame := queueOf_setQueue_same b q { queueOf b q with items := (queueOf b q).fill, fill := [] }
  have hswap : qSwap q b = (setQueue b q { queueOf b q with items := (queueOf b q).fill, fill := [] }).setBit QM.Q_FLAG.BANK 0
      (!b.flag QM.Q_FLAG.BANK q) q := if_pos ⟨horg, hitems, hfill⟩
  rw [hswap]
  exact ⟨congrArg Queue.items hsame, congrArg Queue.fill hsame, rfl⟩

theorem queueOf_of_qm {b c : Body} (h : c.qm = b.qm) (q : Nat) : queueOf c q = queueOf b q := by
  unfold queueOf
  rw [h]

end Sys2Proof.Machine
end
section
/-! SUPPORT. Scope: O41, descriptors, builds and the emergency frames, and stitches as a whole (R298, R306, R315 to R317). -/

namespace Sys2Proof.Machine

theorem exec_downStitchWakePoint (r : Nat) (s : State) : exec (.downStitchWakePoint r) s = execDownStitchWakePoint r s := rfl
theorem exec_commandDescriptor (s : State) : exec .commandDescriptor s = execCommandDescriptor s := rfl
theorem exec_transmitBuild (s : State) : exec .transmitBuild s = execTransmitBuild s := rfl
theorem exec_emergFrameRebuild (s : State) : exec .emergFrameRebuild s = execEmergFrameRebuild s := rfl

/-! ### Descriptors -/

/-- AIR holds `l` more descriptors than before, and `t` still waits. -/
def Joined (t : List Ev) (l : List Desc) (b c : Body) : Prop := c.air.cmdIn = t ∧ c.air.descs = b.air.descs ++ l

theorem addDescs_joined (l : List Desc) (b : Body) : Joined b.air.cmdIn l b (addDescs l b) := ⟨rfl, rfl⟩

/-- What one COMMAND word asks for, of the module `b` (R317). -/
inductive Asks (b : Body) (p : Nat) : Option (List Desc) → Prop
  | channel : bits p 26 38 = 0 → bits p 12 2 = 0 → 1 ≤ bits p 0 12 → bits p 0 12 ≤ chanCnt b → Asks b p (some
      [.cmd (homeTrx b (bits p 0 12)) (bits p 0 12) (bits p 17 9) false false (srcAhead b [bits p 0 12 - 1])])
  | group (ns : List Nat) : bits p 26 38 = 0 → bits p 12 2 = 1 → bits p 14 1 = 0 → bits p 15 1 = 0 → bits p 16 1 = 0 →
      groupMembers b (bits p 0 12) = some ns →
      Asks b p (some ((homesOf b ns).map fun q => .cmd q (bits p 0 12) (bits p 17 9) true false (srcAhead b ns)))
  | emergency : bits p 26 38 = 0 → bits p 12 2 = 1 → bits p 15 1 = 1 → Asks b p (some ((enabledRadios b).map .emerg))
  | release : bits p 26 38 = 0 → bits p 12 2 = 1 → bits p 15 1 = 0 → bits p 16 1 = 1 →
      Asks b p (some ((enabledRadios b).map .release))
  | all : bits p 26 38 = 0 → bits p 12 2 = 1 → bits p 14 1 = 1 → bits p 15 1 = 0 → bits p 16 1 = 0 → Asks b p (some
      ((homesOf b (List.range (chanCnt b))).map fun q => .cmd q 0 (bits p 17 9) true true (srcAhead b (List.range (chanCnt b)))))
  | malformed : bits p 26 38 ≠ 0 ∨ bits p 12 2 = 3 → Asks b p none
  | stranger : bits p 12 2 = 0 → bits p 0 12 = 0 ∨ chanCnt b < bits p 0 12 → Asks b p none

/-- Descriptors join, or the word is counted as bad. -/
theorem descriptor_of_asks {b : Body} {p : Nat} {o : Option (List Desc)} (h : Asks b p o) :
    descriptor p b = o.elim (b.bump AIR.RXC_E.BAD_RECORD) (addDescs · b) := by
  unfold descriptor
  dsimp only
  cases h with
  | channel hres hkind hlo hhi => rw [if_neg (by omega), if_pos hkind, if_neg (by omega)]; rfl
  | group ns hres hkind hall hem hrel hns =>
    rw [if_neg (by omega), if_neg (by omega), if_pos hkind, if_neg (by omega), if_neg (by omega), if_neg (by omega), hns]
    rfl
  | emergency hres hkind hem => rw [if_neg (by omega), if_neg (by omega), if_pos hkind, if_pos hem]; rfl
  | release hres hkind hem hrel =>
    rw [if_neg (by omega), if_neg (by omega), if_pos hkind, if_neg (by omega), if_pos hrel]
    rfl
  | all hres hkind hall hem hrel =>
    rw [if_neg (by omega), if_neg (by omega), if_pos hkind, if_neg (by omega), if_neg (by omega), if_pos hall]
    rfl
  | malformed hbad => rw [if_pos hbad]; rfl
  | stranger hkind htarget =>
    by_cases hres : bits p 26 38 = 0
    · rw [if_neg (by omega), if_pos hkind, if_pos htarget]; rfl
    · rw [if_pos (.inl hres)]; rfl

/-- The oldest COMMAND event is taken first. -/
theorem takeDescriptor_oldest {b : Body} {e : Ev} {t : List Ev} (h : b.air.cmdIn = e :: t) :
    takeDescriptor b = descriptor e.payload { b with air := { b.air with cmdIn := t } } := by
  unfold takeDescriptor
  rw [h]

theorem does_commandDescriptor_joins {s : State} (hp : powered s.body = true) {e : Ev} {t : List Ev}
    (h : s.body.air.cmdIn = e :: t) {l : List Desc} (hasks : Asks s.body e.payload (some l)) :
    Does .commandDescriptor s (fun b => b.air.cmdIn = t ∧ b.air.descs = s.body.air.descs ++ l) := by
  have hsame : Asks { s.body with air := { s.body.air with cmdIn := t } } e.payload (some l) := by
    cases hasks with
    | channel h1 h2 h3 h4 => exact .channel h1 h2 h3 h4
    | group ns h1 h2 h3 h4 h5 h6 => exact .group ns h1 h2 h3 h4 h5 h6
    | emergency h1 h2 h3 => exact .emergency h1 h2 h3
    | release h1 h2 h3 h4 => exact .release h1 h2 h3 h4
    | all h1 h2 h3 h4 h5 => exact .all h1 h2 h3 h4 h5
  refine does_of_unpinned (exec_commandDescriptor s) hp ?_ fun _ h => h
  rw [takeDescriptor_oldest h, descriptor_of_asks hsame]
  exact addDescs_joined l _

theorem does_commandDescriptor_bad {s : State} (hp : powered s.body = true) {e : Ev} {t : List Ev}
    (h : s.body.air.cmdIn = e :: t) (hasks : Asks s.body e.payload none) :
    Does .commandDescriptor s (fun b => b.air.cmdIn = t ∧ b.air.descs = s.body.air.descs ∧
      b.get AIR.RXC_E.BAD_RECORD = min (s.body.get AIR.RXC_E.BAD_RECORD + 1) 0xFFFF) := by
  have hsame : Asks { s.body with air := { s.body.air with cmdIn := t } } e.payload none := by
    cases hasks with
    | malformed h1 => exact .malformed h1
    | stranger h1 h2 => exact .stranger h1 h2
  refine does_of_unpinned (exec_commandDescriptor s) hp ?_ fun _ h => h
  rw [takeDescriptor_oldest h, descriptor_of_asks hsame]
  exact ⟨rfl, rfl, Body.get_bump_same { s.body with air := { s.body.air with cmdIn := t } } AIR.RXC_E.BAD_RECORD 0 0 (by decide)⟩

/-! ### A build -/

/-- From `b` to `c` an item was enqueued or refused: AIR's state and what left are the same. -/
def AirStays (b c : Body) : Prop := c.air = b.air ∧ c.out = b.out

theorem AirStays.trans {b c e : Body} (h : AirStays b c) (g : AirStays c e) : AirStays b e := ⟨g.1.trans h.1, g.2.trans h.2⟩

theorem AirStays.mark (b : Body) (f : Fld) (v : Bool) (i j : Nat) : AirStays b (b.mark f v i j) := ⟨rfl, rfl⟩

theorem AirStays.setQueue (b : Body) (q : Nat) (x : Queue) : AirStays b (setQueue b q x) := ⟨rfl, rfl⟩

theorem qRefuse_airStays (q : Nat) (b : Body) : AirStays b (qRefuse q b) :=
  AirStays.trans (c := b.bump QM.Q_CNT.REFUSED 1 q) ⟨Body.bump_air _ _ _ _ _, Body.bump_out _ _ _ _ _⟩ (.mark _ _ _ _ _)

theorem takeCells_airStays (n : Nat) (acc : List Nat) (b : Body) : AirStays b (takeCells n acc b).2 := by
  induction n generalizing acc b with
  | zero => exact ⟨rfl, rfl⟩
  | succ n ih => exact AirStays.trans (c := (b.choose 16384).2) ⟨rfl, rfl⟩ (ih _ _)

theorem fillCells_airStays (cs l : List Nat) (b : Body) : AirStays b (fillCells cs l b) := by
  rw [fillCells_only_mem]
  exact ⟨rfl, rfl⟩

theorem startTimer_airStays (q : Nat) (was : Bool) (b : Body) : AirStays b (startTimer q was b) := by
  unfold startTimer
  split <;> exact ⟨rfl, rfl⟩

theorem qSwap_airStays (q : Nat) (b : Body) : AirStays b (qSwap q b) := by
  unfold qSwap
  dsimp only
  split <;> exact ⟨rfl, rfl⟩

theorem qPut_airStays (q : Nat) (l : List Nat) (b : Body) : AirStays b (qPut q l b).1 := by
  unfold qPut
  dsimp only
  split
  · exact qRefuse_airStays q b
  · have hfill := (takeCells_airStays (cellsFor l.length) [] b).trans
      (fillCells_airStays (takeCells (cellsFor l.length) [] b).1 l (takeCells (cellsFor l.length) [] b).2)
    have hput : ∀ (was : Bool) (x : Queue) (c : Body), AirStays b c →
        AirStays b (startTimer q was (setQueue (c.mark QM.Q_FLAG.FULL false q) q x)) := fun was x c hc =>
      ((hc.trans (.mark c _ _ _ _)).trans (.setQueue _ _ _)).trans (startTimer_airStays q was _)
    split
    · split
      · exact (hput _ _ _ hfill).trans (qSwap_airStays q _)
      · exact hput _ _ _ hfill
    · exact hput _ _ _ hfill

theorem freeRec_airStays (k : Nat) (b : Body) : AirStays b (freeRec k b) := by
  unfold freeRec
  dsimp only
  split <;> exact ⟨rfl, rfl⟩

theorem backFill_none {b : Body} (h : b.air.back = []) : backFill b = b := by
  have hsame : { b with air := { b.air with back := [] } } = b := by rw [← h]
  unfold backFill
  rw [h, hsame]
  rfl

/-- The one waiting descriptor is the one that is built (R315). -/
theorem transmitBuild_single {b : Body} {d : Desc} (hrun : b.flag AIR.CTL.RUN = true) (hact : acting b = true)
    (hstop : b.seam.stopBuild = false) (hback : b.air.back = []) (hdescs : b.air.descs = [d]) (hr : d.radio < 5)
    (hprio : d.prio ≤ 9) (hcan : canBuild b d = true) : transmitBuild b = buildDesc d b := by
  have hfirst : ∀ q, firstOn [d] q = if d.radio = q then some d else none := by
    intro q
    unfold firstOn
    by_cases hq : d.radio = q
    · simp [hq, Nat.min_eq_right hprio]
    · simp [hq]
  have hds : (([0, 1, 2, 3, 4].filterMap fun q => firstOn [d] q).filter fun d => canBuild b d) = [d] := by
    have hone : ([0, 1, 2, 3, 4].filterMap fun q => firstOn [d] q) = [d] := by
      simp only [hfirst]
      interval_cases d.radio <;> rfl
    rw [hone, List.filter_cons_of_pos hcan, List.filter_nil]
  unfold transmitBuild
  rw [if_neg (by simp [hrun, hact, hstop]), backFill_none hback]
  dsimp only
  rw [hdescs, hds]
  simp [Nat.min_eq_right hprio]

/-- A COMMAND frame is built with a stamp above every earlier one, and its descriptor is gone (R306). -/
theorem buildDesc_cmd {r t k : Nat} {g : Bool} {b : Body} (hdescs : b.air.descs = [.cmd r t k false false g]) :
    (buildDesc (.cmd r t k false false g) b).air.descs = [] ∧
    (buildDesc (.cmd r t k false false g) b).air.lastStamp = max (airTime b) (b.air.lastStamp + 1) ∧
    (buildDesc (.cmd r t k false false g) b).out = b.out := by
  have hdrop : (b.air.descs.erase (.cmd r t k false false g)) = [] := by
    rw [hdescs]
    simp
  obtain ⟨hair, hout⟩ := (qPut_airStays r
    (airItem (buildFrame 2 (unitDest b t) (commandBody (recOf b k) ++ [(recOf b k).phase]) (dropDesc (.cmd r t k false false g) b)).1 0)
    (buildFrame 2 (unitDest b t) (commandBody (recOf b k) ++ [(recOf b k).phase]) (dropDesc (.cmd r t k false false g) b)).2).trans
    (freeRec_airStays k _)
  refine ⟨?_, ?_, hout.trans rfl⟩
  · exact (congrArg Air.descs hair).trans hdrop
  · exact (congrArg Air.lastStamp hair).trans rfl

/-! ### The emergency frames -/

theorem protect_ne_nil (key : List Nat) (x : Nat) (h payload : List Nat) : protect key (x :: h) payload ≠ [] := by
  unfold protect
  split <;> exact List.cons_ne_nil _ _

/-- Both built frames of radio `q` stand. -/
def BothBuilt (q : Nat) (b : Body) : Prop :=
  tabGet (fun _ => []) b.air.emergBuilt q ≠ [] ∧ tabGet (fun _ => []) b.air.releaseBuilt q ≠ []

/-- The emergency frame of radio `r` built as `f`, with stamp `n`. -/
def withEmerg (r n : Nat) (f : List Nat) (b : Body) : Body :=
  { b with air := { b.air with lastStamp := n, emergBuilt := tabSet (fun _ => []) b.air.emergBuilt r f } }

/-- The release of radio `r` built as `f`, with stamp `n`. -/
def withRelease (r n : Nat) (f : List Nat) (b : Body) : Body :=
  { b with air := { b.air with lastStamp := n, releaseBuilt := tabSet (fun _ => []) b.air.releaseBuilt r f } }

theorem buildEmerg_emerg (r : Nat) (b : Body) : ∃ n f, f ≠ [] ∧ buildEmerg r false b = withEmerg r n f b :=
  ⟨_, _, protect_ne_nil _ _ _ _, rfl⟩

theorem buildEmerg_release (r : Nat) (b : Body) : ∃ n f, f ≠ [] ∧ buildEmerg r true b = withRelease r n f b :=
  ⟨_, _, protect_ne_nil _ _ _ _, rfl⟩

/-- Both frames of radio `r` are built anew (R316). -/
def rebuildBoth (b : Body) (r : Nat) : Body := buildEmerg r true (buildEmerg r false b)

theorem rebuildBoth_steps (r : Nat) (b : Body) : ∃ n f m g, f ≠ [] ∧ g ≠ [] ∧
    rebuildBoth b r = withRelease r m g (withEmerg r n f b) := by
  obtain ⟨n, f, hf, hemerg⟩ := buildEmerg_emerg r b
  obtain ⟨m, g, hg, hrel⟩ := buildEmerg_release r (withEmerg r n f b)
  refine ⟨n, f, m, g, hf, hg, ?_⟩
  unfold rebuildBoth
  rw [hemerg, hrel]

theorem rebuildBoth_quiet (r : Nat) (b : Body) : (rebuildBoth b r).out = b.out ∧ (rebuildBoth b r).qm = b.qm := by
  obtain ⟨n, f, m, g, -, -, h⟩ := rebuildBoth_steps r b
  rw [h]
  exact ⟨rfl, rfl⟩

theorem rebuildBoth_built (r : Nat) (b : Body) : BothBuilt r (rebuildBoth b r) := by
  obtain ⟨n, f, m, g, hf, hg, h⟩ := rebuildBoth_steps r b
  rw [h]
  exact ⟨(tabGet_tabSet_same (d := fun _ => []) b.air.emergBuilt r f).trans_ne hf,
    (tabGet_tabSet_same (d := fun _ => []) b.air.releaseBuilt r g).trans_ne hg⟩

/-- A build of one radio leaves the frames that other radios have built. -/
theorem rebuildBoth_keeps {q : Nat} (r : Nat) {b : Body} (hb : BothBuilt q b) : BothBuilt q (rebuildBoth b r) := by
  by_cases hq : q = r
  · subst hq
    exact rebuildBoth_built q b
  · obtain ⟨he, hrel⟩ := hb
    obtain ⟨n, f, m, g, -, -, h⟩ := rebuildBoth_steps r b
    rw [h]
    exact ⟨(tabGet_tabSet_other (d := fun _ => []) b.air.emergBuilt f hq).trans_ne he,
      (tabGet_tabSet_other (d := fun _ => []) b.air.releaseBuilt g hq).trans_ne hrel⟩

theorem each_rebuildBoth {q : Nat} {l : List Nat} (h : q ∈ l) (b : Body) : BothBuilt q (b.each l rebuildBoth) := by
  induction l generalizing b with
  | nil => exact absurd h List.not_mem_nil
  | cons r l ih =>
    rcases List.mem_cons.1 h with rfl | hin
    · exact Body.each_keeps (P := BothBuilt q) (fun r c hc => rebuildBoth_keeps r hc) l (rebuildBoth_built q b)
    · exact ih hin _

theorem emergRebuild_each {b : Body} (hrun : b.flag AIR.CTL.RUN = true) (hact : acting b = true) :
    emergRebuild b = b.each (enabledRadios b) rebuildBoth := if_neg (by simp [hrun, hact])

/-! ### The obligation -/

theorem does_beaconStitch {s : State} (hp : powered s.body = true) {r : Nat} (hr : r < 5) {dbm : Int} {P : Body → Prop}
    (h : P (beacon r dbm s.body)) (hpins : ∀ b, P b → P (settle b)) : Does (.beaconStitch r dbm) s P := by
  refine does_of_unpinned (exec_beaconStitch r dbm s) hp ?_ hpins
  rwa [Nat.mod_eq_of_lt hr]

theorem does_downStitch {s : State} (hp : powered s.body = true) {r st : Nat} (hr : r < 5) {dbm : Int} {P : Body → Prop}
    (h : P (downStitch r (st % 256) dbm s.body)) (hpins : ∀ b, P b → P (settle b)) : Does (.downStitch r st dbm) s P := by
  refine does_of_unpinned (exec_downStitch r st dbm s) hp ?_ hpins
  rwa [Nat.mod_eq_of_lt hr]

theorem does_downStitchWakePoint {s : State} (hp : powered s.body = true) {r : Nat} (hr : r < 5) {P : Body → Prop}
    (h : P (downWake r s.body)) (hpins : ∀ b, P b → P (settle b)) : Does (.downStitchWakePoint r) s P := by
  refine does_of_unpinned (exec_downStitchWakePoint r s) hp ?_ hpins
  rwa [Nat.mod_eq_of_lt hr]

theorem deferDwell_counts (b : Body) (r : Nat) : ((b.bump AIR.TXC.DEFER_DWELL 1 r).out = b.out ∧
    (b.bump AIR.TXC.DEFER_DWELL 1 r).qm = b.qm) ∧
    (b.bump AIR.TXC.DEFER_DWELL 1 r).get AIR.TXC.DEFER_DWELL r = min (b.get AIR.TXC.DEFER_DWELL r + 1) 0xFFFF :=
  ⟨⟨Body.bump_out _ _ _ _ _, Body.bump_qm _ _ _ _ _⟩, Body.get_bump_same b AIR.TXC.DEFER_DWELL r 0 (by decide)⟩

theorem deferLbt_counts (b : Body) (r : Nat) : ((b.bump AIR.TXC.DEFER_LBT 1 r).out = b.out ∧
    (b.bump AIR.TXC.DEFER_LBT 1 r).qm = b.qm) ∧
    (b.bump AIR.TXC.DEFER_LBT 1 r).get AIR.TXC.DEFER_LBT r = min (b.get AIR.TXC.DEFER_LBT r + 1) 0xFFFF :=
  ⟨⟨Body.bump_out _ _ _ _ _, Body.bump_qm _ _ _ _ _⟩, Body.get_bump_same b AIR.TXC.DEFER_LBT r 0 (by decide)⟩

/-- Settles O41: a stitch is sat out, deferred and counted, or sent (`beacon_sync`, `anchor_sync`, `downStitch_single`), a COMMAND
word asks for descriptors (`descriptor_of_asks`), and a build takes the one that waits. -/
theorem stitchesCarryFramesOrAreRefused : Obligations.StitchesCarryFramesOrAreRefused := by
  intro s r st dbm hp hr
  dsimp only
  refine ⟨fun hstop => ?_, fun hstop hidle => ?_, fun hoff => ?_, fun hon hstop hlate => ⟨?_, ?_, ?_, ?_, ?_⟩,
    fun hon horg => ⟨fun hitems hfill => ?_, fun hitems => ?_⟩, fun e t hin => ?_, fun hrun hact => ⟨?_, ?_, ?_⟩⟩
  · obtain ⟨hout, hclear⟩ := sitsOut_of_stop r hstop
    obtain ⟨hout3, hclear3⟩ := sitsOut_of_stop 3 hstop
    refine ⟨does_beaconStitch hp hr ?_ fun _ h => h, does_of_unpinned (exec_anchorStitch dbm s) hp ?_ fun _ h => h,
      does_downStitch hp hr ?_ fun _ h => h⟩
    · rw [beacon_sitsOut hout]
      exact ⟨stitchBegun_quiet r s.body, hclear⟩
    · rw [anchor_sitsOut hout3]
      exact ⟨stitchBegun_quiet 3 s.body, hclear3⟩
    · rw [downStitch_sitsOut hout]
      exact ⟨stitchBegun_quiet r s.body, hclear⟩
  · have hout := sitsOut_of_idle hstop hidle
    refine ⟨does_beaconStitch hp hr ?_ fun _ h => h, does_downStitch hp hr ?_ fun _ h => h, fun h3 => ?_⟩
    · rw [beacon_sitsOut hout]
      exact stitchBegun_quiet r s.body
    · rw [downStitch_sitsOut hout]
      exact stitchBegun_quiet r s.body
    · subst h3
      refine does_of_unpinned (exec_anchorStitch dbm s) hp ?_ fun _ h => h
      rw [anchor_sitsOut hout]
      exact stitchBegun_quiet 3 s.body
  · refine does_downStitchWakePoint hp hr ?_ fun _ h => h
    rw [downWake_off hoff]
    exact ⟨rfl, rfl⟩
  · intro hfree hpass
    obtain ⟨key, sfd, payload, hlen, hsync⟩ := beacon_sync ⟨hstop, hon, hlate⟩ dbm
    refine does_beaconStitch hp hr ?_ fun _ h => h
    rw [hsync]
    rw [← hlen] at hpass
    exact sendSync_sends hfree hpass
  · intro hfree hpass
    obtain ⟨key, sfd, payload, hlen, hsync⟩ := beacon_sync ⟨hstop, hon, hlate⟩ dbm
    refine does_beaconStitch hp hr ?_ fun _ h => h
    rw [← hlen] at hpass
    rw [hsync, sendSync_guarded hfree hpass]
    exact deferDwell_counts s.body r
  · intro hbusy
    obtain ⟨key, sfd, payload, -, hsync⟩ := beacon_sync ⟨hstop, hon, hlate⟩ dbm
    refine does_beaconStitch hp hr ?_ fun _ h => h
    rw [hsync, sendSync_busy hbusy]
    exact deferLbt_counts s.body r
  · intro h3 hfree
    subst h3
    obtain ⟨key, sfd, payload, hlen, hsync⟩ := anchor_sync ⟨hstop, hon, hlate⟩ dbm
    refine ⟨fun hpass => ?_, fun hpass => ?_⟩
    · refine does_of_unpinned (exec_anchorStitch dbm s) hp ?_ fun _ h => h
      rw [hsync]
      rw [← hlen] at hpass
      exact sendSync_sends hfree hpass
    · refine does_of_unpinned (exec_anchorStitch dbm s) hp ?_ fun _ h => h
      rw [← hlen] at hpass
      rw [hsync, sendSync_guarded hfree hpass]
      exact deferDwell_counts s.body 3
  · intro it hit hodd hlast hfits
    have hst : st % 256 = st := Nat.mod_eq_of_lt (by omega)
    have hdown := downStitch_single ⟨hstop, hon, hlate⟩ dbm hit hodd hlast hfits
    refine ⟨fun hfree hpass => ?_, fun hfree hpass => ?_, fun hbusy => ?_⟩
    · refine does_downStitch hp hr ?_ fun _ h => h
      rw [hst, hdown, hfree, hpass]
      exact sendFrames_single (b := { s.body with air := { s.body.air with
        woken := tabSet (fun _ => 0) s.body.air.woken r (stitchStart s.body r st + 1) } }) hit
    · refine does_downStitch hp hr ?_ fun _ h => h
      rw [hst, hdown, hfree, hpass]
      exact deferDwell_counts s.body r
    · refine does_downStitch hp hr ?_ fun _ h => h
      rw [hst, hdown, hbusy]
      exact deferLbt_counts s.body r
  · obtain ⟨hnow, hnone, hout⟩ := qSwap_swaps horg hitems hfill
    have hrest := restampAged_rebuilt r (tnNs s.body + 50000) (qSwap r s.body)
    refine does_downStitchWakePoint hp hr ?_ fun _ h => h
    rw [downWake_on hon, queueOf_of_qm hrest.qm]
    exact ⟨hnow, hnone, hrest.out.trans hout⟩
  · have hrest := restampAged_rebuilt r (tnNs s.body + 50000) s.body
    refine does_downStitchWakePoint hp hr ?_ fun _ h => h
    rw [downWake_on hon, qSwap_busy hitems]
    exact ⟨hrest.out, hrest.qm⟩
  · have hzero : bits e.payload 0 12 = e.payload % 2 ^ 12 := congrArg (· % 2 ^ 12) (Nat.div_one _)
    refine ⟨fun hres hkind hlo hhi => ?_, fun ns hres hkind hns => ?_, fun hres hkind hem => ?_, fun hres hkind hrel => ?_,
      fun hres hkind => ?_, fun hbad => ?_, fun hkind htarget => ?_⟩
    · have h := does_commandDescriptor_joins hp hin (.channel hres hkind (hzero.symm ▸ hlo) (hzero.symm ▸ hhi))
      rwa [hzero] at h
    · have h := does_commandDescriptor_joins hp hin (.group ns hres (by unfold bits; omega) (by unfold bits; omega)
        (by unfold bits; omega) (by unfold bits; omega) (hzero.symm ▸ hns))
      rwa [hzero] at h
    · exact does_commandDescriptor_joins hp hin (.emergency hres hkind hem)
    · exact does_commandDescriptor_joins hp hin (.release hres hkind (by unfold bits; omega) (by unfold bits; omega))
    · exact does_commandDescriptor_joins hp hin (.all hres (by unfold bits; omega) (by unfold bits; omega)
        (by unfold bits; omega) (by unfold bits; omega))
    · exact does_commandDescriptor_bad hp hin (.malformed hbad)
    · exact does_commandDescriptor_bad hp hin (.stranger hkind (hzero.symm ▸ htarget))
  · intro t k g hstop hback hdescs hcan
    refine does_of_unpinned (exec_transmitBuild s) hp ?_ fun _ h => h
    have hprio : (Desc.cmd r t k false false g).prio ≤ 9 := by cases g <;> simp [Desc.prio]
    rw [transmitBuild_single hrun hact hstop hback hdescs hr hprio hcan]
    exact buildDesc_cmd hdescs
  · intro hstop
    refine does_of_unpinned (exec_transmitBuild s) hp ?_ fun _ h => h
    have hidle : transmitBuild s.body = s.body := if_pos (by simp [hstop])
    rw [hidle]
    exact ⟨rfl, rfl, rfl⟩
  · refine does_of_unpinned (exec_emergFrameRebuild s) hp ?_ fun _ h => h
    rw [emergRebuild_each hrun hact]
    refine ⟨Body.each_keeps (P := fun c => c.out = s.body.out ∧ c.qm = s.body.qm) (fun q c hc => ?_) _ ⟨rfl, rfl⟩, fun q hq => ?_⟩
    · obtain ⟨hout, hqm⟩ := rebuildBoth_quiet q c
      exact ⟨hout.trans hc.1, hqm.trans hc.2⟩
    · exact each_rebuildBoth hq s.body

end Sys2Proof.Machine
end
section
/-! SUPPORT. Scope: O42, how a received frame comes to the ten checks, and what its acceptance leaves of marks and descriptors (R77,
R300, R301, R310, R314, R566). -/

namespace Sys2Proof.Machine

/-! ### A receiving radio wakes -/

/-- Radio `r` receives: AIR runs there on a time base (R91). -/
def Receives (r : Nat) (b : Body) : Prop := b.flag AIR.CTL.RUN = true ∧ radioEn b r = true ∧ (ntv b = true ∨ rtcv b = true)

/-- The gated domain is clocked for a received frame, and the slices of AIR and of its radio give way (R77, R566). -/
def rxBegun (r : Nat) (b : Body) : Body := sliceYield (9 + r) (sliceYield 3 (ungate b))

theorem rxBegun_told (r : Nat) (b : Body) : Told b (rxBegun r b) :=
  ((Told.put b SYS.CLK_STAT.GATED _ 0 0).trans (sliceYield_told 3 _)).trans (sliceYield_told (9 + r) _)

/-- The registers that receiving may write before the checks: of the clock status, and of block SAFE. -/
abbrev rxReg (a : Nat) : Prop := a = SYS.CLK_STAT.word.addr ∨ a / 0x100000 = 0x40D

theorem sliceYield_rxReg {k : Nat} (hk : k < 80) (b : Body) : RegsKept rxReg b (sliceYield k b) :=
  fun a ha => sliceYield_only k hk b a fun h => ha (.inr (List.mem_singleton.1 h))

theorem rxBegun_kept {r : Nat} (hr : r < 5) (b : Body) : RegsKept rxReg b (rxBegun r b) :=
  (((ungate_kept b).mono fun _ h => .inl h).trans (sliceYield_rxReg (by decide) _)).trans (sliceYield_rxReg (by omega) _)

theorem slice_at (k : Nat) : SAFE.SLICE.word.at k 0 = 0x40D00200 + 8 * k := rfl

/-- A slice that has given way does not run. -/
theorem sliceYield_rests (k : Nat) (b : Body) : (sliceYield k b).flag SAFE.SLICE.RUNNING k = false := by
  have hslice : ¬ errorReg (SAFE.SLICE.RUNNING.at k 0) := by
    have hat : SAFE.SLICE.RUNNING.at k 0 = 0x40D00200 + 8 * k := slice_at k
    rw [hat]
    omega
  obtain ⟨hidle, h⟩ | ⟨-, h⟩ | ⟨-, h⟩ := sliceYield_cases k b <;> rw [h]
  · exact hidle
  · exact sliceAborted_idle k b
  · rw [(placeError_frame _ _ _ _ _).2.flag hslice]
    exact sliceAborted_idle k b

theorem rxBegun_rests (r : Nat) (b : Body) : (rxBegun r b).flag SAFE.SLICE.RUNNING 3 = false := by
  have hother : ¬ sliceReg (9 + r) (SAFE.SLICE.RUNNING.at 3 0) := by
    rintro (herr | hslice)
    · revert herr
      decide
    · have hat : SAFE.SLICE.word.at 3 0 = SAFE.SLICE.word.at (9 + r) 0 := hslice
      rw [slice_at, slice_at] at hat
      omega
  exact ((sliceYield_kept (9 + r) _).flag hother).trans (sliceYield_rests 3 _)

/-- Neither slice one abort short of an error: the wake writes its three registers alone, and nothing leaves. -/
theorem rxBegun_calm {r : Nat} {b : Body} (hair : b.get SAFE.SLICE.ABORTS 3 ≠ 15) (hradio : b.get SAFE.SLICE.ABORTS (9 + r) ≠ 15) :
    RegsKept (fun a => a = SYS.CLK_STAT.word.addr ∨ a = SAFE.SLICE.word.at 3 0 ∨ a = SAFE.SLICE.word.at (9 + r) 0) b (rxBegun r b) ∧
      (rxBegun r b).out = b.out := by
  have hat : ∀ k, SAFE.SLICE.ABORTS.at k 0 = 0x40D00200 + 8 * k := slice_at
  have hclk : ∀ k, SAFE.SLICE.ABORTS.at k 0 ≠ SYS.CLK_STAT.word.addr := fun k => by
    rw [hat]
    change _ ≠ 0x40000020
    omega
  have hne : SAFE.SLICE.ABORTS.at (9 + r) 0 ≠ SAFE.SLICE.word.at 3 0 := by
    rw [hat, slice_at]
    omega
  have hair' : (ungate b).get SAFE.SLICE.ABORTS 3 ≠ 15 := by rwa [(ungate_kept b).get (hclk 3)]
  obtain ⟨hkept, hout⟩ := sliceYield_calm hair'
  have hradio' : (sliceYield 3 (ungate b)).get SAFE.SLICE.ABORTS (9 + r) ≠ 15 := by
    rwa [hkept.get hne, (ungate_kept b).get (hclk (9 + r))]
  obtain ⟨hkept', hout'⟩ := sliceYield_calm hradio'
  exact ⟨(((ungate_kept b).mono fun _ h => .inl h).trans (hkept.mono fun _ h => .inr (.inl h))).trans
    (hkept'.mono fun _ h => .inr (.inr h)), hout'.trans hout⟩

/-! ### What the checks read -/

theorem keyBytes_of_kept {b c : Body} (h : RegsKept rxReg b c) {i : Nat} (hi : i < 4) : keyBytes c i = keyBytes b i := by
  have hword : ∀ w < 4, c.get AIR.KEY_W.KEY i w = b.get AIR.KEY_W.KEY i w := fun w hw => h.get <| by
    have hat : AIR.KEY_W.KEY.at i w = 0x40300100 + 0x10 * i + 4 * w := rfl
    rw [hat]
    change ¬ (_ = 0x40000020 ∨ _)
    omega
  simp only [keyBytes, List.flatMap_cons, List.flatMap_nil, hword 0, hword 1, hword 2, hword 3, Nat.reduceLT]

theorem keyTx_of_kept {b c : Body} (h : RegsKept rxReg b c) : keyTx c = keyTx b := h.get (by decide)

theorem keyGood_of_kept {b c : Body} (h : RegsKept rxReg b c) (hair : c.air = b.air) (i : Nat) : keyGood c i = keyGood b i := by
  unfold keyGood
  rw [h.bit (by decide), keyTx_of_kept h, h.flag (by decide), hair]

theorem openFrame_of_kept {b c : Body} (h : RegsKept rxReg b c) {i : Nat} (hi : i < 4) (f : List Nat) :
    openFrame c i f = openFrame b i f := by
  unfold openFrame
  rw [keyBytes_of_kept h hi]

theorem acting_of_kept {b c : Body} (h : RegsKept rxReg b c) : acting c = acting b := by
  unfold acting
  rw [h.get (by decide), h.get (by decide)]

theorem runSects_of_stands {b c : Body} (h : Stands b c) : runSects c = runSects b := by
  unfold runSects
  rw [h.pat]

theorem unitOk_of_stands {b c : Body} (h : Stands b c) (u : Nat) : unitOk c u = unitOk b u := by
  unfold unitOk chanCnt sensCnt sectD sect
  rw [runSects_of_stands h]

theorem netNo_of_stands {b c : Body} (h : Stands b c) : netNo c = netNo b := by
  unfold netNo sectD sect
  rw [runSects_of_stands h]

theorem modNo_of_stands {b c : Body} (h : Stands b c) : modNo c = modNo b := by
  unfold modNo sectD sect
  rw [runSects_of_stands h]

theorem freshW_of_stands {b c : Body} (h : Stands b c) : freshW c = freshW b := by
  unfold freshW sect
  rw [runSects_of_stands h]

theorem tnNs_of_stands {b c : Body} (h : Stands b c) : tnNs c = tnNs b := by
  unfold tnNs
  rw [h.clock]

/-! ### What an accepted frame moves on -/

/-- From `b` to `c` the marks stand, and no descriptor is gone. -/
def AckKept (b c : Body) : Prop := c.air.marks = b.air.marks ∧ b.air.descs ⊆ c.air.descs

theorem AckKept.refl (b : Body) : AckKept b b := ⟨rfl, fun _ h => h⟩

theorem AckKept.trans {b c e : Body} (h : AckKept b c) (g : AckKept c e) : AckKept b e := ⟨g.1.trans h.1, fun _ hd => g.2 (h.2 hd)⟩

theorem AckKept.of_air {b c : Body} (h : c.air = b.air) : AckKept b c := by
  unfold AckKept
  rw [h]
  exact ⟨rfl, fun _ hd => hd⟩

theorem AckKept.put (b : Body) (f : Fld) (v i j : Nat) : AckKept b (b.put f v i j) := ⟨rfl, fun _ h => h⟩

theorem addDescs_ackKept (l : List Desc) (b : Body) : AckKept b (addDescs l b) := ⟨rfl, fun _ h => List.mem_append_left l h⟩

theorem emitEv_ackKept (src port payload tag : Nat) (b : Body) : AckKept b (emitEv src port payload tag b) := by
  have hgate : (ungate b).air = b.air := Body.mark_air _ _ _ _ _
  unfold emitEv
  dsimp only
  split
  · exact .refl b
  · exact .of_air hgate

theorem campaignCount_ackKept (b : Body) : AckKept b (campaignCount b) := by
  unfold campaignCount
  dsimp only
  split
  · exact (((AckKept.put _ _ _ _ _).trans (.put _ _ _ _ _)).trans (.put _ _ _ _ _)).trans (.put _ _ _ _ _)
  · exact ((AckKept.put _ _ _ _ _).trans (.put _ _ _ _ _)).trans (.put _ _ _ _ _)

theorem campaignFeed_ackKept (b : Body) : AckKept b (campaignFeed b) := by
  unfold campaignFeed
  dsimp only
  split
  · exact .refl b
  · split
    · exact .refl b
    · exact ⟨rfl, fun _ h => List.mem_append_left _ h⟩

theorem configReported_ackKept (u seq : Nat) (b : Body) : AckKept b (configReported u seq b) := by
  have hput : AckKept b (b.put AIR.NODE_CFG.CFG_SEQ seq u) := .put _ _ _ _ _
  unfold configReported
  dsimp only
  split
  · exact hput.trans ⟨rfl, fun _ h => h⟩
  · exact hput

/-- A target is due its activation (R533). -/
theorem actDue_ackKept (x : Upd) (l : List Nat) (b : Body) :
    AckKept b { b with upd := x, air := { b.air with configDue := l } } := ⟨rfl, fun _ h => h⟩

theorem imageReport_ackKept (u id have_ miss : Nat) (b : Body) : AckKept b (imageReport u id have_ miss b) := by
  unfold imageReport
  dsimp only
  split
  · refine AckKept.trans ?_ (campaignFeed_ackKept _)
    have hcount : ∀ x : Campaign, AckKept b (campaignCount { b with upd := { b.upd with nc := x } }) := fun x => by
      refine AckKept.trans ?_ (campaignCount_ackKept _)
      exact .of_air rfl
    split
    · exact (hcount _).trans (actDue_ackKept _ _ _)
    · exact hcount _
  · exact .refl b

theorem badRecord_ackKept (b : Body) : AckKept b (badRecord b) := .of_air (Body.bump_air _ _ _ _ _)

/-- A node's firmware and wake class are noted (R300). -/
theorem nodeState_ackKept (v u : Nat) (l : List (Nat × Nat)) (b : Body) :
    AckKept b { b.put AIR.NODE_CFG.FW_VERSION v u with air := { (b.put AIR.NODE_CFG.FW_VERSION v u).air with classes := l } } := by
  rw [Body.put_air]
  exact ⟨rfl, fun _ h => h⟩

theorem reportRecord_ackKept (u : Nat) (x : List Nat) (b : Body) : AckKept b (reportRecord u x b) := by
  unfold reportRecord
  split
  · dsimp only
    split
    · exact emitEv_ackKept _ _ _ _ _
    · exact badRecord_ackKept b
  · dsimp only
    split
    · exact emitEv_ackKept _ _ _ _ _
    · exact badRecord_ackKept b
  · dsimp only
    split
    · refine AckKept.trans ?_ (emitEv_ackKept _ _ _ _ _)
      refine AckKept.trans ?_ (emitEv_ackKept _ _ _ _ _)
      refine AckKept.trans ?_ (configReported_ackKept _ _ _)
      exact .put _ _ _ _ _
    · exact badRecord_ackKept b
  · dsimp only
    split
    · refine AckKept.trans ?_ (emitEv_ackKept _ _ _ _ _)
      exact ⟨rfl, fun _ h => h⟩
    · refine AckKept.trans ?_ (emitEv_ackKept _ _ _ _ _)
      refine AckKept.trans ?_ (.of_air rfl)
      refine AckKept.trans ?_ (configReported_ackKept _ _ _)
      exact nodeState_ackKept _ _ _ b
  · split
    · split
      · exact .of_air (Body.bump_air _ _ _ _ _)
      · exact emitEv_ackKept _ _ _ _ _
    · exact badRecord_ackKept b
  · dsimp only
    split
    · exact imageReport_ackKept _ _ _ _ _
    · exact (imageReport_ackKept _ _ _ _ _).trans (emitEv_ackKept _ _ _ _ _)

theorem reportRecords_ackKept (u n : Nat) (l : List Nat) (b : Body) : AckKept b (reportRecords u n l b) := by
  induction n generalizing l b with
  | zero => exact .refl b
  | succ n ih =>
    unfold reportRecords
    split
    · exact badRecord_ackKept b
    · split
      · exact badRecord_ackKept b
      · exact (reportRecord_ackKept _ _ _).trans (ih _ _)

theorem takeReport_ackKept (u : Nat) (p : List Nat) (b : Body) : AckKept b (takeReport u p b) := by
  unfold takeReport
  split
  · exact badRecord_ackKept b
  · exact reportRecords_ackKept _ _ _ _

theorem imageResult_ackKept (u arg : Nat) (b : Body) : AckKept b (imageResult u arg b) := by
  unfold imageResult
  dsimp only
  split
  · refine AckKept.trans ?_ (campaignCount_ackKept _)
    exact .of_air rfl
  · exact .refl b

theorem takeNodeEvent_ackKept (u : Nat) (p : List Nat) (b : Body) : AckKept b (takeNodeEvent u p b) := by
  unfold takeNodeEvent
  dsimp only
  split
  · exact badRecord_ackKept b
  · refine AckKept.trans ?_ (emitEv_ackKept _ _ _ _ _)
    split
    · exact imageResult_ackKept _ _ _
    · exact .refl b

/-- The newest mark is found, whatever stood of its source and class. -/
theorem markOf_setMark (m : Mark) (b : Body) : markOf (setMark m b) m.unit m.cls = some m := by
  have hnone : ((b.air.marks.filter fun x => decide (x.unit ≠ m.unit ∨ x.cls ≠ m.cls)).find? fun x =>
      decide (x.unit = m.unit ∧ x.cls = m.cls)) = none := by
    refine List.find?_eq_none.2 fun x hx hmatch => ?_
    have hne := of_decide_eq_true (List.mem_filter.1 hx).2
    obtain ⟨hunit, hcls⟩ := of_decide_eq_true hmatch
    exact hne.elim (· hunit) (· hcls)
  unfold markOf setMark
  dsimp only
  rw [List.find?_append, hnone]
  simp

/-- The mark and the ACK that an accepted frame leaves first. -/
def acceptedMark (f : List Nat) (k : Nat) : Mark := ⟨u32 f 1, k, u48 f 11, f.take 17, f.drop (f.length - 8)⟩

def acceptBegun (r k : Nat) (f : List Nat) (b : Body) : Body :=
  if u8 f 0 / 32 % 2 = 1 then offerAck r (u32 f 1 % 2 ^ 12) (u48 f 11) 0 (setMark (acceptedMark f k) b)
  else setMark (acceptedMark f k) b

/-- The link figures that an accepted frame leaves (R310). -/
def linkHeard (rssi u : Nat) (b : Body) : Body :=
  { b.put AIR.LINK.RSSI rssi u with air := { b.air with
    heard := tabSet (fun _ => none) b.air.heard u (some (b.clock.cyc : Int)),
    sleepers := if framesWait b u ∧ u ≥ 1024 then tabSet (fun _ => 0) b.air.sleepers u 8 else b.air.sleepers } }

/-- A node heard in the test of a hand-over (R468). -/
def testHeard (u : Nat) (b : Body) : Body := match b.seam.test with
  | some t =>
    if 1 ≤ u ∧ t.start ≤ tnNs b ∧ tnNs b ≤ t.start + 3 * boltNs b ∧ t.expected.contains (u - 1) ∧ !t.heard.contains (u - 1) then
      { b with seam := { b.seam with test := some { t with heard := t.heard ++ [u - 1] } } } else b
  | none => b

/-- The payload of an accepted frame, by its TYPE (R300, R301). -/
def payloadRead (f p : List Nat) (b : Body) : Body := match u8 f 0 % 16 with
  | 4 => takeReport (u32 f 1 % 2 ^ 12) p b
  | 5 => takeNodeEvent (u32 f 1 % 2 ^ 12) p b
  | _ => b

theorem acceptFrame_steps {f : List Nat} {k : Nat} (hclass : frameClass f = some k) (r rssi sfd : Nat) (p : List Nat) (b : Body) :
    ∃ item, acceptFrame r rssi sfd f p b = (qPut (5 + r) item (payloadRead f p
      (testHeard (u32 f 1 % 2 ^ 12) (linkHeard rssi (u32 f 1 % 2 ^ 12) (acceptBegun r k f b))))).1 := by
  unfold acceptFrame
  rw [hclass]
  exact ⟨_, rfl⟩

theorem linkHeard_ackKept (rssi u : Nat) (b : Body) : AckKept b (linkHeard rssi u b) := ⟨rfl, fun _ h => h⟩

theorem testHeard_ackKept (u : Nat) (b : Body) : AckKept b (testHeard u b) := by
  have hseam : ∀ x : Seam, AckKept b { b with seam := x } := fun x => .of_air rfl
  unfold testHeard
  split
  · split
    · exact hseam _
    · exact .refl b
  · exact .refl b

theorem payloadRead_ackKept (f p : List Nat) (b : Body) : AckKept b (payloadRead f p b) := by
  unfold payloadRead
  split
  · exact takeReport_ackKept _ _ _
  · exact takeNodeEvent_ackKept _ _ _
  · exact .refl b

theorem acceptFrame_ackKept {f : List Nat} {k : Nat} (hclass : frameClass f = some k) (r rssi sfd : Nat) (p : List Nat) (b : Body) :
    AckKept (acceptBegun r k f b) (acceptFrame r rssi sfd f p b) := by
  obtain ⟨item, h⟩ := acceptFrame_steps hclass r rssi sfd p b
  rw [h]
  exact (((linkHeard_ackKept _ _ _).trans (testHeard_ackKept _ _)).trans (payloadRead_ackKept _ _ _)).trans
    (.of_air (qPut_airStays _ _ _).1)

theorem offerAck_acting {r u acked st : Nat} {b : Body} (h : acting b = true) :
    offerAck r u acked st b = addDescs [.ack r u acked st] b := if_pos h

theorem offerAck_ackKept (r u acked st : Nat) (b : Body) : AckKept b (offerAck r u acked st b) := by
  unfold offerAck
  split
  · exact addDescs_ackKept _ b
  · exact .refl b

/-- An accepted frame becomes the mark of its source and class, and is acknowledged when it asks (R310, R314). -/
theorem acceptFrame_shows {f : List Nat} {k : Nat} (hclass : frameClass f = some k) (r rssi sfd : Nat) (p : List Nat) (b : Body) :
    markOf (acceptFrame r rssi sfd f p b) (u32 f 1) k = some (acceptedMark f k) ∧
    (u8 f 0 / 32 % 2 = 1 → acting b = true →
      .ack r (u32 f 1 % 2 ^ 12) (u48 f 11) 0 ∈ (acceptFrame r rssi sfd f p b).air.descs) := by
  obtain ⟨hmarks, hdescs⟩ := acceptFrame_ackKept hclass r rssi sfd p b
  constructor
  · have hbegun : (acceptBegun r k f b).air.marks = (setMark (acceptedMark f k) b).air.marks := by
      unfold acceptBegun
      split
      · exact (offerAck_ackKept _ _ _ _ _).1
      · rfl
    unfold markOf
    rw [hmarks, hbegun]
    exact markOf_setMark (acceptedMark f k) b
  · intro hreq hact
    have hact' : acting (setMark (acceptedMark f k) b) = true := hact
    refine hdescs ?_
    unfold acceptBegun
    rw [if_pos hreq, offerAck_acting hact']
    exact List.mem_append_right _ (List.mem_singleton.2 rfl)

/-- While AIR's slice rests, an ACK that is offered touches the descriptors alone. -/
theorem offerAck_rests {b : Body} (h : b.flag SAFE.SLICE.RUNNING 3 = false) (r u acked st : Nat) :
    ∃ l, offerAck r u acked st b = { b with air := { b.air with descs := l } } := by
  unfold offerAck addDescs
  split
  · exact ⟨_, by rw [sliceYield_idle h]⟩
  · exact ⟨b.air.descs, rfl⟩

end Sys2Proof.Machine
end
section
/-! SUPPORT. Scope: O42, the ten checks of a received frame (R310), keys (R308, R309) and hop queries (R289). -/

namespace Sys2Proof.Machine

theorem exec_frameReceived (r rssi age : Nat) (f : List Nat) (s : State) :
    exec (.frameReceived r rssi age f) s = execFrameReceived r rssi age f s := rfl
theorem exec_keyWrite (i w v : Nat) (s : State) : exec (.keyWrite i w v) s = execKeyWrite i w v s := rfl
theorem exec_keyArm (i : Nat) (s : State) : exec (.keyArm i) s = execKeyArm i s := rfl
theorem exec_keyGraceEnd (s : State) : exec .keyGraceEnd s = execKeyGraceEnd s := rfl
theorem exec_hopQuery (r st : Nat) (s : State) : exec (.hopQuery r st) s = execHopQuery r st s := rfl
theorem exec_hopResult (s : State) : exec .hopResult s = execHopResult s := rfl

/-! ### The checks in turn -/

/-- DEST of a received frame: of the group form, the module of its source (R297). -/
def frameDest (f : List Nat) : Nat := if u8 f 0 / 64 % 2 = 1 then u32 f 1 / 2 ^ 12 * 2 ^ 12 else u32 f 5

/-- The frame is for this network and module. -/
def forUs (f : List Nat) (b : Body) : Prop := frameDest f / 2 ^ 26 = netNo b ∧ frameDest f / 2 ^ 12 % 2 ^ 14 = modNo b

/-- The UNITs of the frame are declared. -/
def unitsKnown (f : List Nat) (b : Body) : Prop :=
  unitOk b (u32 f 1 % 2 ^ 12) = true ∧ unitOk b (frameDest f % 2 ^ 12) = true

/-- The key slot of the frame. -/
def frameKey (f : List Nat) : Nat := u16 f 9 / 2 ^ 14

/-- A duplicate is counted, and acknowledged when it asks (R310, R314). -/
def countedAs (g : Fld) (r st : Nat) (f : List Nat) (b : Body) : Body :=
  if u8 f 0 / 32 % 2 = 1 then offerAck r (u32 f 1 % 2 ^ 12) (u48 f 11) st (b.bump g) else b.bump g

/-- Checks 7 to 10, of a frame that opened as `p`: its age, its EPOCH, and the mark of its source and class. -/
def openChecked (r rssi age : Nat) (f p : List Nat) (b : Body) : Body :=
  if (stampDiff (u48 f 11) (airOfNs (tnNs b - age))).natAbs > freshW b then countedAs AIR.RXC_C.STALE r 2 f b
  else if epochNewer (u16 f 9 % 2 ^ 14) (b.get AIR.EPOCH.EPOCH) then
    epochAhead (u16 f 9 % 2 ^ 14) (b.bump AIR.RXC_C.EPOCH)
  else match (frameClass f).bind (markOf b (u32 f 1)) with
    | none => acceptFrame r rssi (tnNs b - age) f p b
    | some m =>
      if stampDiff (u48 f 11) m.stamp > 0 then acceptFrame r rssi (tnNs b - age) f p b
      else if m.hdr = f.take 17 ∧ m.mic = f.drop (f.length - 8) then countedAs AIR.RXC_D.DUPLICATE r 1 f b
      else b.bump AIR.RXC_D.REPLAY

section
variable {r rssi age : Nat} {f : List Nat} {b : Body}

theorem receives_iff : (!b.flag AIR.CTL.RUN || !radioEn b r || !(ntv b || rtcv b)) = true ↔ ¬ Receives r b := by
  unfold Receives
  cases b.flag AIR.CTL.RUN <;> cases radioEn b r <;> cases ntv b <;> cases rtcv b <;> simp

theorem receive_off (h : ¬ Receives r b) : receive r rssi age f b = b := if_pos (receives_iff.2 h)

/-- Once the radio receives, nothing but the wake stands before the checks. -/
theorem receive_on (h : Receives r b) : ¬ (!b.flag AIR.CTL.RUN || !radioEn b r || !(ntv b || rtcv b)) = true :=
  fun hoff => receives_iff.1 hoff h

theorem receive_malformed (h : Receives r b) (hform : frameForm f = false) :
    receive r rssi age f b = (rxBegun r b).bump AIR.RXC_A.FORMAT :=
  (if_neg (receive_on h)).trans (if_pos (by rw [hform]; rfl))

theorem receive_foreign (h : Receives r b) (hform : frameForm f = true) (hother : ¬ forUs f (rxBegun r b)) :
    receive r rssi age f b = rxBegun r b := by
  refine (if_neg (receive_on h)).trans ((if_neg (by rw [hform]; decide)).trans ?_)
  by_cases hnet : frameDest f / 2 ^ 26 = netNo (rxBegun r b)
  · exact (if_neg (not_not.2 hnet)).trans (if_pos fun hmod => hother ⟨hnet, hmod⟩)
  · exact if_pos hnet

theorem receive_unknown (h : Receives r b) (hform : frameForm f = true) (hus : forUs f (rxBegun r b))
    (hno : ¬ unitsKnown f (rxBegun r b)) : receive r rssi age f b = (rxBegun r b).bump AIR.RXC_A.ADDR := by
  refine (if_neg (receive_on h)).trans ((if_neg (by rw [hform]; decide)).trans ?_)
  refine (if_neg (not_not.2 hus.1)).trans ((if_neg (not_not.2 hus.2)).trans (if_pos ?_))
  rw [Bool.or_eq_true, Bool.not_eq_true', Bool.not_eq_true']
  exact (not_and_or.1 hno).imp Bool.eq_false_iff.2 Bool.eq_false_iff.2

/-- Checks 1 to 4 pass. -/
structure Addressed (r : Nat) (f : List Nat) (b : Body) : Prop where
  on : Receives r b
  form : frameForm f = true
  us : forUs f (rxBegun r b)
  known : unitsKnown f (rxBegun r b)

theorem Addressed.passes (h : Addressed r f b) :
    ¬ (!unitOk (rxBegun r b) (u32 f 1 % 2 ^ 12) || !unitOk (rxBegun r b) (frameDest f % 2 ^ 12)) = true := by
  obtain ⟨hsrc, hdest⟩ := h.known
  rw [hsrc, hdest]
  decide

theorem receive_keyless (h : Addressed r f b) (hkey : keyGood (rxBegun r b) (frameKey f) = false) :
    receive r rssi age f b = (rxBegun r b).bump AIR.RXC_B.KEY := by
  refine (if_neg (receive_on h.on)).trans ((if_neg (by rw [h.form]; decide)).trans ?_)
  refine (if_neg (not_not.2 h.us.1)).trans ((if_neg (not_not.2 h.us.2)).trans ((if_neg h.passes).trans ?_))
  exact if_pos (congrArg (!·) hkey)

/-- Checks 1 to 5 pass: the frame is opened under its key slot. -/
theorem receive_keyed (h : Addressed r f b) (hkey : keyGood (rxBegun r b) (frameKey f) = true) :
    receive r rssi age f b = (openFrame (rxBegun r b) (frameKey f) f).elim ((rxBegun r b).bump AIR.RXC_B.MIC)
      fun p => openChecked r rssi age f p (rxBegun r b) := by
  refine (if_neg (receive_on h.on)).trans ((if_neg (by rw [h.form]; decide)).trans ?_)
  refine (if_neg (not_not.2 h.us.1)).trans ((if_neg (not_not.2 h.us.2)).trans ((if_neg h.passes).trans ?_))
  refine (if_neg (ne_true_of_eq_false (congrArg (!·) hkey))).trans ?_
  cases hopen : openFrame (rxBegun r b) (frameKey f) f with
  | none =>
    unfold frameKey rxBegun at hopen
    rw [hopen]
    rfl
  | some p =>
    unfold frameKey rxBegun at hopen
    rw [hopen]
    rfl

end

/-! ### What the checks leave -/

/-- Neither slice is one abort short of an error. -/
def Calm (r : Nat) (b : Body) : Prop := b.get SAFE.SLICE.ABORTS 3 ≠ 15 ∧ b.get SAFE.SLICE.ABORTS (9 + r) ≠ 15

/-- No queue and no mark moved, and nothing left. -/
def Quiet (r : Nat) (b c : Body) : Prop := c.qm = b.qm ∧ c.air.marks = b.air.marks ∧ (Calm r b → c.out = b.out)

theorem rxBegun_quiet (r : Nat) (b : Body) : Quiet r b (rxBegun r b) :=
  ⟨(rxBegun_told r b).qm, congrArg Air.marks (rxBegun_told r b).air, fun h => (rxBegun_calm h.1 h.2).2⟩

theorem Quiet.then {r : Nat} {b c e : Body} (h : Quiet r b c) (hqm : e.qm = c.qm) (hmarks : e.air.marks = c.air.marks)
    (hout : e.out = c.out) : Quiet r b e :=
  ⟨hqm.trans h.1, hmarks.trans h.2.1, fun hc => hout.trans (h.2.2 hc)⟩

/-- A frame that fails a check is counted there, and no more. -/
theorem rxBegun_counts {r : Nat} (hr : r < 5) (b : Body) {g : Fld} (hg : ¬ rxReg (g.at 0 0)) (hw : g.lo + g.w ≤ 32) :
    Quiet r b ((rxBegun r b).bump g) ∧ ((rxBegun r b).bump g).get g = min (b.get g + 1) (2 ^ g.w - 1) := by
  refine ⟨(rxBegun_quiet r b).then (Body.bump_qm _ _ _ _ _) (congrArg Air.marks (Body.bump_air _ _ _ _ _))
    (Body.bump_out _ _ _ _ _), ?_⟩
  rw [Body.get_bump_same _ _ _ _ hw, (rxBegun_kept hr b).get hg]

/-- So is a stale frame or a duplicate, of which an ACK waits at most. -/
theorem countedAs_counts {r : Nat} (hr : r < 5) (b : Body) {g : Fld} (hg : ¬ rxReg (g.at 0 0)) (hw : g.lo + g.w ≤ 32) (st : Nat)
    (f : List Nat) : Quiet r b (countedAs g r st f (rxBegun r b)) ∧
      (countedAs g r st f (rxBegun r b)).get g = min (b.get g + 1) (2 ^ g.w - 1) := by
  obtain ⟨hquiet, hcount⟩ := rxBegun_counts hr b hg hw
  have hne : SAFE.SLICE.RUNNING.at 3 0 ≠ g.at 0 0 := fun h => hg (.inr (by rw [← h]; decide))
  have hrest : ((rxBegun r b).bump g).flag SAFE.SLICE.RUNNING 3 = false :=
    (Body.flag_of_get (Body.get_put_other _ _ _ _ _ _ _ _ hne)).trans (rxBegun_rests r b)
  unfold countedAs
  split
  · obtain ⟨l, h⟩ := offerAck_rests hrest r (u32 f 1 % 2 ^ 12) (u48 f 11) st
    rw [h]
    exact ⟨hquiet, hcount⟩
  · exact ⟨hquiet, hcount⟩

/-- From `b` to `c` AIR's state and the count of check 8 stand. -/
def EpochKept (b c : Body) : Prop := c.air = b.air ∧ c.get AIR.RXC_C.EPOCH = b.get AIR.RXC_C.EPOCH

theorem EpochKept.trans {b c e : Body} (h : EpochKept b c) (g : EpochKept c e) : EpochKept b e := ⟨g.1.trans h.1, g.2.trans h.2⟩

theorem EpochKept.put (b : Body) {g : Fld} (h : AIR.RXC_C.EPOCH.at 0 0 ≠ g.at 0 0) (v : Nat) : EpochKept b (b.put g v) :=
  ⟨rfl, Body.get_put_other _ _ _ _ _ _ _ _ h⟩

theorem EpochKept.mark (b : Body) {g : Fld} (h : AIR.RXC_C.EPOCH.at 0 0 ≠ g.at 0 0) (v : Bool) : EpochKept b (b.mark g v) := .put b h _

theorem EpochKept.seam (b : Body) (x : Seam) : EpochKept b { b with seam := x } := ⟨rfl, rfl⟩

theorem stopActing_epochKept (b : Body) : EpochKept b (stopActing b) := by
  refine EpochKept.trans ?_ (.seam _ _)
  exact (((EpochKept.mark b (g := AIR.CTL.RUN) (by decide) _).trans (.put _ (g := SEAM.STAT.ROLE) (by decide) _)).trans
    (.mark _ (g := SEAM.CTL.HANDOVER) (by decide) _)).trans (.mark _ (g := SEAM.STAT.HO_ARMED) (by decide) _)

/-- A newer EPOCH stops a holder; the marks and the count of the check stand (R313). -/
theorem epochAhead_epochKept (e : Nat) (b : Body) : EpochKept b (epochAhead e b) := by
  have hput : EpochKept b (b.put AIR.EPOCH.AHEAD e) := .put b (by decide) e
  have herr : ∀ (own : Nat) (c : Body), EpochKept c (blockRecord 14 0x0008 e (raise 0x0E04 own 0 c)) := fun own c => by
    have hsev : severityOf 0x0E04 own < 3 := (by decide : 2 < 3)
    exact ⟨((raise_told hsev 0 c).trans (record_told _ _ _ _)).air,
      ((raise_frame hsev 0 c).trans (record_frame _ _ _ _)).get (by decide)⟩
  unfold epochAhead
  dsimp only
  split
  · refine EpochKept.trans ?_ (herr _ _)
    refine EpochKept.trans ?_ (.seam _ _)
    exact (hput.trans (stopActing_epochKept _)).trans (.mark _ (by decide) _)
  · exact hput

/-! ### The state that the checks see -/

theorem leNat_lt (l : List Nat) : leNat l < 256 ^ l.length := by
  induction l with
  | nil => exact Nat.one_pos
  | cons x l ih =>
    have hstep : leNat (x :: l) = x % 256 + 256 * leNat l := rfl
    rw [hstep, List.length_cons, Nat.pow_succ]
    omega

theorem frameKey_lt (f : List Nat) : frameKey f < 4 := by
  have hlen : (bytesAt f 9 2).length ≤ 2 := List.length_take_le _ _
  have hlt : u16 f 9 < 256 ^ 2 := (leNat_lt (bytesAt f 9 2)).trans_le (Nat.pow_le_pow_right (by decide) hlen)
  unfold frameKey
  omega

section
variable {r : Nat} {b : Body}

theorem forUs_begun (f : List Nat) : forUs f (rxBegun r b) ↔ forUs f b := by
  unfold forUs
  rw [netNo_of_stands (rxBegun_told r b).stands, modNo_of_stands (rxBegun_told r b).stands]

theorem unitsKnown_begun (f : List Nat) : unitsKnown f (rxBegun r b) ↔ unitsKnown f b := by
  unfold unitsKnown
  rw [unitOk_of_stands (rxBegun_told r b).stands, unitOk_of_stands (rxBegun_told r b).stands]

theorem keyGood_begun (hr : r < 5) (i : Nat) : keyGood (rxBegun r b) i = keyGood b i :=
  keyGood_of_kept (rxBegun_kept hr b) (rxBegun_told r b).air i

theorem openFrame_begun (hr : r < 5) (f : List Nat) : openFrame (rxBegun r b) (frameKey f) f = openFrame b (frameKey f) f :=
  openFrame_of_kept (rxBegun_kept hr b) (frameKey_lt f) f

/-- The frame is neither too old nor from the future (R312). -/
def isFresh (age : Nat) (f : List Nat) (b : Body) : Prop :=
  (stampDiff (u48 f 11) (airOfNs (tnNs b - age))).natAbs ≤ freshW b

theorem isFresh_begun (age : Nat) (f : List Nat) : isFresh age f (rxBegun r b) ↔ isFresh age f b := by
  unfold isFresh
  rw [tnNs_of_stands (rxBegun_told r b).stands, freshW_of_stands (rxBegun_told r b).stands]

theorem epochNewer_begun (hr : r < 5) (e : Nat) :
    epochNewer e ((rxBegun r b).get AIR.EPOCH.EPOCH) = epochNewer e (b.get AIR.EPOCH.EPOCH) := by
  rw [(rxBegun_kept hr b).get (by decide)]

theorem markOf_begun (src k : Nat) : markOf (rxBegun r b) src k = markOf b src k := by
  unfold markOf
  rw [(rxBegun_told r b).air]

/-- Checks 1 to 4 read of the woken radio what they read before it woke. -/
theorem addressed_begun {f : List Nat} (hon : Receives r b) (hform : frameForm f = true) (hus : forUs f b) (hknown : unitsKnown f b) :
    Addressed r f b := ⟨hon, hform, (forUs_begun f).2 hus, (unitsKnown_begun f).2 hknown⟩

/-- So do checks 5 and 6. -/
theorem receive_opens (hr : r < 5) {rssi age : Nat} {f : List Nat} (h : Addressed r f b) (hkey : keyGood b (frameKey f) = true)
    {o : Option (List Nat)} (hopen : openFrame b (frameKey f) f = o) : receive r rssi age f b =
      o.elim ((rxBegun r b).bump AIR.RXC_B.MIC) fun p => openChecked r rssi age f p (rxBegun r b) := by
  rw [receive_keyed h ((keyGood_begun hr _).trans hkey), openFrame_begun hr, hopen]

theorem openChecked_stale {rssi age : Nat} {f p : List Nat} (h : ¬ isFresh age f b) :
    openChecked r rssi age f p b = countedAs AIR.RXC_C.STALE r 2 f b := if_pos (not_le.1 h)

theorem openChecked_newer {rssi age : Nat} {f p : List Nat} (h : isFresh age f b)
    (hnewer : epochNewer (u16 f 9 % 2 ^ 14) (b.get AIR.EPOCH.EPOCH) = true) :
    openChecked r rssi age f p b = epochAhead (u16 f 9 % 2 ^ 14) (b.bump AIR.RXC_C.EPOCH) :=
  (if_neg (not_lt.2 h)).trans (if_pos hnewer)

theorem openChecked_new {rssi age : Nat} {f p : List Nat} (h : isFresh age f b)
    (hnewer : epochNewer (u16 f 9 % 2 ^ 14) (b.get AIR.EPOCH.EPOCH) = false) {k : Nat} (hclass : frameClass f = some k)
    (hmark : markOf b (u32 f 1) k = none) : openChecked r rssi age f p b = acceptFrame r rssi (tnNs b - age) f p b := by
  refine (if_neg (not_lt.2 h)).trans ((if_neg (Bool.eq_false_iff.1 hnewer)).trans ?_)
  rw [hclass, Option.bind_some, hmark]

theorem stampDiff_self (x : Nat) : stampDiff x x = 0 := by
  unfold stampDiff
  rw [Int.sub_self]
  rfl

theorem openChecked_repeat {rssi age : Nat} {f p : List Nat} (h : isFresh age f b)
    (hnewer : epochNewer (u16 f 9 % 2 ^ 14) (b.get AIR.EPOCH.EPOCH) = false) {k : Nat} (hclass : frameClass f = some k)
    (hmark : markOf b (u32 f 1) k = some (acceptedMark f k)) :
    openChecked r rssi age f p b = countedAs AIR.RXC_D.DUPLICATE r 1 f b := by
  have hsame : ¬ stampDiff (u48 f 11) (acceptedMark f k).stamp > 0 := by
    rw [show (acceptedMark f k).stamp = u48 f 11 from rfl, stampDiff_self]
    decide
  refine (if_neg (not_lt.2 h)).trans ((if_neg (Bool.eq_false_iff.1 hnewer)).trans ?_)
  rw [hclass, Option.bind_some, hmark]
  exact (if_neg hsame).trans (if_pos ⟨rfl, rfl⟩)

end

/-! ### Keys -/

theorem ungate_rxKept (b : Body) : RegsKept rxReg b (ungate b) := (ungate_kept b).mono fun _ h => .inl h

/-- Key slot `i` transmits, or is the previous one in its grace (R308). -/
def KeyUsed (i : Nat) (b : Body) : Prop :=
  (i = keyTx b ∧ b.bit AIR.KEY_CTL.LOADED i = true) ∨ (b.flag AIR.STAT.GRACE = true ∧ b.air.prevKey = some i)

theorem keyUsed_ungate (i : Nat) (b : Body) : KeyUsed i (ungate b) ↔ KeyUsed i b := by
  have h := ungate_rxKept b
  unfold KeyUsed
  rw [keyTx_of_kept h, h.bit (by decide), h.flag (by decide)]
  rfl

theorem keyUsed_iff (i : Nat) (b : Body) : ((decide (i = keyTx b) && b.bit AIR.KEY_CTL.LOADED i) ||
    (b.flag AIR.STAT.GRACE && decide (b.air.prevKey = some i))) = true ↔ KeyUsed i b := by
  simp [KeyUsed]

theorem keyW_at (i w : Nat) : AIR.KEY_W.KEY.at i w = 0x40300100 + 0x10 * i + 4 * w := rfl

theorem keyWrite_used {i w v : Nat} (hi : i < 4) (hw : w < 4) {b : Body} (h : KeyUsed i b) :
    (keyWrite i w v b).get AIR.KEY_W.KEY i w = b.get AIR.KEY_W.KEY i w := by
  have hrec : keyWrite i w v b = blockRecord 3 (0x0100 + 0x10 * i + 4 * w) 0 b := if_pos ((keyUsed_iff i b).2 h)
  rw [hrec]
  refine (record_frame _ _ _ b).2.get ?_
  rw [keyW_at]
  omega

theorem keyWrite_free {i w v : Nat} (hi : i < 4) (hw : w < 4) {b : Body} (h : ¬ KeyUsed i b) :
    (keyWrite i w v b).get AIR.KEY_W.KEY i w = v % 2 ^ 32 ∧ (w = 3 → (keyWrite i w v b).bit AIR.KEY_CTL.LOADED i = true) := by
  have hput : (b.put AIR.KEY_W.KEY v i w).get AIR.KEY_W.KEY i w = v % 2 ^ 32 := Body.get_put_same b AIR.KEY_W.KEY v i w (by decide)
  have hne : AIR.KEY_W.KEY.at i w ≠ AIR.KEY_CTL.LOADED.at 0 0 := by
    rw [keyW_at]
    change _ ≠ 0x40300020
    omega
  have hload : ∀ c : Body, (c.setBit AIR.KEY_CTL.LOADED i true).get AIR.KEY_W.KEY i w = c.get AIR.KEY_W.KEY i w ∧
      (c.setBit AIR.KEY_CTL.LOADED i true).bit AIR.KEY_CTL.LOADED i = true := fun c =>
    ⟨Body.get_put_other _ _ _ _ _ _ _ _ hne, Body.bit_setBit_same c AIR.KEY_CTL.LOADED hi (by decide) true 0 0⟩
  obtain ⟨hkey, hloaded⟩ := hload (b.put AIR.KEY_W.KEY v i w)
  unfold keyWrite
  dsimp only
  rw [if_neg (fun hu => h ((keyUsed_iff i b).1 hu))]
  split
  · split
    · exact ⟨hkey.trans hput, fun _ => hloaded⟩
    · exact ⟨hkey.trans hput, fun _ => hloaded⟩
  · next hlast => exact ⟨hput, fun h3 => absurd h3 hlast⟩

/-- Slot `i` can be armed: loaded, and at least 16 bolts ahead (R309). -/
def Armable (i : Nat) (b : Body) : Prop := b.bit AIR.KEY_CTL.LOADED i = true ∧ boltNo b + 16 ≤ b.get AIR.KEY_SW.BOLT

theorem keyArm_shows {i : Nat} (hi : i < 4) (b : Body) : (keyArm i b).get AIR.KEY_ARM.NEXT = i ∧
    (Armable i b → (keyArm i b).flag AIR.STAT.SW_ARMED = true) ∧
    (¬ Armable i b → (keyArm i b).flag AIR.STAT.SW_ARMED = b.flag AIR.STAT.SW_ARMED) := by
  have hnext : (b.put AIR.KEY_ARM.NEXT i).get AIR.KEY_ARM.NEXT = i :=
    (Body.get_put_same b AIR.KEY_ARM.NEXT i 0 0 (by decide)).trans (Nat.mod_eq_of_lt hi)
  have hkept : RegsKept (· = AIR.KEY_ARM.word.addr) b (b.put AIR.KEY_ARM.NEXT i) :=
    .put_at (f := AIR.KEY_ARM.NEXT) (i := 0) (j := 0) rfl b i
  have harm : (b.put AIR.KEY_ARM.NEXT i).bit AIR.KEY_CTL.LOADED i = true ∧
      boltNo (b.put AIR.KEY_ARM.NEXT i) + 16 ≤ (b.put AIR.KEY_ARM.NEXT i).get AIR.KEY_SW.BOLT ↔ Armable i b := by
    rw [hkept.bit (by decide), hkept.get (by decide)]
    rfl
  unfold keyArm
  dsimp only
  split
  · next h =>
    refine ⟨(Body.get_put_other _ _ _ _ _ _ _ _ (by decide)).trans hnext, fun _ => ?_, fun hno => absurd (harm.1 h) hno⟩
    exact Body.flag_mark_same _ AIR.STAT.SW_ARMED true 0 0 rfl (by decide)
  · next h =>
    have hrec := (record_frame (3 * 256 + 0x80) 0x0028 i (b.put AIR.KEY_ARM.NEXT i)).2
    exact ⟨(hrec.get (by decide)).trans hnext, fun hyes => absurd (harm.2 hyes) h,
      fun _ => (hrec.flag (by decide)).trans (hkept.flag (by decide))⟩

theorem armable_ungate (i : Nat) (b : Body) : Armable i (ungate b) ↔ Armable i b := by
  have h := ungate_rxKept b
  unfold Armable
  rw [h.bit (by decide), h.get (by decide)]
  rfl

theorem graceEnd_ends {b : Body} (h : b.flag AIR.STAT.GRACE = true) (hend : b.air.graceEnd ≤ boltNo b) :
    graceEnd b = { b.mark AIR.STAT.GRACE false with air := { b.air with prevKey := none } } := if_pos ⟨h, hend⟩

theorem graceEnd_waits {b : Body} (h : b.flag AIR.STAT.GRACE = false ∨ boltNo b < b.air.graceEnd) : graceEnd b = b :=
  if_neg fun hend => h.elim (fun hoff => absurd (hoff.symm.trans hend.1) (by decide)) fun hlt => absurd hend.2 (not_le.2 hlt)

/-! ### Hop queries -/

/-- A query as its arguments are written: it is not done (R289). -/
def hopAsked (r st : Nat) (b : Body) : Body := ((b.put AIR.HOP_ARG.RADIO r).put AIR.HOP_ARG.STITCH st).mark AIR.HOP_RES.DONE false

theorem hopAsked_done (r st : Nat) (b : Body) : (hopAsked r st b).flag AIR.HOP_RES.DONE = false :=
  Body.flag_mark_same _ _ _ _ _ rfl (by decide)

theorem hopAsked_stitch {r st : Nat} (hst : st < 256) (b : Body) : (hopAsked r st b).get AIR.HOP_ARG.STITCH = st := by
  unfold hopAsked Body.mark
  rw [Body.get_put_other _ _ _ _ _ _ _ _ (by decide), Body.get_put_same _ _ _ _ _ (by decide)]
  exact Nat.mod_eq_of_lt hst

theorem hopAsked_radio {r st : Nat} (hr : r < 8) (b : Body) : (hopAsked r st b).get AIR.HOP_ARG.RADIO = r := by
  unfold hopAsked Body.mark
  rw [Body.get_put_other _ _ _ _ _ _ _ _ (by decide),
    Body.get_put_bits _ _ _ _ _ _ _ _ (by rfl) (by decide) (by decide), Body.get_put_same _ _ _ _ _ (by decide)]
  exact Nat.mod_eq_of_lt hr
/-- AIR's own state is `x`. -/
def withAir (x : Air) (b : Body) : Body := { b with air := x }

theorem withAir_get (x : Air) (b : Body) (f : Fld) (i j : Nat) : (withAir x b).get f i j = b.get f i j := rfl

theorem withAir_flag (x : Air) (b : Body) (f : Fld) (i j : Nat) : (withAir x b).flag f i j = b.flag f i j := rfl

theorem withAir_air (x : Air) (b : Body) : (withAir x b).air = x := rfl

theorem hopQuery_air (r st : Nat) (b : Body) :
    hopQuery r st b = withAir { (hopAsked r st b).air with hopBusy := true } (hopAsked r st b) := rfl

theorem hopQuery_shows {r st : Nat} (hr : r < 8) (hst : st < 256) (b : Body) : (hopQuery r st b).get AIR.HOP_ARG.RADIO = r ∧
    (hopQuery r st b).get AIR.HOP_ARG.STITCH = st ∧ (hopQuery r st b).flag AIR.HOP_RES.DONE = false ∧
    (hopQuery r st b).air.hopBusy = true := by
  rw [hopQuery_air, withAir_get, withAir_get, withAir_flag, withAir_air]
  exact ⟨hopAsked_radio hr b, hopAsked_stitch hst b, hopAsked_done r st b, rfl⟩
theorem hopResult_idle {b : Body} (h : b.air.hopBusy = false) : hopResult b = b := if_pos (by rw [h]; rfl)

theorem hopResult_shows {b : Body} (h : b.air.hopBusy = true) : (hopResult b).flag AIR.HOP_RES.DONE = true ∧
    (hopResult b).air.hopBusy = false ∧ (hopResult b).get AIR.HOP_RES.CHANNEL =
      hopWith (hopKey b (keyTx b)) b (b.get AIR.HOP_BOLT.BOLT) (b.get AIR.HOP_ARG.STITCH) (min (b.get AIR.HOP_ARG.RADIO) 4) % 2 ^ 7 := by
  have hnum : ∀ (c : Body) (n : Nat), ((c.put AIR.HOP_RES.CHANNEL n).mark AIR.HOP_RES.DONE true).flag AIR.HOP_RES.DONE = true ∧
      ((c.put AIR.HOP_RES.CHANNEL n).mark AIR.HOP_RES.DONE true).air = c.air ∧
      ((c.put AIR.HOP_RES.CHANNEL n).mark AIR.HOP_RES.DONE true).get AIR.HOP_RES.CHANNEL = n % 2 ^ 7 := fun c n => by
    refine ⟨Body.flag_mark_same _ _ _ _ _ rfl (by decide), (Body.mark_air _ _ _ _ _).trans (Body.put_air _ _ _ _ _), ?_⟩
    rw [Body.mark, Body.get_put_bits _ _ _ _ _ _ _ _ (by rfl) (by decide) (by decide), Body.get_put_same _ _ _ _ _ (by decide)]
  unfold hopResult
  rw [if_neg (by rw [h]; decide)]
  dsimp only
  obtain ⟨hdone, hair, hchan⟩ := hnum { b with air := { b.air with hopBusy := false } } (hopWith (hopKey b (keyTx b)) b
    (b.get AIR.HOP_BOLT.BOLT) (b.get AIR.HOP_ARG.STITCH) (min (b.get AIR.HOP_ARG.RADIO) 4))
  exact ⟨hdone, congrArg Air.hopBusy hair, hchan⟩

/-! ### The obligation -/

theorem does_frameReceived {s : State} (hp : powered s.body = true) {r rssi age : Nat} (hr : r < 5) {f : List Nat} {P : Body → Prop}
    (h : P (receive r rssi age f s.body)) (hpins : ∀ b, P b → P (settle b)) : Does (.frameReceived r rssi age f) s P := by
  refine does_of_unpinned (exec_frameReceived r rssi age f s) hp ?_ hpins
  rwa [Nat.mod_eq_of_lt hr]

/-- Settles O42: the frame falls at the first check it fails (`receive_malformed` to `receive_keyed`, `openChecked_stale` to
`openChecked_repeat`), in the state that the wake leaves (`rxBegun`). -/
theorem receivedFramesPassTenChecks : Obligations.ReceivedFramesPassTenChecks := by
  intro s r rssi age f hp hr
  dsimp only
  refine ⟨fun hrun hradio hbase => ⟨fun hform => ?_, fun hform hmine => ?_, fun hform hmine hknown => ?_, fun hform hmine hknown =>
    ⟨fun hkey => ?_, fun hkey => ⟨fun hopen => ?_, fun p hopen => ⟨fun hfresh => ?_, fun hfresh hnewer => ?_,
      fun hfresh hnewer k hclass => ⟨fun hmark => ?_, fun hmark => ?_⟩⟩⟩⟩⟩, fun hoff => ?_, fun i w v hi hw =>
    ⟨fun hused => ?_, fun hfree => ?_, fun harm => ?_, fun harm => ?_⟩, fun hgrace hend => ?_, fun hnot => ?_, fun st hst => ?_,
    fun hbusy => ?_, fun hbusy => ?_⟩
  · refine does_frameReceived hp hr ?_ fun _ h => h
    rw [receive_malformed ⟨hrun, hradio, hbase⟩ hform]
    exact rxBegun_counts hr s.body (by decide) (by decide)
  · refine does_frameReceived hp hr ?_ fun _ h => h
    rw [receive_foreign ⟨hrun, hradio, hbase⟩ hform fun hus => hmine ((forUs_begun f).1 hus)]
    exact ⟨rxBegun_quiet r s.body, fun hcalm => (rxBegun_calm hcalm.1 hcalm.2).1⟩
  · refine does_frameReceived hp hr ?_ fun _ h => h
    rw [receive_unknown ⟨hrun, hradio, hbase⟩ hform ((forUs_begun f).2 hmine) fun hno => hknown ((unitsKnown_begun f).1 hno)]
    exact rxBegun_counts hr s.body (by decide) (by decide)
  · refine does_frameReceived hp hr ?_ fun _ h => h
    rw [receive_keyless (addressed_begun ⟨hrun, hradio, hbase⟩ hform hmine hknown) ((keyGood_begun hr _).trans hkey)]
    exact rxBegun_counts hr s.body (by decide) (by decide)
  · refine does_frameReceived hp hr ?_ fun _ h => h
    rw [receive_opens hr (addressed_begun ⟨hrun, hradio, hbase⟩ hform hmine hknown) hkey hopen]
    exact rxBegun_counts hr s.body (by decide) (by decide)
  · refine does_frameReceived hp hr ?_ fun _ h => h
    rw [receive_opens hr (addressed_begun ⟨hrun, hradio, hbase⟩ hform hmine hknown) hkey hopen, Option.elim_some,
      openChecked_stale fun hno => hfresh ((isFresh_begun age f).1 hno)]
    exact countedAs_counts hr s.body (by decide) (by decide) 2 f
  · obtain ⟨hair, hget⟩ := epochAhead_epochKept (u16 f 9 % 2 ^ 14) ((rxBegun r s.body).bump AIR.RXC_C.EPOCH)
    obtain ⟨⟨-, hmarks, -⟩, hcount⟩ := rxBegun_counts hr s.body (g := AIR.RXC_C.EPOCH) (by decide) (by decide)
    refine does_frameReceived hp hr ?_ fun _ h => h
    rw [receive_opens hr (addressed_begun ⟨hrun, hradio, hbase⟩ hform hmine hknown) hkey hopen, Option.elim_some,
      openChecked_newer ((isFresh_begun age f).2 hfresh) ((epochNewer_begun hr _).trans hnewer)]
    exact ⟨(congrArg Air.marks hair).trans hmarks, hget.trans hcount⟩
  · have hmark' : markOf (rxBegun r s.body) (u32 f 1) k = none := (markOf_begun _ _).trans hmark
    obtain ⟨hnew, hack⟩ := acceptFrame_shows hclass r rssi (tnNs (rxBegun r s.body) - age) p (rxBegun r s.body)
    refine does_frameReceived hp hr ?_ fun _ h => h
    rw [receive_opens hr (addressed_begun ⟨hrun, hradio, hbase⟩ hform hmine hknown) hkey hopen, Option.elim_some,
      openChecked_new ((isFresh_begun age f).2 hfresh) ((epochNewer_begun hr _).trans hnewer) hclass hmark']
    exact ⟨hnew, fun hreq hact => hack hreq ((acting_of_kept (rxBegun_kept hr s.body)).trans hact)⟩
  · have hmark' : markOf (rxBegun r s.body) (u32 f 1) k = some (acceptedMark f k) := (markOf_begun _ _).trans hmark
    refine does_frameReceived hp hr ?_ fun _ h => h
    rw [receive_opens hr (addressed_begun ⟨hrun, hradio, hbase⟩ hform hmine hknown) hkey hopen, Option.elim_some,
      openChecked_repeat ((isFresh_begun age f).2 hfresh) ((epochNewer_begun hr _).trans hnewer) hclass hmark']
    exact countedAs_counts hr s.body (by decide) (by decide) 1 f
  · have hno : ¬ Receives r s.body := by
      rintro ⟨hrun, hradio, hbase⟩
      simp [hrun, hradio] at hoff
      simp [hoff] at hbase
    refine does_frameReceived hp hr ?_ fun _ h => h
    rw [receive_off hno]
    exact ⟨rfl, .refl _⟩
  · refine does_of_unpinned (exec_keyWrite i w v s) hp ?_ fun _ h => h
    rw [Nat.mod_eq_of_lt hi, Nat.mod_eq_of_lt hw, coreAccess, keyWrite_used hi hw ((keyUsed_ungate i s.body).2 hused)]
    refine (ungate_rxKept s.body).get ?_
    rw [keyW_at]
    change ¬ (_ = 0x40000020 ∨ _)
    omega
  · refine does_of_unpinned (exec_keyWrite i w v s) hp ?_ fun _ h => h
    rw [Nat.mod_eq_of_lt hi, Nat.mod_eq_of_lt hw, coreAccess]
    exact keyWrite_free hi hw fun hu => hfree ((keyUsed_ungate i s.body).1 hu)
  · obtain ⟨hnext, hsw, -⟩ := keyArm_shows hi (ungate s.body)
    refine does_of_unpinned (exec_keyArm i s) hp ?_ fun _ h => h
    rw [Nat.mod_eq_of_lt hi, coreAccess]
    exact ⟨hsw ((armable_ungate i s.body).2 harm), hnext⟩
  · obtain ⟨hnext, -, hsw⟩ := keyArm_shows hi (ungate s.body)
    refine does_of_unpinned (exec_keyArm i s) hp ?_ fun _ h => h
    rw [Nat.mod_eq_of_lt hi, coreAccess]
    exact ⟨(hsw fun hyes => harm ((armable_ungate i s.body).1 hyes)).trans ((ungate_kept s.body).flag (by decide)), hnext⟩
  · refine does_of_unpinned (exec_keyGraceEnd s) hp ?_ fun _ h => h
    rw [graceEnd_ends hgrace hend]
    exact ⟨Body.flag_mark_same s.body AIR.STAT.GRACE false 0 0 rfl (by decide), rfl⟩
  · refine does_of_unpinned (exec_keyGraceEnd s) hp ?_ fun _ h => h
    rw [graceEnd_waits hnot]
    exact ⟨rfl, .refl _⟩
  · refine does_of_unpinned (exec_hopQuery r st s) hp ?_ fun _ h => h
    rw [Nat.mod_eq_of_lt (by omega : r < 8), Nat.mod_eq_of_lt hst, coreAccess]
    exact hopQuery_shows (by omega) hst (ungate s.body)
  · refine does_of_unpinned (exec_hopResult s) hp ?_ fun _ h => h
    exact hopResult_shows hbusy
  · refine does_of_unpinned (exec_hopResult s) hp ?_ fun _ h => h
    rw [hopResult_idle hbusy]
    exact ⟨rfl, .refl _⟩

end Sys2Proof.Machine
end
section
/-! SUPPORT. Scope: O37, the registers of a channel, a channel's own state, and what asks for compositions (R166, R167, R177 to
R180). -/

namespace Sys2Proof

open Machine

/-- What each element of a list brings about for `m`, the elements after it keep. -/
theorem Body.each_reaches {f : Body → Nat → Body} {R P : Body → Prop} {m : Nat} {l : List Nat}
    (hR : ∀ n ∈ l, ∀ c, R c → R (f c n)) (hset : ∀ c, R c → P (f c m)) (hkeep : ∀ n ∈ l, n ≠ m → ∀ c, P c → P (f c n))
    (hm : m ∈ l) {b : Body} (hb : R b) : P (b.each l f) := by
  have hstay : ∀ t : List Nat, t ⊆ l → ∀ c, R c → P c → P (c.each t f) := by
    intro t
    induction t with
    | nil => exact fun _ _ _ hc => hc
    | cons n t ih =>
      intro ht c hRc hPc
      obtain ⟨hn, ht⟩ := List.cons_subset.1 ht
      refine ih ht _ (hR n hn c hRc) ?_
      by_cases h : n = m
      · subst h
        exact hset c hRc
      · exact hkeep n hn h c hPc
  have hgo : ∀ t : List Nat, t ⊆ l → m ∈ t → ∀ c, R c → P (c.each t f) := by
    intro t
    induction t with
    | nil => exact fun _ h => absurd h List.not_mem_nil
    | cons n t ih =>
      intro ht hin c hRc
      obtain ⟨hn, ht⟩ := List.cons_subset.1 ht
      by_cases h : n = m
      · subst h
        exact hstay t ht _ (hR n hn c hRc) (hset c hRc)
      · exact ih ht ((List.mem_cons.1 hin).resolve_left (Ne.symm h)) _ (hR n hn c hRc)
  exact hgo l (List.Subset.refl l) hm b hb

end Sys2Proof

namespace Sys2Proof.Machine

/-! ### The registers of a channel -/

/-- The field stands in a channel's registers, which lie 16 bytes apart. -/
def PerChan (f : Fld) : Prop := f.s1 = 0x10 ∧ f.s2 = 0 ∧ 0x40700100 ≤ f.addr ∧ f.addr + 0x2000 ≤ 0x40800000

theorem PerChan.at {f : Fld} (h : PerChan f) (n : Nat) : f.at n 0 = f.addr + 0x10 * n := by
  obtain ⟨hs1, -, -, -⟩ := h
  unfold Fld.at
  rw [hs1, Nat.mul_zero, Nat.add_zero]

/-- Two fields stand in different registers of every channel. -/
def Apart (f g : Fld) : Prop := f.addr % 16 ≠ g.addr % 16 ∨ f.addr + 0x2000 ≤ g.addr ∨ g.addr + 0x2000 ≤ f.addr

theorem Apart.at_ne {f g : Fld} (h : Apart f g) (hf : PerChan f) (hg : PerChan g) {m n : Nat} (hm : m < 512) (hn : n < 512) :
    f.at m 0 ≠ g.at n 0 := by
  rw [hf.at, hg.at]
  unfold Apart at h
  omega

theorem PerChan.at_ne {f g : Fld} (hf : PerChan f) (hg : PerChan g) (hfg : f.addr = g.addr) {m n : Nat} (h : m ≠ n) :
    f.at m 0 ≠ g.at n 0 := by
  rw [hf.at, hg.at, hfg]
  omega

theorem PerChan.block {f : Fld} (h : PerChan f) {n : Nat} (hn : n < 512) : f.at n 0 / 0x100000 ∉ [0x40D] := by
  rw [List.mem_singleton, h.at]
  obtain ⟨-, -, hlo, hhi⟩ := h
  omega

/-! ### A channel's own state -/

theorem chanOf_setChan_same (b : Body) (n : Nat) (x : Chan) : chanOf (setChan b n x) n = x := tabGet_tabSet_same _ _ _

theorem chanOf_setChan_other (b : Body) {m n : Nat} (h : m ≠ n) (x : Chan) : chanOf (setChan b n x) m = chanOf b m :=
  tabGet_tabSet_other _ _ h

theorem chanOf_of_ce {b c : Body} (h : c.ce = b.ce) (n : Nat) : chanOf c n = chanOf b n := by
  unfold chanOf
  rw [h]

theorem setChan_get (b : Body) (n : Nat) (x : Chan) (f : Fld) (i j : Nat) : (setChan b n x).get f i j = b.get f i j := rfl
theorem setChan_flag (b : Body) (n : Nat) (x : Chan) (f : Fld) (i j : Nat) : (setChan b n x).flag f i j = b.flag f i j := rfl
theorem setChan_kept {p : Nat → Prop} (b : Body) (n : Nat) (x : Chan) : RegsKept p b (setChan b n x) := .of_regs rfl
theorem setChan_stands (b : Body) (n : Nat) (x : Chan) : Stands b (setChan b n x) := ⟨rfl, rfl, rfl, rfl, rfl, rfl⟩

/-! ### Asking for a composition -/

/-- A composition that is asked for joins the jobs; of CE's own state nothing else moves (R167). -/
theorem ask_ce (ns : List Nat) (w : Why) (g : Option Nat) (b : Body) :
    ∃ got, (ask ns w g b).ce = { b.ce with jobs := b.ce.jobs ++ [⟨ns, w, g, got⟩] } := by
  unfold ask
  dsimp only
  rw [(sliceYield_told 1 b).ce]
  exact ⟨_, rfl⟩

theorem ask_air (ns : List Nat) (w : Why) (g : Option Nat) (b : Body) : (ask ns w g b).air = b.air := (sliceYield_told 1 b).air

theorem ask_chan (ns : List Nat) (w : Why) (g : Option Nat) (b : Body) (n : Nat) : chanOf (ask ns w g b) n = chanOf b n := by
  obtain ⟨got, h⟩ := ask_ce ns w g b
  unfold chanOf
  rw [h]

theorem ask_jobs_ne (ns : List Nat) (w : Why) (g : Option Nat) (b : Body) {l : List Job} {js : List Job} (h : b.ce.jobs = js ++ l) :
    (ask ns w g b).ce.jobs ≠ js := by
  obtain ⟨got, hce⟩ := ask_ce ns w g b
  rw [hce, h]
  simp

theorem ask_get (ns : List Nat) (w : Why) (g : Option Nat) (b : Body) {f : Fld} (hf : PerChan f) {n : Nat} (hn : n < 512) :
    (ask ns w g b).get f n = b.get f n := (ask_only ns w g b).get f n 0 (hf.block hn)

theorem ask_flag (ns : List Nat) (w : Why) (g : Option Nat) (b : Body) {f : Fld} (hf : PerChan f) {n : Nat} (hn : n < 512) :
    (ask ns w g b).flag f n = b.flag f n := Body.flag_of_get (ask_get ns w g b hf hn)

/-- CE's slice short of an error: asking writes its register alone. -/
theorem ask_calm {b : Body} (h : b.get SAFE.SLICE.ABORTS 1 ≠ 15) (ns : List Nat) (w : Why) (g : Option Nat) :
    RegsKept (· = SAFE.SLICE.word.at 1 0) b (ask ns w g b) :=
  RegsKept.trans (sliceYield_calm h).1 (.of_regs rfl)

/-! ### What the events of CE leave -/

/-- From `b` to `c` the clock and the pattern stand, and jobs were at most added. -/
def CeGrown (b c : Body) : Prop := Stands b c ∧ ∃ l, c.ce.jobs = b.ce.jobs ++ l

theorem CeGrown.refl (b : Body) : CeGrown b b := ⟨.refl b, [], (List.append_nil _).symm⟩

theorem CeGrown.trans {b c e : Body} (h : CeGrown b c) (g : CeGrown c e) : CeGrown b e := by
  obtain ⟨hs, l, hl⟩ := h
  obtain ⟨gs, k, hk⟩ := g
  exact ⟨hs.trans gs, l ++ k, by rw [hk, hl, List.append_assoc]⟩

theorem CeGrown.put (b : Body) (f : Fld) (v i j : Nat) : CeGrown b (b.put f v i j) := ⟨.put b f v i j, [], (List.append_nil _).symm⟩

theorem CeGrown.mark (b : Body) (f : Fld) (v : Bool) (i j : Nat) : CeGrown b (b.mark f v i j) := .put b f _ i j

theorem CeGrown.setChan (b : Body) (n : Nat) (x : Chan) : CeGrown b (setChan b n x) :=
  ⟨setChan_stands b n x, [], (List.append_nil _).symm⟩

theorem CeGrown.ask (ns : List Nat) (w : Why) (g : Option Nat) (b : Body) : CeGrown b (ask ns w g b) := by
  obtain ⟨got, h⟩ := ask_ce ns w g b
  exact ⟨ask_stands ns w g b, [⟨ns, w, g, got⟩], by rw [h]⟩

theorem CeGrown.inbox (b : Body) (l : List (Nat × Ev)) : CeGrown b { b with ce := { b.ce with inbox := l } } :=
  ⟨⟨rfl, rfl, rfl, rfl, rfl, rfl⟩, [], (List.append_nil _).symm⟩

theorem CeGrown.each {α : Type} {f : Body → α → Body} (h : ∀ x c, CeGrown c (f c x)) (l : List α) (b : Body) :
    CeGrown b (b.each l f) := Body.each_keeps (P := CeGrown b) (fun x c hc => hc.trans (h x c)) l (.refl b)

theorem setRuleCct_grown (n v : Nat) (b : Body) : CeGrown b (setRuleCct n v b) := by
  unfold setRuleCct
  dsimp only
  split
  · exact .refl b
  · exact (CeGrown.put _ _ _ _ _).trans (.put _ _ _ _ _)

theorem badEvent_grown (b : Body) : CeGrown b (badEvent b) := .put b CE.COUNT.BAD_EVENT _ 0 0

theorem ceLightAhead_grown (p : Nat) (b : Body) : CeGrown b (ceLightAhead p b) := by
  unfold ceLightAhead
  dsimp only
  split
  · exact badEvent_grown b
  · refine CeGrown.trans ?_ (.ask _ _ _ _)
    refine CeGrown.trans ?_ (.setChan _ _ _)
    exact .put _ _ _ _ _

/-- One channel of a LEVEL_EVENT. -/
def lvlStep (p : Nat) (b : Body) (n : Nat) : Body :=
  let b := (b.put CE.LVL_TGT.RULE_LVL (bits p 0 16) n).put CE.LVL_TGT.RULE_PRESET (bits p 48 4) n
  if bits p 30 1 = 1 then setRuleCct n (bits p 32 16) b else b

theorem lvlStep_grown (p n : Nat) (b : Body) : CeGrown b (lvlStep p b n) := by
  have hputs : CeGrown b ((b.put CE.LVL_TGT.RULE_LVL (bits p 0 16) n).put CE.LVL_TGT.RULE_PRESET (bits p 48 4) n) :=
    (CeGrown.put _ _ _ _ _).trans (.put _ _ _ _ _)
  unfold lvlStep
  dsimp only
  split
  · exact hputs.trans (setRuleCct_grown _ _ _)
  · exact hputs

/-- One channel of an OVERRIDE. -/
def ovrStep (p : Nat) (b : Body) (n : Nat) : Body :=
  if bits p 30 1 = 1 then
    let b := (b.mark CE.CH_STAT.OVR true n).put CE.OVR.OVERRIDE_LVL (bits p 0 16) n
    setChan b n { chanOf b n with
      ovrEnd := if bits p 32 16 = 0 then none else some (b.clock.cyc + msCyc (bits p 32 16 * 60000)) }
  else setChan (b.mark CE.CH_STAT.OVR false n) n { chanOf b n with ovrEnd := none }

theorem ovrStep_grown (p n : Nat) (b : Body) : CeGrown b (ovrStep p b n) := by
  unfold ovrStep
  split
  · exact ((CeGrown.mark _ _ _ _ _).trans (.put _ _ _ _ _)).trans (.setChan _ _ _)
  · exact (CeGrown.mark _ _ _ _ _).trans (.setChan _ _ _)

/-- A payload of LEVEL_EVENT or OVERRIDE that names the channels `ns` (R177). -/
def GoodLevel (b : Body) (p : Nat) (ns : List Nat) : Prop :=
  bits p 31 1 = 0 ∧ bits p 52 12 = 0 ∧ targets b (bits p 16 12) (bits p 28 2) = some ns

/-- One that CE refuses (R178). -/
def BadLevel (b : Body) (p : Nat) : Prop :=
  bits p 31 1 ≠ 0 ∨ bits p 52 12 ≠ 0 ∨ targets b (bits p 16 12) (bits p 28 2) = none

theorem ceLevelEvent_good {b : Body} {p : Nat} {ns : List Nat} (h : GoodLevel b p ns) : ceLevelEvent p b =
    ask ns (.preset (bits p 48 4)) (scopeGroup (bits p 16 12) (bits p 28 2)) (b.each ns (lvlStep p)) := by
  obtain ⟨hres, hhigh, hns⟩ := h
  unfold ceLevelEvent
  rw [if_neg (by omega), hns]
  rfl

theorem ceOverride_good {b : Body} {p : Nat} {ns : List Nat} (h : GoodLevel b p ns) : ceOverride p b =
    ask ns (.preset (bits p 48 4)) (scopeGroup (bits p 16 12) (bits p 28 2)) (b.each ns (ovrStep p)) := by
  obtain ⟨hres, hhigh, hns⟩ := h
  unfold ceOverride
  rw [if_neg (by omega), hns]
  rfl

theorem ceLevelEvent_bad {b : Body} {p : Nat} (h : BadLevel b p) : ceLevelEvent p b = badEvent b := by
  unfold ceLevelEvent
  split
  · rfl
  · next hform =>
    have hnone : targets b (bits p 16 12) (bits p 28 2) = none := by
      rcases h with h | h | h
      · exact absurd (.inl h) hform
      · exact absurd (.inr h) hform
      · exact h
    rw [hnone]

theorem ceOverride_bad {b : Body} {p : Nat} (h : BadLevel b p) : ceOverride p b = badEvent b := by
  unfold ceOverride
  split
  · rfl
  · next hform =>
    have hnone : targets b (bits p 16 12) (bits p 28 2) = none := by
      rcases h with h | h | h
      · exact absurd (.inl h) hform
      · exact absurd (.inr h) hform
      · exact h
    rw [hnone]

/-- A payload is good or refused. -/
theorem goodLevel_or_bad (b : Body) (p : Nat) : (∃ ns, GoodLevel b p ns) ∨ BadLevel b p := by
  cases h : targets b (bits p 16 12) (bits p 28 2) with
  | none => exact .inr (.inr (.inr h))
  | some ns =>
    by_cases hres : bits p 31 1 = 0
    · by_cases hhigh : bits p 52 12 = 0
      · exact .inl ⟨ns, hres, hhigh, h⟩
      · exact .inr (.inr (.inl hhigh))
    · exact .inr (.inl hres)

theorem ceLevelEvent_grown (p : Nat) (b : Body) : CeGrown b (ceLevelEvent p b) := by
  obtain ⟨ns, h⟩ | h := goodLevel_or_bad b p
  · rw [ceLevelEvent_good h]
    exact (CeGrown.each (fun n c => lvlStep_grown p n c) ns b).trans (.ask _ _ _ _)
  · rw [ceLevelEvent_bad h]
    exact badEvent_grown b

theorem ceOverride_grown (p : Nat) (b : Body) : CeGrown b (ceOverride p b) := by
  obtain ⟨ns, h⟩ | h := goodLevel_or_bad b p
  · rw [ceOverride_good h]
    exact (CeGrown.each (fun n c => ovrStep_grown p n c) ns b).trans (.ask _ _ _ _)
  · rw [ceOverride_bad h]
    exact badEvent_grown b

/-! ### Inputs that apply first -/

theorem ceFirst_grown (ports : List Nat) (b : Body) : CeGrown b (ceFirst ports b) := by
  have hone : ∀ (q : Nat) (x : Nat × Ev) (c : Body), CeGrown c (if q = 0 then ceLightAhead x.2.payload c
      else if q = 2 then ceOverride x.2.payload c else ceLevelEvent x.2.payload c) := by
    intro q x c
    split
    · exact ceLightAhead_grown _ _
    · split
      · exact ceOverride_grown _ _
      · exact ceLevelEvent_grown _ _
  unfold ceFirst
  dsimp only
  refine CeGrown.trans ?_ (.inbox _ _)
  refine CeGrown.each (fun q c => ?_) ports b
  exact CeGrown.each (fun x e => hone q x e) _ c

/-- Nothing waits at these ports: nothing applies first. -/
theorem ceFirst_none {ports : List Nat} {b : Body} (h : ∀ x ∈ b.ce.inbox, x.1 ∉ ports) : ceFirst ports b = b := by
  have hports : ∀ l : List Nat, l ⊆ ports → (b.each l fun b q => b.each (b.ce.inbox.filter fun x => decide (x.1 = q)) fun b x =>
      if q = 0 then ceLightAhead x.2.payload b else if q = 2 then ceOverride x.2.payload b else ceLevelEvent x.2.payload b) = b := by
    intro l
    induction l with
    | nil => exact fun _ => rfl
    | cons q l ih =>
      intro hl
      obtain ⟨hq, hl⟩ := List.cons_subset.1 hl
      have hnone : (b.ce.inbox.filter fun x => decide (x.1 = q)) = [] :=
        List.filter_eq_nil_iff.2 fun x hx hxq => h x hx (of_decide_eq_true hxq ▸ hq)
      refine Eq.trans ?_ (ih hl)
      unfold Body.each
      rw [List.foldl_cons, hnone]
      rfl
  have hinbox : (b.ce.inbox.filter fun x => !ports.contains x.1) = b.ce.inbox :=
    List.filter_eq_self.2 fun x hx => by simpa using h x hx
  unfold ceFirst
  rw [hports ports (List.Subset.refl _)]
  dsimp only
  rw [hinbox]

theorem takePort_subset {port : Nat} {l rest : List (Nat × Ev)} {e : Ev} (h : takePort port l = some (e, rest)) : rest ⊆ l := by
  induction l generalizing rest with
  | nil => exact absurd h (by simp [takePort])
  | cons x l ih =>
    obtain ⟨q, y⟩ := x
    unfold takePort at h
    split at h
    · obtain ⟨-, rfl⟩ := Prod.mk.inj (Option.some.inj h)
      exact List.subset_cons_self _ _
    · obtain ⟨⟨e', rest'⟩, htail, heq⟩ := Option.map_eq_some_iff.1 h
      obtain ⟨rfl, rfl⟩ := Prod.mk.inj heq
      exact List.cons_subset_cons _ (ih htail)

theorem ceTake_some {ports : List Nat} {port : Nat} {f : Ev → Body → Body} {b : Body} {e : Ev} {rest : List (Nat × Ev)}
    (h : takePort port b.ce.inbox = some (e, rest)) :
    ceTake ports port f b = f e (ceFirst ports { b with ce := { b.ce with inbox := rest } }) := by
  unfold ceTake
  rw [h]

end Sys2Proof.Machine
end
section
/-! SUPPORT. Scope: O37, what level events, overrides, light-ahead requests, reports and host writes set (R177 to R180, R194, R195,
R210, R318). -/

namespace Sys2Proof.Machine

theorem exec_lightAhead (s : State) : exec .lightAhead s = execLightAhead s := rfl
theorem exec_levelEvent (s : State) : exec .levelEvent s = execLevelEvent s := rfl
theorem exec_override (s : State) : exec .override s = execOverride s := rfl
theorem exec_channelReport (s : State) : exec .channelReport s = execChannelReport s := rfl
theorem exec_hostLevelEvent (s : State) : exec .hostLevelEvent s = execHostLevelEvent s := rfl
theorem exec_hostOverride (s : State) : exec .hostOverride s = execHostOverride s := rfl
theorem exec_lvlTgtWrite (n v : Nat) (s : State) : exec (.lvlTgtWrite n v) s = execLvlTgtWrite n v s := rfl
theorem exec_safeLvlWrite (n v : Nat) (s : State) : exec (.safeLvlWrite n v) s = execSafeLvlWrite n v s := rfl

theorem bits_zero (p w : Nat) : bits p 0 w = p % 2 ^ w := congrArg (· % 2 ^ w) (Nat.div_one p)

theorem bits_mod (p lo w : Nat) : bits p lo w % 2 ^ w = bits p lo w := Nat.mod_mod _ _

theorem perChan_lvl : PerChan CE.LVL_TGT.RULE_LVL := by unfold PerChan; decide
theorem perChan_preset : PerChan CE.LVL_TGT.RULE_PRESET := by unfold PerChan; decide
theorem perChan_cct : PerChan CE.CCT_FLR.RULE_CCT := by unfold PerChan; decide
theorem perChan_trim : PerChan CE.COLOUR.TRIM := by unfold PerChan; decide
theorem perChan_ovr : PerChan CE.CH_STAT.OVR := by unfold PerChan; decide
theorem perChan_ovrLvl : PerChan CE.OVR.OVERRIDE_LVL := by unfold PerChan; decide
theorem perChan_laLvl : PerChan CE.OUT.LA_LVL := by unfold PerChan; decide
theorem perChan_emergLvl : PerChan CE.SAFE.EMERG_LVL := by unfold PerChan; decide
theorem perChan_hemLvl : PerChan CE.SAFE.HEM_LVL := by unfold PerChan; decide

/-! ### Level events -/

theorem setRuleCct_get {f : Fld} (hf : PerChan f) (hcct : Apart f CE.CCT_FLR.RULE_CCT) (htrim : Apart f CE.COLOUR.TRIM) {m n : Nat}
    (hm : m < 512) (hn : n < 512) (v : Nat) (b : Body) : (setRuleCct n v b).get f m = b.get f m := by
  unfold setRuleCct
  dsimp only
  split
  · rfl
  · rw [Body.get_put_other _ _ _ _ _ _ _ _ (htrim.at_ne hf perChan_trim hm hn),
      Body.get_put_other _ _ _ _ _ _ _ _ (hcct.at_ne hf perChan_cct hm hn)]

/-- A write of rule level and preset of channel `n`. -/
def lvlPut (l p n : Nat) (b : Body) : Body := (b.put CE.LVL_TGT.RULE_LVL l n).put CE.LVL_TGT.RULE_PRESET p n

/-- Channel `m` has rule level `l` and preset `p`. -/
def HasLvl (m l p : Nat) (b : Body) : Prop := b.get CE.LVL_TGT.RULE_LVL m = l ∧ b.get CE.LVL_TGT.RULE_PRESET m = p

theorem lvlPut_sets (l p n : Nat) (b : Body) : HasLvl n (l % 2 ^ 16) (p % 2 ^ 4) (lvlPut l p n b) := by
  unfold lvlPut
  refine ⟨?_, Body.get_put_same _ _ _ _ _ (by decide)⟩
  exact (Body.get_put_bits _ _ _ _ _ _ _ _ (by rfl) (by decide) (by decide)).trans (Body.get_put_same _ _ _ _ _ (by decide))

theorem lvlPut_kept (l p n : Nat) (b : Body) : RegsKept (· = CE.LVL_TGT.word.at n 0) b (lvlPut l p n b) :=
  (RegsKept.put_at (f := CE.LVL_TGT.RULE_LVL) (i := n) (j := 0) rfl b _).trans
    (.put_at (f := CE.LVL_TGT.RULE_PRESET) (i := n) (j := 0) rfl _ _)

theorem HasLvl.put {m l p : Nat} {b : Body} (h : HasLvl m l p b) {f : Fld} {n : Nat}
    (hf : CE.LVL_TGT.word.at m 0 ≠ f.at n 0) (v : Nat) : HasLvl m l p (b.put f v n) :=
  ⟨(Body.get_put_other b f CE.LVL_TGT.RULE_LVL v n 0 m 0 hf).trans h.1,
    (Body.get_put_other b f CE.LVL_TGT.RULE_PRESET v n 0 m 0 hf).trans h.2⟩

theorem HasLvl.setRuleCct {m l p : Nat} {b : Body} (h : HasLvl m l p b) (hm : m < 512) {n : Nat} (hn : n < 512) (v : Nat) :
    HasLvl m l p (setRuleCct n v b) :=
  ⟨(setRuleCct_get perChan_lvl (by unfold Apart; decide) (by unfold Apart; decide) hm hn v b).trans h.1,
    (setRuleCct_get perChan_preset (by unfold Apart; decide) (by unfold Apart; decide) hm hn v b).trans h.2⟩

theorem lvlStep_sets {m : Nat} (hm : m < 512) (p : Nat) (b : Body) : HasLvl m (p % 2 ^ 16) (p / 2 ^ 48 % 16) (lvlStep p b m) := by
  have hputs : HasLvl m (p % 2 ^ 16) (p / 2 ^ 48 % 16) (lvlPut (bits p 0 16) (bits p 48 4) m b) := by
    have h := lvlPut_sets (bits p 0 16) (bits p 48 4) m b
    rw [bits_mod, bits_mod] at h
    rw [← bits_zero]
    exact h
  unfold lvlStep
  dsimp only
  split
  · exact hputs.setRuleCct hm hm _
  · exact hputs

theorem lvlStep_keeps {m n l q : Nat} (hm : m < 512) (hn : n < 512) (hne : n ≠ m) (p : Nat) {b : Body} (h : HasLvl m l q b) :
    HasLvl m l q (lvlStep p b n) := by
  have hputs : HasLvl m l q (lvlPut (bits p 0 16) (bits p 48 4) n b) :=
    (h.put (perChan_lvl.at_ne perChan_lvl rfl (Ne.symm hne)) _).put (perChan_lvl.at_ne perChan_preset rfl (Ne.symm hne)) _
  unfold lvlStep
  dsimp only
  split
  · exact hputs.setRuleCct hm hn _
  · exact hputs

theorem ceLevelEvent_sets {b : Body} {p : Nat} {ns : List Nat} (h : GoodLevel b p ns) (hns : ∀ m ∈ ns, m < 512) {m : Nat}
    (hm : m ∈ ns) : HasLvl m (p % 2 ^ 16) (p / 2 ^ 48 % 16) (ceLevelEvent p b) := by
  have heach : HasLvl m (p % 2 ^ 16) (p / 2 ^ 48 % 16) (b.each ns (lvlStep p)) :=
    Body.each_reaches (R := fun _ => True) (fun _ _ _ _ => trivial) (fun c _ => lvlStep_sets (hns m hm) p c)
      (fun n hn hne c hc => lvlStep_keeps (hns m hm) (hns n hn) hne p hc) hm trivial
  rw [ceLevelEvent_good h]
  exact ⟨(ask_get _ _ _ _ perChan_lvl (hns m hm)).trans heach.1, (ask_get _ _ _ _ perChan_preset (hns m hm)).trans heach.2⟩

/-! ### Overrides -/

/-- Channel `m` is overridden as the payload `p` says, from the cycle `t` on (R180). -/
def HasOvr (m p t : Nat) (b : Body) : Prop :=
  b.flag CE.CH_STAT.OVR m = decide (p / 2 ^ 30 % 2 = 1) ∧
  (p / 2 ^ 30 % 2 = 1 → b.get CE.OVR.OVERRIDE_LVL m = p % 2 ^ 16 ∧ (chanOf b m).ovrEnd =
    if p / 2 ^ 32 % 2 ^ 16 = 0 then none else some (t + 26000 * (p / 2 ^ 32 % 2 ^ 16 * 60000)))

theorem apart_ovr : Apart CE.CH_STAT.OVR CE.OVR.OVERRIDE_LVL := by unfold Apart; decide

/-- A channel's override flag and level stand in different registers. -/
theorem ovr_at_ne {m n : Nat} (hm : m < 512) (hn : n < 512) : CE.CH_STAT.OVR.at m 0 ≠ CE.OVR.OVERRIDE_LVL.at n 0 :=
  apart_ovr.at_ne perChan_ovr perChan_ovrLvl hm hn

theorem ovrStep_sets {m : Nat} (hm : m < 512) (p : Nat) (b : Body) : HasOvr m p b.clock.cyc (ovrStep p b m) := by
  have hflag : ∀ v, (b.mark CE.CH_STAT.OVR v m).flag CE.CH_STAT.OVR m = v := fun v =>
    Body.flag_mark_same _ _ _ _ _ rfl (by decide)
  unfold ovrStep
  by_cases h : bits p 30 1 = 1
  · have hbit : p / 2 ^ 30 % 2 = 1 := h
    rw [if_pos h]
    dsimp only
    refine ⟨?_, fun _ => ⟨?_, ?_⟩⟩
    · rw [setChan_flag, Body.flag_of_get (Body.get_put_other _ _ _ _ _ _ _ _ (ovr_at_ne hm hm)), hflag, decide_eq_true hbit]
    · rw [setChan_get, Body.get_put_same _ _ _ _ _ (by decide), bits_mod, bits_zero]
    · rw [chanOf_setChan_same]
      unfold msCyc
      rw [Nat.mul_comm (bits p 32 16 * 60000) 26000]
      rfl
  · have hbit : ¬ p / 2 ^ 30 % 2 = 1 := h
    rw [if_neg h]
    refine ⟨?_, fun hyes => absurd hyes hbit⟩
    rw [setChan_flag, hflag, decide_eq_false hbit]

theorem ovrStep_keeps {m n p t : Nat} (hm : m < 512) (hn : n < 512) (hne : n ≠ m) {b : Body} (h : HasOvr m p t b) :
    HasOvr m p t (ovrStep p b n) := by
  obtain ⟨hflag, hset⟩ := h
  have hovr : ∀ v, (b.mark CE.CH_STAT.OVR v n).flag CE.CH_STAT.OVR m = b.flag CE.CH_STAT.OVR m := fun v =>
    Body.flag_mark_other _ _ _ _ _ _ _ _ (perChan_ovr.at_ne perChan_ovr rfl (Ne.symm hne))
  have hlvl : ∀ v, (b.mark CE.CH_STAT.OVR v n).get CE.OVR.OVERRIDE_LVL m = b.get CE.OVR.OVERRIDE_LVL m := fun v =>
    Body.get_put_other _ _ _ _ _ _ _ _ (Ne.symm (ovr_at_ne hn hm))
  unfold ovrStep
  split
  · dsimp only
    refine ⟨?_, fun hyes => ⟨?_, ?_⟩⟩
    · rw [setChan_flag, Body.flag_of_get (Body.get_put_other _ _ _ _ _ _ _ _ (ovr_at_ne hm hn)),
        hovr, hflag]
    · rw [setChan_get, Body.get_put_other _ _ _ _ _ _ _ _ (perChan_ovrLvl.at_ne perChan_ovrLvl rfl (Ne.symm hne)), hlvl,
        (hset hyes).1]
    · rw [chanOf_setChan_other _ (Ne.symm hne), chanOf_of_ce (b := b) ((Body.put_ce _ _ _ _ _).trans (Body.mark_ce _ _ _ _ _)),
        (hset hyes).2]
  · refine ⟨?_, fun hyes => ⟨?_, ?_⟩⟩
    · rw [setChan_flag, hovr, hflag]
    · rw [setChan_get, hlvl, (hset hyes).1]
    · rw [chanOf_setChan_other _ (Ne.symm hne), chanOf_of_ce (b := b) (Body.mark_ce _ _ _ _ _), (hset hyes).2]

theorem ceOverride_sets {b : Body} {p : Nat} {ns : List Nat} (h : GoodLevel b p ns) (hns : ∀ m ∈ ns, m < 512) {m : Nat}
    (hm : m ∈ ns) : HasOvr m p b.clock.cyc (ceOverride p b) := by
  obtain ⟨hflag, hset⟩ : HasOvr m p b.clock.cyc (b.each ns (ovrStep p)) :=
    Body.each_reaches (R := fun c => c.clock = b.clock) (fun n _ c hc => (ovrStep_grown p n c).1.clock.trans hc)
      (fun c hc => hc ▸ ovrStep_sets (hns m hm) p c) (fun n hn hne c hc => ovrStep_keeps (hns m hm) (hns n hn) hne hc) hm rfl
  rw [ceOverride_good h]
  refine ⟨(ask_flag _ _ _ _ perChan_ovr (hns m hm)).trans hflag, fun hyes => ⟨?_, ?_⟩⟩
  · exact (ask_get _ _ _ _ perChan_ovrLvl (hns m hm)).trans (hset hyes).1
  · rw [ask_chan]
    exact (hset hyes).2

end Sys2Proof.Machine
end
section
/-! SUPPORT. Scope: O37, light-ahead requests, reports of channels, refused payloads, and writes of the host (R179, R194, R195, R210,
R318). -/

namespace Sys2Proof.Machine

theorem PerChan.slice_ne {f : Fld} (h : PerChan f) {n : Nat} (hn : n < 512) : SAFE.SLICE.ABORTS.at 1 0 ≠ f.at n 0 := fun e =>
  h.block hn (by rw [← e]; decide)

/-- The registers that CE's own work on channel `n` may write, beside register `own`: its slice and the clock status. -/
abbrev ownReg (own a : Nat) : Prop := a = own ∨ a = SAFE.SLICE.word.at 1 0 ∨ a = SYS.CLK_STAT.word.addr

/-- Work that writes `own`, and then asks, with CE's slice short of an error. -/
theorem ask_own {own : Nat} {b c : Body} (hcalm : b.get SAFE.SLICE.ABORTS 1 ≠ 15)
    (hkept : RegsKept (fun a => a = own ∨ a = SYS.CLK_STAT.word.addr) b c) (hown : SAFE.SLICE.ABORTS.at 1 0 ≠ own) (ns : List Nat) (w : Why) (g : Option Nat) :
    RegsKept (ownReg own) b (ask ns w g c) := by
  have hcalm' : c.get SAFE.SLICE.ABORTS 1 ≠ 15 := by
    rwa [hkept.get (by rintro (h | h); exacts [hown h, absurd h (by decide)])]
  refine RegsKept.trans (hkept.mono fun a h => ?_) ((ask_calm hcalm' ns w g).mono fun _ h => .inr (.inl h))
  exact h.imp_right .inr

theorem runSects_targets {b c : Body} (h : Stands b c) (t sc : Nat) : targets c t sc = targets b t sc := by
  unfold targets groupMembers groupMap chanCnt sectD sect
  rw [runSects_of_stands h]

theorem chanCnt_of_stands {b c : Body} (h : Stands b c) : chanCnt c = chanCnt b := by
  unfold chanCnt sectD sect
  rw [runSects_of_stands h]

theorem GoodLevel.of_stands {b c : Body} (h : Stands b c) {p : Nat} {ns : List Nat} (hg : GoodLevel b p ns) : GoodLevel c p ns := by
  unfold GoodLevel
  rw [runSects_targets h]
  exact hg

theorem BadLevel.of_stands {b c : Body} (h : Stands b c) {p : Nat} (hb : BadLevel b p) : BadLevel c p := by
  unfold BadLevel
  rw [runSects_targets h]
  exact hb

/-! ### Refused payloads -/

/-- A payload was counted as bad, and nothing else of CE moved. -/
def CountedBad (b c : Body) : Prop := c.get CE.COUNT.BAD_EVENT = min (b.get CE.COUNT.BAD_EVENT + 1) 0xFFFF ∧
  RegsKept (fun a => a = CE.COUNT.word.addr ∨ a = SYS.CLK_STAT.word.addr) b c ∧ c.ce.jobs = b.ce.jobs ∧ c.ce.chans = b.ce.chans

theorem badEvent_counted {b c : Body} (hkept : RegsKept (· = SYS.CLK_STAT.word.addr) b c) (hjobs : c.ce.jobs = b.ce.jobs)
    (hchans : c.ce.chans = b.ce.chans) : CountedBad b (badEvent c) := by
  have hce : (badEvent c).ce = c.ce := Body.bump_ce _ _ _ _ _
  refine ⟨?_, (hkept.mono fun _ h => .inr h).trans ((RegsKept.put_at (f := CE.COUNT.BAD_EVENT) (i := 0) (j := 0) rfl c _).mono
    fun _ h => .inl h), (congrArg Ce.jobs hce).trans hjobs, (congrArg Ce.chans hce).trans hchans⟩
  rw [← hkept.get (f := CE.COUNT.BAD_EVENT) (by decide)]
  exact Body.get_bump_same c CE.COUNT.BAD_EVENT 0 0 (by decide)

/-! ### Light-ahead requests -/

/-- The light-ahead entry of channel `n` as the request `p` raises it (R179). -/
def aheadSet (p n : Nat) (b : Body) : Body :=
  let c := chanOf b n
  let live := decide (tnNs b < c.laExp)
  let exp := tnNs b + (bits p 32 16 + bits p 48 8 * 100) * 1000000
  let b := b.put CE.OUT.LA_LVL (max (bits p 0 16) (if live then laLvl b n else 0)) n
  setChan b n { chanOf b n with laExp := if live then max c.laExp exp else exp }

theorem ceLightAhead_good {p n : Nat} {b : Body} (hres : bits p 28 4 = 0) (hchan : bits p 16 12 = n) (hn : n < chanCnt b) :
    ceLightAhead p b = ask [n] (.ahead (bits p 32 16) (bits p 0 16)) none (aheadSet p n b) := by
  subst hchan
  exact if_neg (by omega)

theorem ceLightAhead_bad {p : Nat} {b : Body} (h : bits p 28 4 ≠ 0 ∨ chanCnt b ≤ bits p 16 12) : ceLightAhead p b = badEvent b :=
  if_pos h

theorem get_lt (b : Body) (f : Fld) (i j : Nat) : b.get f i j < 2 ^ f.w := Nat.mod_lt _ (Nat.two_pow_pos _)

theorem aheadSet_level (p n : Nat) (b : Body) : (aheadSet p n b).get CE.OUT.LA_LVL n =
    max (p % 2 ^ 16) (if tnNs b < (chanOf b n).laExp then b.get CE.OUT.LA_LVL n else 0) := by
  have hlt : max (p % 2 ^ 16) (if tnNs b < (chanOf b n).laExp then b.get CE.OUT.LA_LVL n else 0) < 2 ^ 16 := by
    refine max_lt (Nat.mod_lt _ (by decide)) ?_
    split
    · exact get_lt b CE.OUT.LA_LVL n 0
    · decide
  unfold aheadSet
  dsimp only
  rw [setChan_get, Body.get_put_same _ _ _ _ _ (by decide), bits_zero]
  simp only [decide_eq_true_eq]
  exact Nat.mod_eq_of_lt hlt

theorem aheadSet_until (p n : Nat) (b : Body) : (chanOf (aheadSet p n b) n).laExp =
    max (if tnNs b < (chanOf b n).laExp then (chanOf b n).laExp else 0)
      (tnNs b + (p / 2 ^ 32 % 2 ^ 16 + p / 2 ^ 48 % 2 ^ 8 * 100) * 1000000) := by
  unfold aheadSet
  dsimp only
  rw [chanOf_setChan_same]
  by_cases h : tnNs b < (chanOf b n).laExp
  · rw [decide_eq_true h, if_pos h, if_pos rfl, bits, bits]
  · rw [decide_eq_false h, if_neg h, Nat.zero_max, if_neg (by decide), bits, bits]

theorem aheadSet_ce (p n : Nat) (b : Body) : (aheadSet p n b).ce.inbox = b.ce.inbox ∧ (aheadSet p n b).ce.jobs = b.ce.jobs := by
  unfold aheadSet setChan
  dsimp only
  rw [Body.put_ce]
  exact ⟨rfl, rfl⟩

theorem aheadSet_kept (p n : Nat) (b : Body) : RegsKept (· = CE.OUT.word.at n 0) b (aheadSet p n b) := by
  unfold aheadSet
  dsimp only
  exact RegsKept.trans (.put_at (f := CE.OUT.LA_LVL) (i := n) (j := 0) rfl b _) (setChan_kept _ _ _)

/-! ### Reports of channels -/

/-- A CAPABILITY says what the node can do (R318). -/
theorem ceReport_capability {p n : Nat} {b : Body} (hu : bits p 0 12 = n + 1) (hn : n < chanCnt b) (hres : bits p 22 10 = 0) :
    ceReport p 2 b = ((b.put CE.NODE_CAP.PWM_BITS (bits p 12 5) n).put CE.NODE_CAP.SENSE (bits p 17 5) n).put
      CE.NODE_CAP.MIN_ON_NS (bits p 32 16) n := by
  unfold ceReport
  rw [hu]
  exact (if_neg (by omega)).trans ((if_neg (by decide)).trans ((if_neg (by decide)).trans ((if_pos rfl).trans
    (if_neg (not_not.2 hres)))))

theorem capability_shows (x y z n : Nat) (b : Body) :
    (((b.put CE.NODE_CAP.PWM_BITS x n).put CE.NODE_CAP.SENSE y n).put CE.NODE_CAP.MIN_ON_NS z n).get CE.NODE_CAP.PWM_BITS n = x % 2 ^ 5 ∧
    (((b.put CE.NODE_CAP.PWM_BITS x n).put CE.NODE_CAP.SENSE y n).put CE.NODE_CAP.MIN_ON_NS z n).get CE.NODE_CAP.SENSE n = y % 2 ^ 5 ∧
    (((b.put CE.NODE_CAP.PWM_BITS x n).put CE.NODE_CAP.SENSE y n).put CE.NODE_CAP.MIN_ON_NS z n).get CE.NODE_CAP.MIN_ON_NS n =
      z % 2 ^ 16 := by
  refine ⟨?_, ?_, Body.get_put_same _ _ _ _ _ (by decide)⟩
  · exact ((Body.get_put_bits _ _ _ _ _ _ _ _ (by rfl) (by decide) (by decide)).trans
      (Body.get_put_bits _ _ _ _ _ _ _ _ (by rfl) (by decide) (by decide))).trans (Body.get_put_same _ _ _ _ _ (by decide))
  · exact (Body.get_put_bits _ _ _ _ _ _ _ _ (by rfl) (by decide) (by decide)).trans (Body.get_put_same _ _ _ _ _ (by decide))

/-- The second half of a STATUS stores the measured CCT of a node that senses it (R195). -/
theorem ceReport_cct {p n : Nat} {b : Body} (hu : bits p 0 12 = n + 1) (hn : n < chanCnt b) (hres : bits p 60 4 = 0)
    (hsense : b.get CE.NODE_CAP.SENSE n / 4 % 2 = 1) :
    ceReport p 1 b = setChan b n { chanOf b n with cctMeas := some (bits p 12 16), cctAt := b.clock.cyc } := by
  unfold ceReport
  rw [hu]
  exact (if_neg (by omega)).trans ((if_neg (by decide)).trans ((if_pos rfl).trans ((if_neg (not_not.2 hres)).trans (if_pos hsense))))

theorem ceReport_status {p n : Nat} {b : Body} (hu : bits p 0 12 = n + 1) (hn : n < chanCnt b) (hres : bits p 19 1 = 0)
    (hhigh : bits p 61 3 = 0) : ceReport p 0 b = ceStatus p n b := by
  unfold ceReport
  rw [hu]
  exact (if_neg (by omega)).trans ((if_pos rfl).trans (if_neg (by omega)))

/-- How many of the quantities of a STATUS that the node senses are out of range. -/
def outOfRange (p n : Nat) (b : Body) : Nat :=
  let sense := b.get CE.NODE_CAP.SENSE n
  (if decide (sense / 2 % 2 = 1) && decide (bits p 20 18 > 200000) then 1 else 0) +
    (if decide (sense / 8 % 2 = 1) && decide (bits p 38 15 > 20000) then 1 else 0) +
    (if decide (sense / 16 % 2 = 1) && decide (bits p 53 8 > 190) then 1 else 0)

/-- What a STATUS does first: the count of values out of range, and the lux value (R195). -/
def luxTaken (p n : Nat) (b : Body) : Body :=
  let sense := b.get CE.NODE_CAP.SENSE n
  let c := b.bump CE.COUNT.RANGE (outOfRange p n b)
  if decide (sense / 2 % 2 = 1) && !(decide (sense / 2 % 2 = 1) && decide (bits p 20 18 > 200000)) then
    setChan (c.put CE.REP_A.LUX (bits p 20 18) n) n { chanOf c n with luxAt := some c.clock.cyc }
  else c

/-- The registers that a STATUS may write after that. -/
abbrev statusReg (n a : Nat) : Prop := a = CE.REP_B.word.at n 0 ∨ a = CE.DERATE.word.at n 0 ∨ a = CE.CH_STAT.word.at n 0 ∨
  a = SYS.CLK_STAT.word.addr ∨ a / 0x100000 = 0x40D

theorem derateNow_kept (n : Nat) (b : Body) : RegsKept (statusReg n) b (derateNow n b) := by
  unfold derateNow
  split
  · exact .refl b
  · dsimp only
    exact RegsKept.trans (.put (f := CE.DERATE.FACTOR) (.inr (.inl rfl)) b _) (setChan_kept _ _ _)

theorem setDiag_kept (n d : Nat) (b : Body) : RegsKept (statusReg n) b (setDiag n d b) := by
  have hput : RegsKept (statusReg n) b (b.put CE.CH_STAT.DIAG d n) := .put (.inr (.inr (.inl rfl))) b d
  unfold setDiag
  split
  · exact .refl b
  · dsimp only
    unfold engineEv
    split
    · exact hput.trans ((emitEv_only _ _ _ _ _).1.mono fun _ h => .inr (.inr (.inr (.inl h))))
    · exact hput

theorem ask_status (n : Nat) (ns : List Nat) (w : Why) (g : Option Nat) (b : Body) : RegsKept (statusReg n) b (ask ns w g b) :=
  fun a ha => ask_only ns w g b a fun h => ha (.inr (.inr (.inr (.inr (List.mem_singleton.1 h)))))

/-- After its lux value a STATUS touches none of the lux values and counts. -/
theorem ceStatus_kept (p n : Nat) (b : Body) : RegsKept (statusReg n) (luxTaken p n b) (ceStatus p n b) := by
  unfold ceStatus
  dsimp only
  refine RegsKept.trans ?_ (ask_status n _ _ _ _)
  refine RegsKept.trans ?_ (setDiag_kept n _ _)
  refine RegsKept.trans ?_ (setChan_kept _ _ _)
  have hpower : ∀ (c : Body) (t : Bool), RegsKept (statusReg n) c (if t then c.put CE.REP_B.POWER_DW (bits p 38 15) n else c) := by
    intro c t
    split
    · exact .put (f := CE.REP_B.POWER_DW) (.inl rfl) c _
    · exact .refl c
  split
  · refine RegsKept.trans ?_ (derateNow_kept n _)
    refine RegsKept.trans ?_ (setChan_kept _ _ _)
    refine RegsKept.trans ?_ (.put (f := CE.REP_B.TEMP_C) (.inl rfl) _ _)
    exact hpower _ _
  · exact hpower _ _

theorem lux_apart {n : Nat} (hn : n < 512) : ¬ statusReg n (CE.REP_A.LUX.at n 0) := by
  have hrepB : CE.REP_B.word.at n 0 = 0x40702104 + 0x10 * n := rfl
  have hderate : CE.DERATE.word.at n 0 = 0x40704104 + 0x10 * n := rfl
  have hstat : CE.CH_STAT.word.at n 0 = 0x4070010C + 0x10 * n := rfl
  have hlux : CE.REP_A.LUX.at n 0 = 0x40702100 + 0x10 * n := rfl
  have hclk : SYS.CLK_STAT.word.addr = 0x40000020 := rfl
  unfold statusReg
  omega

theorem count_apart (n : Nat) : ¬ statusReg n (CE.COUNT.RANGE.at 0 0) := by
  have hrepB : CE.REP_B.word.at n 0 = 0x40702104 + 0x10 * n := rfl
  have hderate : CE.DERATE.word.at n 0 = 0x40704104 + 0x10 * n := rfl
  have hstat : CE.CH_STAT.word.at n 0 = 0x4070010C + 0x10 * n := rfl
  have hcount : CE.COUNT.RANGE.at 0 0 = 0x4070002C := rfl
  have hclk : SYS.CLK_STAT.word.addr = 0x40000020 := rfl
  unfold statusReg
  omega

theorem luxTaken_range {p n : Nat} {b : Body} (hsense : b.get CE.NODE_CAP.SENSE n / 2 % 2 = 1) (hlux : bits p 20 18 ≤ 200000) :
    (luxTaken p n b).get CE.REP_A.LUX n = bits p 20 18 := by
  have hin : ¬ bits p 20 18 > 200000 := not_lt.2 hlux
  unfold luxTaken
  dsimp only
  rw [if_pos (by simp [hsense, hin]), setChan_get, Body.get_put_same _ _ _ _ _ (by decide), bits_mod]

theorem luxTaken_over {p n : Nat} {b : Body} (hsense : b.get CE.NODE_CAP.SENSE n / 2 % 2 = 1)
    (hlux : 200000 < bits p 20 18) : (luxTaken p n b).get CE.REP_A.LUX n = b.get CE.REP_A.LUX n ∧
      min (b.get CE.COUNT.RANGE + 1) 0xFFFF ≤ (luxTaken p n b).get CE.COUNT.RANGE := by
  have hout : 1 ≤ outOfRange p n b := by
    unfold outOfRange
    dsimp only
    rw [if_pos (by simp [hsense, hlux])]
    omega
  have hne : CE.REP_A.LUX.at n 0 ≠ CE.COUNT.RANGE.at 0 0 := by
    have hat : CE.REP_A.LUX.at n 0 = 0x40702100 + 0x10 * n := rfl
    have hcount : CE.COUNT.RANGE.at 0 0 = 0x4070002C := rfl
    omega
  unfold luxTaken
  dsimp only
  rw [if_neg (by simp [hsense, hlux])]
  refine ⟨Body.get_put_other _ _ _ _ _ _ _ _ hne, ?_⟩
  unfold Body.bump
  rw [Body.get_put_same _ _ _ _ _ (by decide), Nat.mod_eq_of_lt (by
    have hw : 2 ^ CE.COUNT.RANGE.w = 65536 := rfl
    omega)]
  exact min_le_min_right _ (Nat.add_le_add_left hout _)

/-! ### Writes of the host -/

theorem lvlTgtWrite_steps (n v : Nat) (b : Body) : lvlTgtWrite n v b =
    if n < chanCnt b then ask [n] .rule none (lvlPut (bits v 0 16) (bits v 16 4) n (ceFirst ceInputs b))
    else lvlPut (bits v 0 16) (bits v 16 4) n (ceFirst ceInputs b) := by
  have hcnt : chanCnt (lvlPut (bits v 0 16) (bits v 16 4) n (ceFirst ceInputs b)) = chanCnt b :=
    chanCnt_of_stands ((ceFirst_grown _ b).1.trans ((Stands.put _ _ _ _ _).trans (.put _ _ _ _ _)))
  rw [← hcnt]
  rfl

theorem lvlTgtWrite_sets {n : Nat} (hn : n < 512) (v : Nat) (b : Body) :
    HasLvl n (v % 2 ^ 16) (v / 2 ^ 16 % 16) (lvlTgtWrite n v b) := by
  have hset : HasLvl n (v % 2 ^ 16) (v / 2 ^ 16 % 16) (lvlPut (bits v 0 16) (bits v 16 4) n (ceFirst ceInputs b)) := by
    have h := lvlPut_sets (bits v 0 16) (bits v 16 4) n (ceFirst ceInputs b)
    rw [bits_mod, bits_mod] at h
    rw [← bits_zero]
    exact h
  rw [lvlTgtWrite_steps]
  split
  · exact ⟨(ask_get _ _ _ _ perChan_lvl hn).trans hset.1, (ask_get _ _ _ _ perChan_preset hn).trans hset.2⟩
  · exact hset

/-- The fields of CE.SAFE of channel `n` as a write stores them. -/
def safePut (v n : Nat) (b : Body) : Body := (b.put CE.SAFE.EMERG_LVL (bits v 0 16) n).put CE.SAFE.HEM_LVL (bits v 16 16) n

theorem safePut_sets (v n : Nat) (b : Body) : (safePut v n b).get CE.SAFE.EMERG_LVL n = v % 2 ^ 16 ∧
    (safePut v n b).get CE.SAFE.HEM_LVL n = v / 2 ^ 16 % 2 ^ 16 := by
  unfold safePut
  refine ⟨?_, (Body.get_put_same _ _ _ _ _ (by decide)).trans (bits_mod v 16 16)⟩
  refine (Body.get_put_bits _ _ _ _ _ _ _ _ (by rfl) (by decide) (by decide)).trans ?_
  exact (Body.get_put_same _ _ _ _ _ (by decide)).trans ((bits_mod v 0 16).trans (bits_zero v 16))

theorem safePut_kept (v n : Nat) (b : Body) : RegsKept (· = CE.SAFE.word.at n 0) b (safePut v n b) :=
  (RegsKept.put_at (f := CE.SAFE.EMERG_LVL) (i := n) (j := 0) rfl b _).trans
    (.put_at (f := CE.SAFE.HEM_LVL) (i := n) (j := 0) rfl _ _)

/-- A CONFIG frame is due to the node of channel `n` (R210). -/
def configOwed (n : Nat) (b : Body) : Body := { b with air := { b.air with configDue := b.air.configDue ++ [n + 1] } }

theorem configOwed_get (n : Nat) (b : Body) (f : Fld) (i j : Nat) : (configOwed n b).get f i j = b.get f i j := rfl

theorem configOwed_kept {p : Nat → Prop} (n : Nat) (b : Body) : RegsKept p b (configOwed n b) := .of_regs rfl

theorem safeLvlWrite_steps (n v : Nat) (b : Body) : safeLvlWrite n v b =
    if n < chanCnt b then ask [n] .rule none (configOwed n (safePut v n b)) else safePut v n b := by
  have hcnt : chanCnt (safePut v n b) = chanCnt b := chanCnt_of_stands ((Stands.put _ _ _ _ _).trans (.put _ _ _ _ _))
  rw [← hcnt]
  rfl

theorem safeLvlWrite_sets {n : Nat} (hn : n < 512) (v : Nat) (b : Body) : (safeLvlWrite n v b).get CE.SAFE.EMERG_LVL n = v % 2 ^ 16 ∧
    (safeLvlWrite n v b).get CE.SAFE.HEM_LVL n = v / 2 ^ 16 % 2 ^ 16 := by
  obtain ⟨hemerg, hhem⟩ := safePut_sets v n b
  rw [safeLvlWrite_steps]
  split
  · rw [ask_get _ _ _ _ perChan_emergLvl hn, ask_get _ _ _ _ perChan_hemLvl hn, configOwed_get, configOwed_get]
    exact ⟨hemerg, hhem⟩
  · exact ⟨hemerg, hhem⟩

end Sys2Proof.Machine
end
section
/-! SUPPORT. Scope: O37, the commands and events of CE's inputs as a whole (R167, R177 to R180, R195, R210, R318). -/

namespace Sys2Proof.Machine

/-! ### The inbox -/

/-- CE's inbox holds `l`. -/
def withInbox (l : List (Nat × Ev)) (b : Body) : Body := { b with ce := { b.ce with inbox := l } }

theorem withInbox_get (l : List (Nat × Ev)) (b : Body) (f : Fld) (i j : Nat) : (withInbox l b).get f i j = b.get f i j := rfl
theorem withInbox_kept {p : Nat → Prop} (l : List (Nat × Ev)) (b : Body) : RegsKept p b (withInbox l b) := .of_regs rfl
theorem withInbox_chan (l : List (Nat × Ev)) (b : Body) (n : Nat) : chanOf (withInbox l b) n = chanOf b n := rfl
theorem withInbox_grown (l : List (Nat × Ev)) (b : Body) : CeGrown b (withInbox l b) := .inbox b l

/-- The event that waits at the port is taken when none waits at the ports before it. -/
theorem ceTake_first {ports : List Nat} {port : Nat} {f : Ev → Body → Body} {b : Body} {e : Ev} {rest : List (Nat × Ev)}
    (h : takePort port b.ce.inbox = some (e, rest)) (hfirst : ∀ x ∈ b.ce.inbox, x.1 ∉ ports) :
    ceTake ports port f b = f e (withInbox rest b) := by
  have hnone : ceFirst ports (withInbox rest b) = withInbox rest b :=
    ceFirst_none fun x hx => hfirst x (takePort_subset h hx)
  exact (ceTake_some h).trans (congrArg (f e) hnone)

/-- No port comes before. -/
theorem ceTake_alone {port : Nat} {f : Ev → Body → Body} {b : Body} {e : Ev} {rest : List (Nat × Ev)}
    (h : takePort port b.ce.inbox = some (e, rest)) : ceTake [] port f b = f e (withInbox rest b) :=
  ceTake_first h fun _ _ => List.not_mem_nil

/-- Whatever applies first, the clock and the pattern stand, and jobs are at most added. -/
theorem ceTake_after {ports : List Nat} {port : Nat} {f : Ev → Body → Body} {b : Body} {e : Ev} {rest : List (Nat × Ev)}
    (h : takePort port b.ce.inbox = some (e, rest)) : ∃ c, CeGrown b c ∧ ceTake ports port f b = f e c :=
  ⟨_, (withInbox_grown rest b).trans (ceFirst_grown ports _), ceTake_some h⟩

theorem ungate_grown (b : Body) : CeGrown b (ungate b) := .mark b SYS.CLK_STAT.GATED false 0 0

/-- With no light-ahead request, override or level event waiting, a host's input applies alone (R167). -/
theorem ceFirst_inputs_none {b : Body} (h : ∀ x ∈ b.ce.inbox, x.1 ∉ [0, 1, 2]) : ceFirst ceInputs (ungate b) = ungate b := by
  refine ceFirst_none fun x hx hin => h x hx ?_
  have hperm : ceInputs ⊆ [0, 1, 2] := by decide
  exact hperm hin

theorem hostPayload_ungate (b : Body) : hostPayload (ungate b) = hostPayload b := by
  unfold hostPayload
  rw [(ungate_kept b).get (by decide), (ungate_kept b).get (by decide)]

/-! ### Level events and overrides, from a port or from the host -/

section
variable {b c : Body} {p : Nat} {ns : List Nat}

theorem ceLevelEvent_lvl (hc : CeGrown b c) (h : GoodLevel b p ns) (hns : ∀ m ∈ ns, m < 512) :
    (∀ m ∈ ns, HasLvl m (p % 2 ^ 16) (p / 2 ^ 48 % 16) (ceLevelEvent p c)) ∧ (ceLevelEvent p c).ce.jobs ≠ b.ce.jobs := by
  have hgood := h.of_stands hc.1
  obtain ⟨-, l, hl⟩ := hc.trans (CeGrown.each (fun n e => lvlStep_grown p n e) ns c)
  refine ⟨fun m hm => ceLevelEvent_sets hgood hns hm, ?_⟩
  rw [ceLevelEvent_good hgood]
  exact ask_jobs_ne _ _ _ _ hl

theorem ceOverride_ovr (hc : CeGrown b c) (h : GoodLevel b p ns) (hns : ∀ m ∈ ns, m < 512) :
    ∀ m ∈ ns, HasOvr m p b.clock.cyc (ceOverride p c) := fun m hm => by
  rw [← hc.1.clock]
  exact ceOverride_sets (h.of_stands hc.1) hns hm

theorem ceLevelEvent_refused (hc : CeGrown b c) (hkept : RegsKept (· = SYS.CLK_STAT.word.addr) b c) (hjobs : c.ce.jobs = b.ce.jobs)
    (hchans : c.ce.chans = b.ce.chans) (h : BadLevel b p) : CountedBad b (ceLevelEvent p c) := by
  rw [ceLevelEvent_bad (h.of_stands hc.1)]
  exact badEvent_counted hkept hjobs hchans

theorem ceOverride_refused (hc : CeGrown b c) (hkept : RegsKept (· = SYS.CLK_STAT.word.addr) b c) (hjobs : c.ce.jobs = b.ce.jobs)
    (hchans : c.ce.chans = b.ce.chans) (h : BadLevel b p) : CountedBad b (ceOverride p c) := by
  rw [ceOverride_bad (h.of_stands hc.1)]
  exact badEvent_counted hkept hjobs hchans

end

/-! ### A light-ahead request -/

/-- What an effective request leaves (R179). -/
theorem ceLightAhead_shows {b : Body} {p n : Nat} (rest : List (Nat × Ev)) (hres : bits p 28 4 = 0) (hchan : bits p 16 12 = n)
    (hn : n < 512) (hcnt : n < chanCnt b) :
    let e := ceLightAhead p (withInbox rest b)
    e.ce.inbox = rest ∧
    e.get CE.OUT.LA_LVL n = max (p % 2 ^ 16) (if tnNs b < (chanOf b n).laExp then b.get CE.OUT.LA_LVL n else 0) ∧
    (chanOf e n).laExp = max (if tnNs b < (chanOf b n).laExp then (chanOf b n).laExp else 0)
      (tnNs b + (p / 2 ^ 32 % 2 ^ 16 + p / 2 ^ 48 % 2 ^ 8 * 100) * 1000000) ∧
    e.ce.jobs ≠ b.ce.jobs ∧
    (b.get SAFE.SLICE.ABORTS 1 ≠ 15 → RegsKept (ownReg (CE.OUT.word.at n 0)) b e) := by
  have hcnt' : n < chanCnt (withInbox rest b) := hcnt
  obtain ⟨hinbox, hjobs⟩ := aheadSet_ce p n (withInbox rest b)
  obtain ⟨got, hce⟩ := ask_ce [n] (.ahead (bits p 32 16) (bits p 0 16)) none (aheadSet p n (withInbox rest b))
  have htn : tnNs (withInbox rest b) = tnNs b := tnNs_of_stands (withInbox_grown rest b).1
  dsimp only
  rw [ceLightAhead_good hres hchan hcnt']
  refine ⟨(congrArg Ce.inbox hce).trans hinbox, ?_, ?_, ?_, fun hcalm => ?_⟩
  · rw [ask_get _ _ _ _ perChan_laLvl hn, aheadSet_level, htn, withInbox_chan, withInbox_get]
  · rw [ask_chan, aheadSet_until, htn, withInbox_chan]
  · exact ask_jobs_ne _ _ _ _ (hjobs.trans (List.append_nil b.ce.jobs).symm)
  · refine ask_own hcalm ?_ (perChan_laLvl.slice_ne hn) _ _ _
    exact (withInbox_kept rest b).trans ((aheadSet_kept p n _).mono fun _ h => .inl h)

/-! ### Writes of the host -/

theorem lvlTgtWrite_shows {n v : Nat} (hn : n < 512) {b : Body} (hfirst : ∀ x ∈ b.ce.inbox, x.1 ∉ [0, 1, 2]) :
    (b.get SAFE.SLICE.ABORTS 1 ≠ 15 → RegsKept (ownReg (CE.LVL_TGT.word.at n 0)) b (lvlTgtWrite n v (ungate b))) ∧
    (n < chanCnt b → ∃ got, (lvlTgtWrite n v (ungate b)).ce.jobs = b.ce.jobs ++ [⟨[n], .rule, none, got⟩]) := by
  have hnone := ceFirst_inputs_none hfirst
  have hcnt : chanCnt (ungate b) = chanCnt b := chanCnt_of_stands (ungate_grown b).1
  have hkept : RegsKept (fun a => a = CE.LVL_TGT.word.at n 0 ∨ a = SYS.CLK_STAT.word.addr) b
      (lvlPut (bits v 0 16) (bits v 16 4) n (ungate b)) :=
    ((ungate_kept b).mono fun _ h => .inr h).trans ((lvlPut_kept _ _ _ _).mono fun _ h => .inl h)
  have hce : (lvlPut (bits v 0 16) (bits v 16 4) n (ungate b)).ce = b.ce :=
    (Body.put_ce _ _ _ _ _).trans ((Body.put_ce _ _ _ _ _).trans (Body.mark_ce _ _ _ _ _))
  rw [lvlTgtWrite_steps, hnone, hcnt]
  refine ⟨fun hcalm => ?_, fun hdecl => ?_⟩
  · split
    · exact ask_own hcalm hkept (perChan_lvl.slice_ne hn) _ _ _
    · exact hkept.mono fun _ h => h.imp_right .inr
  · obtain ⟨got, hask⟩ := ask_ce [n] .rule none (lvlPut (bits v 0 16) (bits v 16 4) n (ungate b))
    rw [if_pos hdecl]
    exact ⟨got, (congrArg Ce.jobs hask).trans (congrArg (·.jobs ++ [⟨[n], .rule, none, got⟩]) hce)⟩

theorem safeLvlWrite_shows {n v : Nat} (hn : n < 512) (b : Body) :
    (b.get SAFE.SLICE.ABORTS 1 ≠ 15 → RegsKept (ownReg (CE.SAFE.word.at n 0)) b (safeLvlWrite n v (ungate b))) ∧
    (n < chanCnt b → (safeLvlWrite n v (ungate b)).air.configDue = b.air.configDue ++ [n + 1] ∧
      ∃ got, (safeLvlWrite n v (ungate b)).ce.jobs = b.ce.jobs ++ [⟨[n], .rule, none, got⟩]) := by
  have hcnt : chanCnt (ungate b) = chanCnt b := chanCnt_of_stands (ungate_grown b).1
  have hkept : RegsKept (fun a => a = CE.SAFE.word.at n 0 ∨ a = SYS.CLK_STAT.word.addr) b (safePut v n (ungate b)) :=
    ((ungate_kept b).mono fun _ h => .inr h).trans ((safePut_kept _ _ _).mono fun _ h => .inl h)
  have hce : (safePut v n (ungate b)).ce = b.ce :=
    (Body.put_ce _ _ _ _ _).trans ((Body.put_ce _ _ _ _ _).trans (Body.mark_ce _ _ _ _ _))
  have hair : (safePut v n (ungate b)).air = b.air :=
    (Body.put_air _ _ _ _ _).trans ((Body.put_air _ _ _ _ _).trans (Body.mark_air _ _ _ _ _))
  rw [safeLvlWrite_steps, hcnt]
  refine ⟨fun hcalm => ?_, fun hdecl => ?_⟩
  · split
    · exact ask_own hcalm (hkept.trans (configOwed_kept n _)) (perChan_emergLvl.slice_ne hn) _ _ _
    · exact hkept.mono fun _ h => h.imp_right .inr
  · obtain ⟨got, hask⟩ := ask_ce [n] .rule none (configOwed n (safePut v n (ungate b)))
    have howed : (configOwed n (safePut v n (ungate b))).air.configDue = (safePut v n (ungate b)).air.configDue ++ [n + 1] := rfl
    rw [if_pos hdecl, ask_air, howed, hair]
    exact ⟨rfl, got, (congrArg Ce.jobs hask).trans (congrArg (·.jobs ++ [⟨[n], .rule, none, got⟩]) hce)⟩

/-! ### The obligation -/

/-- Settles O37: a port's event, the host's payload and a host write each come, after the inputs that apply first (`ceFirst_grown`),
to one function of CE, whose writes later channels of the same list and the composition asked for keep. -/
theorem channelEventsSetLevels : Obligations.ChannelEventsSetLevels := by
  intro s e rest ns n v hp hn hns
  dsimp only
  have hinbox : RegsKept (· = SYS.CLK_STAT.word.addr) s.body (withInbox rest s.body) := withInbox_kept rest s.body
  have hhost : ∀ {f : Nat → Body → Body}, (coreAccess fun b => f (hostPayload b) (ceFirst ceInputs b)) s.body =
      f (hostPayload s.body) (ceFirst ceInputs (ungate s.body)) := fun {f} =>
    congrArg (f · (ceFirst ceInputs (ungate s.body))) (hostPayload_ungate s.body)
  have hafter : CeGrown s.body (ceFirst ceInputs (ungate s.body)) := (ungate_grown _).trans (ceFirst_grown _ _)
  refine ⟨fun hin => ⟨fun hres hchan hcnt => ?_, fun hbad => ?_⟩, fun hin => ⟨fun hgood => ?_, fun hbad hfirst => ?_⟩,
    fun hin => ⟨fun hgood => ?_, fun hbad hfirst => ?_⟩, fun hgood => ⟨?_, ?_⟩, fun hbad hfirst => ?_,
    fun hin hu hcnt => ⟨fun htag hres => ?_, fun htag hres hsense => ?_, fun htag hres hhigh hsense => ⟨fun hlux => ?_, fun hlux => ?_⟩⟩,
    ?_, ?_⟩
  · refine does_of_unpinned (exec_lightAhead s) hp ?_ fun _ h => h
    rw [ceTake_alone hin]
    exact ceLightAhead_shows rest hres hchan hn hcnt
  · refine does_of_unpinned (exec_lightAhead s) hp ?_ fun _ h => h
    rw [ceTake_alone hin, ceLightAhead_bad (b := withInbox rest s.body) hbad]
    exact badEvent_counted hinbox rfl rfl
  · obtain ⟨c, hc, htake⟩ := ceTake_after (ports := [0, 2]) (f := fun e => ceLevelEvent e.payload) hin
    refine does_of_unpinned (exec_levelEvent s) hp ?_ fun _ h => h
    rw [htake]
    exact ceLevelEvent_lvl hc hgood hns
  · refine does_of_unpinned (exec_levelEvent s) hp ?_ fun _ h => h
    rw [ceTake_first hin hfirst]
    exact ceLevelEvent_refused (withInbox_grown rest s.body) hinbox rfl rfl (hbad.imp_left fun h => by unfold bits; omega)
  · obtain ⟨c, hc, htake⟩ := ceTake_after (ports := [0]) (f := fun e => ceOverride e.payload) hin
    refine does_of_unpinned (exec_override s) hp ?_ fun _ h => h
    rw [htake]
    exact ceOverride_ovr hc hgood hns
  · refine does_of_unpinned (exec_override s) hp ?_ fun _ h => h
    rw [ceTake_first hin hfirst]
    exact ceOverride_refused (withInbox_grown rest s.body) hinbox rfl rfl (hbad.imp_left fun h => by unfold bits; omega)
  · refine does_of_unpinned (exec_hostLevelEvent s) hp ?_ fun _ h => h
    rw [hhost (f := ceLevelEvent)]
    exact ceLevelEvent_lvl hafter hgood hns
  · refine does_of_unpinned (exec_hostOverride s) hp ?_ fun _ h => h
    rw [hhost (f := ceOverride)]
    exact ceOverride_ovr hafter hgood hns
  · have hnone : ceFirst ceInputs (ungate s.body) = ungate s.body := ceFirst_inputs_none hfirst
    have hrefused : BadLevel s.body (hostPayload s.body) := hbad.imp_left fun h => by unfold bits; omega
    have hce : (ungate s.body).ce = s.body.ce := Body.mark_ce _ _ _ _ _
    constructor
    · refine does_of_unpinned (exec_hostLevelEvent s) hp ?_ fun _ h => h
      rw [hhost (f := ceLevelEvent), hnone]
      exact ceLevelEvent_refused (ungate_grown _) (ungate_kept _) (congrArg Ce.jobs hce) (congrArg Ce.chans hce) hrefused
    · refine does_of_unpinned (exec_hostOverride s) hp ?_ fun _ h => h
      rw [hhost (f := ceOverride), hnone]
      exact ceOverride_refused (ungate_grown _) (ungate_kept _) (congrArg Ce.jobs hce) (congrArg Ce.chans hce) hrefused
  · have hu' : bits e.payload 0 12 = n + 1 := (bits_zero _ _).trans hu
    refine does_of_unpinned (exec_channelReport s) hp ?_ fun _ h => h
    rw [ceTake_alone hin, htag, ceReport_capability (b := withInbox rest s.body) hu' hcnt hres]
    obtain ⟨hpwm, hsense, hmin⟩ := capability_shows (bits e.payload 12 5) (bits e.payload 17 5) (bits e.payload 32 16) n
      (withInbox rest s.body)
    exact ⟨hpwm.trans (bits_mod _ 12 5), hsense.trans (bits_mod _ 17 5), hmin.trans (bits_mod _ 32 16)⟩
  · have hu' : bits e.payload 0 12 = n + 1 := (bits_zero _ _).trans hu
    refine does_of_unpinned (exec_channelReport s) hp ?_ fun _ h => h
    rw [ceTake_alone hin, htag, ceReport_cct (b := withInbox rest s.body) hu' hcnt hres hsense, chanOf_setChan_same]
    exact ⟨rfl, (withInbox_kept rest s.body).trans (setChan_kept _ _ _)⟩
  · have hu' : bits e.payload 0 12 = n + 1 := (bits_zero _ _).trans hu
    refine does_of_unpinned (exec_channelReport s) hp ?_ fun _ h => h
    rw [ceTake_alone hin, htag, ceReport_status (b := withInbox rest s.body) hu' hcnt hres hhigh]
    exact ((ceStatus_kept _ n _).get (lux_apart hn)).trans (luxTaken_range (b := withInbox rest s.body) hsense hlux)
  · have hu' : bits e.payload 0 12 = n + 1 := (bits_zero _ _).trans hu
    obtain ⟨hsame, hcount⟩ := luxTaken_over (b := withInbox rest s.body) hsense hlux
    refine does_of_unpinned (exec_channelReport s) hp ?_ fun _ h => h
    rw [ceTake_alone hin, htag, ceReport_status (b := withInbox rest s.body) hu' hcnt hres hhigh,
      (ceStatus_kept _ n _).get (lux_apart hn), (ceStatus_kept _ n _).get (count_apart n)]
    rw [withInbox_get] at hsame hcount
    exact ⟨hsame, hcount⟩
  · obtain ⟨hlvl, hpreset⟩ := lvlTgtWrite_sets hn v (ungate s.body)
    refine does_of_unpinned (exec_lvlTgtWrite n v s) hp ?_ fun _ h => h
    rw [Nat.mod_eq_of_lt hn]
    exact ⟨hlvl, hpreset, fun hfirst => lvlTgtWrite_shows hn hfirst⟩
  · obtain ⟨hemerg, hhem⟩ := safeLvlWrite_sets hn v (ungate s.body)
    refine does_of_unpinned (exec_safeLvlWrite n v s) hp ?_ fun _ h => h
    rw [Nat.mod_eq_of_lt hn]
    exact ⟨hemerg, hhem, safeLvlWrite_shows hn s.body⟩

end Sys2Proof.Machine
end
section
/-! SUPPORT. Scope: O26, a write of SYS.MODE: the Expert bits and the recomputes owed, function by function (R118, R120, R121). -/

namespace Sys2Proof.Machine

/-! ### Bits of numbers and of fields -/

theorem bits_one_eq_testBit (n k : Nat) : decide (bits n k 1 = 1) = n.testBit k := (Nat.testBit_eq_decide_div_mod_eq).symm

/-- A field is known by its bits. -/
theorem Body.get_of_bits {b : Body} {f : Fld} {v i j : Nat} (h : ∀ k, k < f.w → b.bit f k i j = v.testBit k) :
    b.get f i j = v % 2 ^ f.w := by
  refine Nat.eq_of_testBit_eq fun k => ?_
  rw [Nat.testBit_mod_two_pow]
  by_cases hk : k < f.w
  · rw [decide_eq_true hk, Bool.true_and, ← h k hk]
    exact Nat.testBit_eq_decide_div_mod_eq
  · rw [decide_eq_false hk, Bool.false_and]
    exact Nat.testBit_lt_two_pow ((b.get_lt f i j).trans_le (Nat.pow_le_pow_right (by decide) (Nat.le_of_not_lt hk)))

/-- Replacing one bit of a number leaves every other bit. -/
theorem insBits_bit_other {k f : Nat} (hne : k ≠ f) (n v : Nat) : insBits n f 1 v / 2 ^ k % 2 = n / 2 ^ k % 2 := by
  rcases Nat.lt_or_gt_of_ne hne with h | h
  · simpa only [pow_one] using insBits_below n f 1 v k 1 h
  · simpa only [pow_one] using insBits_above n f 1 v k 1 h

/-! ### One function's mode -/

/-- The mode of function `f` becomes `now`; what a change means for SYS.MODE's owner and for the values owed. -/
def modeSet (f : Nat) (now : Bool) (b : Body) : Body :=
  let was := expert b f
  let b := b.setBit SYS.MODE.EXPERT f now
  let b := if was = now then b else { b with pat := { b.pat with hostModes := insBits b.pat.hostModes f 1 1 } }
  if was && !now then { b with pat := { b.pat with owe := insBits b.pat.owe f 1 1 } }
  else if now then { b with pat := { b.pat with owe := insBits b.pat.owe f 1 0 } }
  else b

/-- The write of `v` sets each function's mode in turn, a non-secure one those of non-secure functions. -/
def modeStep (v : Nat) (ns : Bool) (b : Body) (f : Nat) : Body :=
  if ns && !fnNs b f then b else modeSet f (decide (bits v f 1 = 1)) b

theorem modeWrite_steps (v : Nat) (ns : Bool) (b : Body) : modeWrite v ns b = b.each (List.range 8) (modeStep v ns) := rfl

theorem modeSet_regs (f : Nat) (now : Bool) (b : Body) : (modeSet f now b).regs = (b.setBit SYS.MODE.EXPERT f now).regs := by
  unfold modeSet
  dsimp only
  split_ifs <;> rfl

/-- Leaving Expert owes the Basic values, being Expert owes none, and staying Basic leaves what was owed (R121). -/
theorem modeSet_owe (f : Nat) (now : Bool) (b : Body) : (modeSet f now b).pat.owe =
    if expert b f && !now then insBits b.pat.owe f 1 1 else if now then insBits b.pat.owe f 1 0 else b.pat.owe := by
  have hhost : ∀ (c : Body) (x : Nat), (if expert b f = now then c else { c with pat := { c.pat with hostModes := x } }).pat.owe =
      c.pat.owe := by
    intro c x
    split <;> rfl
  unfold modeSet
  dsimp only
  split
  · exact congrArg (insBits · f 1 1) (hhost _ _)
  · split
    · exact congrArg (insBits · f 1 0) (hhost _ _)
    · exact hhost _ _

theorem modeSet_kept (f : Nat) (now : Bool) (b : Body) : RegsKept (· = SYS.MODE.word.addr) b (modeSet f now b) :=
  (RegsKept.put_at (f := SYS.MODE.EXPERT) rfl b _).trans (.of_regs (modeSet_regs f now b))

theorem modeSet_bit (f k : Nat) (now : Bool) (b : Body) :
    expert (modeSet f now b) k = expert (b.setBit SYS.MODE.EXPERT f now) k :=
  Body.bit_of_get (Body.get_congr (modeSet_regs f now b) _ 0 0) k

/-- The function itself has the mode set. -/
theorem modeSet_expert {f : Nat} (hf : f < 8) (now : Bool) (b : Body) : expert (modeSet f now b) f = now :=
  (modeSet_bit f f now b).trans (Body.bit_setBit_same b SYS.MODE.EXPERT hf (by decide) now 0 0)

/-! ### What the other functions keep -/

/-- From `b` to `c` no register but SYS.MODE moved, and function `k` kept its mode and what it owes. -/
structure ModeKept (k : Nat) (b c : Body) : Prop where
  regs : RegsKept (· = SYS.MODE.word.addr) b c
  mode : expert c k = expert b k
  owe : c.pat.owe / 2 ^ k % 2 = b.pat.owe / 2 ^ k % 2

theorem ModeKept.refl (k : Nat) (b : Body) : ModeKept k b b := ⟨.refl b, rfl, rfl⟩

theorem ModeKept.trans {k : Nat} {b c e : Body} (h : ModeKept k b c) (g : ModeKept k c e) : ModeKept k b e :=
  ⟨h.regs.trans g.regs, g.mode.trans h.mode, g.owe.trans h.owe⟩

theorem modeSet_other {k f : Nat} (hk : k < 8) (hne : k ≠ f) (now : Bool) (b : Body) : ModeKept k b (modeSet f now b) := by
  refine ⟨modeSet_kept f now b, ?_, ?_⟩
  · exact (modeSet_bit f k now b).trans (Body.bit_setBit_other b SYS.MODE.EXPERT hk (by decide) hne now 0 0)
  · rw [modeSet_owe]
    split
    · exact insBits_bit_other hne _ _
    · split
      · exact insBits_bit_other hne _ _
      · rfl

theorem modeStep_other {k f : Nat} (hk : k < 8) (hne : k ≠ f) (v : Nat) (ns : Bool) (b : Body) :
    ModeKept k b (modeStep v ns b f) := by
  unfold modeStep
  split
  · exact .refl k b
  · exact modeSet_other hk hne _ b

/-- For each function the write is that function's own step: the steps before it and after it leave it alone. -/
theorem modeWrite_at {k : Nat} (hk : k < 8) (v : Nat) (ns : Bool) (b : Body) :
    ∃ c, ModeKept k b c ∧ ModeKept k (modeStep v ns c k) (modeWrite v ns b) := by
  rw [modeWrite_steps]
  exact Body.each_at (ModeKept.refl k) (fun _ _ _ => ModeKept.trans) (fun _ c hne => modeStep_other hk hne v ns c)
    (List.mem_range.2 hk) List.nodup_range b

/-! ### The whole write -/

/-- A write of SYS.MODE touches no other register. -/
theorem modeWrite_kept (v : Nat) (ns : Bool) (b : Body) : RegsKept (· = SYS.MODE.word.addr) b (modeWrite v ns b) := by
  rw [modeWrite_steps]
  refine RegsKept.each (fun f c => ?_) _ b
  unfold modeStep
  split
  · exact .refl c
  · exact modeSet_kept f _ c

/-- A secure write sets every function's own mode, from the mode and the debts the function had before the write. -/
theorem modeWrite_secure_at {k : Nat} (hk : k < 8) (v : Nat) (b : Body) :
    ∃ c, ModeKept k b c ∧ ModeKept k (modeSet k (v.testBit k) c) (modeWrite v false b) := by
  rw [← bits_one_eq_testBit]
  exact modeWrite_at hk v false b

theorem modeWrite_expert {k : Nat} (hk : k < 8) (v : Nat) (b : Body) : expert (modeWrite v false b) k = v.testBit k := by
  obtain ⟨c, -, hafter⟩ := modeWrite_secure_at hk v b
  exact hafter.mode.trans (modeSet_expert hk _ c)

/-- A function that is Expert owes no Basic values. -/
theorem modeWrite_owes_none {k v : Nat} (hk : k < 8) (hv : v.testBit k = true) (b : Body) :
    (modeWrite v false b).pat.owe / 2 ^ k % 2 = 0 := by
  obtain ⟨c, -, hafter⟩ := modeWrite_secure_at hk v b
  have howe : (modeSet k (v.testBit k) c).pat.owe = insBits c.pat.owe k 1 0 := by simp [modeSet_owe, hv]
  rw [hafter.owe, howe]
  simpa only [pow_one] using insBits_same c.pat.owe k 1 0

/-- A function that leaves Expert owes its Basic values. -/
theorem modeWrite_owes {k v : Nat} (hk : k < 8) (hv : v.testBit k = false) {b : Body} (hwas : expert b k = true) :
    (modeWrite v false b).pat.owe / 2 ^ k % 2 = 1 := by
  obtain ⟨c, hbefore, hafter⟩ := modeWrite_secure_at hk v b
  have howe : (modeSet k (v.testBit k) c).pat.owe = insBits c.pat.owe k 1 1 := by
    simp [modeSet_owe, hv, hbefore.mode.trans hwas]
  rw [hafter.owe, howe]
  simpa only [pow_one] using insBits_same c.pat.owe k 1 1

/-- Whose block a function stands in is said by registers other than SYS.MODE. -/
theorem fnNs_of_kept {b c : Body} (h : RegsKept (· = SYS.MODE.word.addr) b c) (f : Nat) : fnNs c f = fnNs b f := by
  have hce : ceNs c = ceNs b := congrArg (!·) (h.flag (f := SYS.WORLD_BLK.CE) (by decide))
  have hofe : ofeNs c = ofeNs b := congrArg (!·) (h.flag (f := SYS.WORLD_BLK.OFE) (by decide))
  have hgio : gioNs c = gioNs b := congrArg (!·) (h.flag (f := SYS.WORLD_BLK.GIO) (by decide))
  unfold fnNs
  rw [hce, hofe, hgio]

/-- A non-secure write leaves a secure function as it was. -/
theorem modeWrite_nonsecure {k : Nat} (hk : k < 8) (v : Nat) {b : Body} (hsecure : fnNs b k = false) :
    ModeKept k b (modeWrite v true b) := by
  obtain ⟨c, hbefore, hafter⟩ := modeWrite_at hk v true b
  have hstep : modeStep v true c k = c := if_pos (by rw [fnNs_of_kept hbefore.regs, hsecure]; rfl)
  rw [hstep] at hafter
  exact hbefore.trans hafter

theorem exec_modeWrite (v : Nat) (ns : Bool) (s : State) : exec (.modeWrite v ns) s = onBody (modeWrite v ns) s := rfl

/-- Settles O26: each function's bit and debt are those of its own step of the write (`modeWrite_at`), and no step writes a
register but SYS.MODE. -/
theorem modeWritesAndOwedValues : Obligations.ModeWritesAndOwedValues := by
  intro s v hp
  constructor
  · refine does_of_unpinned (exec_modeWrite v false s) hp ⟨?_, modeWrite_kept v false s.body, ?_, ?_⟩ fun _ h => h
    · exact Body.get_of_bits (f := SYS.MODE.EXPERT) fun k hk => modeWrite_expert hk v s.body
    · intro f hf hv
      exact modeWrite_owes_none hf (Nat.testBit_eq_decide_div_mod_eq.trans (by simp [hv])) s.body
    · intro f hf hv hwas
      exact modeWrite_owes hf (Nat.testBit_eq_decide_div_mod_eq.trans (by simp [hv])) hwas
  · refine does_of_unpinned (exec_modeWrite v true s) hp ?_ fun _ h => h
    exact fun f hf hsecure => (modeWrite_nonsecure hf v hsecure).mode

end Sys2Proof.Machine
end
section
/-! SUPPORT. Scope: an instruction of a rule tile is read back from its word (R142, R144). -/

namespace Sys2Proof.Machine

/-! ### The operation codes -/

theorem Op3.code_lt (o : Op3) : o.code < 64 := by cases o <;> decide
theorem OpI.code_lt (o : OpI) : o.code < 64 := by cases o <;> decide
theorem op3Of_code (o : Op3) : op3Of o.code = some o := by cases o <;> rfl
theorem opIOf_code (o : OpI) : op3Of o.code = none ∧ opIOf o.code = some o := by cases o <;> exact ⟨rfl, rfl⟩

/-! ### What a word of each format spells -/

theorem decodeTile_alu {w : Nat} {o : Op3} (hop : w / 67108864 % 64 = o.code) (hz : w % 256 = 0) :
    decodeTile w = some (.alu o (w / 1048576 % 64) (w / 16384 % 64) (w / 256 % 64)) := by
  simp only [decodeTile, hop, op3Of_code, if_pos hz]

theorem decodeTile_alui {w : Nat} {o : OpI} (hop : w / 67108864 % 64 = o.code) :
    decodeTile w = some (.alui o (w / 1048576 % 64) (w / 16384 % 64) (w % 16384)) := by
  simp only [decodeTile, hop, opIOf_code]

theorem decodeTile_movi {w : Nat} (hop : w / 67108864 % 64 = 0x02) :
    decodeTile w = some (.movi (w / 1048576 % 64) (w % 1048576)) := by
  simp only [decodeTile, hop, op3Of, opIOf]

theorem decodeTile_movh {w : Nat} (hop : w / 67108864 % 64 = 0x03) (hz : w / 65536 % 16 = 0) :
    decodeTile w = some (.movh (w / 1048576 % 64) (w % 65536)) := by
  simp only [decodeTile, hop, op3Of, opIOf, if_pos hz]

theorem decodeTile_bz {w : Nat} (hop : w / 67108864 % 64 = 0x1F) (hz : w / 1024 % 1024 = 0) :
    decodeTile w = some (.bz (w / 1048576 % 64) (w % 1024)) := by
  simp only [decodeTile, hop, op3Of, opIOf, if_pos hz]

theorem decodeTile_bnz {w : Nat} (hop : w / 67108864 % 64 = 0x20) (hz : w / 1024 % 1024 = 0) :
    decodeTile w = some (.bnz (w / 1048576 % 64) (w % 1024)) := by
  simp only [decodeTile, hop, op3Of, opIOf, if_pos hz]

theorem decodeTile_jmp {w : Nat} (hop : w / 67108864 % 64 = 0x21) (hz : w / 1024 % 65536 = 0) :
    decodeTile w = some (.jmp (w % 1024)) := by
  simp only [decodeTile, hop, op3Of, opIOf, if_pos hz]

theorem decodeTile_cerd {w : Nat} (hop : w / 67108864 % 64 = 0x24) (hz : w / 256 % 32 = 0)
    (hf : (ceField (w % 256)).isSome = true) : decodeTile w =
      some (.cerd (w / 1048576 % 64) (w / 16384 % 64) (decide (w / 8192 % 2 = 1)) (w % 256)) := by
  simp only [decodeTile, hop, op3Of, opIOf, hz, hf, and_self, if_true]

theorem decodeTile_cewr {w : Nat} (hop : w / 67108864 % 64 = 0x25) (hz : w / 256 % 32 = 0)
    (hf : (ceField (w % 256)).isSome = true) : decodeTile w =
      some (.cewr (w / 1048576 % 64) (w / 16384 % 64) (decide (w / 8192 % 2 = 1)) (w % 256)) := by
  simp only [decodeTile, hop, op3Of, opIOf, hz, hf, and_self, if_true]

theorem decodeTile_emit {w : Nat} (hop : w / 67108864 % 64 = 0x26) (hz : w / 256 % 4 = 0) :
    decodeTile w = some (.emit (w / 1048576 % 64) (w / 16384 % 64) (w / 1024 % 16) (w % 256)) := by
  simp only [decodeTile, hop, op3Of, opIOf, if_pos hz]

theorem decodeTile_time {w : Nat} (hop : w / 67108864 % 64 = 0x27) (hz : w / 4 % 262144 = 0) :
    decodeTile w = some (.time (w / 1048576 % 64) (w % 4)) := by
  simp only [decodeTile, hop, op3Of, opIOf, if_pos hz]

theorem decodeTile_scan {w : Nat} (hop : w / 67108864 % 64 = 0x29) (hz : w % 16384 = 0) :
    decodeTile w = some (.scan (w / 1048576 % 64) (w / 16384 % 64)) := by
  simp only [decodeTile, hop, op3Of, opIOf, if_pos hz]

theorem decodeTile_tset {w : Nat} (hop : w / 67108864 % 64 = 0x2A) (hd : w / 1048576 % 64 = 0) (hz : w / 4 % 4096 = 0) :
    decodeTile w = some (.tset (w / 16384 % 64) (w % 4)) := by
  simp only [decodeTile, hop, op3Of, opIOf, hd, hz, and_self, if_true]

/-! ### The fields of the word of an instruction -/

/-- A number below each place of the word is read back from it: OP, two register numbers and 14 bits. -/
theorem word_parts {o d a r w : Nat} (ho : o < 64) (hd : d < 64) (ha : a < 64) (hr : r < 16384)
    (hw : o * 67108864 + d * 1048576 + a * 16384 + r = w) :
    w < 2 ^ 32 ∧ w / 67108864 % 64 = o ∧ w / 1048576 % 64 = d ∧ w / 16384 % 64 = a ∧ w % 16384 = r := by
  omega

/-- The G and FIELD of format C share the 14 bits. -/
theorem formatC_parts {g : Bool} {f w : Nat} (hf : f < 256) (hw : w % 16384 = (if g then 8192 else 0) + f) :
    w / 256 % 32 = 0 ∧ w % 256 = f ∧ decide (w / 8192 % 2 = 1) = g := by
  cases g <;> simp at hw ⊢ <;> omega

theorem encodeTile_reads_back (i : TileInstr) (h : i.wf) : encodeTile i < 2 ^ 32 ∧ decodeTile (encodeTile i) = some i := by
  generalize hw : encodeTile i = w
  cases i with
  | nop => subst hw; exact ⟨by decide, rfl⟩
  | halt => subst hw; exact ⟨by decide, rfl⟩
  | movi d imm =>
    obtain ⟨hd, hi⟩ := h
    simp only [encodeTile] at hw
    refine ⟨by omega, (decodeTile_movi (by omega)).trans ?_⟩
    congr 2 <;> omega
  | movh d imm =>
    obtain ⟨hd, hi⟩ := h
    simp only [encodeTile] at hw
    refine ⟨by omega, (decodeTile_movh (by omega) (by omega)).trans ?_⟩
    congr 2 <;> omega
  | alu o d a b =>
    obtain ⟨hd, ha, hb⟩ := h
    obtain ⟨hlt, hop, h1, h2, h3⟩ := word_parts o.code_lt hd ha (by omega) hw
    refine ⟨hlt, (decodeTile_alu hop (by omega)).trans ?_⟩
    congr 2; omega
  | alui o d a imm =>
    obtain ⟨hd, ha, hi⟩ := h
    obtain ⟨hlt, hop, rfl, rfl, rfl⟩ := word_parts o.code_lt hd ha hi hw
    exact ⟨hlt, decodeTile_alui hop⟩
  | bz a t =>
    obtain ⟨ha, ht⟩ := h
    simp only [encodeTile] at hw
    refine ⟨by omega, (decodeTile_bz (by omega) (by omega)).trans ?_⟩
    congr 2 <;> omega
  | bnz a t =>
    obtain ⟨ha, ht⟩ := h
    simp only [encodeTile] at hw
    refine ⟨by omega, (decodeTile_bnz (by omega) (by omega)).trans ?_⟩
    congr 2 <;> omega
  | jmp t =>
    have ht : t < 1024 := h
    simp only [encodeTile] at hw
    refine ⟨by omega, (decodeTile_jmp (by omega) (by omega)).trans ?_⟩
    congr 2; omega
  | cerd d a g f =>
    obtain ⟨hd, ha, hf, hfield⟩ := h
    have hr : (if g then 8192 else 0) + f < 16384 := by split <;> omega
    obtain ⟨hlt, hop, rfl, rfl, hlow⟩ := word_parts (by decide) hd ha hr ((Nat.add_assoc _ _ _).symm.trans hw)
    obtain ⟨hz, rfl, rfl⟩ := formatC_parts hf hlow
    exact ⟨hlt, decodeTile_cerd hop hz hfield⟩
  | cewr d a g f =>
    obtain ⟨hd, ha, hf, hfield⟩ := h
    have hr : (if g then 8192 else 0) + f < 16384 := by split <;> omega
    obtain ⟨hlt, hop, rfl, rfl, hlow⟩ := word_parts (by decide) hd ha hr ((Nat.add_assoc _ _ _).symm.trans hw)
    obtain ⟨hz, rfl, rfl⟩ := formatC_parts hf hlow
    exact ⟨hlt, decodeTile_cewr hop hz hfield⟩
  | emit a b p t =>
    obtain ⟨ha, hb, hp, ht⟩ := h
    simp only [encodeTile] at hw
    refine ⟨by omega, (decodeTile_emit (by omega) (by omega)).trans ?_⟩
    congr 2 <;> omega
  | time d w =>
    obtain ⟨hd, hw4⟩ := h
    simp only [encodeTile] at hw
    refine ⟨by omega, (decodeTile_time (by omega) (by omega)).trans ?_⟩
    congr 2 <;> omega
  | scan d a =>
    obtain ⟨hd, ha⟩ := h
    simp only [encodeTile] at hw
    refine ⟨by omega, (decodeTile_scan (by omega) (by omega)).trans ?_⟩
    congr 2 <;> omega
  | tset a i =>
    obtain ⟨ha, hi⟩ := h
    simp only [encodeTile] at hw
    refine ⟨by omega, (decodeTile_tset (by omega) (by omega) (by omega)).trans ?_⟩
    congr 2 <;> omega

/-- Settles O60: a word gives its instruction back, so two instructions of one word are that word's. -/
theorem tileInstructionsReadBackAsWritten : Obligations.TileInstructionsReadBackAsWritten := by
  refine ⟨encodeTile_reads_back, fun i j hi hj hij => Option.some_injective _ ?_⟩
  calc some i = decodeTile (encodeTile i) := (encodeTile_reads_back i hi).2.symm
    _ = decodeTile (encodeTile j) := by rw [hij]
    _ = some j := (encodeTile_reads_back j hj).2

end Sys2Proof.Machine
end
section
/-! SUPPORT. Scope: the Loom's state beside its registers (R124, R153), and what one instruction word does to the activation that
stands at it (R137, R142). -/

namespace Sys2Proof.Machine

/-! ### Tiles and schedule entries -/

@[simp] theorem tileOf_setTile_same (b : Body) (t : Nat) (x : Tile) : tileOf (setTile b t x) t = x := tabGet_tabSet_same _ _ _
theorem tileOf_setTile_other (b : Body) {t u : Nat} (x : Tile) (h : u ≠ t) : tileOf (setTile b t x) u = tileOf b u :=
  tabGet_tabSet_other _ _ h
@[simp] theorem schedOf_setSched_same (b : Body) (e : Nat) (x : SchedSt) : schedOf (setSched b e x) e = x := tabGet_tabSet_same _ _ _

theorem tileOf_of_loom {b c : Body} (h : c.loom = b.loom) (t : Nat) : tileOf c t = tileOf b t := by
  unfold tileOf
  rw [h]

theorem schedOf_of_loom {b c : Body} (h : c.loom = b.loom) (e : Nat) : schedOf c e = schedOf b e := by
  unfold schedOf
  rw [h]

/-! ### An instruction row -/

section Row

variable {t cost : Nat} {f : TileInstr → Option (Body → Act → TRes)} {b : Body} {a : Act} {i : TileInstr} {run : Body → Act → TRes}
  (hruns : Runs b t a i) (hf : f i = some run)
include hruns hf

/-- The row of the instruction that the activation stands at: its budget, and what it then does (R137). -/
theorem tileRow_runs : tileRow t cost f b = if a.spent + cost > 512 then tileFault t 1 b else
    match run b (After a cost) with
    | .go b a => setTile b t { tileOf b t with act := some a }
    | .halt b a => tileHalt t a b
    | .fault c => tileFault t c b := by
  obtain ⟨hact, hpc, hword⟩ := hruns
  unfold tileRow
  simp only [hact, if_neg (not_le.2 hpc), hword, hf]
  rfl

theorem tileRow_overBudget (hover : 512 < a.spent + cost) : tileRow t cost f b = tileFault t 1 b := by
  rw [tileRow_runs hruns hf, if_pos hover]

variable (hbudget : a.spent + cost ≤ 512)
include hbudget

theorem tileRow_go {c : Body} {a' : Act} (hgo : run b (After a cost) = .go c a') :
    tileRow t cost f b = setTile c t { tileOf c t with act := some a' } := by
  rw [tileRow_runs hruns hf, if_neg (not_lt.2 hbudget), hgo]

theorem tileRow_halt {c : Body} {a' : Act} (hhalt : run b (After a cost) = .halt c a') : tileRow t cost f b = tileHalt t a' c := by
  rw [tileRow_runs hruns hf, if_neg (not_lt.2 hbudget), hhalt]

theorem tileRow_fault {k : Nat} (hfault : run b (After a cost) = .fault k) : tileRow t cost f b = tileFault t k b := by
  rw [tileRow_runs hruns hf, if_neg (not_lt.2 hbudget), hfault]

end Row

/-! ### An activation that goes on -/

theorem goesOn_setTile {t : Nat} {a : Act} {touched : Nat → Prop} {s c : Body} (hregs : RegsKept touched s c)
    (hloom : c.loom = s.loom) (hmem : c.mem = s.mem) :
    GoesOn t a touched s (setTile c t { tileOf c t with act := some a }) := by
  have htile := tileOf_of_loom hloom
  refine ⟨by simp, by simp [htile], by simp [htile], fun u hu => ?_, hregs, hmem⟩
  rw [tileOf_setTile_other _ _ hu, htile]

section Does

variable {c : Instr} {s : State} {t cost : Nat} {f : TileInstr → Option (Body → Act → TRes)} {a : Act} {i : TileInstr}
  {run : Body → Act → TRes} (hexec : exec c s = onBody (tileRow t cost f) s) (hp : powered s.body = true)
  (hruns : Runs s.body t a i) (hf : f i = some run) (hbudget : a.spent + cost ≤ 512)
include hexec hp hruns hf hbudget

/-- A row whose instruction leaves everything but registers alone lets its activation go on. -/
theorem does_goesOn {touched : Nat → Prop} {b : Body} {a' : Act} (hgo : run s.body (After a cost) = .go b a')
    (hregs : RegsKept touched s.body b) (hloom : b.loom = s.body.loom) (hmem : b.mem = s.body.mem) :
    Does c s (GoesOn t a' touched s.body) := by
  refine does_of_unpinned hexec hp ?_ fun _ h => h
  rw [tileRow_go hruns hf hbudget hgo]
  exact goesOn_setTile hregs hloom hmem

/-- A row whose instruction gives GD a value. -/
theorem does_setD {d : Nat} {v : Word} {a' : Act} (hgo : run s.body (After a cost) = setD t d v s.body a') :
    Does c s (fun b => gReg b t d = v ∧ GoesOn t a' (· = LOOM.TILE_G.word.at t d) s.body b) := by
  refine does_of_unpinned hexec hp ?_ fun _ h => h
  rw [tileRow_go hruns hf hbudget hgo]
  refine ⟨Body.word_setWord_same _ _ _, goesOn_setTile (RegsKept.setWord (p := (· = LOOM.TILE_G.word.at t d)) rfl _ _) rfl rfl⟩

end Does

/-- A format-R row writes GD (R144). -/
theorem does_alu {c : Instr} {s : State} {t cost d x y : Nat} {op : Op3} {f : Word → Word → Word → Word} {a : Act} {v : Word}
    (hexec : exec c s = onBody (row3 t cost op f) s) (hp : powered s.body = true) (hruns : Runs s.body t a (.alu op d x y))
    (hbudget : a.spent + cost ≤ 512) (hv : f (gReg s.body t d) (gReg s.body t x) (gReg s.body t y) = v) :
    Does c s (Wrote t a cost d v s.body) :=
  does_setD hexec hp hruns (if_pos rfl) hbudget (by rw [← hv])

/-- A format-I row writes GD (R144). -/
theorem does_alui {c : Instr} {s : State} {t cost d x n : Nat} {op : OpI} {f : Word → Nat → Word} {a : Act} {v : Word}
    (hexec : exec c s = onBody (rowI t cost op f) s) (hp : powered s.body = true) (hruns : Runs s.body t a (.alui op d x n))
    (hbudget : a.spent + cost ≤ 512) (hv : f (gReg s.body t x) n = v) : Does c s (Wrote t a cost d v s.body) :=
  does_setD hexec hp hruns (if_pos rfl) hbudget (by rw [← hv])

end Sys2Proof.Machine
end
section
/-! SUPPORT. Scope: the 32-bit results of R144 as numbers. -/

namespace Sys2Proof.Machine

theorem word_add (x y : Word) : x + y = BitVec.ofNat 32 (x.toNat + y.toNat) := BitVec.eq_of_toNat_eq (by simp)

theorem word_sub (x y : Word) : x - y = BitVec.ofInt 32 (x.toInt - y.toInt) := BitVec.eq_of_toInt_eq (by simp)

theorem word_mul (x y : Word) : x * y = BitVec.ofNat 32 (x.toNat * y.toNat) := BitVec.eq_of_toNat_eq (by simp)

theorem word_min (x y : Word) : (if x.toInt ≤ y.toInt then x else y) = BitVec.ofInt 32 (min x.toInt y.toInt) := by
  rw [min_def, apply_ite (BitVec.ofInt 32), BitVec.ofInt_toInt, BitVec.ofInt_toInt]

theorem word_max (x y : Word) : (if x.toInt ≤ y.toInt then y else x) = BitVec.ofInt 32 (max x.toInt y.toInt) := by
  rw [max_def, apply_ite (BitVec.ofInt 32), BitVec.ofInt_toInt, BitVec.ofInt_toInt]

theorem word_minu (x y : Word) : (if x.toNat ≤ y.toNat then x else y) = BitVec.ofNat 32 (min x.toNat y.toNat) := by
  rw [min_def, apply_ite (BitVec.ofNat 32), BitVec.ofNat_toNat, BitVec.ofNat_toNat, BitVec.setWidth_eq, BitVec.setWidth_eq]

theorem word_maxu (x y : Word) : (if x.toNat ≤ y.toNat then y else x) = BitVec.ofNat 32 (max x.toNat y.toNat) := by
  rw [max_def, apply_ite (BitVec.ofNat 32), BitVec.ofNat_toNat, BitVec.ofNat_toNat, BitVec.setWidth_eq, BitVec.setWidth_eq]

theorem toInt_ite_max (x y : Word) : (if x.toInt ≤ y.toInt then y else x).toInt = max x.toInt y.toInt := by
  rw [max_def, apply_ite BitVec.toInt]

theorem word_shl (x : Word) (n : Nat) : x <<< n = BitVec.ofNat 32 (x.toNat * 2 ^ n) :=
  BitVec.eq_of_toNat_eq (by simp [Nat.shiftLeft_eq])

theorem word_shr (x : Word) (n : Nat) : x >>> n = BitVec.ofNat 32 (x.toNat / 2 ^ n) := by
  have hlt : x.toNat / 2 ^ n < 2 ^ 32 := (Nat.div_le_self _ _).trans_lt x.isLt
  refine BitVec.eq_of_toNat_eq ?_
  rw [BitVec.toNat_ushiftRight, Nat.shiftRight_eq_div_pow, BitVec.toNat_ofNat, Nat.mod_eq_of_lt hlt]

theorem word_sar (x : Word) (n : Nat) : x.sshiftRight n = BitVec.ofInt 32 (x.toInt / 2 ^ n) := by
  rw [BitVec.sshiftRight, Int.shiftRight_eq_div_pow]
  norm_cast

theorem boolWord_decide (p : Prop) [Decidable p] : boolWord (decide p) = if p then 1 else 0 := by
  by_cases h : p <;> simp [boolWord, h]

theorem word_addi (x : Word) (n : Nat) : x + sext14 n = BitVec.ofInt 32 (x.toInt + sgn 14 n) := by
  rw [BitVec.ofInt_add, BitVec.ofInt_toInt, sext14]

theorem toInt_sext14 (n : Nat) : (sext14 n).toInt = sgn 14 n := by
  have hrange : -8192 ≤ sgn 14 n ∧ sgn 14 n < 8192 := by unfold sgn; split <;> omega
  rw [sext14, BitVec.toInt_ofInt, Int.bmod_eq_of_le (by omega) (by omega)]

theorem word_movh (g n : Nat) : BitVec.ofNat 32 (g % 65536 + n * 65536) = BitVec.ofNat 32 (g % 65536 + n % 65536 * 65536) := by
  refine BitVec.eq_of_toNat_eq ?_
  rw [BitVec.toNat_ofNat, BitVec.toNat_ofNat]
  omega

/-- Settles O5: each row writes GD (`does_alu`), and each value is the exact one cut to 32 bits. -/
theorem tileArithmeticIsExactThenCut : Obligations.TileArithmeticIsExactThenCut := by
  intro s t d x y a hp
  refine ⟨fun hr hb => does_alu rfl hp hr hb (word_add _ _), fun hr hb => does_alu rfl hp hr hb (word_sub _ _),
    fun hr hb => does_alu rfl hp hr hb (word_mul _ _), fun hr hb => does_alu rfl hp hr hb rfl,
    fun hr hb => does_alu rfl hp hr hb rfl, fun hr hb => does_alu rfl hp hr hb (word_min _ _),
    fun hr hb => does_alu rfl hp hr hb (word_max _ _), fun hr hb => does_alu rfl hp hr hb (word_minu _ _),
    fun hr hb => does_alu rfl hp hr hb (word_maxu _ _), fun hr hb => does_alu rfl hp hr hb ?_⟩
  rw [← toInt_ite_max]
  exact word_min _ _

/-- Settles O6: as in O5; MOVI and MOVH, which have rows of their own, write GD by `does_setD`. -/
theorem tileLogicShiftsTestsAndImmediates : Obligations.TileLogicShiftsTestsAndImmediates := by
  constructor
  · intro s t d x y a hp
    exact ⟨fun hr hb => does_alu rfl hp hr hb rfl, fun hr hb => does_alu rfl hp hr hb rfl,
      fun hr hb => does_alu rfl hp hr hb rfl, fun hr hb => does_alu rfl hp hr hb (word_shl _ _),
      fun hr hb => does_alu rfl hp hr hb (word_shr _ _), fun hr hb => does_alu rfl hp hr hb (word_sar _ _),
      fun hr hb => does_alu rfl hp hr hb (boolWord_decide _), fun hr hb => does_alu rfl hp hr hb (boolWord_decide _),
      fun hr hb => does_alu rfl hp hr hb (boolWord_decide _), fun hr hb => does_alu rfl hp hr hb rfl⟩
  · intro s t d x n a hp
    refine ⟨fun hr hb => does_setD rfl hp hr rfl hb rfl, fun hr hb => does_setD rfl hp hr rfl hb ?_,
      fun hr hb => does_alui rfl hp hr hb (word_addi _ _), fun hr hb => does_alui rfl hp hr hb rfl,
      fun hr hb => does_alui rfl hp hr hb rfl, fun hr hb => does_alui rfl hp hr hb rfl,
      fun hr hb => does_alui rfl hp hr hb (word_shl _ _), fun hr hb => does_alui rfl hp hr hb (word_shr _ _),
      fun hr hb => does_alui rfl hp hr hb (word_sar _ _), fun hr hb => does_alui rfl hp hr hb ?_⟩
    · rw [← word_movh]
    · rw [toInt_sext14]
      exact boolWord_decide _

end Sys2Proof.Machine
end
section
/-! SUPPORT. Scope: how an activation ends: what its end leaves alone, and what a fault of any cause records (R137, R140 to R142). -/

namespace Sys2Proof.Machine

/-- A field of another register, or at other bits of this one, reads as before. -/
theorem Body.get_put_apart (b : Body) (f g : Fld) (v i j k l : Nat) (hf : f.lo + f.w ≤ 32)
    (h : g.at k l ≠ f.at i j ∨ g.lo + g.w ≤ f.lo ∨ f.lo + f.w ≤ g.lo) : (b.put f v i j).get g k l = b.get g k l := by
  by_cases ha : g.at k l = f.at i j
  · exact Body.get_put_bits _ _ _ _ _ _ _ _ ha hf (h.resolve_left (not_not.2 ha))
  · exact Body.get_put_other _ _ _ _ _ _ _ _ ha

/-! ### The end of an activation -/

/-- The registers of the tile memory pages, where host writes wait to be stored (R127). -/
abbrev pageReg (a : Nat) : Prop := 0x40680000 ≤ a

/-- The end of an activation stores what host writes wait, and nothing else of the module but those is moved. -/
theorem applyWrites_shows (t : Nat) (b : Body) : ∃ r, applyWrites t b = setTile { b with regs := r } t { tileOf b t with writes := [] } ∧
    RegsKept pageReg b { b with regs := r } := by
  have hpass : ∀ (l : List (Nat × Nat)) (c : Body), ∃ r, (c.each l fun b w => b.put LOOM.DATA.WORD w.2 (t % 64) (w.1 % 1024)) =
      { c with regs := r } ∧ RegsKept pageReg c { c with regs := r } := by
    intro l
    induction l with
    | nil => exact fun c => ⟨_, rfl, .refl c⟩
    | cons w l ih =>
      intro c
      obtain ⟨r, hr, hk⟩ := ih (c.put LOOM.DATA.WORD w.2 (t % 64) (w.1 % 1024))
      refine ⟨r, hr, RegsKept.trans (RegsKept.put ?_ _ _) hk⟩
      simp only [Fld.at]
      omega
  obtain ⟨r, hr, hk⟩ := hpass (tileOf b t).writes b
  exact ⟨r, by unfold applyWrites; dsimp only; rw [hr]; rfl, hk⟩

theorem applyWrites_keeps (t : Nat) (b : Body) : (tileOf (applyWrites t b) t).act = (tileOf b t).act ∧
    (tileOf (applyWrites t b) t).timers = (tileOf b t).timers ∧ (applyWrites t b).loom.sched = b.loom.sched ∧
    (applyWrites t b).loom.xbar = b.loom.xbar ∧ (applyWrites t b).ce = b.ce ∧ RegsKept pageReg b (applyWrites t b) := by
  obtain ⟨r, hr, hk⟩ := applyWrites_shows t b
  rw [hr]
  exact ⟨by rw [tileOf_setTile_same], by rw [tileOf_setTile_same], rfl, rfl, rfl, hk⟩

/-- What one discarded operation frees. -/
def freeReserved (b : Body) (o : TileOp) : Body := match o with
  | .arm e => setSched b e SchedSt.free
  | _ => b

/-- A discarded buffer frees entries of the schedule table, and no more. -/
theorem freeReserved_shows (l : List TileOp) (b : Body) : ∃ x, b.each l freeReserved = { b with loom := { b.loom with sched := x } } := by
  induction l generalizing b with
  | nil => exact ⟨_, rfl⟩
  | cons o l ih =>
    cases o with
    | arm e => exact ih (setSched b e SchedSt.free)
    | _ => exact ih b

theorem dropAct_runs {t : Nat} {a : Act} {b : Body} (hact : (tileOf b t).act = some a) : dropAct t b =
    applyWrites t (setTile (b.each a.buf freeReserved) t { tileOf (b.each a.buf freeReserved) t with act := none }) := by
  unfold dropAct
  rw [hact]
  rfl

/-- A discarded activation is over; its tile's timers, the crossbar and every register outside the memory pages stand. -/
theorem dropAct_shows {t : Nat} {a : Act} {b : Body} (hact : (tileOf b t).act = some a) :
    (tileOf (dropAct t b) t).act = none ∧ (tileOf (dropAct t b) t).timers = (tileOf b t).timers ∧
      (dropAct t b).loom.xbar = b.loom.xbar ∧ RegsKept pageReg b (dropAct t b) := by
  obtain ⟨x, hx⟩ := freeReserved_shows a.buf b
  rw [dropAct_runs hact, hx]
  obtain ⟨hact', htimers, -, hxbar, -, hk⟩ := applyWrites_keeps t (setTile { b with loom := { b.loom with sched := x } } t
    { tileOf { b with loom := { b.loom with sched := x } } t with act := none })
  rw [tileOf_setTile_same] at hact' htimers
  exact ⟨hact', htimers, hxbar, hk⟩

/-! ### The registers of a fault -/

/-- Cause, mark and word of a fault, and the tile's bit in the summary (R140). -/
def faultMarked (t cause pc : Nat) (b : Body) : Body :=
  let b := ((b.put LOOM.TILE_STAT.CAUSE cause t).mark LOOM.TILE_STAT.FAULT true t).put LOOM.TILE_FPC.PC pc t
  if t < 32 then b.setBit LOOM.FAULT_SUM_LO.TILE t true else b.setBit LOOM.FAULT_SUM_HI.TILE (t - 32) true

/-- The tile clears its own ENABLE (R141). -/
def switchedOff (t : Nat) (b : Body) : Body := (b.mark LOOM.TILE_CTL.ENABLE false t).mark LOOM.TILE_STAT.OFF true t

/-- The run of faults is counted, and the sixteenth switches the tile off (R141). -/
def faultCounted (t : Nat) (b : Body) : Body :=
  let n := min 16 (b.get LOOM.TILE_STAT.CONSEC t + 1)
  let b := b.put LOOM.TILE_STAT.CONSEC n t
  if n ≥ 16 ∧ b.flag LOOM.TILE_CTL.ENABLE t then raise 0x0603 t 0 (switchedOff t b) else b

theorem tileFault_runs {t : Nat} {a : Act} {b : Body} (hact : (tileOf b t).act = some a) (cause : Nat) : tileFault t cause b =
    raise 0x0602 t (cause + a.pc % 1024 * 16 + a.thread * 65536) (faultCounted t (faultMarked t cause a.pc (dropAct t b))) := by
  unfold tileFault
  rw [hact]
  rfl

/-- What a fault shows of the tile's registers. -/
structure FaultShown (t cause pc n : Nat) (enable : Bool) (b : Body) : Prop where
  cause : b.get LOOM.TILE_STAT.CAUSE t = cause
  mark : b.flag LOOM.TILE_STAT.FAULT t = true
  pc : b.get LOOM.TILE_FPC.PC t = pc % 1024
  consec : b.get LOOM.TILE_STAT.CONSEC t = n
  enable : b.flag LOOM.TILE_CTL.ENABLE t = enable

theorem FaultShown.of_errorFrame {t cause pc n : Nat} {enable : Bool} {b c : Body} (ht : t < 64) (h : FaultShown t cause pc n enable b)
    (hk : ErrorFrame b c) : FaultShown t cause pc n enable c := by
  have hoff : ∀ {f : Fld}, f.at t 0 < 0x40680000 → c.get f t = b.get f t := fun hf => hk.get (by unfold errorReg; omega)
  have hat : ∀ {f : Fld}, f.addr ≤ 0x40640008 → f.s1 = 0x200 → f.at t 0 < 0x40680000 := fun ha hs => by
    simp only [Fld.at, hs]
    omega
  exact ⟨(hoff (hat (by decide) rfl)).trans h.cause, (Body.flag_of_get (hoff (hat (by decide) rfl))).trans h.mark,
    (hoff (hat (by decide) rfl)).trans h.pc, (hoff (hat (by decide) rfl)).trans h.consec,
    (Body.flag_of_get (hoff (hat (by decide) rfl))).trans h.enable⟩

theorem faultMarked_shows {t cause : Nat} (hcause : cause < 16) (pc : Nat) (b : Body) :
    FaultShown t cause pc (b.get LOOM.TILE_STAT.CONSEC t) (b.flag LOOM.TILE_CTL.ENABLE t) (faultMarked t cause pc b) := by
  have hsum : ∀ (c : Body) (f : Fld), f.addr ≥ 0x40640000 →
      (if t < 32 then c.setBit LOOM.FAULT_SUM_LO.TILE t true else c.setBit LOOM.FAULT_SUM_HI.TILE (t - 32) true).get f t = c.get f t := by
    intro c f hf
    split <;> exact Body.get_put_other _ _ _ _ _ _ _ _ (by simp only [Fld.at]; omega)
  unfold faultMarked
  refine ⟨?_, ?_, ?_, ?_, ?_⟩
  · rw [hsum _ _ (by decide)]
    simp (disch := simp [Fld.at]) only [Body.mark, Body.get_put_apart, Body.get_put_same]
    exact Nat.mod_eq_of_lt hcause
  · rw [Body.flag_of_get (hsum _ _ (by decide))]
    simp (disch := simp [Fld.at]) [Body.flag, Body.mark, Body.get_put_apart, Body.get_put_same]
  · rw [hsum _ _ (by decide), Body.get_put_same _ _ _ _ _ (by decide)]
    rfl
  · rw [hsum _ _ (by decide)]
    simp (disch := simp [Fld.at]) only [Body.mark, Body.get_put_apart]
  · refine Body.flag_of_get ?_
    rw [hsum _ _ (by decide)]
    simp (disch := simp [Fld.at]) only [Body.mark, Body.get_put_apart]

theorem switchedOff_shows {t cause pc n : Nat} {enable : Bool} {b : Body} (h : FaultShown t cause pc n enable b) :
    FaultShown t cause pc n false (switchedOff t b) := by
  unfold switchedOff
  refine ⟨.trans ?_ h.cause, (Body.flag_of_get ?_).trans h.mark, .trans ?_ h.pc, .trans ?_ h.consec, ?_⟩
  · simp (disch := simp [Fld.at]) only [Body.mark, Body.get_put_apart]
  · simp (disch := simp [Fld.at]) only [Body.mark, Body.get_put_apart]
  · simp (disch := simp [Fld.at]) only [Body.mark, Body.get_put_apart]
  · simp (disch := simp [Fld.at]) only [Body.mark, Body.get_put_apart]
  · rw [Body.flag_mark_other _ _ _ _ _ _ _ _ (by simp [Fld.at])]
    exact Body.flag_mark_same _ _ _ _ _ rfl (by decide)

/-- Neither error of a fault is fatal. -/
theorem tileErrors_severity (a0 : Nat) : severityOf 0x0602 a0 < 3 ∧ severityOf 0x0603 a0 < 3 := by simp [severityOf]

theorem faultCounted_shows {t cause pc n : Nat} (ht : t < 64) {enable : Bool} {b : Body} (h : FaultShown t cause pc n enable b) :
    FaultShown t cause pc (min 16 (n + 1)) (enable && decide (n < 15)) (faultCounted t b) := by
  have hput : FaultShown t cause pc (min 16 (n + 1)) enable (b.put LOOM.TILE_STAT.CONSEC (min 16 (n + 1)) t) := by
    refine ⟨.trans ?_ h.cause, (Body.flag_of_get ?_).trans h.mark, .trans ?_ h.pc, ?_, (Body.flag_of_get ?_).trans h.enable⟩
    · simp (disch := simp [Fld.at]) only [Body.get_put_apart]
    · simp (disch := simp [Fld.at]) only [Body.get_put_apart]
    · simp (disch := simp [Fld.at]) only [Body.get_put_apart]
    · rw [Body.get_put_same _ _ _ _ _ (by decide)]
      exact Nat.mod_eq_of_lt (show min 16 (n + 1) < 256 by omega)
    · simp (disch := simp [Fld.at]) only [Body.get_put_apart]
  unfold faultCounted
  dsimp only
  rw [h.consec, hput.enable]
  split
  · next hoff =>
    rw [show (enable && decide (n < 15)) = false by simp; omega]
    exact (switchedOff_shows hput).of_errorFrame ht (raise_frame (tileErrors_severity _).2 _ _)
  · next hon =>
    rw [show (enable && decide (n < 15)) = enable by cases enable <;> simp at hon ⊢; omega]
    exact hput

theorem faultMarked_loom (t cause pc : Nat) (b : Body) : (faultMarked t cause pc b).loom = b.loom := by
  unfold faultMarked
  dsimp only
  split <;> rfl

theorem switchedOff_loom (t : Nat) (b : Body) : (switchedOff t b).loom = b.loom := rfl

theorem faultCounted_loom (t : Nat) (b : Body) : (faultCounted t b).loom = b.loom := by
  unfold faultCounted
  dsimp only
  split
  · rw [(raise_stands (tileErrors_severity _).2 _ _).loom, switchedOff_loom, Body.put_loom]
  · exact Body.put_loom _ _ _ _ _

/-- The registers that a fault shows stand outside the memory pages. -/
theorem get_of_pages {b c : Body} (h : RegsKept pageReg b c) {f : Fld} {t : Nat} (ht : t < 64) (ha : f.addr ≤ 0x40640010)
    (hs : f.s1 = 0x200) : c.get f t = b.get f t := by
  have hat : f.at t 0 < 0x40680000 := by
    simp only [Fld.at, hs]
    omega
  exact h.get (not_le.2 hat)

/-- A fault of any cause ends the activation as R140 and R141 say. -/
theorem faulted_tileFault {t cause : Nat} {a : Act} {b : Body} (ht : t < 64) (hact : (tileOf b t).act = some a) (hcause : cause < 16) :
    Faulted t a cause b (tileFault t cause b) := by
  obtain ⟨hnone, htimers, hxbar, hpages⟩ := dropAct_shows hact
  have hloom : (tileFault t cause b).loom = (dropAct t b).loom := by
    rw [tileFault_runs hact, (raise_stands (tileErrors_severity _).1 _ _).loom, faultCounted_loom, faultMarked_loom]
  have hshown : FaultShown t cause a.pc (min 16 (b.get LOOM.TILE_STAT.CONSEC t + 1))
      (b.flag LOOM.TILE_CTL.ENABLE t && decide (b.get LOOM.TILE_STAT.CONSEC t < 15)) (tileFault t cause b) := by
    rw [tileFault_runs hact, ← get_of_pages hpages ht (by decide) rfl, ← Body.flag_of_get (get_of_pages hpages ht (by decide) rfl)]
    exact (faultCounted_shows ht (faultMarked_shows hcause a.pc _)).of_errorFrame ht (raise_frame (tileErrors_severity _).1 _ _)
  have htile := tileOf_of_loom hloom t
  exact ⟨htile ▸ hnone, hshown.cause, hshown.mark, hshown.pc, hloom ▸ hxbar, htile ▸ htimers, hshown.consec, hshown.enable⟩

section Does

variable {c : Instr} {s : State} {t cost : Nat} {f : TileInstr → Option (Body → Act → TRes)} {a : Act} {i : TileInstr}
  {run : Body → Act → TRes} (hexec : exec c s = onBody (tileRow t cost f) s) (hp : powered s.body = true) (ht : t < 64)
  (hruns : Runs s.body t a i) (hf : f i = some run)
include hexec hp ht hruns hf

theorem does_fault (hbudget : a.spent + cost ≤ 512) {k : Nat} (hk : k < 16) (hfault : run s.body (After a cost) = .fault k) :
    Does c s (Faulted t a k s.body) := by
  refine does_of_unpinned hexec hp ?_ fun _ h => h
  rw [tileRow_fault hruns hf hbudget hfault]
  exact faulted_tileFault ht hruns.1 hk

/-- An instruction whose cost would take the count above 512 faults with BUDGET (R137). -/
theorem does_overBudget (hover : 512 < a.spent + cost) : Does c s (Faulted t a 1 s.body) := by
  refine does_of_unpinned hexec hp ?_ fun _ h => h
  rw [tileRow_overBudget hruns hf hover]
  exact faulted_tileFault ht hruns.1 (by decide)

end Does

end Sys2Proof.Machine
end
section
/-! SUPPORT. Scope: branches, local data, channel fields and time as a tile's instructions reach them (R144 to R149). -/

namespace Sys2Proof.Machine

/-! ### Local addresses (R142) -/

theorem localAddr_word {g : Word} {imm n p : Nat} (h : (g + sext14 imm).toNat = 4 * p) (hn : 4 * p + n ≤ 4096) :
    localAddr g imm n = some (4 * p) := by
  unfold localAddr
  dsimp only
  rw [h, if_pos ⟨by omega, hn⟩]

theorem localAddr_outside {g : Word} {imm n : Nat} (h : (g + sext14 imm).toNat % 4 ≠ 0 ∨ 4096 < (g + sext14 imm).toNat + n) :
    localAddr g imm n = none := by
  unfold localAddr
  exact if_neg (by omega)

/-- Settles O7: a branch moves the next word alone; LD and ST reach the word that `localAddr` names, or fault. -/
theorem tileBranchesAndLocalData : Obligations.TileBranchesAndLocalData := by
  intro s t d x n p a hp ht
  have stays : ∀ touched, RegsKept touched s.body s.body := fun _ => .refl _
  refine ⟨fun hr hb => does_goesOn rfl hp hr rfl hb rfl (stays _) rfl rfl, fun hr hb => does_goesOn rfl hp hr rfl hb rfl (stays _) rfl rfl,
    fun hr hb => does_goesOn rfl hp hr rfl hb rfl (stays _) rfl rfl, fun hr hb => does_goesOn rfl hp hr rfl hb rfl (stays _) rfl rfl,
    fun hr hb haddr hlt => ?_, fun hr hb haddr hlt => ?_, fun hbad hb => ⟨fun hr => ?_, fun hr => ?_⟩⟩
  · have hword := localAddr_word (n := 4) haddr (by omega)
    exact does_setD rfl hp hr rfl hb (by simp only [hword, Nat.mul_div_cancel_left p (by decide : 0 < 4)])
  · have hword := localAddr_word (n := 4) haddr (by omega)
    refine does_of_unpinned rfl hp ?_ fun _ h => h
    rw [tileRow_go hr rfl hb (by simp only [hword, Nat.mul_div_cancel_left p (by decide : 0 < 4)]; rfl)]
    exact ⟨Body.word_setWord_same _ _ _,
      goesOn_setTile (RegsKept.setWord (p := (· = LOOM.DATA.word.at t p)) rfl _ _) rfl rfl⟩
  · have hnone : localAddr (gReg s.body t x) n 4 = none := localAddr_outside (by unfold sext14; omega)
    exact does_fault rfl hp ht hr rfl hb (by decide) (by simp only [hnone])
  · have hnone : localAddr (gReg s.body t x) n 4 = none := localAddr_outside (by unfold sext14; omega)
    exact does_fault rfl hp ht hr rfl hb (by decide) (by simp only [hnone])

/-! ### Channel fields and time -/

theorem ceReach_iff (b : Body) (t : Nat) (sec : Bool) :
    ceReach b t sec = true ↔ tileNs b t = false ∨ (sec = false ∧ ceNs b = true) := by
  unfold ceReach
  simp

/-- The instant of R146, with both validity bits spelt out. -/
theorem timeNow_eq (b : Body) : timeNow b = if ntv b || rtcv b then ⟨tSec b, airTime b % 65536,
    (if ntv b then 1 else 0) + (if rtcv b then 2 else 0)⟩ else ⟨0, 0, 0⟩ := by
  unfold timeNow
  cases ntv b <;> cases rtcv b <;> rfl

/-- A word of TIME, cut to 32 bits. -/
theorem ofNat_wordAt (c : TimeCap) (w : Nat) : BitVec.ofNat 32 (c.wordAt w) =
    BitVec.ofNat 32 (match w with | 0 => c.sec | 1 => c.sec / 2 ^ 32 % 2 ^ 16 | 2 => c.frac | _ => c.flags) := by
  match w with
  | 0 => exact BitVec.eq_of_toNat_eq (by simp [TimeCap.wordAt])
  | 1 => rfl
  | 2 => rfl
  | _ + 3 => rfl

/-- Settles O8: CERD falls at the first condition it fails, in the order of R142; TIME writes the word of what it captures. -/
theorem tileChannelAccessAndTime : Obligations.TileChannelAccessAndTime := by
  intro s t d x f w c a g wr sec hp ht hfield
  refine ⟨fun hr hb => ⟨fun hg => ?_, fun hg hreach => ?_, fun hg hreach hchan => ?_, fun hg hreach hchan => ?_⟩,
    ceReach_iff _ _ _, fun now cap hr hb hnow hcap => ?_⟩
  · exact does_fault rfl hp ht hr rfl hb (by decide) (if_pos hg)
  · exact does_fault rfl hp ht hr rfl hb (by decide) (by simp [hg, hfield, hreach])
  · exact does_fault rfl hp ht hr rfl hb (by decide) (by simp [hg, hfield, hreach, hchan])
  · exact does_setD rfl hp hr rfl hb (by simp [hg, hfield, hreach, hchan])
  · rw [← timeNow_eq] at hnow
    refine does_setD rfl hp hr rfl hb (.trans ?_ (congrArg (fun v => setD t d v s.body { After a 1 with cap := some cap })
      (ofNat_wordAt cap w)))
    cases hheld : a.cap with
    | none => simp [After, hcap, hnow, hheld]
    | some held => simp [After, hcap, hnow, hheld]

end Sys2Proof.Machine
end
section
/-! SUPPORT. Scope: what a tile's instructions buffer (R138), and the schedule entry that SARM reserves (R158). -/

namespace Sys2Proof.Machine

/-! ### What an activation has buffered -/

@[simp] theorem ceOps_after (a : Act) (cost : Nat) : ceOps (After a cost) = ceOps a := rfl
@[simp] theorem schedOps_after (a : Act) (cost : Nat) : schedOps (After a cost) = schedOps a := rfl

/-- The target of CEWR as the model tests it (R150). -/
theorem cewrTarget_iff (b : Body) (n : Nat) (g : Bool) : CewrTarget b n g ↔
    (if g then decide (n ≥ 256) || (groupMap b n).isNone else decide (chanCnt b ≤ n)) = false := by
  unfold CewrTarget
  cases g <;> simp

/-! ### The record of a schedule entry -/

theorem leNat_toLe (k n : Nat) : leNat (toLe k n) = n % 256 ^ k := by
  induction k generalizing n with
  | zero => simp [leNat, toLe, Nat.mod_one]
  | succ k ih =>
    have hcons : leNat (toLe (k + 1) n) = n % 256 % 256 + 256 * leNat (toLe k (n / 256)) := rfl
    rw [hcons, ih, Nat.mod_mod, pow_succ', Nat.mod_mul]

/-- The 32 bytes of the record at word `p` of a tile's local data. -/
def recordBytes (b : Body) (t p : Nat) : List Nat := (List.range 8).flatMap fun k => toLe 4 (dataWord b t (p + k)).toNat

theorem recordBytes_word (b : Body) (t p : Nat) {k : Nat} (hk : k < 8) : u32 (recordBytes b t p) (4 * k) = (dataWord b t (p + k)).toNat := by
  have hbytes : bytesAt (recordBytes b t p) (4 * k) 4 = toLe 4 (dataWord b t (p + k)).toNat := by
    interval_cases k <;> rfl
  unfold u32
  rw [hbytes, leNat_toLe]
  exact Nat.mod_eq_of_lt (dataWord b t (p + k)).isLt

/-- The entry takes each word of the record. -/
theorem setSchedRec_word (e : Nat) (l : List Nat) (b : Body) {k : Nat} (hk : k < 8) :
    schedWord (setSchedRec e l b) e k = u32 l (4 * k) % 2 ^ 32 := by
  obtain ⟨c, -, hafter⟩ := Body.each_at (R := fun b c => c.get LOOM.SCHED_W.WORD e k = b.get LOOM.SCHED_W.WORD e k)
    (f := fun b k => b.put LOOM.SCHED_W.WORD (u32 l (4 * k)) e k) (fun _ => rfl) (fun _ _ _ h g => g.trans h)
    (fun j c hne => Body.get_put_other _ _ _ _ _ _ _ _ (by simp only [Fld.at]; omega)) (List.mem_range.2 hk) List.nodup_range b
  exact hafter.trans (Body.get_put_same _ _ _ _ _ (by decide))

/-- A tile may arm this thread (R159). -/
theorem threadAdmitted {b : Body} {t thr : Nat} (hok : schedThreadOk b thr = true) (hmay : tileNs b t = false ∨ nsThreadOk b thr = true) :
    (!schedThreadOk b thr || (tileNs b t && !nsThreadOk b thr)) = false := by
  rcases hmay with h | h <;> simp [hok, h]

theorem highestFree_lt {b : Body} {n e : Nat} (h : highestFree b n = some e) : e < n := by
  induction n with
  | zero => cases h
  | succ n ih =>
    rw [highestFree] at h
    split at h
    · cases h; omega
    · exact (ih h).trans (by omega)

@[simp] theorem gReg_setTile (b : Body) (u : Nat) (x : Tile) (t g : Nat) : gReg (setTile b u x) t g = gReg b t g := rfl
@[simp] theorem schedOf_setTile (b : Body) (u : Nat) (x : Tile) (e : Nat) : schedOf (setTile b u x) e = schedOf b e := rfl
@[simp] theorem schedWord_setTile (b : Body) (u : Nat) (x : Tile) (e k : Nat) : schedWord (setTile b u x) e k = schedWord b e k := rfl

/-- Entry `e` is reserved for tile `t` with the record at word `p` of its local data, and GD takes the index (R158). -/
def reserveEntry (t d e p : Nat) (b : Body) : Body :=
  setG t d (BitVec.ofNat 32 e) (setSched (setSchedRec e (recordBytes b t p) b) e { owner := .reserved t, next := 0 })

/-- The schedule window lies below the tiles' pages. -/
theorem schedWord_setG {e k : Nat} (he : e < 1024) (hk : k < 8) (t d : Nat) (v : Word) (b : Body) :
    schedWord (setG t d v b) e k = schedWord b e k := by
  unfold schedWord setG Body.get
  rw [Body.word_setWord_other _ _ (by simp only [Fld.at]; omega)]

theorem schedWord_setSched (b : Body) (i : Nat) (x : SchedSt) (e k : Nat) : schedWord (setSched b i x) e k = schedWord b e k := rfl

theorem reserveEntry_shows {e : Nat} (he : e < 1024) (t d p : Nat) (b : Body) : gReg (reserveEntry t d e p b) t d = BitVec.ofNat 32 e ∧
    (schedOf (reserveEntry t d e p b) e).owner = .reserved t ∧
    ∀ k, k < 8 → schedWord (reserveEntry t d e p b) e k = (dataWord b t (p + k)).toNat := by
  unfold reserveEntry
  refine ⟨Body.word_setWord_same _ _ _, congrArg SchedSt.owner (schedOf_setSched_same _ _ _), fun k hk => ?_⟩
  rw [schedWord_setG he hk, schedWord_setSched, setSchedRec_word _ _ _ hk, recordBytes_word _ _ _ hk]
  exact Nat.mod_eq_of_lt (dataWord b t (p + k)).isLt

end Sys2Proof.Machine
end
section
/-! SUPPORT. Scope: CEWR, EMIT, TSET, SCAN and SARM, case by case (R138, R142, R150 to R152, R158, R159). -/

namespace Sys2Proof.Machine

section Row

variable {s : State} {t d x n : Nat} {a : Act} (hp : powered s.body = true)
include hp

section Tile

variable (ht : t < 64)
include ht

theorem does_cewr {f c : Nat} {g wr sec : Bool} (hr : Runs s.body t a (.cewr d x g f)) (hfield : ceField f = some (c, wr, sec))
    (hb : a.spent + 4 ≤ 512) :
    (wr = false → Does (.tCewr t) s (Faulted t a 7 s.body)) ∧
    (wr = true → ceReach s.body t false = false → Does (.tCewr t) s (Faulted t a 6 s.body)) ∧
    (wr = true → ceReach s.body t false = true → ¬ CewrTarget s.body (gReg s.body t x).toNat g →
      Does (.tCewr t) s (Faulted t a 5 s.body)) ∧
    (wr = true → ceReach s.body t false = true → CewrTarget s.body (gReg s.body t x).toNat g →
      (32 ≤ ceOps a → Does (.tCewr t) s (Faulted t a 8 s.body)) ∧
      (ceOps a < 32 → Does (.tCewr t) s (GoesOn t ((After a 4).push
        (.ceWrite (gReg s.body t d).toNat (gReg s.body t x).toNat g f)) (fun _ => False) s.body))) := by
  refine ⟨fun hw => ?_, fun hw hreach => ?_, fun hw hreach htarget => ?_, fun hw hreach htarget => ⟨fun hfull => ?_, fun hroom => ?_⟩⟩
  · exact does_fault rfl hp ht hr rfl hb (by decide) (by simp [hfield, hw])
  · exact does_fault rfl hp ht hr rfl hb (by decide) (by simp [hfield, hw, hreach])
  · rw [cewrTarget_iff, Bool.not_eq_false] at htarget
    exact does_fault rfl hp ht hr rfl hb (by decide) (by simp only [hfield, hw, hreach, htarget]; rfl)
  · rw [cewrTarget_iff] at htarget
    exact does_fault rfl hp ht hr rfl hb (by decide) (by simp only [hfield, hw, hreach, htarget]; simp [hfull])
  · rw [cewrTarget_iff] at htarget
    exact does_goesOn rfl hp hr rfl hb (by simp only [hfield, hw, hreach, htarget]; simp [not_le.2 hroom]) (.refl _) rfl rfl

theorem does_emit {y p : Nat} (hr : Runs s.body t a (.emit x y p n)) (hb : a.spent + 6 ≤ 512) :
    (emitOps a < 16 → Does (.tEmit t) s (GoesOn t ((After a 6).push
      (.emit ((gReg s.body t x).toNat + (gReg s.body t y).toNat * 2 ^ 32) p n)) (fun _ => False) s.body)) ∧
    (16 ≤ emitOps a → Does (.tEmit t) s (Faulted t a 8 s.body)) :=
  ⟨fun hroom => does_goesOn rfl hp hr rfl hb (if_neg (not_le.2 hroom)) (.refl _) rfl rfl,
    fun hfull => does_fault rfl hp ht hr rfl hb (by decide) (if_pos hfull)⟩

theorem does_tset (hr : Runs s.body t a (.tset x n)) (hb : a.spent + 1 ≤ 512) :
    (timerOps a < 4 → Does (.tTset t) s (GoesOn t ((After a 1).push
      (.timer n ((gReg s.body t x).toNat % 2 ^ 24))) (fun _ => False) s.body)) ∧
    (4 ≤ timerOps a → Does (.tTset t) s (Faulted t a 8 s.body)) :=
  ⟨fun hroom => does_goesOn rfl hp hr rfl hb (if_neg (not_le.2 hroom)) (.refl _) rfl rfl,
    fun hfull => does_fault rfl hp ht hr rfl hb (by decide) (if_pos hfull)⟩

theorem does_scan (hr : Runs s.body t a (.scan d x)) (hb : a.spent + 1 ≤ 512) :
    (4 ≤ schedOps a → Does (.tScan t) s (Faulted t a 8 s.body)) ∧
    (schedOps a < 4 → (gReg s.body t x).toNat < 1024 →
      (schedOf s.body (gReg s.body t x).toNat).owner = .tile t → Does (.tScan t) s (fun b => gReg b t d = 0 ∧
        GoesOn t ((After a 1).push (.cancel (gReg s.body t x).toNat)) (· = LOOM.TILE_G.word.at t d) s.body b)) ∧
    (schedOps a < 4 → 1024 ≤ (gReg s.body t x).toNat ∨ (schedOf s.body (gReg s.body t x).toNat).owner ≠ .tile t →
      Does (.tScan t) s (Wrote t a 1 d (BitVec.ofInt 32 (-1)) s.body)) := by
  refine ⟨fun hfull => does_fault rfl hp ht hr rfl hb (by decide) (if_pos hfull), fun hroom hlt hown => ?_, fun hroom hnot => ?_⟩
  · exact does_setD rfl hp hr rfl hb ((if_neg (not_le.2 hroom)).trans (if_pos ⟨hlt, hown⟩))
  · exact does_setD rfl hp hr rfl hb ((if_neg (not_le.2 hroom)).trans (if_neg fun h => hnot.elim h.1.not_ge fun hne => hne h.2))

theorem does_sarm_outside (hr : Runs s.body t a (.alui .sarm d x n)) (hb : a.spent + 1 ≤ 512)
    (hbad : (gReg s.body t x + sext14 n).toNat % 4 ≠ 0 ∨ 4064 < (gReg s.body t x + sext14 n).toNat) :
    Does (.tSarm t) s (Faulted t a 4 s.body) := by
  have hnone : localAddr (gReg s.body t x) n 32 = none := localAddr_outside (by omega)
  exact does_fault rfl hp ht hr rfl hb (by decide) (by simp only [hnone])

end Tile

variable {p : Nat} (hr : Runs s.body t a (.alui .sarm d x n)) (hb : a.spent + 1 ≤ 512)
  (haddr : (gReg s.body t x + sext14 n).toNat = 4 * p) (hlt : p ≤ 1016)
include hr hb haddr hlt

theorem does_sarm_full (ht : t < 64) (hfull : 4 ≤ schedOps a) : Does (.tSarm t) s (Faulted t a 8 s.body) := by
  have hword := localAddr_word (n := 32) haddr (by omega)
  exact does_fault rfl hp ht hr rfl hb (by decide) (by simp [hword, hfull])

theorem does_sarm_noneFree (hroom : schedOps a < 4) (hfree : highestFree s.body 1024 = none) :
    Does (.tSarm t) s (Wrote t a 1 d (BitVec.ofInt 32 (-1)) s.body) := by
  have hword := localAddr_word (n := 32) haddr (by omega)
  exact does_setD rfl hp hr rfl hb (by simp [hword, not_le.2 hroom, hfree])

variable {e thr : Nat} (hroom : schedOps a < 4) (hfree : highestFree s.body 1024 = some e)
  (hthr : thr = (dataWord s.body t (p + 4)).toNat % 256)
include hroom hfree hthr

theorem does_sarm_threadRefused
    (hbad : schedThreadOk s.body thr = false ∨ (tileNs s.body t = true ∧ nsThreadOk s.body thr = false)) :
    Does (.tSarm t) s (Wrote t a 1 d (BitVec.ofInt 32 (-2)) s.body) := by
  have hword := localAddr_word (n := 32) haddr (by omega)
  have hrefused : (!schedThreadOk s.body thr || (tileNs s.body t && !nsThreadOk s.body thr)) = true := by simpa using hbad
  subst hthr
  exact does_setD rfl hp hr rfl hb (by
    simp only [hword, schedOps_after, ge_iff_le, not_le.2 hroom, if_false, hfree, Nat.mul_div_cancel_left p four_pos, hrefused, if_true])

variable (hok : schedThreadOk s.body thr = true) (hmay : tileNs s.body t = false ∨ nsThreadOk s.body thr = true)
  {flags period : Nat} (hflags : flags = (dataWord s.body t (p + 4)).toNat / 65536 % 256)
  (hperiod : period = (dataWord s.body t (p + 5)).toNat)
include hok hmay hflags hperiod

theorem does_sarm_recordRefused (hbad : recordOk flags period = false) :
    Does (.tSarm t) s (Wrote t a 1 d (BitVec.ofInt 32 (-3)) s.body) := by
  have hword := localAddr_word (n := 32) haddr (by omega)
  have hadmitted := threadAdmitted hok hmay
  subst hthr hflags hperiod
  exact does_setD rfl hp hr rfl hb (by
    simp only [hword, schedOps_after, ge_iff_le, not_le.2 hroom, if_false, hfree, Nat.mul_div_cancel_left p four_pos, hadmitted, hbad,
      Bool.false_eq_true, Bool.not_false, if_true])

theorem does_sarm_reserves (hrec : recordOk flags period = true) : Does (.tSarm t) s (fun b => gReg b t d = BitVec.ofNat 32 e ∧
    (schedOf b e).owner = .reserved t ∧ (∀ k, k < 8 → schedWord b e k = (dataWord s.body t (p + k)).toNat) ∧
    (tileOf b t).act = some ((After a 1).push (.arm e))) := by
  have hword := localAddr_word (n := 32) haddr (by omega)
  have hadmitted := threadAdmitted hok hmay
  subst hthr hflags hperiod
  refine does_of_unpinned rfl hp ?_ fun _ h => h
  rw [tileRow_go (c := reserveEntry t d e p s.body) (a' := (After a 1).push (.arm e)) hr rfl hb (by
    simp only [hword, schedOps_after, ge_iff_le, not_le.2 hroom, if_false, hfree, Nat.mul_div_cancel_left p four_pos, hadmitted, hrec,
      Bool.false_eq_true, Bool.not_true]
    unfold reserveEntry recordBytes setD
    rfl)]
  obtain ⟨hg, hown, hwords⟩ := reserveEntry_shows (highestFree_lt hfree) t d p s.body
  simp only [gReg_setTile, schedOf_setTile, schedWord_setTile, tileOf_setTile_same]
  exact ⟨hg, hown, hwords, trivial⟩

end Row

/-- Settles O9: each instruction case by case, SARM along the order of its conditions (R142, R158). -/
theorem tileBufferFillsAndRefuses : Obligations.TileBufferFillsAndRefuses := by
  intro s t d x y n f p c a g wr sec hp ht
  refine ⟨fun hr hfield hb => does_cewr hp ht hr hfield hb, fun hr hb => does_emit hp ht hr hb, fun hr hb => does_tset hp ht hr hb,
    fun hr hb => does_scan hp ht hr hb, fun hr hb => ⟨does_sarm_outside hp ht hr hb, fun haddr hlt =>
      ⟨does_sarm_full hp hr hb haddr hlt ht, does_sarm_noneFree hp hr hb haddr hlt, ?_⟩⟩⟩
  intro e thr flags period hroom hfree hthr hflags hperiod
  exact ⟨does_sarm_threadRefused hp hr hb haddr hlt hroom hfree hthr, fun hok hmay =>
    ⟨does_sarm_recordRefused hp hr hb haddr hlt hroom hfree hthr hok hmay hflags hperiod,
      does_sarm_reserves hp hr hb haddr hlt hroom hfree hthr hok hmay hflags hperiod⟩⟩

end Sys2Proof.Machine
end
section
/-! SUPPORT. Scope: the commit of a buffer at HALT, operation by operation (R139), and the cycles that each instruction costs
(R137, R144). -/

namespace Sys2Proof.Machine

/-! ### Events into the crossbar -/

/-- The events of one emission, a thread each (R128). -/
def emitted (b : Body) (src port payload tag : Nat) : List Ev := (threadsFrom b src port).map fun k =>
  { payload := payload % 2 ^ 64, tag := tag % 256, thread := k, late := false, src := src, srcPort := port }

/-- Emission puts its events last into the crossbar; of the Loom nothing else moves. -/
theorem emitEv_loom (src port payload tag : Nat) (b : Body) :
    (emitEv src port payload tag b).loom = { b.loom with xbar := b.loom.xbar ++ emitted b src port payload tag } := by
  unfold emitEv
  dsimp only
  split
  · next hnone =>
    rw [show emitted b src port payload tag = [] from hnone, List.append_nil]
  · rfl

/-! ### A buffered operation takes effect -/

theorem ceSetField_stands (n field v : Nat) (b : Body) : Stands b (ceSetField n field v b) := by
  unfold ceSetField
  split
  · exact .put _ _ _ _ _
  · exact (setRuleCct_grown n _ b).1
  · exact .put _ _ _ _ _
  · exact .put _ _ _ _ _
  · exact .refl b

theorem ceWrite_stands (v n : Nat) (g : Bool) (field : Nat) (b : Body) : Stands b (ceWrite v n g field b) := by
  unfold ceWrite
  exact ((ceFirst_grown ceInputs b).1.trans (.each (fun m c => ceSetField_stands m field v c) _ _)).trans (ask_stands _ _ _ _)

theorem ceWrite_level {n : Nat} (hn : n < 512) (v : Nat) (b : Body) :
    (ceWrite v n false 0 b).get CE.LVL_TGT.RULE_LVL n = min v 65535 := by
  have hput : ∀ c : Body, (c.put CE.LVL_TGT.RULE_LVL (min v 65535) n).get CE.LVL_TGT.RULE_LVL n = min v 65535 := fun c => by
    rw [Body.get_put_same _ _ _ _ _ (by decide)]
    exact Nat.mod_eq_of_lt (show min v 65535 < 65536 by omega)
  exact (ask_get [n] .rule none _ perChan_lvl hn).trans (hput _)

/-- No commit starts or ends an activation. -/
theorem commitOp_act (t : Nat) (o : TileOp) (b : Body) : (tileOf (commitOp t o b) t).act = (tileOf b t).act := by
  cases o with
  | ceWrite v n g f => exact congrArg Tile.act (tileOf_of_loom (ceWrite_stands v n g f b).loom t)
  | emit payload port tag =>
    unfold commitOp
    dsimp only
    split
    · rfl
    · unfold tileOf
      rw [emitEv_loom]
  | arm e =>
    unfold commitOp
    dsimp only
    split <;> rfl
  | cancel e =>
    unfold commitOp
    dsimp only
    split <;> rfl
  | timer i ms =>
    unfold commitOp
    simp

theorem committed_act (s : Body) (t : Nat) (a : Act) : (tileOf (Committed s t a) t).act = none := by
  have hpass : ∀ b : Body, (tileOf b t).act = none → (tileOf (b.each a.buf fun b o => commitOp t o b) t).act = none :=
    fun b => Body.each_keeps (P := fun c => (tileOf c t).act = none) (fun o c hc => (commitOp_act t o c).trans hc) a.buf
  exact hpass _ (by simp)

/-! ### HALT -/

/-- HALT commits the buffer and clears CONSEC, and lets the host writes that wait take effect (R127, R139). -/
theorem tileHalt_commits (t : Nat) (a : Act) (b : Body) :
    tileHalt t a b = applyWrites t ((Committed b t a).put LOOM.TILE_STAT.CONSEC 0 t) := by
  unfold tileHalt Committed Body.each
  dsimp only

theorem applyWrites_none {t : Nat} {b : Body} (h : (tileOf b t).writes = []) :
    applyWrites t b = setTile b t { tileOf b t with writes := [] } := by
  unfold applyWrites
  rw [h]
  rfl

theorem tileHalt_shows {t : Nat} (ht : t < 64) (a : Act) (s : Body) :
    (tileOf (tileHalt t a s) t).act = none ∧ (tileHalt t a s).get LOOM.TILE_STAT.CONSEC t = 0 ∧
    (tileHalt t a s).loom.sched = (Committed s t a).loom.sched ∧ (tileHalt t a s).loom.xbar = (Committed s t a).loom.xbar ∧
    (tileOf (tileHalt t a s) t).timers = (tileOf (Committed s t a) t).timers ∧ (tileHalt t a s).ce = (Committed s t a).ce ∧
    ((tileOf (Committed s t a) t).writes = [] → RegsKept (· = LOOM.TILE_STAT.word.at t 0) (Committed s t a) (tileHalt t a s)) := by
  rw [tileHalt_commits]
  have hact := committed_act s t a
  generalize Committed s t a = c at hact ⊢
  have htile : tileOf (c.put LOOM.TILE_STAT.CONSEC 0 t) t = tileOf c t := tileOf_of_loom (Body.put_loom _ _ _ _ _) t
  obtain ⟨hact', htimers, hsched, hxbar, hce, hk⟩ := applyWrites_keeps t (c.put LOOM.TILE_STAT.CONSEC 0 t)
  rw [htile] at hact' htimers
  rw [Body.put_loom] at hsched hxbar
  rw [Body.put_ce] at hce
  have hconsec := (get_of_pages hk (f := LOOM.TILE_STAT.CONSEC) ht (by decide) rfl).trans (Body.get_put_same _ _ _ _ _ (by decide))
  refine ⟨hact'.trans hact, hconsec.trans (Nat.zero_mod _), hsched, hxbar, htimers, hce, fun hnone => ?_⟩
  rw [applyWrites_none (by rw [htile, hnone])]
  exact (RegsKept.put_at (f := LOOM.TILE_STAT.CONSEC) rfl c 0).trans (.of_regs rfl)

/-! ### Every instruction's command -/

/-- The command of an instruction is its row, at its cost (R144). -/
theorem exec_tileCommand (t : Nat) (i : TileInstr) : ∃ f run,
    (∀ s, exec (tileCommand t i) s = onBody (tileRow t (tileCost i) f) s) ∧ f i = some run := by
  cases i with
  | alu op d a b => cases op <;> exact ⟨_, _, fun _ => rfl, if_pos rfl⟩
  | alui op d a imm =>
    cases op
    case ld => exact ⟨_, _, fun _ => rfl, rfl⟩
    case st => exact ⟨_, _, fun _ => rfl, rfl⟩
    case sarm => exact ⟨_, _, fun _ => rfl, rfl⟩
    all_goals exact ⟨_, _, fun _ => rfl, if_pos rfl⟩
  | _ => exact ⟨_, _, fun _ => rfl, rfl⟩

theorem exec_tIllegal (t : Nat) (s : State) : exec (.tIllegal t) s = execTIllegal t s := rfl
theorem exec_tPcRange (t : Nat) (s : State) : exec (.tPcRange t) s = execTPcRange t s := rfl

/-- Settles O10: HALT is the commit (`tileHalt_shows`), each buffered operation is its step of it, and every fault is
`faulted_tileFault`. -/
theorem tileHaltsAndFaults : Obligations.TileHaltsAndFaults := by
  intro s t a hp ht
  have single : ∀ {o : TileOp}, a.buf = [o] → Committed s.body t a =
      commitOp t o (setTile s.body t { tileOf s.body t with act := none }) := fun h => by
    unfold Committed
    rw [h]
    rfl
  refine ⟨fun hr hb => ?_, fun n ms h => ?_, fun e h hown => ?_, fun e h hown => ?_, fun v p n h => ?_, fun v n h hn => ?_,
    fun i hr hover => ?_, fun hact hpc hword => ?_, fun hact hpc => ?_⟩
  · refine does_of_unpinned rfl hp ?_ fun _ h => h
    rw [tileRow_halt hr rfl hb rfl]
    exact tileHalt_shows ht (After a 1) s.body
  · rw [single h]
    unfold commitOp
    dsimp only
    rw [tileOf_setTile_same]
    refine (tabGet_tabSet_same _ _ _).trans ?_
    rw [show msCyc ms = 26000 * ms from Nat.mul_comm _ _]
    rfl
  · rw [single h]
    unfold commitOp
    dsimp only
    rw [schedOf_setTile, if_pos hown]
    exact congrArg SchedSt.owner (schedOf_setSched_same _ _ _)
  · rw [single h]
    unfold commitOp
    dsimp only
    rw [schedOf_setTile, if_pos hown]
    unfold armEntry
    rw [schedOf_setSched_same]
    exact ⟨rfl, rfl⟩
  · rw [single h]
    unfold commitOp
    dsimp only
    constructor
    · split
      · next hnone =>
        rw [Body.bump_loom, show threadsFrom s.body t p = [] from hnone]
        exact (List.append_nil _).symm
      · rw [emitEv_loom]
        rfl
    · intro hnone
      rw [if_pos (show threadsFrom (setTile s.body t _) t p = [] from hnone)]
      exact Body.get_bump_same _ _ _ _ (by decide)
  · rw [single h]
    exact ceWrite_level hn v _
  · obtain ⟨f, run, hexec, hf⟩ := exec_tileCommand t i
    exact does_overBudget (hexec s) hp ht hr hf hover
  · refine does_of_unpinned (exec_tIllegal t s) hp ?_ fun _ h => h
    simp only [hact, if_pos (And.intro hpc hword)]
    exact faulted_tileFault ht hact (by decide)
  · refine does_of_unpinned (exec_tPcRange t s) hp ?_ fun _ h => h
    simp only [hact, if_pos hpc]
    exact faulted_tileFault ht hact (by decide)

end Sys2Proof.Machine
end
section
/-! SUPPORT. Scope: an activation's start and the registers it loads (R135, R136). -/

namespace Sys2Proof.Machine

/-! ### General registers -/

@[simp] theorem gReg_setG_same (t g : Nat) (v : Word) (b : Body) : gReg (setG t g v b) t g = v := Body.word_setWord_same _ _ _

theorem gReg_setG_other {t g k : Nat} (h : k ≠ g) (v : Word) (b : Body) : gReg (setG t g v b) t k = gReg b t k :=
  Body.word_setWord_other _ _ (by simp only [Fld.at]; omega)

/-- The count of activations is no general register. -/
theorem gReg_counted {g : Nat} (t : Nat) (b : Body) : gReg (b.wrap LOOM.TILE_ACT.COUNT t) t g = gReg b t g :=
  Body.word_put_other _ _ _ _ _ (by simp only [Fld.at]; omega)

/-! ### The start of an activation -/

/-- The activation of tile `t` begins: its FIFO is `rest`, G0 to G2 are loaded, and it is counted. -/
def activationBegun (t : Nat) (rest : List FifoItem) (thread g0 g1 g2 : Nat) (b : Body) : Body :=
  (setG t 2 (BitVec.ofNat 32 g2) (setG t 1 (BitVec.ofNat 32 g1) (setG t 0 (BitVec.ofNat 32 g0)
    (setTile b t { tileOf b t with
      fifo := rest, act := some { pc := 0, spent := 0, thread := thread, buf := [], cap := none } })))).wrap LOOM.TILE_ACT.COUNT t

theorem tileOf_activationBegun (t : Nat) (rest : List FifoItem) (thread g0 g1 g2 : Nat) (b : Body) :
    tileOf (activationBegun t rest thread g0 g1 g2 b) t = { tileOf b t with
      fifo := rest, act := some { pc := 0, spent := 0, thread := thread, buf := [], cap := none } } :=
  (tileOf_of_loom (Body.wrap_loom _ _ _ _) t).trans (tileOf_setTile_same _ _ _)

theorem activationBegun_shows (t : Nat) (rest : List FifoItem) (thread g0 g1 g2 : Nat) (b : Body) {c : Body}
    (hc : c = activationBegun t rest thread g0 g1 g2 b) : (tileOf c t).fifo = rest ∧
    (tileOf c t).act = some { pc := 0, spent := 0, thread := thread, buf := [], cap := none } ∧
    gReg c t 0 = BitVec.ofNat 32 g0 ∧ gReg c t 1 = BitVec.ofNat 32 g1 ∧ gReg c t 2 = BitVec.ofNat 32 g2 ∧
    ∀ g, 3 ≤ g → g < 64 → gReg c t g = gReg b t g := by
  have htile := tileOf_activationBegun t rest thread g0 g1 g2 b
  subst hc
  refine ⟨by rw [htile], by rw [htile], ?_, ?_, ?_, fun g hg _ => ?_⟩ <;> rw [activationBegun, gReg_counted]
  · rw [gReg_setG_other (by decide), gReg_setG_other (by decide), gReg_setG_same]
  · rw [gReg_setG_other (by decide), gReg_setG_same]
  · rw [gReg_setG_same]
  · rw [gReg_setG_other (by omega), gReg_setG_other (by omega), gReg_setG_other (by omega), gReg_setTile]

section Starts

variable {t : Nat} {b : Body} {rest : List FifoItem} (hrun : loomRuns b = true) (hon : b.flag LOOM.TILE_CTL.ENABLE t = true)
  (hidle : (tileOf b t).act = none)
include hrun hon hidle

theorem activate_event {e : Ev} {port : Nat} (hfifo : (tileOf b t).fifo = .event e port :: rest) :
    activate t b = activationBegun t rest e.thread (e.payload % 2 ^ 32) (e.payload / 2 ^ 32)
      (e.tag % 256 + port % 16 * 2 ^ 8 + (if e.late then 2 ^ 15 else 0) + e.thread % 256 * 2 ^ 16) b := by
  unfold activate
  simp only [hrun, hon, hidle, hfifo]
  rfl

theorem activate_timer {n : Nat} (hfifo : (tileOf b t).fifo = .timer n :: rest) :
    activate t b = activationBegun t rest 0 0 0 (2 ^ 12 + n % 4 * 2 ^ 13) b := by
  unfold activate
  simp only [hrun, hon, hidle, hfifo]
  rfl

end Starts

/-- A tile that is disabled, runs an activation or has nothing waiting starts none. -/
theorem activate_idle {t : Nat} {b : Body}
    (h : b.flag LOOM.TILE_CTL.ENABLE t = false ∨ (tileOf b t).act.isSome = true ∨ (tileOf b t).fifo = []) : activate t b = b := by
  unfold activate
  dsimp only
  split
  · rfl
  · next hstart =>
    rw [Bool.or_eq_true, Bool.or_eq_true, not_or, not_or] at hstart
    obtain ⟨⟨-, hon⟩, hact⟩ := hstart
    rcases h with h | h | h
    · exact absurd (by rw [h]; rfl) hon
    · exact absurd h hact
    · rw [h]

theorem exec_tileActivation (t : Nat) (s : State) : exec (.tileActivation t) s = onBody (activate t) s := rfl

/-- Settles O11: either kind of item is loaded by `activationBegun`. -/
theorem activationLoadsItsEvent : Obligations.ActivationLoadsItsEvent := by
  intro s t hp _
  refine ⟨fun e port rest hrun hon hidle hfifo => ?_, fun n rest hrun hon hidle hfifo => ?_, fun h => ?_⟩
  · exact does_of_unpinned (exec_tileActivation t s) hp
      (activationBegun_shows _ _ _ _ _ _ _ (activate_event hrun hon hidle hfifo)) fun _ h => h
  · exact does_of_unpinned (exec_tileActivation t s) hp
      (activationBegun_shows _ _ _ _ _ _ _ (activate_timer hrun hon hidle hfifo)) fun _ h => h
  · refine does_of_unpinned (exec_tileActivation t s) hp ?_ fun _ h => h
    rw [activate_idle h]
    exact ⟨rfl, .refl _⟩

end Sys2Proof.Machine
end
section
/-! SUPPORT. Scope: which schedule entry is due first, and what becomes of it (R153 to R157, R161). -/

namespace Sys2Proof.Machine

/-! ### The first entry due -/

/-- Entry `e` goes before entry `f`: its occurrence is earlier, or they are equal and its index is lower (R157). -/
def Before (b : Body) (e f : Nat) : Prop :=
  (schedOf b e).next < (schedOf b f).next ∨ ((schedOf b e).next = (schedOf b f).next ∧ e < f)

theorem Before.trans {b : Body} {e f g : Nat} (h : Before b e f) (k : Before b f g) : Before b e g := by
  unfold Before at *
  omega

theorem Before.total {b : Body} {e f : Nat} (h : ¬ Before b e f) (hne : e ≠ f) : Before b f e := by
  unfold Before at *
  omega

/-- The search keeps the entry that goes before those it has seen. -/
def dueStep (b : Body) (r : Option Nat) (e : Nat) : Option Nat :=
  if entryDue b e then match r with
    | none => some e
    | some f => if (schedOf b e).next < (schedOf b f).next ∨ ((schedOf b e).next = (schedOf b f).next ∧ e < f) then some e else some f
  else r

theorem firstDue_eq (b : Body) : firstDue b = (b.loom.sched.map (·.1)).foldl (dueStep b) none := rfl

/-- Of the entry held and the one just met, the one kept is due and goes before the other. -/
theorem dueStep_keeps {b : Body} {r : Option Nat} (hr : ∀ e, r = some e → entryDue b e = true) (k : Nat) :
    (∀ e, dueStep b r k = some e → entryDue b e = true) ∧
    ∀ f, entryDue b f = true → f = k ∨ r = some f → ∃ e, dueStep b r k = some e ∧ (e = f ∨ Before b e f) := by
  unfold dueStep
  by_cases hk : entryDue b k = true
  · rw [if_pos hk]
    cases r with
    | none => exact ⟨fun e he => by cases he; exact hk, fun f _ hf => ⟨k, rfl, .inl (hf.resolve_right nofun).symm⟩⟩
    | some e₀ =>
      by_cases hbefore : Before b k e₀
      · simp only [if_pos (show _ ∨ _ from hbefore)]
        refine ⟨fun e he => by cases he; exact hk, fun f _ hf => ⟨k, rfl, ?_⟩⟩
        rcases hf with rfl | hf
        · exact .inl rfl
        · cases hf
          exact .inr hbefore
      · simp only [if_neg (show ¬ (_ ∨ _) from hbefore)]
        refine ⟨fun e he => by cases he; exact hr _ rfl, fun f _ hf => ⟨e₀, rfl, ?_⟩⟩
        rcases hf with rfl | hf
        · exact or_iff_not_imp_left.2 fun hne => Before.total hbefore fun h => hne h.symm
        · cases hf
          exact .inl rfl
  · rw [if_neg hk]
    refine ⟨hr, fun f hdue hf => ⟨f, hf.resolve_left ?_, .inl rfl⟩⟩
    rintro rfl
    exact hk hdue

theorem foldl_dueStep {b : Body} (l : List Nat) {r : Option Nat} (hr : ∀ e, r = some e → entryDue b e = true) {e : Nat}
    (he : l.foldl (dueStep b) r = some e) : entryDue b e = true ∧
    ∀ f, entryDue b f = true → f ∈ l ∨ r = some f → e = f ∨ Before b e f := by
  induction l generalizing r with
  | nil =>
    refine ⟨hr e he, fun f _ hf => .inl ?_⟩
    exact Option.some_injective _ ((show r = some e from he).symm.trans (hf.resolve_left nofun))
  | cons k l ih =>
    obtain ⟨hdue, hkeeps⟩ := dueStep_keeps hr k
    obtain ⟨hfirst, hbest⟩ := ih hdue he
    refine ⟨hfirst, fun f hf hmem => ?_⟩
    by_cases hl : f ∈ l
    · exact hbest f hf (.inl hl)
    · obtain ⟨g, hg, hgf⟩ := hkeeps f hf (hmem.imp_left fun h => (List.mem_cons.1 h).resolve_right hl)
      rcases hbest g (hdue g hg) (.inr hg) with rfl | hbefore
      · exact hgf
      · rcases hgf with rfl | hgf
        · exact .inr hbefore
        · exact .inr (hbefore.trans hgf)

/-- A key that a table does not list reads its default. -/
theorem tabGet_absent {α : Type} (d : Nat → α) {l : List (Nat × α)} {k : Nat} (h : k ∉ l.map (·.1)) : tabGet d l k = d k := by
  induction l with
  | nil => rfl
  | cons p l ih =>
    rw [List.map_cons, List.mem_cons, not_or] at h
    exact (if_neg (Ne.symm h.1)).trans (ih h.2)

/-- An entry that is due is listed: an entry not listed is free. -/
theorem listed_of_due {b : Body} {e : Nat} (h : entryDue b e = true) : e ∈ b.loom.sched.map (·.1) := by
  by_contra hnot
  have hfree : schedOf b e = SchedSt.free := tabGet_absent _ hnot
  rw [entryDue, hfree] at h
  cases h

theorem firstDue_first {b : Body} {e : Nat} (h : firstDue b = some e) : entryDue b e = true ∧
    ∀ f, f ≠ e → entryDue b f = true → Before b e f := by
  obtain ⟨hdue, hbest⟩ := foldl_dueStep _ (r := none) nofun (firstDue_eq b ▸ h)
  exact ⟨hdue, fun f hne hf => (hbest f hf (.inl (listed_of_due hf))).resolve_left fun heq => hne heq.symm⟩

/-! ### Firing -/

theorem fireDue_idle {b : Body} (h : firstDue b = none ∨ inHem b = true ∨ runsRules b = false) : fireDue b = b := by
  unfold fireDue
  cases hdue : firstDue b with
  | none => rfl
  | some e =>
    have hoff : (inHem b || !runsRules b) = true := by
      rcases h with h | h | h
      · rw [h] at hdue
        cases hdue
      · simp [h]
      · simp [h]
    exact if_pos hoff

/-- The event of entry `e`, LATE when more than 1 ms behind its occurrence (R154). -/
def dueEvent (b : Body) (e : Nat) : Ev :=
  { payload := schedPayload b e, tag := schedTag b e, thread := schedThread b e,
    late := decide (airTime b - (schedOf b e).next ≥ 66), src := 0x45, srcPort := 0 }

/-- It enters the crossbar, and a late one is counted. -/
def eventFired (e : Nat) (b : Body) : Body :=
  let c := { ungate b with loom := { b.loom with xbar := b.loom.xbar ++ [dueEvent b e] } }
  if (dueEvent b e).late then c.bump LOOM.SCHED_STAT.LATE else c

theorem eventFired_loom (e : Nat) (b : Body) :
    (eventFired e b).loom = { b.loom with xbar := b.loom.xbar ++ [dueEvent b e] } := by
  unfold eventFired
  dsimp only
  split
  · exact Body.bump_loom _ _ _ _ _
  · rfl

/-- The schedule window lies above the registers that firing writes. -/
theorem schedWord_eventFired (e : Nat) (b : Body) (i k : Nat) : schedWord (eventFired e b) i k = schedWord b i k := by
  have hgate : schedWord (ungate b) i k = schedWord b i k := (ungate_kept b).get (by simp only [Fld.at]; omega)
  unfold eventFired
  dsimp only
  split
  · refine Eq.trans ?_ hgate
    exact Body.get_put_other _ _ _ _ _ _ _ _ (by simp only [Fld.at]; omega)
  · exact hgate

/-- What an entry that has fired becomes (R156). -/
def firedNext (b : Body) (e : Nat) : Nat :=
  (schedOf b e).next + ((airTime b - (schedOf b e).next) / (schedPeriod b e * 65536) + 1) * (schedPeriod b e * 65536)

section Fire

variable {b : Body} {e : Nat} (hdue : firstDue b = some e) (hhem : inHem b = false) (hruns : runsRules b = true)
include hdue hhem hruns

theorem fireDue_expired (hexp : schedExpiry b e ≠ 0 ∧ schedExpiry b e ≤ airTime b) : fireDue b =
    blockRecord 6 e (schedThread b e) ((freeEntry e (ungate b)).bump LOOM.SCHED_STAT.EXPIRED) := by
  unfold fireDue
  rw [hdue]
  dsimp only
  rw [if_neg (by simp [hhem, hruns]), if_pos hexp]

theorem fireDue_sends (hexp : ¬ (schedExpiry b e ≠ 0 ∧ schedExpiry b e ≤ airTime b)) : fireDue b =
    let c := eventFired e b
    let next := (schedOf b e).next +
      ((airTime b - (schedOf b e).next) / (schedPeriod c e * 65536) + 1) * (schedPeriod c e * 65536)
    if schedFlags c e / 2 % 2 = 0 then freeEntry e c
    else if schedExpiry b e ≠ 0 ∧ schedExpiry b e ≤ next then freeEntry e c
    else setSched c e { schedOf c e with next := next } := by
  unfold fireDue
  rw [hdue]
  dsimp only
  rw [if_neg (by simp [hhem, hruns]), if_neg hexp]
  rfl

theorem fireDue_fires (hexp : ¬ (schedExpiry b e ≠ 0 ∧ schedExpiry b e ≤ airTime b)) : fireDue b =
    if schedFlags b e / 2 % 2 = 0 then freeEntry e (eventFired e b)
    else if schedExpiry b e ≠ 0 ∧ schedExpiry b e ≤ firedNext b e then freeEntry e (eventFired e b)
    else setSched (eventFired e b) e { schedOf b e with next := firedNext b e } := by
  have hflags : schedFlags (eventFired e b) e = schedFlags b e := by
    unfold schedFlags
    rw [schedWord_eventFired]
  have hperiod : schedPeriod (eventFired e b) e = schedPeriod b e := schedWord_eventFired e b e 5
  have hentry : schedOf (eventFired e b) e = schedOf b e := by
    unfold schedOf
    rw [eventFired_loom]
  rw [fireDue_sends hdue hhem hruns hexp]
  dsimp only
  rw [hflags, hperiod, hentry]
  rfl

end Fire

/-- The occurrence a REPEAT entry takes is the one occurrence within a period after the present. -/
theorem firedNext_unique {occ now period n : Nat} (hocc : occ ≤ now) (hlow : now < n) (hhigh : n ≤ now + period)
    (hmod : n % period = occ % period) : occ + ((now - occ) / period + 1) * period = n := by
  have hpos : 0 < period := by omega
  have hdiv := Nat.div_add_mod (now - occ) period
  have hrest := Nat.mod_lt (now - occ) hpos
  have hsum : ((now - occ) / period + 1) * period = period * ((now - occ) / period) + period := by ring
  refine Nat.ModEq.eq_of_abs_lt (m := period) ?_ (by rw [abs_lt]; omega)
  exact (Nat.add_mul_mod_self_right _ _ _).trans hmod.symm

theorem exec_scheduleFire (s : State) : exec .scheduleFire s = onBody fireDue s := rfl

/-- An entry that expires is freed and counted, and nothing enters the crossbar. -/
theorem expiredEntry_shows (block a0 a1 e : Nat) (b : Body) {c : Body}
    (hc : c = blockRecord block a0 a1 ((freeEntry e (ungate b)).bump LOOM.SCHED_STAT.EXPIRED)) :
    (schedOf c e).owner = .free ∧ c.loom.xbar = b.loom.xbar ∧
    c.get LOOM.SCHED_STAT.EXPIRED = min (b.get LOOM.SCHED_STAT.EXPIRED + 1) 0xFFFF := by
  have hloom : c.loom = (freeEntry e (ungate b)).loom := by
    rw [hc]
    exact (record_stands _ _ _ _).loom.trans (Body.bump_loom _ _ _ _ _)
  refine ⟨?_, by rw [hloom]; rfl, ?_⟩
  · rw [schedOf, hloom]
    exact congrArg SchedSt.owner (schedOf_setSched_same (ungate b) e SchedSt.free)
  · have hgate : (ungate b).get LOOM.SCHED_STAT.EXPIRED = b.get LOOM.SCHED_STAT.EXPIRED := (ungate_kept b).get (by decide)
    rw [hc, blockRecord, (record_frame _ _ _ _).get (by decide), Body.get_bump_same _ _ _ _ (by decide)]
    exact congrArg (fun n => min (n + 1) 0xFFFF) hgate

/-- What the event sent and the entry's next state are. -/
theorem firedEntry_shows {b : Body} {e : Nat} (hdue : entryDue b e = true) {c : Body}
    (hc : c = if schedFlags b e / 2 % 2 = 0 then freeEntry e (eventFired e b)
      else if schedExpiry b e ≠ 0 ∧ schedExpiry b e ≤ firedNext b e then freeEntry e (eventFired e b)
      else setSched (eventFired e b) e { schedOf b e with next := firedNext b e }) :
    c.loom.xbar = b.loom.xbar ++ [dueEvent b e] ∧ (schedFlags b e / 2 % 2 = 0 → (schedOf c e).owner = .free) ∧
    (schedFlags b e / 2 % 2 = 1 → 0 < schedPeriod b e → ∀ n, airTime b < n → n ≤ airTime b + schedPeriod b e * 65536 →
      n % (schedPeriod b e * 65536) = (schedOf b e).next % (schedPeriod b e * 65536) →
      (schedExpiry b e = 0 ∨ n < schedExpiry b e → (schedOf c e).next = n ∧ (schedOf c e).owner = (schedOf b e).owner) ∧
      (schedExpiry b e ≠ 0 → schedExpiry b e ≤ n → (schedOf c e).owner = .free)) := by
  have hxbar : (eventFired e b).loom.xbar = b.loom.xbar ++ [dueEvent b e] := by rw [eventFired_loom]
  have hset : ∀ x, (setSched (eventFired e b) e x).loom.xbar = b.loom.xbar ++ [dueEvent b e] := fun _ => hxbar
  have hfree : (schedOf (freeEntry e (eventFired e b)) e).owner = .free :=
    congrArg SchedSt.owner (schedOf_setSched_same (eventFired e b) e SchedSt.free)
  have hocc : (schedOf b e).next ≤ airTime b := by
    rw [entryDue, Bool.and_eq_true, Bool.and_eq_true, decide_eq_true_eq] at hdue
    exact hdue.1.2
  by_cases hshot : schedFlags b e / 2 % 2 = 0
  · rw [if_pos hshot] at hc
    rw [hc]
    exact ⟨hset _, fun _ => hfree, fun h => absurd (hshot.symm.trans h) (by decide)⟩
  · rw [if_neg hshot] at hc
    refine ⟨?_, fun h => absurd h hshot, fun _ _ n hlow hhigh hmod => ?_⟩
    · rw [hc]
      split
      · exact hset _
      · exact hset _
    · have hnext : firedNext b e = n := firedNext_unique hocc hlow hhigh hmod
      rw [hnext] at hc
      constructor
      · intro hlive
        rw [if_neg (by omega)] at hc
        rw [hc, schedOf_setSched_same]
        exact ⟨rfl, rfl⟩
      · intro hexp hle
        rw [hc, if_pos ⟨hexp, hle⟩]
        exact hfree

/-- Settles O13: the first entry due is `firstDue_first`; it expires (`fireDue_expired`) or fires (`fireDue_fires`). -/
theorem scheduleEntriesFireOnce : Obligations.ScheduleEntriesFireOnce := by
  intro s hp
  refine ⟨fun h => ?_, fun e h => firstDue_first h, fun e hdue hhem hruns => ⟨fun hne hle => ?_, fun hexp => ?_⟩⟩
  · refine does_of_unpinned (exec_scheduleFire s) hp ?_ fun _ h => h
    rw [fireDue_idle h]
    exact ⟨rfl, .refl _⟩
  · exact does_of_unpinned (exec_scheduleFire s) hp
      (expiredEntry_shows _ _ _ e s.body (fireDue_expired hdue hhem hruns ⟨hne, hle⟩)) fun _ h => h
  · obtain ⟨hxbar, hentry⟩ := firedEntry_shows (firstDue_first hdue).1 (fireDue_fires hdue hhem hruns hexp)
    exact does_of_unpinned (exec_scheduleFire s) hp ⟨⟨dueEvent s.body e, hxbar, rfl, rfl, rfl, rfl⟩, hentry⟩ fun _ h => h

end Sys2Proof.Machine
end
section
/-! SUPPORT. Scope: what the host does to the schedule table and to a tile (R126, R127, R145, R158, R159). -/

namespace Sys2Proof.Machine

/-! ### The schedule commands -/

theorem schedOf_put (b : Body) (f : Fld) (v i j e : Nat) : schedOf (b.put f v i j) e = schedOf b e :=
  schedOf_of_loom (Body.put_loom _ _ _ _ _) e

@[simp] theorem schedOf_ungate (b : Body) (e : Nat) : schedOf (ungate b) e = schedOf b e := schedOf_of_loom (Body.put_loom _ _ _ _ _) e

/-- Clocking the gated domain leaves the schedule window. -/
@[simp] theorem schedWord_ungate (b : Body) (e k : Nat) : schedWord (ungate b) e k = schedWord b e k :=
  (ungate_kept b).get (by simp only [Fld.at]; omega)

theorem ungate_loom (b : Body) : (ungate b).loom = b.loom := Body.put_loom _ _ _ _ _

theorem schedThreadOk_ungate (b : Body) (k : Nat) : schedThreadOk (ungate b) k = schedThreadOk b k := rfl

theorem result_put (v : Nat) (hv : v < 4) (b : Body) : (b.put LOOM.SCHED_RES.RESULT v).get LOOM.SCHED_RES.RESULT = v :=
  (Body.get_put_same _ _ _ _ _ (by decide)).trans (Nat.mod_eq_of_lt hv)

/-- A command that only answers: the Loom stands. -/
theorem answer_shows {b c : Body} {v : Nat} (hv : v < 4) (hc : c = (ungate b).put LOOM.SCHED_RES.RESULT v) :
    c.loom = b.loom ∧ c.get LOOM.SCHED_RES.RESULT = v := by
  subst hc
  exact ⟨(Body.put_loom _ _ _ _ _).trans (ungate_loom b), result_put v hv _⟩

/-- A command that changes its entry and answers 0. -/
theorem entrySet_shows {b c : Body} {e : Nat} {x : SchedSt} (hc : c = (setSched (ungate b) e x).put LOOM.SCHED_RES.RESULT 0) :
    schedOf c e = x ∧ c.get LOOM.SCHED_RES.RESULT = 0 := by
  subst hc
  exact ⟨(schedOf_put _ _ _ _ _ _).trans (schedOf_setSched_same _ _ _), result_put 0 (by decide) _⟩

section Arm

variable {b : Body} {e : Nat}

theorem schedArmCmd_taken (h : (schedOf b e).owner ≠ .free) : schedArmCmd e (ungate b) = (ungate b).put LOOM.SCHED_RES.RESULT 1 :=
  if_pos (by rwa [schedOf_ungate])

variable (hfree : (schedOf b e).owner = .free)
include hfree

theorem schedArmCmd_bad (h : recordOk (schedFlags b e) (schedPeriod b e) = false) :
    schedArmCmd e (ungate b) = (ungate b).put LOOM.SCHED_RES.RESULT 2 := by
  unfold schedArmCmd
  rw [if_neg (by simp [hfree]), if_pos]
  simpa [schedFlags, schedPeriod] using .inl h

theorem schedArmCmd_arms (hrec : recordOk (schedFlags b e) (schedPeriod b e) = true)
    (hthread : schedThreadOk b (schedThread b e) = true) : schedArmCmd e (ungate b) =
    (setSched (ungate b) e { owner := .host, next := schedAction b e }).put LOOM.SCHED_RES.RESULT 0 := by
  unfold schedArmCmd
  rw [if_neg (by simp [hfree]), if_neg]
  · simp only [armEntry, schedAction, schedWord_ungate]
  · simp only [schedFlags, schedPeriod, schedThread] at hrec hthread
    simp [schedFlags, schedPeriod, schedThread, schedThreadOk_ungate, hrec, hthread]

end Arm

theorem schedCancelCmd_armed {b : Body} {e : Nat} (h : (schedOf b e).owner.armed = true) :
    schedCancelCmd e (ungate b) = (setSched (ungate b) e SchedSt.free).put LOOM.SCHED_RES.RESULT 0 :=
  if_pos (by rwa [schedOf_ungate])

theorem schedCancelCmd_other {b : Body} {e : Nat} (h : (schedOf b e).owner.armed = false) :
    schedCancelCmd e (ungate b) = (ungate b).put LOOM.SCHED_RES.RESULT 3 :=
  if_neg (by rw [schedOf_ungate, h]; decide)

/-! ### Enabling a tile and writing its code -/

/-- Clocking the gated domain leaves the page of a tile. -/
theorem get_ungate_of_ne {f : Fld} {i j : Nat} (h : f.at i j ≠ SYS.CLK_STAT.word.addr) (b : Body) :
    (ungate b).get f i j = b.get f i j := (ungate_kept b).get h

theorem tileEnable_on (t : Nat) (b : Body) {c : Body} (hc : c = tileEnable t true (ungate b)) :
    c.flag LOOM.TILE_CTL.ENABLE t = true ∧ c.get LOOM.TILE_STAT.CONSEC t = 0 := by
  subst hc
  refine ⟨?_, Body.get_put_same _ _ _ _ _ (by decide)⟩
  refine (Body.flag_of_get (Body.get_put_other _ _ _ _ _ _ _ _ (by simp only [Fld.at]; omega))).trans ?_
  exact Body.flag_mark_same _ _ _ _ _ rfl (by decide)

theorem tileEnable_off (t : Nat) (b : Body) {c : Body} (hc : c = tileEnable t false (ungate b)) :
    c.flag LOOM.TILE_CTL.ENABLE t = false ∧ c.get LOOM.TILE_STAT.CONSEC t = b.get LOOM.TILE_STAT.CONSEC t := by
  subst hc
  refine ⟨Body.flag_mark_same _ _ _ _ _ rfl (by decide), ?_⟩
  refine (Body.get_put_other _ _ _ _ _ _ _ _ (by simp only [Fld.at]; omega)).trans ?_
  exact get_ungate_of_ne (by simp only [Fld.at]; omega) b

theorem enable_ungate (t : Nat) (b : Body) : (ungate b).flag LOOM.TILE_CTL.ENABLE t = b.flag LOOM.TILE_CTL.ENABLE t :=
  Body.flag_of_get (get_ungate_of_ne (by simp only [Fld.at]; omega) b)

theorem codeWord_eq_get (b : Body) (t w : Nat) : codeWord b t w = b.get LOOM.CODE.WORD t w := by
  have hlt := (b.word (LOOM.CODE.WORD.at t w)).isLt
  simpa [codeWord, Body.get] using (Nat.mod_eq_of_lt hlt).symm

theorem tileCodeWrite_stores {t w v : Nat} {b : Body} (ht : t < 64) (hw : w < 1024) (hv : v < 2 ^ 32)
    (hoff : b.flag LOOM.TILE_CTL.ENABLE t = false) {c : Body} (hc : c = tileCodeWrite t w v (ungate b)) :
    codeWord c t w = v ∧ codeWords c t = max (codeWords b t) (w + 1) ∧
    RegsKept (fun a => a = LOOM.CODE.word.at t w ∨ a = LOOM.TILE_CTL.word.at t 0 ∨ a = SYS.CLK_STAT.word.addr) b c := by
  rw [tileCodeWrite, enable_ungate, if_neg (by rw [hoff]; decide), get_ungate_of_ne (by simp only [Fld.at]; omega)] at hc
  subst hc
  refine ⟨?_, ?_, ?_⟩
  · rw [codeWord_eq_get, Body.get_put_other _ _ _ _ _ _ _ _ (by simp only [Fld.at]; omega), Body.get_put_same _ _ _ _ _ (by decide)]
    exact Nat.mod_eq_of_lt hv
  · refine (Body.get_put_same _ _ _ _ _ (by decide)).trans (Nat.mod_eq_of_lt ?_)
    have hwords : b.get LOOM.TILE_CTL.CODE_WORDS t < 2 ^ 11 := Nat.mod_lt _ (by decide)
    exact max_lt hwords (lt_of_le_of_lt hw (by decide))
  · exact ((ungate_kept b).mono fun a h => .inr (.inr h)).trans ((RegsKept.put (.inl rfl) _ _).trans (RegsKept.put (.inr (.inl rfl)) _ _))

theorem tileCodeWrite_refused {t w v : Nat} {b : Body} (hon : b.flag LOOM.TILE_CTL.ENABLE t = true) {c : Body}
    (hc : c = tileCodeWrite t w v (ungate b)) : c.flag LOOM.TILE_STAT.WR_REJ t = true ∧
    RegsKept (fun a => a = LOOM.TILE_STAT.word.at t 0 ∨ a = SYS.CLK_STAT.word.addr) b c := by
  rw [tileCodeWrite, enable_ungate, if_pos hon] at hc
  subst hc
  exact ⟨Body.flag_mark_same _ _ _ _ _ rfl (by decide),
    ((ungate_kept b).mono fun a h => .inr h).trans (RegsKept.put (f := LOOM.TILE_STAT.WR_REJ) (.inl rfl) _ _)⟩

/-! ### The reset of a tile -/

/-- Of the rows of the Loom only that of LOOM.STAT, a single register, resets to another value than 0. -/
theorem loomRows_reset : ∀ r ∈ loomRows0 ++ loomRows1,
    r.fields.foldl (fun n f => n + f.reset * 2 ^ f.lo) 0 = 0 ∨ (r.off = 4 ∧ r.n1 = 1) := by decide

theorem resetSpecial_outside : ∀ a ∈ resetSpecial.map (·.1), a < 0x40600000 ∨ 0x40700000 ≤ a := by decide

/-- The pages and memories of the tiles reset to 0 (R12). -/
theorem resetWord_tile {a : Nat} (hlo : 0x40640000 ≤ a) (hhi : a < 0x40700000) : resetWord a = 0 := by
  have hspecial : tabGet (fun _ => 0) resetSpecial a = 0 := tabGet_absent _ fun h => by
    have := resetSpecial_outside a h
    omega
  have hblock : blockRows ((a - 0x40000000) / 0x100000) = loomRows0 ++ loomRows1 := by
    rw [show (a - 0x40000000) / 0x100000 = 6 by omega]
    rfl
  unfold resetWord
  rw [hspecial, if_neg (by omega)]
  cases hrow : rowAt a with
  | none => rfl
  | some r =>
    rw [rowAt, hblock] at hrow
    split at hrow
    · cases hrow
    · rcases loomRows_reset r (List.mem_of_find?_eq_some hrow) with h | ⟨hoff, hone⟩
      · dsimp only
        rw [h]
      · have hcovers := List.find?_some hrow
        simp only [RegRow.covers, hoff, hone, if_true] at hcovers
        split at hcovers
        · cases hcovers
        · rw [decide_eq_true_eq] at hcovers
          omega

/-- The registers and local data of tile `t`. -/
def TileCleared (t a : Nat) : Prop :=
  (LOOM.TILE_G.word.at t 0 ≤ a ∧ a < LOOM.TILE_G.word.at t 64) ∨ (LOOM.DATA.word.at t 0 ≤ a ∧ a < LOOM.DATA.word.at t 1024)

/-- Freeing the entries that a tile armed changes the schedule table alone. -/
theorem freeTileEntries_shows (t : Nat) (l : List Nat) (b : Body) :
    ∃ x, (b.each l fun b e => if (schedOf b e).owner = .tile t then freeEntry e b else b) =
      { b with loom := { b.loom with sched := x } } := by
  refine Body.each_keeps (P := fun c => ∃ x, c = { b with loom := { b.loom with sched := x } }) ?_ l ⟨_, rfl⟩
  rintro e c ⟨x, rfl⟩
  dsimp only
  split
  · exact ⟨_, rfl⟩
  · exact ⟨_, rfl⟩

/-- The clear leaves a tile with nothing waiting and no timer, and with no entry among its registers and local data. -/
theorem clearTile_shows (t : Nat) (b : Body) : ∃ l : List (Nat × Word), (clearTile t b).regs = l ∧
    (∀ a ∈ l.map (·.1), ¬ TileCleared t a) ∧ (tileOf (clearTile t b) t).fifo = [] ∧ (tileOf (clearTile t b) t).timers = [] := by
  unfold clearTile
  dsimp only
  generalize hcleared : setTile _ _ _ = c
  obtain ⟨x, hx⟩ := freeTileEntries_shows t (c.loom.sched.map (·.1)) c
  have htile : tileOf (c.each (c.loom.sched.map (·.1)) fun b e => if (schedOf b e).owner = .tile t then freeEntry e b else b) t =
      tileOf c t := by
    rw [hx]
    rfl
  refine ⟨_, rfl, fun a ha => ?_, ?_, ?_⟩
  · rw [hx, ← hcleared] at ha
    obtain ⟨p, hp, rfl⟩ := List.mem_map.1 ha
    have hout := (List.mem_filter.1 hp).2
    simpa [TileCleared, imp_iff_not_or] using hout
  · rw [htile, ← hcleared, tileOf_setTile_same]
  · rw [htile, ← hcleared, tileOf_setTile_same]

theorem clearTile_word {t a : Nat} (ht : t < 64) (ha : TileCleared t a) (b : Body) : (clearTile t b).word a = 0 := by
  obtain ⟨l, hregs, hout, -⟩ := clearTile_shows t b
  have hreset : resetWord a = 0 := by
    unfold TileCleared at ha
    simp only [Fld.at] at ha
    exact resetWord_tile (by omega) (by omega)
  rw [Body.word, hregs, tabGet_absent _ fun h => hout a h ha, hreset]
  rfl

theorem tileReset_clears {t : Nat} {b : Body} (ht : t < 64) (hoff : b.flag LOOM.TILE_CTL.ENABLE t = false) {c : Body}
    (hc : c = tileReset t (ungate b)) : (tileOf c t).fifo = [] ∧ (tileOf c t).timers = [] ∧
    (∀ g, g < 64 → gReg c t g = 0) ∧ (∀ k, k < 1024 → dataWord c t k = 0) := by
  rw [tileReset, enable_ungate, if_neg (by rw [hoff]; decide)] at hc
  subst hc
  obtain ⟨-, -, -, hfifo, htimers⟩ := clearTile_shows t (ungate b)
  refine ⟨hfifo, htimers, fun g hg => clearTile_word ht (.inl ?_) _, fun k hk => clearTile_word ht (.inr ?_) _⟩
  · simp only [Fld.at]
    omega
  · simp only [Fld.at]
    omega

theorem tileReset_refused {t : Nat} {b : Body} (hon : b.flag LOOM.TILE_CTL.ENABLE t = true) : tileReset t (ungate b) = ungate b :=
  if_pos ((enable_ungate t b).trans hon)

/-! ### The commands -/

theorem exec_schedArm {e : Nat} (he : e < 1024) (s : State) : exec (.schedArm e) s = onBody (coreAccess (schedArmCmd e)) s := by
  rw [show exec (.schedArm e) s = onBody (coreAccess (schedArmCmd (e % 1024))) s from rfl, Nat.mod_eq_of_lt he]

theorem exec_schedCancel {e : Nat} (he : e < 1024) (s : State) : exec (.schedCancel e) s = onBody (coreAccess (schedCancelCmd e)) s := by
  rw [show exec (.schedCancel e) s = onBody (coreAccess (schedCancelCmd (e % 1024))) s from rfl, Nat.mod_eq_of_lt he]

theorem exec_tileEnable {t : Nat} (ht : t < 64) (v : Bool) (s : State) :
    exec (.tileEnable t v) s = onBody (coreAccess (tileEnable t v)) s := by
  rw [show exec (.tileEnable t v) s = onBody (coreAccess (tileEnable (t % 64) v)) s from rfl, Nat.mod_eq_of_lt ht]

theorem exec_tileCodeWrite {t w : Nat} (ht : t < 64) (hw : w < 1024) (v : Nat) (s : State) :
    exec (.tileCodeWrite t w v) s = onBody (coreAccess (tileCodeWrite t w v)) s := by
  rw [show exec (.tileCodeWrite t w v) s = onBody (coreAccess (tileCodeWrite (t % 64) (w % 1024) v)) s from rfl,
    Nat.mod_eq_of_lt ht, Nat.mod_eq_of_lt hw]

theorem exec_tileReset {t : Nat} (ht : t < 64) (s : State) : exec (.tileReset t) s = onBody (coreAccess (tileReset t)) s := by
  rw [show exec (.tileReset t) s = onBody (coreAccess (tileReset (t % 64))) s from rfl, Nat.mod_eq_of_lt ht]

/-- Settles O14: each command is its own lemma above, on the state with the gated domain clocked. -/
theorem hostArmsAndTileControl : Obligations.HostArmsAndTileControl := by
  intro s e t w v hp he ht hw hv
  have harm := exec_schedArm he s
  have hcancel := exec_schedCancel he s
  have hcode := exec_tileCodeWrite ht hw v s
  have hreset := exec_tileReset ht s
  refine ⟨fun hfree hrec hthread => ?_, fun h => ?_, fun hfree hbad => ?_, fun h => ?_, fun h => ?_, ?_, ?_,
    fun hoff => ?_, fun hon => ?_, fun hoff => ?_, fun hon => ?_⟩
  · obtain ⟨hentry, hresult⟩ := entrySet_shows (schedArmCmd_arms hfree hrec hthread)
    exact does_of_unpinned harm hp ⟨congrArg SchedSt.owner hentry, congrArg SchedSt.next hentry, hresult⟩ fun _ h => h
  · exact does_of_unpinned harm hp (answer_shows (by decide) (schedArmCmd_taken h)) fun _ h => h
  · exact does_of_unpinned harm hp (answer_shows (by decide) (schedArmCmd_bad hfree hbad)) fun _ h => h
  · obtain ⟨hentry, hresult⟩ := entrySet_shows (schedCancelCmd_armed h)
    exact does_of_unpinned hcancel hp ⟨congrArg SchedSt.owner hentry, hresult⟩ fun _ h => h
  · exact does_of_unpinned hcancel hp (answer_shows (by decide) (schedCancelCmd_other h)) fun _ h => h
  · exact does_of_unpinned (exec_tileEnable ht true s) hp (tileEnable_on t s.body rfl) fun _ h => h
  · exact does_of_unpinned (exec_tileEnable ht false s) hp (tileEnable_off t s.body rfl) fun _ h => h
  · exact does_of_unpinned hcode hp (tileCodeWrite_stores ht hw hv hoff rfl) fun _ h => h
  · exact does_of_unpinned hcode hp (tileCodeWrite_refused hon rfl) fun _ h => h
  · exact does_of_unpinned hreset hp (tileReset_clears ht hoff rfl) fun _ h => h
  · refine does_of_unpinned hreset hp ?_ fun _ h => h
    rw [coreAccess, tileReset_refused hon]
    exact ⟨ungate_loom _, ungate_kept _⟩

end Sys2Proof.Machine
end
section
/-! SUPPORT. Scope: an event out of the crossbar and a timer that runs out (R115, R130 to R134, R143, R151, R566). -/

namespace Sys2Proof.Machine

/-- The oldest event has left the crossbar. -/
def popped (rest : List Ev) (b : Body) : Body := { b with loom := { b.loom with xbar := rest } }

theorem popped_kept (p : Nat → Prop) (rest : List Ev) (b : Body) : RegsKept p b (popped rest b) := .of_regs rfl

section Delivery

variable {b : Body} {e : Ev} {rest : List Ev} (hxbar : b.loom.xbar = e :: rest)
include hxbar

theorem deliverNext_held (h : b.flag LOOM.STAT.HELD = true) : deliverNext b = b := by
  unfold deliverNext
  rw [hxbar]
  exact if_pos h

theorem deliverNext_single (h : b.flag LOOM.STAT.HELD = false) {d : Nat × Nat} (hd : threadDests b e.thread = [d]) :
    deliverNext b = deliverTo e d (popped rest b) := by
  unfold deliverNext
  rw [hxbar]
  dsimp only
  rw [if_neg (by rw [h]; decide), hd]
  rfl

end Delivery

/-! ### One destination (R130 to R134): the source is an engine, so no world drop -/

section Destination

variable {e : Ev} (hsrc : 64 ≤ e.src)
include hsrc

theorem deliverTo_tile {t : Nat} (ht : t < 64) (port : Nat) (b : Body) : deliverTo e (t, port) b =
    if inHem b || !runsRules b then b else if !b.flag LOOM.TILE_CTL.ENABLE t then b.bump LOOM.TILE_DROP.INGRESS 1 t
    else tileIngress t port e b := by
  unfold deliverTo
  rw [if_neg (by omega), if_pos ht]

theorem deliverTo_ce (port : Nat) (b : Body) : deliverTo e (0x40, port) b =
    { sliceYield 1 b with ce := { b.ce with inbox := b.ce.inbox ++ [(port, e)] } } := by
  unfold deliverTo
  rw [if_neg (by omega)]
  rfl

theorem deliverTo_ofe {port : Nat} {b : Body} (hroom : b.ofe.fifo.length < 64) : deliverTo e (0x41, port) b =
    { sliceYield 2 b with ofe := { b.ofe with fifo := b.ofe.fifo ++ [(port, e)] } } := by
  unfold deliverTo
  rw [if_neg (by omega)]
  exact if_neg (show ¬ b.ofe.fifo.length ≥ 64 by omega)

theorem deliverTo_air (port : Nat) (b : Body) : deliverTo e (0x42, port) b =
    { sliceYield 3 b with air := { b.air with cmdIn := b.air.cmdIn ++ [e] } } := by
  unfold deliverTo
  rw [if_neg (by omega)]
  rfl

theorem deliverTo_gio (port : Nat) (b : Body) : deliverTo e (0x44, port) b =
    { b with gio := { b.gio with inbox := b.gio.inbox ++ [(port, e)] } } := by
  unfold deliverTo
  rw [if_neg (by omega)]
  rfl

end Destination

theorem sliceYield_loom (k : Nat) (b : Body) : (sliceYield k b).loom = b.loom := (sliceYield_told k b).stands.loom

/-! ### The ingress of a tile (R133, R134) -/

/-- What waits in a tile's FIFO grows by one item; the self-test slice of the tile has stopped. -/
theorem queued_shows (t : Nat) (x : Tile) (b : Body) {c : Body} (hc : c = setTile (sliceYield (16 + t) b) t x) :
    c.loom.xbar = b.loom.xbar ∧ tileOf c t = x ∧ c.flag SAFE.SLICE.RUNNING (16 + t) = false ∧
    (b.get SAFE.SLICE.ABORTS (16 + t) ≠ 15 → RegsKept (· = SAFE.SLICE.word.at (16 + t) 0) b c) := by
  subst hc
  have hbar : (sliceYield (16 + t) b).loom.xbar = b.loom.xbar := by rw [sliceYield_loom]
  refine ⟨hbar, tileOf_setTile_same _ _ _, sliceYield_rests (16 + t) b, fun hcalm => ?_⟩
  exact (sliceYield_calm hcalm).1.trans (.of_regs rfl)

theorem tileIngress_room {t : Nat} {b : Body} (hroom : (tileOf b t).fifo.length < 16) (port : Nat) (e : Ev) : tileIngress t port e b =
    setTile (sliceYield (16 + t) b) t { tileOf b t with fifo := (tileOf b t).fifo ++ [.event e port] } :=
  if_neg (by omega)

/-- The event is lost at a tile's ingress: the count alone tells of it. -/
def LostAtIngress (t : Nat) (b c : Body) : Prop :=
  c.loom.xbar = b.loom.xbar ∧ (tileOf c t).fifo = (tileOf b t).fifo ∧
  c.get LOOM.TILE_DROP.INGRESS t = min (b.get LOOM.TILE_DROP.INGRESS t + 1) 0xFFFF

theorem lostAtIngress_bump (t : Nat) (b : Body) : LostAtIngress t b (b.bump LOOM.TILE_DROP.INGRESS 1 t) := by
  have hloom : (b.bump LOOM.TILE_DROP.INGRESS 1 t).loom = b.loom := Body.bump_loom _ _ _ _ _
  exact ⟨congrArg _ hloom, congrArg _ (tileOf_of_loom hloom t), Body.get_bump_same _ _ _ _ (by decide)⟩

theorem ingressError_severity (a0 : Nat) : severityOf 0x0601 a0 < 3 := by simp [severityOf]

theorem LostAtIngress.setTile {t : Nat} {b c : Body} (h : LostAtIngress t b c) {x : Tile} (hx : x.fifo = (tileOf c t).fifo) :
    LostAtIngress t b (setTile c t x) := by
  obtain ⟨hxbar, hfifo, hcount⟩ := h
  exact ⟨hxbar, by rw [tileOf_setTile_same, hx, hfifo], hcount⟩

theorem LostAtIngress.raise {t : Nat} (ht : t < 64) {b c : Body} (h : LostAtIngress t b c) : LostAtIngress t b (raise 0x0601 t 0 c) := by
  obtain ⟨hxbar, hfifo, hcount⟩ := h
  have hloom := (raise_stands (ingressError_severity t) 0 c).loom
  refine ⟨by rw [hloom, hxbar], by rw [tileOf_of_loom hloom, hfifo], ?_⟩
  rw [(raise_frame (ingressError_severity t) 0 c).get (by simp only [Fld.at]; omega), hcount]

theorem tileIngress_full {t : Nat} (ht : t < 64) {b : Body} (hfull : 16 ≤ (tileOf b t).fifo.length) (port : Nat) (e : Ev) :
    LostAtIngress t b (tileIngress t port e b) := by
  have hbump := lostAtIngress_bump t b
  generalize hc : b.bump LOOM.TILE_DROP.INGRESS 1 t = c at hbump
  have hfires : tileIngress t port e b = if (tileOf b t).dropSeen then c else
      raise 0x0601 t 0 (setTile c t { tileOf c t with dropSeen := true }) := by
    rw [← hc]
    exact if_pos hfull
  rw [hfires]
  split
  · exact hbump
  · refine LostAtIngress.raise ht (LostAtIngress.setTile hbump ?_)
    rfl

/-! ### Timers (R151) -/

theorem timerFires_notDue {t i : Nat} {b : Body} (h : timerDue b t i = false) : timerFires t i b = b :=
  if_pos (by rw [h]; rfl)

/-- Timer `i` of tile `t` has stopped, with the domain clocked. -/
def timerStopped (t i : Nat) (b : Body) : Body :=
  setTile (ungate b) t { tileOf b t with timers := timerSet (tileOf b t).timers i 0 }

theorem timerFires_room {t i : Nat} {b : Body} (hdue : timerDue b t i = true) (hhem : inHem b = false) (hruns : runsRules b = true)
    (hon : b.flag LOOM.TILE_CTL.ENABLE t = true) (hroom : (tileOf b t).fifo.length < 16) :
    timerFires t i b = setTile (sliceYield (16 + t) (timerStopped t i b)) t
      { tileOf (timerStopped t i b) t with fifo := (tileOf b t).fifo ++ [.timer i] } := by
  have hhem' : inHem (timerStopped t i b) = false :=
    (Body.flag_of_get (get_ungate_of_ne (f := SAFE.STAT.HEM) (by decide) b)).trans hhem
  have hruns' : runsRules (timerStopped t i b) = true :=
    (congrArg (fun n => decide (n ≠ 1)) (get_ungate_of_ne (f := SEAM.STAT.ROLE) (by decide) b)).trans hruns
  have hon' : (timerStopped t i b).flag LOOM.TILE_CTL.ENABLE t = true := (enable_ungate t b).trans hon
  unfold timerFires
  rw [hdue, if_neg (by decide)]
  change (if inHem (timerStopped t i b) || !runsRules (timerStopped t i b) then timerStopped t i b else _) = _
  rw [if_neg (by simp [hhem', hruns']), if_neg (by simp only [timerStopped] at hon'; simp [hon']), if_neg (by omega)]
  rfl

/-- The timer is stopped and its activation waits last. -/
theorem timerFires_shows {t i : Nat} {b : Body} (hdue : timerDue b t i = true) (hhem : inHem b = false) (hruns : runsRules b = true)
    (hon : b.flag LOOM.TILE_CTL.ENABLE t = true) (hroom : (tileOf b t).fifo.length < 16) :
    tabGet (fun _ => 0) (tileOf (timerFires t i b) t).timers i = 0 ∧
    (tileOf (timerFires t i b) t).fifo = (tileOf b t).fifo ++ [.timer i] := by
  have htile : tileOf (timerStopped t i b) t = { tileOf b t with timers := timerSet (tileOf b t).timers i 0 } :=
    tileOf_setTile_same _ _ _
  rw [timerFires_room hdue hhem hruns hon hroom, tileOf_setTile_same, htile]
  exact ⟨tabGet_tabSet_same (d := fun _ => 0) (tileOf b t).timers i 0, rfl⟩

theorem exec_eventDelivery (s : State) : exec .eventDelivery s = onBody deliverNext s := rfl
theorem exec_tileTimer (t i : Nat) (s : State) : exec (.tileTimer t i) s = onBody (timerFires t i) s := rfl

/-- The event is queued at a tile with room. -/
theorem deliverTo_tile_room {e : Ev} (hsrc : 64 ≤ e.src) {t : Nat} (ht : t < 64) (port : Nat) {b : Body} (hhem : inHem b = false)
    (hruns : runsRules b = true) (hon : b.flag LOOM.TILE_CTL.ENABLE t = true) (hroom : (tileOf b t).fifo.length < 16) :
    deliverTo e (t, port) b =
      setTile (sliceYield (16 + t) b) t { tileOf b t with fifo := (tileOf b t).fifo ++ [.event e port] } := by
  rw [deliverTo_tile hsrc ht, if_neg (by simp [hhem, hruns]), if_neg (by simp [hon]), tileIngress_room hroom]

/-- The event is lost at a disabled tile, and at one whose FIFO is full. -/
theorem deliverTo_tile_lost {e : Ev} (hsrc : 64 ≤ e.src) {t : Nat} (ht : t < 64) (port : Nat) {b : Body} (hhem : inHem b = false)
    (hruns : runsRules b = true) (hlost : b.flag LOOM.TILE_CTL.ENABLE t = false ∨ 16 ≤ (tileOf b t).fifo.length) :
    LostAtIngress t b (deliverTo e (t, port) b) := by
  rw [deliverTo_tile hsrc ht, if_neg (by simp [hhem, hruns])]
  split
  · exact lostAtIngress_bump t b
  · next hon => exact tileIngress_full ht (hlost.resolve_left fun hoff => hon (by rw [hoff]; rfl)) port e

/-- In hem and in the standby an event for a tile is dropped. -/
theorem deliverTo_tile_dropped {e : Ev} (hsrc : 64 ≤ e.src) {t : Nat} (ht : t < 64) (port : Nat) {b : Body}
    (hoff : inHem b = true ∨ runsRules b = false) : deliverTo e (t, port) b = b := by
  rw [deliverTo_tile hsrc ht, if_pos]
  rcases hoff with h | h
  · rw [h]
    rfl
  · rw [h, Bool.not_false, Bool.or_true]

/-- Settles O12: one destination is one `deliverTo`, a timer is `timerFires_shows`. -/
theorem eventsReachTheirDestinations : Obligations.EventsReachTheirDestinations := by
  intro s e rest t port hp ht
  have hexec := exec_eventDelivery s
  refine ⟨fun hxbar => ⟨fun hheld => ?_, fun hopen hdest hsrc hhem hruns => ⟨fun hon hroom => ?_, fun hoff => ?_, fun _ hfull => ?_⟩,
    fun hopen hdest hsrc hoff => ?_, fun hopen hsrc => ⟨fun hdest => ?_, fun hdest hroom => ?_, fun hdest => ?_, fun hdest => ?_⟩⟩,
    fun i hdue hhem hruns hon hroom => ?_, fun i hdue => ?_⟩
  · refine does_of_unpinned hexec hp ?_ fun _ h => h
    rw [deliverNext_held hxbar hheld]
    exact ⟨rfl, .refl _⟩
  · obtain ⟨hbar, htile, hrests, hcalm⟩ := queued_shows t _ (popped rest s.body)
      ((deliverNext_single hxbar hopen hdest).trans (deliverTo_tile_room hsrc ht port hhem hruns hon hroom))
    exact does_of_unpinned hexec hp ⟨hbar, congrArg Tile.fifo htile, hrests, hcalm⟩ fun _ h => h
  · refine does_of_unpinned hexec hp ?_ fun _ h => h
    rw [deliverNext_single hxbar hopen hdest]
    exact deliverTo_tile_lost (b := popped rest s.body) hsrc ht port hhem hruns (.inl hoff)
  · refine does_of_unpinned hexec hp ?_ fun _ h => h
    rw [deliverNext_single hxbar hopen hdest]
    exact deliverTo_tile_lost (b := popped rest s.body) hsrc ht port hhem hruns (.inr hfull)
  · refine does_of_unpinned hexec hp ?_ fun _ h => h
    rw [deliverNext_single hxbar hopen hdest, deliverTo_tile_dropped hsrc ht port (b := popped rest s.body) hoff]
    exact ⟨rfl, rfl, popped_kept _ _ _⟩
  · refine does_of_unpinned hexec hp ?_ fun _ h => h
    rw [deliverNext_single hxbar hopen hdest, deliverTo_ce hsrc]
    exact ⟨congrArg Loom.xbar (sliceYield_loom 1 (popped rest s.body)), rfl⟩
  · refine does_of_unpinned hexec hp ?_ fun _ h => h
    rw [deliverNext_single hxbar hopen hdest, deliverTo_ofe (b := popped rest s.body) hsrc hroom]
    exact ⟨congrArg Loom.xbar (sliceYield_loom 2 (popped rest s.body)), rfl⟩
  · refine does_of_unpinned hexec hp ?_ fun _ h => h
    rw [deliverNext_single hxbar hopen hdest, deliverTo_air hsrc]
    exact ⟨congrArg Loom.xbar (sliceYield_loom 3 (popped rest s.body)), rfl⟩
  · refine does_of_unpinned hexec hp ?_ fun _ h => h
    rw [deliverNext_single hxbar hopen hdest, deliverTo_gio hsrc]
    exact ⟨rfl, rfl⟩
  · exact does_of_unpinned (exec_tileTimer t i s) hp (timerFires_shows hdue hhem hruns hon hroom) fun _ h => h
  · refine does_of_unpinned (exec_tileTimer t i s) hp ?_ fun _ h => h
    rw [timerFires_notDue hdue]
    exact ⟨rfl, .refl _⟩

end Sys2Proof.Machine
end
section
/-! SUPPORT. Scope: O38, the timers of a channel: light-ahead entries and overrides that end, refresh and STRETCH, and the bits of
DIAG that time sets (R176, R179, R180, R186, R194, R196, R197). -/

namespace Sys2Proof.Machine

theorem exec_laExpiry (n : Nat) (s : State) : exec (.laExpiry n) s = execLaExpiry n s := rfl
theorem exec_overrideTimeout (n : Nat) (s : State) : exec (.overrideTimeout n) s = execOverrideTimeout n s := rfl
theorem exec_channelRefresh (n : Nat) (s : State) : exec (.channelRefresh n) s = execChannelRefresh n s := rfl
theorem exec_stretch (n : Nat) (s : State) : exec (.stretch n) s = execStretch n s := rfl
theorem exec_reportStale (n : Nat) (s : State) : exec (.reportStale n) s = execReportStale n s := rfl
theorem exec_verifyExpired (n : Nat) (s : State) : exec (.verifyExpired n) s = execVerifyExpired n s := rfl

/-! ### A timer that rests, and one that asks -/

/-- A row that leaves the state as it is keeps CE and every register. -/
theorem does_rests {c : Instr} {s : State} {f : Body → Body} (hexec : exec c s = onBody f s) (hp : powered s.body = true)
    (h : f s.body = s.body) : Does c s (fun b => b.ce = s.body.ce ∧ RegsKept (fun _ => False) s.body b) :=
  does_of_unpinned hexec hp (h.symm ▸ ⟨rfl, .refl _⟩) fun _ hrests => hrests

/-- Work on register `own` that adds no job, and then a job asked for (R167): it joins the jobs, and with CE's slice short of an
error nothing else is written. -/
theorem ask_after_own {own : Nat} {b c : Body} (hkept : RegsKept (fun a => a = own ∨ a = SYS.CLK_STAT.word.addr) b c)
    (hjobs : c.ce.jobs = b.ce.jobs) (hown : SAFE.SLICE.ABORTS.at 1 0 ≠ own) (ns : List Nat) (w : Why) (g : Option Nat) :
    (∃ got, (ask ns w g c).ce.jobs = b.ce.jobs ++ [⟨ns, w, g, got⟩]) ∧
    (b.get SAFE.SLICE.ABORTS 1 ≠ 15 → RegsKept (ownReg own) b (ask ns w g c)) := by
  obtain ⟨got, hce⟩ := ask_ce ns w g c
  exact ⟨⟨got, by rw [hce, ← hjobs]⟩, fun hcalm => ask_own hcalm hkept hown ns w g⟩

theorem ungate_own (own : Nat) (b : Body) : RegsKept (fun a => a = own ∨ a = SYS.CLK_STAT.word.addr) b (ungate b) :=
  (ungate_kept b).mono fun _ h => .inr h

/-! ### Light-ahead entries (R179) -/

/-- The light-ahead entry of channel `n` is cleared. -/
def aheadCleared (n : Nat) (b : Body) : Body :=
  setChan ((ungate b).put CE.OUT.LA_LVL 0 n) n { chanOf b n with laExp := 0 }

theorem laExpiry_due {n : Nat} {b : Body} (hlive : (chanOf b n).laExp ≠ 0) (hdue : (chanOf b n).laExp ≤ tnNs b) :
    laExpiry n b = ask [n] .laEnd none (aheadCleared n b) := if_neg (by omega)

theorem laExpiry_early {n : Nat} {b : Body} (h : tnNs b < (chanOf b n).laExp) : laExpiry n b = b := if_pos (.inr h)

theorem aheadCleared_kept (n : Nat) (b : Body) :
    RegsKept (fun a => a = CE.OUT.word.at n 0 ∨ a = SYS.CLK_STAT.word.addr) b (aheadCleared n b) := by
  refine ((ungate_own _ b).trans ?_).trans (setChan_kept _ _ _)
  exact .put (f := CE.OUT.LA_LVL) (.inl rfl) _ _

theorem laExpiry_shows {n : Nat} (hn : n < 512) {b : Body} (hlive : (chanOf b n).laExp ≠ 0) (hdue : (chanOf b n).laExp ≤ tnNs b) :
    (laExpiry n b).get CE.OUT.LA_LVL n = 0 ∧ (chanOf (laExpiry n b) n).laExp = 0 ∧
    (∃ got, (laExpiry n b).ce.jobs = b.ce.jobs ++ [⟨[n], .laEnd, none, got⟩]) ∧
    (b.get SAFE.SLICE.ABORTS 1 ≠ 15 → RegsKept (ownReg (CE.OUT.word.at n 0)) b (laExpiry n b)) := by
  rw [laExpiry_due hlive hdue]
  refine ⟨?_, ?_, ask_after_own (aheadCleared_kept n b) rfl (perChan_laLvl.slice_ne hn) _ _ _⟩
  · rw [ask_get _ _ _ _ perChan_laLvl hn]
    exact Body.get_put_same _ _ _ _ _ (by decide)
  · rw [ask_chan, aheadCleared, chanOf_setChan_same]

/-! ### Overrides (R180) -/

/-- The override of channel `n` has ended. -/
def overrideEnded (n : Nat) (b : Body) : Body :=
  setChan ((ungate b).mark CE.CH_STAT.OVR false n) n { chanOf b n with ovrEnd := none }

theorem overrideTimeout_due {n t : Nat} {b : Body} (hovr : overridden b n = true) (hend : (chanOf b n).ovrEnd = some t)
    (hdue : t ≤ b.clock.cyc) : overrideTimeout n b = ask [n] .rule none (overrideEnded n b) := by
  unfold overrideTimeout
  rw [hend]
  exact if_pos (by rw [hovr, decide_eq_true hdue]; rfl)

theorem overrideTimeout_early {n : Nat} {b : Body} (h : ((chanOf b n).ovrEnd.all fun t => decide (b.clock.cyc < t)) = true) :
    overrideTimeout n b = b := by
  unfold overrideTimeout
  cases hend : (chanOf b n).ovrEnd with
  | none => rfl
  | some t =>
    rw [hend] at h
    have hlate : ¬ t ≤ b.clock.cyc := not_le.2 (of_decide_eq_true h)
    exact if_neg (by rw [decide_eq_false hlate, Bool.and_false]; decide)

theorem overrideEnded_kept (n : Nat) (b : Body) :
    RegsKept (fun a => a = CE.CH_STAT.word.at n 0 ∨ a = SYS.CLK_STAT.word.addr) b (overrideEnded n b) := by
  refine ((ungate_own _ b).trans ?_).trans (setChan_kept _ _ _)
  exact .put (f := CE.CH_STAT.OVR) (.inl rfl) _ _

theorem overrideTimeout_shows {n t : Nat} (hn : n < 512) {b : Body} (hovr : overridden b n = true)
    (hend : (chanOf b n).ovrEnd = some t) (hdue : t ≤ b.clock.cyc) : (overrideTimeout n b).flag CE.CH_STAT.OVR n = false ∧
    (∃ got, (overrideTimeout n b).ce.jobs = b.ce.jobs ++ [⟨[n], .rule, none, got⟩]) ∧
    (b.get SAFE.SLICE.ABORTS 1 ≠ 15 → RegsKept (ownReg (CE.CH_STAT.word.at n 0)) b (overrideTimeout n b)) := by
  rw [overrideTimeout_due hovr hend hdue]
  refine ⟨?_, ask_after_own (overrideEnded_kept n b) rfl (perChan_ovr.slice_ne hn) _ _ _⟩
  rw [ask_flag _ _ _ _ perChan_ovr hn]
  exact Body.flag_mark_same _ _ _ _ _ rfl (by decide)

/-! ### Refresh and STRETCH (R176, R197) -/

theorem channelRefresh_due {n : Nat} {b : Body} (hn : n < chanCnt b) (hdue : refreshDue b n = true) :
    channelRefresh n b = ask [n] .refresh none (ungate b) := if_pos (by rw [decide_eq_true hn, hdue]; rfl)

theorem channelRefresh_early {n : Nat} {b : Body} (h : refreshDue b n = false) : channelRefresh n b = b :=
  if_neg (by rw [h, Bool.and_false]; decide)

/-- The instant of channel `n`'s last STRETCH is noted. -/
def stretchNoted (n : Nat) (b : Body) : Body := setChan (ungate b) n { chanOf b n with stretchAt := some b.clock.cyc }

theorem stretch_due {n : Nat} {b : Body} (hn : n < chanCnt b) (hneeds : needsStretch b n = true) (hdue : stretchDue b n = true) :
    stretch n b = ask [n] .stretch none (stretchNoted n b) := if_pos (by rw [decide_eq_true hn, hneeds, hdue]; rfl)

theorem stretch_early {n : Nat} {b : Body} (h : needsStretch b n = false ∨ stretchDue b n = false) : stretch n b = b := by
  refine if_neg ?_
  rcases h with h | h
  · rw [h, Bool.and_false, Bool.false_and]
    decide
  · rw [h, Bool.and_false]
    decide

theorem stretch_shows {n : Nat} {b : Body} (hn : n < chanCnt b) (hneeds : needsStretch b n = true) (hdue : stretchDue b n = true) :
    (∃ got, (stretch n b).ce.jobs = b.ce.jobs ++ [⟨[n], .stretch, none, got⟩]) ∧
    (chanOf (stretch n b) n).stretchAt = some (b.clock.cyc : Int) ∧
    (b.get SAFE.SLICE.ABORTS 1 ≠ 15 → RegsKept (ownReg SYS.CLK_STAT.word.addr) b (stretch n b)) := by
  obtain ⟨hjob, honly⟩ := ask_after_own (own := SYS.CLK_STAT.word.addr) (c := stretchNoted n b)
    ((ungate_own _ b).trans (setChan_kept _ _ _)) rfl (by decide) [n] .stretch none
  rw [stretch_due hn hneeds hdue]
  exact ⟨hjob, by rw [ask_chan, stretchNoted, chanOf_setChan_same], honly⟩

/-! ### DIAG (R186, R194, R196) -/

/-- The registers that a change of channel `n`'s DIAG may write: its own, and the clock status with the event it emits. -/
abbrev diagReg (n a : Nat) : Prop := a = CE.CH_STAT.word.at n 0 ∨ a = SYS.CLK_STAT.word.addr

theorem engineEv_kept (src port p tag : Nat) (b : Body) :
    RegsKept (· = SYS.CLK_STAT.word.addr) b (engineEv src port p tag b) := by
  unfold engineEv
  split
  · exact (emitEv_only src port p tag b).1
  · exact .refl b

/-- A channel's status register is not the clock status. -/
theorem chStat_ne_clkStat (n : Nat) : CE.CH_STAT.word.at n 0 ≠ SYS.CLK_STAT.word.addr := by
  have hstat : CE.CH_STAT.word.at n 0 = 0x4070010C + 0x10 * n := rfl
  have hclk : SYS.CLK_STAT.word.addr = 0x40000020 := rfl
  omega

/-- No rule level stands in the registers of DIAG, at any index. -/
theorem ruleLvl_apart (n m : Nat) : ¬ diagReg n (CE.LVL_TGT.RULE_LVL.at m 0) := by
  have hlvl : CE.LVL_TGT.RULE_LVL.at m 0 = 0x40700100 + 0x10 * m := rfl
  have hstat : CE.CH_STAT.word.at n 0 = 0x4070010C + 0x10 * n := rfl
  have hclk : SYS.CLK_STAT.word.addr = 0x40000020 := rfl
  unfold diagReg
  omega

/-- LVL_OUT stands in another register of the channel. -/
theorem lvlOut_apart (n : Nat) : ¬ diagReg n (CE.OUT.LVL_OUT.at n 0) := by
  have hout : CE.OUT.LVL_OUT.at n 0 = 0x40700108 + 0x10 * n := rfl
  have hstat : CE.CH_STAT.word.at n 0 = 0x4070010C + 0x10 * n := rfl
  have hclk : SYS.CLK_STAT.word.addr = 0x40000020 := rfl
  unfold diagReg
  omega

/-- Setting DIAG leaves it alone where it has the value, and else writes it and emits CHANNEL_STATUS, which writes CLK_STAT. -/
theorem setDiag_cases (n d : Nat) (b : Body) : (b.get CE.CH_STAT.DIAG n = d % 256 ∧ setDiag n d b = b) ∨
    RegsKept (· = SYS.CLK_STAT.word.addr) (b.put CE.CH_STAT.DIAG d n) (setDiag n d b) := by
  unfold setDiag
  split
  · next h => exact .inl ⟨h, rfl⟩
  · exact .inr (engineEv_kept _ _ _ _ _)

theorem setDiag_only (n d : Nat) (b : Body) : RegsKept (diagReg n) b (setDiag n d b) := by
  obtain ⟨-, h⟩ | h := setDiag_cases n d b
  · rw [h]
    exact .refl b
  · exact RegsKept.trans (.put (f := CE.CH_STAT.DIAG) (.inl rfl) b d) (h.mono fun _ ha => .inr ha)

theorem setDiag_diag (n d : Nat) (b : Body) : (setDiag n d b).get CE.CH_STAT.DIAG n = d % 256 := by
  obtain ⟨hsame, h⟩ | h := setDiag_cases n d b
  · rw [h, hsame]
  · rw [h.get (f := CE.CH_STAT.DIAG) (chStat_ne_clkStat n)]
    exact Body.get_put_same _ _ _ _ _ (by decide)

/-- Of the channel's status register SRC is kept. -/
theorem setDiag_src (n d : Nat) (b : Body) : (setDiag n d b).get CE.CH_STAT.SRC n = b.get CE.CH_STAT.SRC n := by
  obtain ⟨-, h⟩ | h := setDiag_cases n d b
  · rw [h]
  · rw [h.get (f := CE.CH_STAT.SRC) (chStat_ne_clkStat n)]
    exact Body.get_put_bits _ _ _ _ _ _ _ _ (by rfl) (by decide) (by decide)

/-- A bit of DIAG just set reads as set. -/
theorem setDiag_bit {k : Nat} (hk : k < 8) (n d : Nat) (v : Bool) (b : Body) :
    (setDiag n (diagBit d k v) b).bit CE.CH_STAT.DIAG k n = v := by
  have hpart : diagBit d k v % 256 / 2 ^ k % 2 = (if v then 1 else 0) % 2 :=
    (mod_two_pow_part (w := 8) (u := 1) hk _).trans (insBits_same d k 1 _)
  unfold Body.bit
  rw [setDiag_diag, hpart]
  cases v <;> rfl

/-- DIAG set after the gated domain is clocked: rule levels are kept, and so is every register but two. -/
theorem setDiag_ungated (n d : Nat) (b : Body) :
    (∀ m, (setDiag n d (ungate b)).get CE.LVL_TGT.RULE_LVL m = b.get CE.LVL_TGT.RULE_LVL m) ∧
    RegsKept (diagReg n) b (setDiag n d (ungate b)) := by
  have hkept : RegsKept (diagReg n) b (setDiag n d (ungate b)) := (ungate_own _ b).trans (setDiag_only n d _)
  exact ⟨fun m => hkept.get (ruleLvl_apart n m), hkept⟩

theorem reportStale_due {n : Nat} {b : Body} (hn : n < chanCnt b) (h : staleNow b n = true) :
    reportStale n b = setDiag n (diagBit (b.get CE.CH_STAT.DIAG n) 5 true) (ungate b) :=
  if_pos (by rw [decide_eq_true hn, h]; rfl)

theorem reportStale_early {n : Nat} {b : Body} (h : staleNow b n = false) : reportStale n b = b :=
  if_neg (by rw [h, Bool.and_false]; decide)

/-- A channel's level and verification stand when the gated domain is clocked. -/
theorem unverified_ungate {n : Nat} (b : Body) : unverified (ungate b) n =
    (decide (b.get CE.OUT.LVL_OUT n = 0) || decide (b.get CE.DIAG_CTL.VERIFY_MAX * 60 < verifyAge b n)) := by
  have hlvl : lvlOut (ungate b) n = b.get CE.OUT.LVL_OUT n := (ungate_own _ b).get (lvlOut_apart n)
  have hmax : (ungate b).get CE.DIAG_CTL.VERIFY_MAX = b.get CE.DIAG_CTL.VERIFY_MAX := (ungate_kept b).get (by decide)
  have hage : verifyAge (ungate b) n = verifyAge b n := rfl
  unfold unverified
  rw [hlvl, hmax, hage]

/-! ### The obligation -/

/-- Settles O38: the timers of entries, refresh and STRETCH write at most their own register and ask (`ask_after_own`); those of
reports and verification set one bit of DIAG (`setDiag_bit`). -/
theorem channelTimersAskForCompositions : Obligations.ChannelTimersAskForCompositions := by
  intro s n hp hn
  have hmod : n % 512 = n := Nat.mod_eq_of_lt hn
  have hahead : exec (.laExpiry n) s = onBody (laExpiry n) s := by
    rw [exec_laExpiry, execLaExpiry, hmod]
  have hovr : exec (.overrideTimeout n) s = onBody (overrideTimeout n) s := by
    rw [exec_overrideTimeout, execOverrideTimeout, hmod]
  refine ⟨fun ⟨hlive, hdue⟩ => ?_, fun hearly => does_rests hahead hp (laExpiry_early hearly), fun t hover hend hdue => ?_,
    fun hearly => does_rests hovr hp (overrideTimeout_early hearly), fun hdecl => ⟨fun hdue => ?_, fun hearly => ?_,
    fun hneeds hdue => ?_, fun hearly => does_rests (exec_stretch n s) hp (stretch_early hearly), fun hstale => ?_, fun hfresh => ?_, ?_⟩⟩
  · exact does_of_unpinned hahead hp (laExpiry_shows hn hlive hdue) fun _ h => h
  · exact does_of_unpinned hovr hp (overrideTimeout_shows hn hover hend hdue) fun _ h => h
  · refine does_of_unpinned (exec_channelRefresh n s) hp ?_ fun _ h => h
    rw [channelRefresh_due hdecl hdue]
    exact ask_after_own (ungate_own _ _) rfl (by decide) _ _ _
  · exact does_rests (exec_channelRefresh n s) hp (channelRefresh_early hearly)
  · exact does_of_unpinned (exec_stretch n s) hp (stretch_shows hdecl hneeds hdue) fun _ h => h
  · refine does_of_unpinned (exec_reportStale n s) hp ?_ fun _ h => h
    rw [reportStale_due hdecl hstale]
    exact ⟨setDiag_bit (by decide) n _ true _, setDiag_ungated n _ _⟩
  · exact does_rests (exec_reportStale n s) hp (reportStale_early hfresh)
  · refine does_of_unpinned (exec_verifyExpired n s) hp ?_ fun _ h => h
    rw [if_pos hdecl, refreshDiag, unverified_ungate]
    exact ⟨setDiag_bit (by decide) n _ _ _, setDiag_ungated n _ _⟩

end Sys2Proof.Machine
end
section
/-! SUPPORT. Scope: O36, the composition of a channel's level (R166, R169): the order of its inputs, that no step lifts a level above
16 bits, and that what is sent after a composition leaves level and source as they were composed. -/

namespace Sys2Proof.Machine

theorem exec_composition (s : State) : exec .composition s = execComposition s := rfl

/-! ### The order of R166 -/

/-- Of rule and light-ahead level the larger, by the daylight factor where LUX_SET is above 0 (R166). -/
def dayLevel (b : Body) (n : Nat) : Nat :=
  let l := max (ruleLvl b n) (laLvl b n)
  if luxSet b n = 0 then l else round16 (l * b.get CE.DL.DL_FACTOR n)

section Order

variable {b : Body} {n : Nat}

theorem compose_emergency (h : emergency b = true ∧ emergMember b n = true) :
    compose b n = (round16 (b.get CE.SAFE.EMERG_LVL n * derate b n), 1) := by
  have hpre : preBudget b n = (b.get CE.SAFE.EMERG_LVL n, 1) := if_pos (Bool.and_eq_true_iff.2 h)
  unfold compose
  rw [hpre]
  rfl

section NoEmergency

variable (hemerg : ¬ (emergency b = true ∧ emergMember b n = true))
include hemerg

theorem compose_hem (h : inHem b = true) : compose b n = (round16 (b.get CE.SAFE.HEM_LVL n * derate b n), 2) := by
  have hpre : preBudget b n = (b.get CE.SAFE.HEM_LVL n, 2) :=
    (if_neg fun hand => hemerg (Bool.and_eq_true_iff.1 hand)).trans (if_pos h)
  unfold compose
  rw [hpre]
  rfl

theorem compose_override (hhem : ¬ inHem b = true) (h : overridden b n = true) : compose b n =
    (round16 (budgetScale (b.get CE.BUDGET.FACTOR n) (b.get CE.OVR.OVERRIDE_LVL n) 0 * derate b n), 3) := by
  have hpre : preBudget b n = (b.get CE.OVR.OVERRIDE_LVL n, 3) :=
    (if_neg fun hand => hemerg (Bool.and_eq_true_iff.1 hand)).trans ((if_neg hhem).trans (if_pos h))
  unfold compose
  rw [hpre]
  rfl

theorem compose_rule (hhem : ¬ inHem b = true) (hovr : ¬ overridden b n = true) : compose b n =
    (max (round16 (budgetScale (b.get CE.BUDGET.FACTOR n) (dayLevel b n) (b.get CE.CCT_FLR.RULE_FLOOR n) * derate b n))
      (round16 (b.get CE.CCT_FLR.RULE_FLOOR n * derate b n)), if ruleLvl b n < laLvl b n then 5 else 4) := by
  have hpre : preBudget b n = (dayLevel b n, if ruleLvl b n < laLvl b n then 5 else 4) := by
    refine (if_neg fun hand => hemerg (Bool.and_eq_true_iff.1 hand)).trans ((if_neg hhem).trans ((if_neg hovr).trans ?_))
    unfold dayLevel
    dsimp only
    rw [ite_not]
  have hsrc : ¬ (if ruleLvl b n < laLvl b n then 5 else 4) ≤ 2 ∧ (if ruleLvl b n < laLvl b n then 5 else 4) ≠ 3 := by
    split <;> decide
  unfold compose
  rw [hpre]
  exact (if_neg hsrc.1).trans (if_neg hsrc.2)

end NoEmergency

end Order

/-! ### No step lifts a level -/

/-- A factor of at most 65,536 does not lift a level. -/
theorem round16_mul_le {f : Nat} (hf : f ≤ 65536) (x : Nat) : round16 (x * f) ≤ x := by
  have h : x * f ≤ x * 65536 := Nat.mul_le_mul_left x hf
  unfold round16
  omega

theorem budgetScale_le {factor : Nat} (hf : factor ≤ 65536) (l f : Nat) : budgetScale factor l f ≤ l := by
  unfold budgetScale
  split
  · exact le_refl l
  · have h := round16_mul_le hf (l - f)
    omega

theorem dayLevel_le {b : Body} {n : Nat} (hf : b.get CE.DL.DL_FACTOR n ≤ 65536) : dayLevel b n ≤ max (ruleLvl b n) (laLvl b n) := by
  unfold dayLevel
  dsimp only
  split
  · exact le_refl _
  · exact round16_mul_le hf _

/-- A composed level fits LVL_OUT, and a source fits SRC. -/
theorem compose_fits {b : Body} {n : Nat} (hd : derate b n ≤ 65536) (hdl : b.get CE.DL.DL_FACTOR n ≤ 65536)
    (hbf : b.get CE.BUDGET.FACTOR n ≤ 65536) : (compose b n).1 < 2 ^ 16 ∧ (compose b n).2 < 2 ^ 3 := by
  by_cases hemerg : emergency b = true ∧ emergMember b n = true
  · rw [compose_emergency hemerg]
    exact ⟨(round16_mul_le hd _).trans_lt (get_lt b CE.SAFE.EMERG_LVL n 0), (by decide : 1 < 2 ^ 3)⟩
  by_cases hhem : inHem b = true
  · rw [compose_hem hemerg hhem]
    exact ⟨(round16_mul_le hd _).trans_lt (get_lt b CE.SAFE.HEM_LVL n 0), (by decide : 2 < 2 ^ 3)⟩
  by_cases hovr : overridden b n = true
  · rw [compose_override hemerg hhem hovr]
    exact ⟨((round16_mul_le hd _).trans (budgetScale_le hbf _ 0)).trans_lt (get_lt b CE.OVR.OVERRIDE_LVL n 0), (by decide : 3 < 2 ^ 3)⟩
  · have hlevel : max (ruleLvl b n) (laLvl b n) < 2 ^ 16 :=
      max_lt (get_lt b CE.LVL_TGT.RULE_LVL n 0) (get_lt b CE.OUT.LA_LVL n 0)
    rw [compose_rule hemerg hhem hovr]
    refine ⟨max_lt ?_ ((round16_mul_le hd _).trans_lt (get_lt b CE.CCT_FLR.RULE_FLOOR n 0)), by dsimp only; split <;> decide⟩
    calc round16 (budgetScale (b.get CE.BUDGET.FACTOR n) (dayLevel b n) (b.get CE.CCT_FLR.RULE_FLOOR n) * derate b n)
        ≤ budgetScale (b.get CE.BUDGET.FACTOR n) (dayLevel b n) (b.get CE.CCT_FLR.RULE_FLOOR n) := round16_mul_le hd _
      _ ≤ dayLevel b n := budgetScale_le hbf _ _
      _ ≤ max (ruleLvl b n) (laLvl b n) := dayLevel_le hdl
      _ < 2 ^ 16 := hlevel

/-! ### A composition writes level and source -/

/-- Channel `n` shows level and source `o`. -/
def Shows (n : Nat) (o : Nat × Nat) (b : Body) : Prop := (b.get CE.OUT.LVL_OUT n, b.get CE.CH_STAT.SRC n) = o

theorem Shows.of_kept {n : Nat} {o : Nat × Nat} {b c : Body} (h : Shows n o b) (hkept : RegsKept (· = SYS.CLK_STAT.word.addr) b c) :
    Shows n o c := by
  unfold Shows
  rw [hkept.get fun e => lvlOut_apart n (.inr e), hkept.get (f := CE.CH_STAT.SRC) (chStat_ne_clkStat n)]
  exact h

theorem perChan_lvlOut : PerChan CE.OUT.LVL_OUT := by unfold PerChan; decide
theorem perChan_src : PerChan CE.CH_STAT.SRC := by unfold PerChan; decide
theorem perChan_cctOut : PerChan CE.COLOUR.CCT_OUT := by unfold PerChan; decide

/-- Level, source and CCT of a channel, as a composition writes them. -/
def levelPut (n l src cct : Nat) (b : Body) : Body :=
  ((b.put CE.OUT.LVL_OUT l n).put CE.CH_STAT.SRC src n).put CE.COLOUR.CCT_OUT cct n

theorem levelPut_shows {n : Nat} (hn : n < 512) {l src : Nat} (hl : l < 2 ^ 16) (hsrc : src < 2 ^ 3) (cct : Nat) (b : Body) :
    Shows n (l, src) (levelPut n l src cct b) := by
  have houtCct : CE.OUT.LVL_OUT.at n 0 ≠ CE.COLOUR.CCT_OUT.at n 0 :=
    Apart.at_ne (by unfold Apart; decide) perChan_lvlOut perChan_cctOut hn hn
  have houtSrc : CE.OUT.LVL_OUT.at n 0 ≠ CE.CH_STAT.SRC.at n 0 :=
    Apart.at_ne (by unfold Apart; decide) perChan_lvlOut perChan_src hn hn
  have hsrcCct : CE.CH_STAT.SRC.at n 0 ≠ CE.COLOUR.CCT_OUT.at n 0 :=
    Apart.at_ne (by unfold Apart; decide) perChan_src perChan_cctOut hn hn
  unfold Shows levelPut
  rw [Body.get_put_other _ _ _ _ _ _ _ _ houtCct, Body.get_put_other _ _ _ _ _ _ _ _ houtSrc,
    Body.get_put_same _ _ _ _ _ (by decide), Body.get_put_other _ _ _ _ _ _ _ _ hsrcCct, Body.get_put_same _ _ _ _ _ (by decide),
    Nat.mod_eq_of_lt hl, Nat.mod_eq_of_lt hsrc]

/-- DIAG follows in other bits of the channel's status register. -/
theorem Shows.setDiag {n : Nat} {o : Nat × Nat} {b : Body} (h : Shows n o b) (d : Nat) : Shows n o (setDiag n d b) := by
  unfold Shows
  rw [(setDiag_only n d b).get (lvlOut_apart n), setDiag_src]
  exact h

theorem composeOne_took (c : Body) (n : Nat) (ws : List Why) (b : Body) : composeOne [took c n ws] n b =
    refreshDiag n (levelPut n (compose c n).1 (compose c n).2 (cctSent c n) b) := by
  have hfind : ([took c n ws].find? fun t => decide (t.chan = n)) = some (took c n ws) :=
    List.find?_cons_of_pos (decide_eq_true rfl)
  unfold composeOne
  rw [hfind]
  rfl

/-! ### What is sent afterwards -/

theorem releaseDesc_kept (target kind : Nat) (r : CmdRec) (b : Body) :
    RegsKept (· = SYS.CLK_STAT.word.addr) b (releaseDesc target kind r b) := by
  have hrec : RegsKept (· = SYS.CLK_STAT.word.addr) b (takeRec r b).2 := .of_regs rfl
  exact hrec.trans (engineEv_kept _ _ _ _ _)

theorem fadeNoted_regs (n : Nat) (w : Why) (r : CmdRec) (b : Body) : (fadeNoted n w r b).regs = b.regs := by
  unfold fadeNoted
  dsimp only
  split <;> rfl

theorem noteSent_regs (n : Nat) (w : Why) (r : CmdRec) (b : Body) : (noteSent n w r b).regs = b.regs := fadeNoted_regs _ _ _ _

/-- A COMMAND writes CLK_STAT alone, with the event of its descriptor. -/
theorem sendOne_kept (j : Job) (n : Nat) (b : Body) : RegsKept (· = SYS.CLK_STAT.word.addr) b (sendOne j n b) :=
  (releaseDesc_kept _ _ _ _).trans (.of_regs (noteSent_regs _ _ _ _))

/-- The next composition of channel `n` starts among those that wait (R167). -/
def nextStarted (b : Body) (n : Nat) : Body := { b with ce := { b.ce with jobs := startNext b n b.ce.jobs } }

theorem nextStarted_kept {p : Nat → Prop} (n : Nat) (b : Body) : RegsKept p b (nextStarted b n) := .of_regs rfl

/-- COMMANDs of a composition, and the next compositions of its channels, write CLK_STAT alone. -/
theorem sendAndStart_kept (j : Job) (due ns : List Nat) (b : Body) : RegsKept (· = SYS.CLK_STAT.word.addr) b
    ((b.each due fun b n => sendOne j n b).each ns nextStarted) :=
  (RegsKept.each (fun n c => sendOne_kept j n c) due b).trans (.each nextStarted_kept ns _)

/-- A composition of one channel: of registers it writes those of `composeOne`, and CLK_STAT with what it sends. -/
theorem composeNext_one {b : Body} {n : Nat} {w : Why} {got : List Took} {rest : List Job} (hrun : b.flag CE.CTL.RUN = true)
    (hrules : runsRules b = true) (hjobs : b.ce.jobs = ⟨[n], w, none, got⟩ :: rest) (hrefresh : w ≠ .refresh) (hstretch : w ≠ .stretch)
    (hdecl : n < chanCnt b) : RegsKept (· = SYS.CLK_STAT.word.addr)
      (composeOne got n { b with ce := { b.ce with jobs := rest } }) (composeNext b) := by
  have hcomposes : Job.composes ⟨[n], w, none, got⟩ = true := decide_eq_true ⟨hrefresh, hstretch⟩
  have hns : ([n].filter fun m => decide (m < chanCnt { b with ce := { b.ce with jobs := rest } })) = [n] :=
    List.filter_eq_self.2 fun m hm => decide_eq_true (List.mem_singleton.1 hm ▸ hdecl)
  unfold composeNext
  rw [hjobs]
  dsimp only
  rw [if_neg (by rw [hrun, hrules]; decide), hns, hcomposes, if_pos rfl, if_pos rfl]
  exact sendAndStart_kept _ _ _ _

/-! ### The obligation -/

/-- Settles O36: a composition writes what it took at its start (`composeOne_took`), which fits its fields (`compose_fits`); the
four cases of R166 are `compose_emergency` to `compose_rule`. -/
theorem levelsComposeInTheOrderOfR166 : Obligations.LevelsComposeInTheOrderOfR166 := by
  intro s c n w ws rest hp hrun hrules hjobs hrefresh hstretch hdecl hn hd hdl hbf
  obtain ⟨hlevel, hsrc⟩ := compose_fits hd hdl hbf
  have hshows : Shows n (compose c.body n) (composeNext s.body) := by
    refine Shows.of_kept ?_ (composeNext_one hrun hrules hjobs hrefresh hstretch hdecl)
    rw [composeOne_took]
    exact (levelPut_shows hn hlevel hsrc _ _).setDiag _
  refine does_of_unpinned (exec_composition s) hp (hshows.trans ?_) fun _ h => h
  split
  · next hemerg => exact compose_emergency hemerg
  next hemerg =>
  split
  · next hhem => exact compose_hem hemerg hhem
  next hhem =>
  split
  · next hovr => exact compose_override hemerg hhem hovr
  · next hovr => exact compose_rule hemerg hhem hovr

end Sys2Proof.Machine
end
section
/-! SUPPORT. Scope: O39 and O40, what OFE's own operations leave alone: events, queue items and records leave OFE's state, and the
light-ahead walk leaves sensors, tracks and what waits (R212, R222 to R232). -/

namespace Sys2Proof.Machine

/-! ### Events and queue items leave OFE's state -/

/-- An event from an engine moves registers and the Loom alone. -/
theorem engineEv_changes (src port p tag : Nat) (b : Body) :
    ∃ r l, engineEv src port p tag b = { b with regs := r, loom := l } := by
  unfold engineEv emitEv
  dsimp only
  split
  · split <;> exact ⟨_, _, rfl⟩
  · exact ⟨_, _, rfl⟩

theorem engineEv_ofe (src port p tag : Nat) (b : Body) : (engineEv src port p tag b).ofe = b.ofe := by
  obtain ⟨r, l, h⟩ := engineEv_changes src port p tag b
  rw [h]

theorem engineEv_clock (src port p tag : Nat) (b : Body) : (engineEv src port p tag b).clock = b.clock := by
  obtain ⟨r, l, h⟩ := engineEv_changes src port p tag b
  rw [h]

theorem Told.ofe {b c : Body} (h : Told b c) : c.ofe = b.ofe := by
  obtain ⟨r, x, n, y, k, o, rfl⟩ := h
  rfl

theorem takeCells_ofe (n : Nat) (acc : List Nat) (b : Body) : (takeCells n acc b).2.ofe = b.ofe := by
  induction n generalizing acc b with
  | zero => rfl
  | succ n ih => exact ih _ (b.choose 16384).2

theorem startTimer_ofe (q : Nat) (was : Bool) (b : Body) : (startTimer q was b).ofe = b.ofe := by
  unfold startTimer
  split <;> rfl

theorem qSwap_ofe (q : Nat) (b : Body) : (qSwap q b).ofe = b.ofe := by
  unfold qSwap
  dsimp only
  split <;> rfl

theorem qPut_ofe (q : Nat) (l : List Nat) (b : Body) : (qPut q l b).1.ofe = b.ofe := by
  unfold qPut
  dsimp only
  split
  · rfl
  · have hfill : (fillCells (takeCells (cellsFor l.length) [] b).1 l (takeCells (cellsFor l.length) [] b).2).ofe = b.ofe := by
      rw [fillCells_only_mem]
      exact takeCells_ofe _ _ b
    have henter : ∀ (was : Bool) (x : Queue) (c : Body), c.ofe = b.ofe →
        (startTimer q was (setQueue (c.mark QM.Q_FLAG.FULL false q) q x)).ofe = b.ofe := fun was _ _ hc =>
      (startTimer_ofe q was _).trans hc
    split
    · split
      · exact (qSwap_ofe q _).trans (henter _ _ _ hfill)
      · exact henter _ _ _ hfill
    · exact henter _ _ _ hfill

theorem qTake_ofe (q : Nat) (b : Body) : (qTake q b).2.ofe = b.ofe := by
  unfold qTake
  split <;> rfl

theorem qTakes_ofe (q n : Nat) (acc : List (List Nat)) (b : Body) : (qTakes q n acc b).2.ofe = b.ofe := by
  induction n generalizing acc b with
  | zero => rfl
  | succ n ih =>
    have htake := qTake_ofe q b
    unfold qTakes
    split <;> rename_i heq <;> rw [heq] at htake
    · exact (ih _ _).trans htake
    · exact htake

theorem sendReport_ofe (q : Nat) (b : Body) : (sendReport q b).ofe = b.ofe := by
  unfold sendReport
  dsimp only
  split
  · rfl
  · exact (shCollect_told _ _ _ _ _).ofe.trans (qTakes_ofe _ _ _ _)

theorem qPutReport_ofe (q : Nat) (l : List Nat) (b : Body) : (qPutReport q l b).1.ofe = b.ofe := by
  unfold qPutReport
  dsimp only
  split
  · exact (sendReport_ofe _ _).trans (qPut_ofe _ _ _)
  · exact qPut_ofe _ _ _

/-- A track's event and its item of Q30 leave OFE's state. -/
theorem trackEvent_ofe (k kind : Nat) (b : Body) : (trackEvent k kind b).ofe = b.ofe := by
  unfold trackEvent
  dsimp only
  split
  · exact engineEv_ofe _ _ _ _ _
  · split <;> exact (qPutReport_ofe _ _ _).trans (engineEv_ofe _ _ _ _ _)

/-! ### The tables of sensors and tracks -/

theorem sensorOf_of_ofe {b c : Body} (h : c.ofe = b.ofe) (i : Nat) : sensorOf c i = sensorOf b i := by
  unfold sensorOf
  rw [h]

theorem trackOf_of_tracks {b c : Body} (h : c.ofe.tracks = b.ofe.tracks) (k : Nat) : trackOf c k = trackOf b k := by
  unfold trackOf
  rw [h]

@[simp] theorem sensorOf_setSensor_same (b : Body) (i : Nat) (x : Sensor) : sensorOf (setSensor b i x) i = x :=
  tabGet_tabSet_same _ _ _

@[simp] theorem trackOf_setTrack_same (b : Body) (k : Nat) (x : Track) : trackOf (setTrack b k x) k = x := tabGet_tabSet_same _ _ _

theorem trackOf_setTrack_other (b : Body) {k j : Nat} (x : Track) (h : j ≠ k) : trackOf (setTrack b k x) j = trackOf b j :=
  tabGet_tabSet_other _ _ h

/-! ### Work on tracks leaves the sensors and what waits -/

/-- From `b` to `c` OFE's sensors and the events that wait there stand. -/
structure SensorsStand (b c : Body) : Prop where
  fifo : c.ofe.fifo = b.ofe.fifo
  sensors : c.ofe.sensors = b.ofe.sensors

theorem SensorsStand.refl (b : Body) : SensorsStand b b := ⟨rfl, rfl⟩

theorem SensorsStand.trans {b c e : Body} (h : SensorsStand b c) (g : SensorsStand c e) : SensorsStand b e :=
  ⟨g.fifo.trans h.fifo, g.sensors.trans h.sensors⟩

theorem SensorsStand.of_ofe {b c : Body} (h : c.ofe = b.ofe) : SensorsStand b c :=
  ⟨congrArg Ofe.fifo h, congrArg Ofe.sensors h⟩

theorem SensorsStand.setTrack (b : Body) (k : Nat) (x : Track) : SensorsStand b (setTrack b k x) := ⟨rfl, rfl⟩

theorem SensorsStand.sensor {b c : Body} (h : SensorsStand b c) (i : Nat) : sensorOf c i = sensorOf b i := by
  unfold sensorOf
  rw [h.sensors]

theorem endTrack_free {k : Nat} {b : Body} (h : (trackOf b k).live = false) : endTrack k b = b :=
  if_neg (by rw [h]; decide)

theorem endTrack_ends {k : Nat} {b : Body} (h : (trackOf b k).live = true) : endTrack k b =
    setTrack (trackEvent k 2 b) k { trackOf (trackEvent k 2 b) k with live := false } := if_pos h

theorem endTrack_sensorsStand (k : Nat) (b : Body) : SensorsStand b (endTrack k b) := by
  cases hlive : (trackOf b k).live with
  | false => rw [endTrack_free hlive]; exact .refl b
  | true => rw [endTrack_ends hlive]; exact (SensorsStand.of_ofe (trackEvent_ofe _ _ _)).trans (.setTrack _ _ _)

/-- A track that ends is not live, and every other track stands (R227). -/
theorem endTrack_tracks (k : Nat) (b : Body) :
    (trackOf (endTrack k b) k).live = false ∧ ∀ j, j ≠ k → trackOf (endTrack k b) j = trackOf b j := by
  cases hlive : (trackOf b k).live with
  | false => rw [endTrack_free hlive]; exact ⟨hlive, fun _ _ => rfl⟩
  | true =>
    rw [endTrack_ends hlive]
    refine ⟨by rw [trackOf_setTrack_same], fun j hj => ?_⟩
    rw [trackOf_setTrack_other _ _ hj]
    exact trackOf_of_tracks (congrArg Ofe.tracks (trackEvent_ofe _ _ _)) j

/-- A track as a presence at `u`, `t` starts it (R224). -/
def newTrack (u t : Nat) (b : Body) : Track :=
  { live := true, node := u, prev := 0x1FF, tLast := t, vq := b.get OFE.TRK.V_BIRTH * 16, cls := 0, hits := 1,
    serial := b.ofe.serialNext, band := 0 }

/-- The new track stands in its slot, and the next one takes the next serial. -/
def trackPlaced (k u t : Nat) (b : Body) : Body :=
  let b := setTrack b k (newTrack u t b)
  { b with ofe := { b.ofe with serialNext := (b.ofe.serialNext + 1) % 65536 } }

theorem bear_eq (k u t : Nat) (b : Body) : bear k u t b = trackEvent k 0 (trackPlaced k u t (endTrack k b)) := rfl

theorem trackPlaced_track (k u t : Nat) (b : Body) : trackOf (trackPlaced k u t b) k = newTrack u t b :=
  trackOf_setTrack_same b k (newTrack u t b)

theorem bear_sensorsStand (k u t : Nat) (b : Body) : SensorsStand b (bear k u t b) := by
  have hplaced : SensorsStand (endTrack k b) (trackPlaced k u t (endTrack k b)) := ⟨rfl, rfl⟩
  rw [bear_eq]
  exact ((endTrack_sensorsStand k b).trans hplaced).trans (.of_ofe (trackEvent_ofe _ _ _))

theorem associate_sensorsStand (k u t : Nat) (b : Body) : SensorsStand b (associate k u t b) := by
  unfold associate
  dsimp only
  split
  · exact .setTrack _ _ _
  · exact SensorsStand.trans (.setTrack _ _ _) (.of_ofe (trackEvent_ofe _ _ _))

/-- A light-ahead request writes the copies of the light-ahead entries alone (R231). -/
theorem request_ofe (cls track t : Nat) (r : Nat × Nat) (b : Body) :
    ∃ l, (request cls track t b r).ofe = { b.ofe with la := l } := by
  unfold request
  dsimp only
  generalize (if cls ≤ 1 then b.get OFE.CLS_LVL_A.PED else _) = level
  generalize (if cls ≤ 1 then b.get OFE.DWELL.DW_PED else _) = dwell
  generalize (if tnNs b < _ then _ else _) = copy
  split
  · exact ⟨b.ofe.la, rfl⟩
  · exact ⟨_, engineEv_ofe _ _ _ _ _⟩

/-- So do all the requests of one walk (R230). -/
theorem lightAheadFrom_ofe (k t : Nat) (b : Body) : ∃ l, (lightAheadFrom k t b).ofe = { b.ofe with la := l } := by
  unfold lightAheadFrom
  refine Body.each_keeps (P := fun c => ∃ l, c.ofe = { b.ofe with la := l }) (fun r c hc => ?_) _ ⟨b.ofe.la, rfl⟩
  obtain ⟨l, hl⟩ := hc
  obtain ⟨l', hl'⟩ := request_ofe (trackOf b k).cls k t r c
  exact ⟨l', by rw [hl', hl]⟩

theorem SensorsStand.of_ahead {b c : Body} (h : ∃ l, c.ofe = { b.ofe with la := l }) : SensorsStand b c := by
  obtain ⟨l, h⟩ := h
  exact ⟨by rw [h], by rw [h]⟩

theorem trackPresence_sensorsStand (u t : Nat) (b : Body) : SensorsStand b (trackPresence u t b) := by
  unfold trackPresence
  split
  · exact (associate_sensorsStand _ _ _ _).trans (.of_ahead (lightAheadFrom_ofe _ _ _))
  · split
    · exact (bear_sensorsStand _ _ _ _).trans (.of_ahead (lightAheadFrom_ofe _ _ _))
    · exact SensorsStand.trans (c := b.bump OFE.COUNT_B.TRACK_FULL) ⟨rfl, rfl⟩ (.of_ahead (request_ofe _ _ _ _ _))

/-! ### The first track (R223, R224) -/

/-- No track is live, so every slot is free. -/
abbrev NoTrack (b : Body) : Prop := ∀ k, k < 256 → (trackOf b k).live = false

theorem residual_free {k : Nat} {b : Body} (h : (trackOf b k).live = false) (u t : Nat) : residual b k u t = none :=
  if_pos (by rw [h]; rfl)

theorem bestTrack_none {b : Body} (h : NoTrack b) (u t : Nat) : bestTrack b u t = none := by
  unfold bestTrack
  rw [List.foldl_ext _ (fun r _ => r) none fun r k hk => by rw [residual_free (h k (List.mem_range.1 hk)) u t], List.foldl_fixed]
  rfl

theorem birthSlot_first {b : Body} (h : NoTrack b) (t : Nat) : birthSlot b t = some 0 := by
  have hfree : ((List.range 256).find? fun k => !(trackOf b k).live) = some 0 :=
    List.find?_range_eq_some.2 ⟨by rw [h 0 (by decide)]; rfl, List.mem_range.2 (by decide), fun j hj => absurd hj (Nat.not_lt_zero j)⟩
  unfold birthSlot
  rw [hfree]

theorem trackPresence_first {b : Body} (h : NoTrack b) (u t : Nat) : trackOf (trackPresence u t b) 0 = newTrack u t b := by
  obtain ⟨l, hahead⟩ := lightAheadFrom_ofe 0 t (bear 0 u t b)
  have hborn : trackOf (bear 0 u t b) 0 = newTrack u t b := by
    rw [bear_eq, endTrack_free (h 0 (by decide)), trackOf_of_tracks (congrArg Ofe.tracks (trackEvent_ofe _ _ _))]
    exact trackPlaced_track 0 u t b
  unfold trackPresence
  rw [bestTrack_none h, birthSlot_first h]
  exact (trackOf_of_tracks (by rw [hahead]) 0).trans hborn

end Sys2Proof.Machine
end
section
/-! SUPPORT. Scope: O39, the filters of a PRESENCE event in their order (R217 to R219), what each discard leaves alone, and the first
track an accepted event starts (R223, R224). -/

namespace Sys2Proof.Machine

theorem exec_presence (s : State) : exec .presence s = execPresence s := rfl

/-! ### The event taken -/

/-- The oldest event has left OFE's FIFO. -/
def ofeTaken (rest : List (Nat × Ev)) (b : Body) : Body := { b with ofe := { b.ofe with fifo := rest } }

section Take

variable {b : Body} {e : Nat × Ev} {rest : List (Nat × Ev)} (hfifo : b.ofe.fifo = e :: rest) (hrun : b.flag OFE.CTL.RUN = true)
include hfifo hrun

theorem ofeTake_acts {sel : Nat × Ev → Bool} (hsel : sel e = true) (hruns : runsRules b = true) (f : Ev → Body → Body) :
    ofeTake sel f b = f e.2 (ofeTaken rest b) := by
  have htaken : runsRules (ofeTaken rest b) = true := hruns
  unfold ofeTake
  rw [hfifo]
  dsimp only
  rw [if_pos (by rw [hsel, hrun]; rfl)]
  exact if_pos htaken

/-- In a standby the event is taken, and that is all (R239). -/
theorem ofeTake_standby {sel : Nat × Ev → Bool} (hsel : sel e = true) (hruns : runsRules b = false) (f : Ev → Body → Body) :
    ofeTake sel f b = ofeTaken rest b := by
  have htaken : ¬ runsRules (ofeTaken rest b) = true := Bool.eq_false_iff.1 hruns
  unfold ofeTake
  rw [hfifo]
  dsimp only
  rw [if_pos (by rw [hsel, hrun]; rfl)]
  exact if_neg htaken

end Take

/-! ### What a discard leaves alone -/

/-- From `b` to `c` the events that wait, P of sensor `i` and the tracks stand. -/
structure Discards (i : Nat) (b c : Body) : Prop where
  fifo : c.ofe.fifo = b.ofe.fifo
  p : (sensorOf c i).p = (sensorOf b i).p
  tracks : c.ofe.tracks = b.ofe.tracks

theorem Discards.trans {i : Nat} {b c e : Body} (h : Discards i b c) (g : Discards i c e) : Discards i b e :=
  ⟨g.fifo.trans h.fifo, g.p.trans h.p, g.tracks.trans h.tracks⟩

theorem Discards.of_ofe {i : Nat} {b c : Body} (h : c.ofe = b.ofe) : Discards i b c :=
  ⟨congrArg Ofe.fifo h, congrArg Sensor.p (sensorOf_of_ofe h i), congrArg Ofe.tracks h⟩

theorem Discards.bump (i : Nat) (b : Body) (f : Fld) : Discards i b (b.bump f) := .of_ofe rfl

theorem Discards.setSensor {i : Nat} {b : Body} {x : Sensor} (h : x.p = (sensorOf b i).p) : Discards i b (setSensor b i x) :=
  ⟨rfl, by rw [sensorOf_setSensor_same, h], rfl⟩

/-! ### Marks of a sensor -/

theorem statusEvent_ofe (i : Nat) (b : Body) : (statusEvent i b).ofe = b.ofe := engineEv_ofe _ _ _ _ _

/-- A sensor from which an event has passed step 1 (R235). -/
def heardNow (b : Body) (i : Nat) : Sensor := { sensorOf b i with lost := false, heard := true, passedAt := b.clock.cyc }

/-- The mark clears, and a lost sensor's status is sent, which clocks the domain. -/
theorem clearLost_shows (i : Nat) (b : Body) : (clearLost i b).ofe = (setSensor b i (heardNow b i)).ofe ∧
    (clearLost i b).clock = b.clock ∧ RegsKept (· = SYS.CLK_STAT.word.addr) b (clearLost i b) := by
  have hset : RegsKept (· = SYS.CLK_STAT.word.addr) b (setSensor b i (heardNow b i)) := .of_regs rfl
  unfold clearLost
  dsimp only
  split
  · exact ⟨statusEvent_ofe i _, engineEv_clock _ _ _ _ _, hset.trans (engineEv_kept _ _ _ _ _)⟩
  · exact ⟨rfl, rfl, hset⟩

theorem clearLost_sensor (i : Nat) (b : Body) : sensorOf (clearLost i b) i = heardNow b i :=
  (sensorOf_of_ofe (clearLost_shows i b).1 i).trans (sensorOf_setSensor_same _ _ _)

theorem clearLost_discards (i : Nat) (b : Body) : Discards i b (clearLost i b) :=
  (Discards.setSensor (x := heardNow b i) rfl).trans (.of_ofe (clearLost_shows i b).1)

theorem clearLost_get {f : Fld} (hf : f.at 0 0 ≠ SYS.CLK_STAT.word.addr) (i : Nat) (b : Body) : (clearLost i b).get f = b.get f :=
  (clearLost_shows i b).2.2.get hf

/-- Its rate bucket holds what it held. -/
theorem clearLost_tokens (i : Nat) (b : Body) :
    tokensNow (clearLost i b) (sensorOf (clearLost i b) i) = tokensNow b (sensorOf b i) := by
  unfold tokensNow
  rw [clearLost_sensor, (clearLost_shows i b).2.1]
  rfl

theorem setStuck_same {i : Nat} {v : Bool} {b : Body} (h : (sensorOf b i).stuck = v) : setStuck i v b = b := if_pos h

/-- A change of the mark writes the sensor, and of OFE nothing else (R221). -/
theorem setStuck_ofe {i : Nat} {v : Bool} {b : Body} (h : (sensorOf b i).stuck ≠ v) : (setStuck i v b).ofe =
    (setSensor b i { sensorOf b i with stuck := v, p := if v then false else (sensorOf b i).p }).ofe := by
  unfold setStuck
  dsimp only
  rw [if_neg h]
  exact (record_told _ _ _ _).ofe.trans (statusEvent_ofe i _)

theorem setStuck_fifo (i : Nat) (v : Bool) (b : Body) : (setStuck i v b).ofe.fifo = b.ofe.fifo := by
  by_cases h : (sensorOf b i).stuck = v
  · rw [setStuck_same h]
  · rw [setStuck_ofe h]
    rfl

theorem setStuck_stuck (i : Nat) (v : Bool) (b : Body) : (sensorOf (setStuck i v b) i).stuck = v := by
  by_cases h : (sensorOf b i).stuck = v
  · rw [setStuck_same h, h]
  · rw [sensorOf_of_ofe (setStuck_ofe h), sensorOf_setSensor_same]

/-- A sensor newly marked stuck is not present. -/
theorem setStuck_absent {i : Nat} {b : Body} (h : (sensorOf b i).stuck = false) : (sensorOf (setStuck i true b) i).p = false := by
  rw [sensorOf_of_ofe (setStuck_ofe (by rw [h]; decide)), sensorOf_setSensor_same]
  rfl

/-! ### The steps of R217 from step 2 on, for sensor `i` and an event of confidence `conf`, time `t` and state `st` -/

/-- The sensor as an accepted event leaves it (R219): P, TA and TC. -/
def sensorAccepted (i t : Nat) (st : Bool) (b : Body) : Body :=
  let x := sensorOf b i
  setSensor b i { x with p := st, ta := some t, tc := if st = x.p then x.tc else some t, takenAt := b.clock.cyc,
                         roseAt := if st && !x.p then b.clock.cyc else x.roseAt }

/-- An accepted event: a presence at a node goes on to tracking (R219). -/
def acceptEvent (i t : Nat) (st : Bool) (b : Body) : Body :=
  let b := sensorAccepted i t st b
  if st then match sensorNode b i with
    | some u => trackPresence u t b
    | none => b
  else b

/-- Step 5: debounce (R219). -/
def debounce (i t : Nat) (st : Bool) (b : Body) : Body :=
  let x := sensorOf b i
  if st = x.p ∧ bounces b t x.ta then setSensor b i { x with ta := some t, takenAt := b.clock.cyc }
  else if st ≠ x.p ∧ bounces b t x.tc then b
  else acceptEvent i t st b

/-- Step 4: confidence. -/
def filterConf (i conf t : Nat) (st : Bool) (b : Body) : Body :=
  if st && decide (conf < b.get OFE.FILT.MIN_CONF) then b.bump OFE.COUNT_B.CONF else debounce i t st b

/-- The rate bucket is counted up to now and left with `n` tokens (R218). -/
def tokensLeft (n i : Nat) (b : Body) : Body :=
  let x := sensorOf b i
  setSensor b i { x with tokens := n, tokAt := (tokensNow b x).2 }

/-- A token is spent. -/
def tokenSpent (i : Nat) (b : Body) : Body := tokensLeft ((tokensNow b (sensorOf b i)).1 - 1) i b

/-- Step 3: the rate bucket. -/
def filterRate (i conf t : Nat) (st : Bool) (b : Body) : Body :=
  if (tokensNow b (sensorOf b i)).1 = 0 then (tokensLeft 0 i b).bump OFE.COUNT_A.RATE
  else filterConf i conf t st (tokenSpent i b)

/-- Step 2: a stuck sensor. -/
def filterStuck (i conf t : Nat) (st : Bool) (b : Body) : Body :=
  if (sensorOf b i).stuck && st then b.bump OFE.COUNT_D.STUCK else filterRate i conf t st (setStuck i false b)

/-- A payload of R213 for PRESENCE. -/
def PresenceValid (b : Body) (p : Nat) : Prop := p / 2 ^ 17 % 2 ^ 15 = 0 ∧ presenceUnit b (p % 2 ^ 12) = true

theorem presenceOk_iff (b : Body) (p : Nat) : presenceOk b p = true ↔ PresenceValid b p := by
  unfold presenceOk
  rw [Bool.and_eq_true, decide_eq_true_iff, bits_zero]
  rfl

theorem ofePresence_bad {b : Body} {p : Nat} (h : ¬ PresenceValid b p) : ofePresence p b = b.bump OFE.COUNT_C.BAD_EVENT :=
  if_pos (by rw [Bool.eq_false_iff.2 (mt (presenceOk_iff b p).1 h)]; rfl)

section Valid

variable {b : Body} {p : Nat} (hvalid : PresenceValid b p)
include hvalid

theorem ofePresence_late (h : inRange b (p / 2 ^ 32 % 2 ^ 32) = false) : ofePresence p b = b.bump OFE.COUNT_A.RANGE := by
  refine (if_neg (by rw [(presenceOk_iff b p).2 hvalid]; decide)).trans (if_pos ?_)
  rw [show inRange b (bits p 32 32) = false from h]
  rfl

/-- An event in time goes on from step 2. -/
theorem ofePresence_passes (h : inRange b (p / 2 ^ 32 % 2 ^ 32) = true) : ofePresence p b =
    filterStuck (sensorIndex (p % 2 ^ 12)) (p / 2 ^ 12 % 16) (p / 2 ^ 32 % 2 ^ 32) (decide (p / 2 ^ 16 % 2 = 1))
      (clearLost (sensorIndex (p % 2 ^ 12)) b) := by
  rw [← bits_zero p 12]
  refine (if_neg (by rw [(presenceOk_iff b p).2 hvalid]; decide)).trans ((if_neg ?_).trans rfl)
  rw [show inRange b (bits p 32 32) = true from h]
  decide

end Valid

/-! ### The outcome of each step -/

section Steps

variable {i conf t : Nat} {st : Bool} {b : Body}

theorem filterStuck_counts (hstuck : (sensorOf b i).stuck = true) (hst : st = true) :
    filterStuck i conf t st b = b.bump OFE.COUNT_D.STUCK := if_pos (by rw [hstuck, hst]; rfl)

theorem filterStuck_clears (hst : st = false) : filterStuck i conf t st b = filterRate i conf t st (setStuck i false b) :=
  if_neg (by rw [hst, Bool.and_false]; decide)

theorem filterStuck_passes (hfree : (sensorOf b i).stuck = false) : filterStuck i conf t st b = filterRate i conf t st b := by
  refine (if_neg (by rw [hfree, Bool.false_and]; decide)).trans ?_
  rw [setStuck_same hfree]

theorem filterRate_empty (h : (tokensNow b (sensorOf b i)).1 = 0) :
    filterRate i conf t st b = (tokensLeft 0 i b).bump OFE.COUNT_A.RATE := if_pos h

theorem filterRate_passes (h : 0 < (tokensNow b (sensorOf b i)).1) :
    filterRate i conf t st b = filterConf i conf t st (tokenSpent i b) := if_neg (by omega)

/-- STATE 0, or a confidence of at least MIN_CONF. -/
abbrev Sure (conf : Nat) (st : Bool) (b : Body) : Prop := st = false ∨ b.get OFE.FILT.MIN_CONF ≤ conf

theorem filterConf_unsure (h : ¬ Sure conf st b) : filterConf i conf t st b = b.bump OFE.COUNT_B.CONF := by
  obtain ⟨hst, hlow⟩ := not_or.1 h
  exact if_pos (by rw [eq_true_of_ne_false hst, decide_eq_true (not_le.1 hlow)]; rfl)

theorem filterConf_sure (h : Sure conf st b) : filterConf i conf t st b = debounce i t st b := by
  refine if_neg fun hlow => ?_
  obtain ⟨hst, hconf⟩ := Bool.and_eq_true_iff.1 hlow
  rcases h with h | h
  · exact absurd (hst.symm.trans h) (by decide)
  · exact absurd (of_decide_eq_true hconf) (not_lt.2 h)

/-- `t` follows `o` by at least the debounce time, or nothing came before. -/
abbrev Settled (b : Body) (t : Nat) (o : Option Nat) : Prop :=
  ∀ v, o = some v → (b.get OFE.FILT.DEBOUNCE * 65536 : Nat) ≤ 10 * sdiff t v

theorem bounces_iff (b : Body) (t : Nat) (o : Option Nat) : bounces b t o = true ↔ ¬ Settled b t o := by
  cases o with
  | none => exact ⟨fun h => absurd h Bool.false_ne_true, fun h => absurd (fun v hv => nomatch hv) h⟩
  | some v =>
    refine decide_eq_true_iff.trans ⟨fun h hs => absurd (hs v rfl) (not_le.2 h), fun h => ?_⟩
    by_contra hlate
    exact h fun w hw => Option.some.inj hw ▸ not_lt.1 hlate

theorem debounce_absorbs (hsame : st = (sensorOf b i).p) (h : ¬ Settled b t (sensorOf b i).ta) : debounce i t st b =
    setSensor b i { sensorOf b i with ta := some t, takenAt := b.clock.cyc } := if_pos ⟨hsame, (bounces_iff _ _ _).2 h⟩

section Change

variable (hchange : st ≠ (sensorOf b i).p)
include hchange

theorem debounce_discards (h : ¬ Settled b t (sensorOf b i).tc) : debounce i t st b = b :=
  (if_neg fun hsame => hchange hsame.1).trans (if_pos ⟨hchange, (bounces_iff _ _ _).2 h⟩)

theorem debounce_accepts (h : Settled b t (sensorOf b i).tc) : debounce i t st b = acceptEvent i t st b :=
  (if_neg fun hsame => hchange hsame.1).trans (if_neg fun hbounce => (bounces_iff _ _ _).1 hbounce.2 h)

end Change

/-! ### An accepted event -/

theorem acceptEvent_sensorsStand (i t : Nat) (st : Bool) (b : Body) : SensorsStand (sensorAccepted i t st b) (acceptEvent i t st b) := by
  have hnode : SensorsStand (sensorAccepted i t st b) (match sensorNode (sensorAccepted i t st b) i with
      | some u => trackPresence u t (sensorAccepted i t st b)
      | none => sensorAccepted i t st b) := by
    split
    · exact trackPresence_sensorsStand _ _ _
    · exact .refl _
  cases st with
  | false => exact .refl _
  | true => exact hnode

/-- A change of STATE sets P, TC and TA. -/
theorem acceptEvent_sensor (hchange : st ≠ (sensorOf b i).p) : (sensorOf (acceptEvent i t st b) i).p = st ∧
    (sensorOf (acceptEvent i t st b) i).tc = some t ∧ (sensorOf (acceptEvent i t st b) i).ta = some t := by
  rw [(acceptEvent_sensorsStand i t st b).sensor i, sensorAccepted, sensorOf_setSensor_same]
  exact ⟨rfl, if_neg hchange, rfl⟩

/-- A presence at a channel, with no live track, starts track 0 there. -/
theorem acceptEvent_first (hst : st = true) (hi : i < 512) (hfree : NoTrack b) :
    trackOf (acceptEvent i t st b) 0 = newTrack i t b := by
  have hnode : sensorNode (sensorAccepted i t true b) i = some i := if_pos hi
  have hevent : acceptEvent i t true b = (match sensorNode (sensorAccepted i t true b) i with
    | some u => trackPresence u t (sensorAccepted i t true b)
    | none => sensorAccepted i t true b) := rfl
  rw [hst, hevent, hnode]
  exact trackPresence_first (b := sensorAccepted i t true b) hfree i t

end Steps

/-! ### A stuck mark just cleared stays clear -/

/-- From `b` to `c` the events that wait and the stuck mark of sensor `i` stand. -/
structure MarkStands (i : Nat) (b c : Body) : Prop where
  fifo : c.ofe.fifo = b.ofe.fifo
  stuck : (sensorOf c i).stuck = (sensorOf b i).stuck

theorem MarkStands.refl (i : Nat) (b : Body) : MarkStands i b b := ⟨rfl, rfl⟩

theorem MarkStands.trans {i : Nat} {b c e : Body} (h : MarkStands i b c) (g : MarkStands i c e) : MarkStands i b e :=
  ⟨g.fifo.trans h.fifo, g.stuck.trans h.stuck⟩

theorem MarkStands.setSensor {i : Nat} {b : Body} {x : Sensor} (h : x.stuck = (sensorOf b i).stuck) : MarkStands i b (setSensor b i x) :=
  ⟨rfl, by rw [sensorOf_setSensor_same, h]⟩

theorem SensorsStand.mark {b c : Body} (h : SensorsStand b c) (i : Nat) : MarkStands i b c :=
  ⟨h.fifo, congrArg Sensor.stuck (h.sensor i)⟩

theorem debounce_markStands (i t : Nat) (st : Bool) (b : Body) : MarkStands i b (debounce i t st b) := by
  unfold debounce
  dsimp only
  split
  · exact .setSensor rfl
  · split
    · exact .refl i b
    · exact MarkStands.trans (c := sensorAccepted i t st b) (.setSensor rfl) ((acceptEvent_sensorsStand i t st b).mark i)

theorem filterConf_markStands (i conf t : Nat) (st : Bool) (b : Body) : MarkStands i b (filterConf i conf t st b) := by
  unfold filterConf
  split
  · exact ⟨rfl, rfl⟩
  · exact debounce_markStands _ _ _ _

theorem filterRate_markStands (i conf t : Nat) (st : Bool) (b : Body) : MarkStands i b (filterRate i conf t st b) := by
  have hleft : ∀ n, MarkStands i b (tokensLeft n i b) := fun _ => .setSensor rfl
  unfold filterRate
  split
  · exact (hleft 0).trans ⟨rfl, rfl⟩
  · exact (hleft _).trans (filterConf_markStands i conf t st _)

/-! ### The state at step 4 -/

/-- The sensor of an event that has passed steps 1 to 3. -/
theorem tokenSpent_sensor (i : Nat) (b : Body) : sensorOf (tokenSpent i (clearLost i b)) i =
    { heardNow b i with tokens := (tokensNow b (sensorOf b i)).1 - 1, tokAt := (tokensNow b (sensorOf b i)).2 } := by
  unfold tokenSpent tokensLeft
  dsimp only
  rw [sensorOf_setSensor_same, clearLost_tokens, clearLost_sensor]

theorem tokensLeft_discards (n i : Nat) (b : Body) : Discards i b (tokensLeft n i (clearLost i b)) :=
  (clearLost_discards i b).trans (.setSensor rfl)

theorem tokenSpent_discards (i : Nat) (b : Body) : Discards i b (tokenSpent i (clearLost i b)) := tokensLeft_discards _ i b

theorem tokenSpent_get {f : Fld} (hf : f.at 0 0 ≠ SYS.CLK_STAT.word.addr) (i : Nat) (b : Body) :
    (tokenSpent i (clearLost i b)).get f = b.get f := clearLost_get hf i b

theorem sure_tokenSpent (i conf : Nat) (st : Bool) (b : Body) : Sure conf st (tokenSpent i (clearLost i b)) ↔ Sure conf st b := by
  unfold Sure
  rw [tokenSpent_get (by decide)]

theorem settled_tokenSpent (i t : Nat) (o : Option Nat) (b : Body) : Settled (tokenSpent i (clearLost i b)) t o ↔ Settled b t o := by
  unfold Settled
  rw [tokenSpent_get (by decide)]

theorem noTrack_tokenSpent {b : Body} (h : NoTrack b) (i : Nat) : NoTrack (tokenSpent i (clearLost i b)) := fun k hk => by
  rw [trackOf_of_tracks (tokenSpent_discards i b).tracks]
  exact h k hk

theorem newTrack_tokenSpent (i u t : Nat) (b : Body) : newTrack u t (tokenSpent i (clearLost i b)) = newTrack u t b := by
  have hlost : (clearLost i b).ofe.serialNext = b.ofe.serialNext := by
    rw [(clearLost_shows i b).1]
    rfl
  have hserial : (tokenSpent i (clearLost i b)).ofe.serialNext = b.ofe.serialNext := hlost
  unfold newTrack
  rw [tokenSpent_get (by decide), hserial]

/-- A counter of 16 bits counts one event more. -/
theorem get_bump16 {f : Fld} {b c : Body} (hlo : f.lo + f.w ≤ 32) (hw : f.w = 16) (h : c.get f = b.get f) :
    (c.bump f).get f = min (b.get f + 1) 0xFFFF := by
  rw [Body.get_bump_same c f 0 0 hlo, h, hw]
  rfl

/-! ### The obligation -/

section Presence

variable {s : State} {e : Ev} {rest : List (Nat × Ev)} (hp : powered s.body = true) (hrun : s.body.flag OFE.CTL.RUN = true)
  (hfifo : s.body.ofe.fifo = (0, e) :: rest)
include hp hrun hfifo

theorem does_presence (hruns : runsRules s.body = true) {P : Body → Prop} {c : Body}
    (hevent : ofePresence e.payload (ofeTaken rest s.body) = c) (h : P c) (hpins : ∀ b, P b → P (settle b)) : Does .presence s P :=
  does_of_unpinned (exec_presence s) hp (by rw [ofeTake_acts hfifo hrun rfl hruns, hevent]; exact h) hpins

theorem does_presence_standby (hruns : runsRules s.body = false) : Does .presence s (fun b =>
    b.ofe = { s.body.ofe with fifo := rest } ∧ RegsKept (fun _ => False) s.body b) :=
  does_of_unpinned (exec_presence s) hp (by rw [ofeTake_standby hfifo hrun rfl hruns]; exact ⟨rfl, .of_regs rfl⟩) fun _ h => h

end Presence

/-- Settles O39: a discard is one of `Discards`, counted by `get_bump16`; what passes steps 1 to 3 goes on at `tokenSpent`. -/
theorem presencePassesTheFiltersInOrder : Obligations.PresencePassesTheFiltersInOrder := by
  intro s e rest hp hrun hfifo
  refine ⟨does_presence_standby hp hrun hfifo, fun hruns => ?_⟩
  intro p u i t st x valid tok sure late quiet c16
  let b := ofeTaken rest s.body
  have hquiet : ∀ {c}, Discards i b c → quiet c := fun h => ⟨h.fifo, h.p, h.tracks⟩
  have does : ∀ {P : Body → Prop} {c : Body}, ofePresence p b = c → P c → (∀ c, P c → P (settle c)) → Does .presence s P :=
    does_presence hp hrun hfifo hruns
  refine ⟨fun hbad => ?_, fun hvalid hlate => ?_, fun hvalid hin hstuck hst => ?_, fun hvalid hin hstuck hst => ?_,
    fun hvalid hin hfree => ?_⟩
  · exact does (ofePresence_bad (b := b) hbad) ⟨hquiet (.bump i b _), get_bump16 (by decide) rfl rfl⟩ fun _ h => h
  · exact does (ofePresence_late (b := b) hvalid hlate) ⟨hquiet (.bump i b _), get_bump16 (by decide) rfl rfl⟩ fun _ h => h
  · have hmark : (sensorOf (clearLost i b) i).stuck = true := by rw [clearLost_sensor]; exact hstuck
    refine does ((ofePresence_passes (b := b) hvalid hin).trans (filterStuck_counts hmark hst)) ⟨?_, ?_⟩ fun _ h => h
    · exact hquiet ((clearLost_discards i b).trans (.bump i _ _))
    · exact get_bump16 (b := b) (by decide) rfl (clearLost_get (by decide) i b)
  · have hrate := filterRate_markStands i (p / 2 ^ 12 % 16) t st (setStuck i false (clearLost i b))
    refine does ((ofePresence_passes (b := b) hvalid hin).trans (filterStuck_clears hst)) ⟨?_, ?_⟩ fun _ h => h
    · exact hrate.fifo.trans ((setStuck_fifo _ _ _).trans (clearLost_discards i b).fifo)
    · exact hrate.stuck.trans (setStuck_stuck _ _ _)
  · have hmark : (sensorOf (clearLost i b) i).stuck = false := by rw [clearLost_sensor]; exact hfree
    have hevent := (ofePresence_passes (b := b) hvalid hin).trans (filterStuck_passes hmark)
    have htok : (tokensNow (clearLost i b) (sensorOf (clearLost i b) i)).1 = tok := by rw [clearLost_tokens]; rfl
    let c := tokenSpent i (clearLost i b)
    have hspent := tokenSpent_discards i b
    have hsensor := tokenSpent_sensor i b
    have hpast : 0 < tok → ofePresence p b = filterConf i (p / 2 ^ 12 % 16) t st c := fun h =>
      hevent.trans (filterRate_passes (htok.symm ▸ h))
    have hstep5 : 0 < tok → sure → ofePresence p b = debounce i t st c := fun h hsure =>
      (hpast h).trans (filterConf_sure ((sure_tokenSpent _ _ _ b).2 hsure))
    have hsame : (sensorOf c i).p = x.p := by rw [hsensor]; rfl
    have htc : (sensorOf c i).tc = x.tc := by rw [hsensor]; rfl
    have hta : (sensorOf c i).ta = x.ta := by rw [hsensor]; rfl
    have hlate : ∀ o, Settled c t o ↔ late o := fun o => settled_tokenSpent i t o b
    refine ⟨fun hempty => ?_, fun htokens hunsure => ?_, fun htokens hsure hchange hearly => ?_,
      fun htokens hsure hrepeat hearly => ?_, fun htokens hsure hchange hsettled => ?_⟩
    · refine does (hevent.trans (filterRate_empty (htok.trans hempty))) ⟨?_, ?_⟩ fun _ h => h
      · exact hquiet ((tokensLeft_discards 0 i b).trans (.bump i _ _))
      · exact get_bump16 (b := b) (by decide) rfl (clearLost_get (by decide) i b)
    · have hcounts := filterConf_unsure (i := i) (t := t) (mt (sure_tokenSpent i _ st b).1 hunsure)
      refine does ((hpast htokens).trans hcounts) ⟨hquiet (hspent.trans (.bump i _ _)), ?_, ?_⟩ fun _ h => h
      · exact get_bump16 (b := b) (by decide) rfl (tokenSpent_get (by decide) i b)
      · exact congrArg Sensor.tokens hsensor
    · have hdiscard := debounce_discards (t := t) (hsame.symm ▸ hchange) (htc.symm ▸ mt (hlate x.tc).1 hearly)
      exact does ((hstep5 htokens hsure).trans hdiscard) ⟨hquiet hspent, hta⟩ fun _ h => h
    · have habsorb := debounce_absorbs (t := t) (hrepeat.trans hsame.symm) (hta.symm ▸ mt (hlate x.ta).1 hearly)
      refine does ((hstep5 htokens hsure).trans habsorb) ⟨hquiet (hspent.trans (.setSensor rfl)), ?_⟩ fun _ h => h
      exact congrArg Sensor.ta (sensorOf_setSensor_same _ _ _)
    · have hchanged : st ≠ (sensorOf c i).p := hsame.symm ▸ hchange
      have haccept := debounce_accepts (t := t) hchanged (htc.symm ▸ (hlate x.tc).2 hsettled)
      obtain ⟨hp', htc', hta'⟩ := acceptEvent_sensor (t := t) hchanged
      refine does ((hstep5 htokens hsure).trans haccept) ⟨?_, hp', htc', hta', fun hst hi hnone => ?_⟩ fun _ h => h
      · exact (acceptEvent_sensorsStand i t st c).fifo.trans hspent.fifo
      · exact (acceptEvent_first hst hi (noTrack_tokenSpent (b := b) hnone i)).trans (newTrack_tokenSpent i i t b)

end Sys2Proof.Machine
end
section
/-! SUPPORT. Scope: O40, bay states, the operations of CONTROL and the timers of sensors and tracks (R213, R214, R220, R221, R227,
R234). -/

namespace Sys2Proof.Machine

theorem exec_bay (s : State) : exec .bay s = execBay s := rfl
theorem exec_laZone (s : State) : exec .laZone s = execLaZone s := rfl
theorem exec_dropTracks (s : State) : exec .dropTracks s = execDropTracks s := rfl
theorem exec_refreshCounts (s : State) : exec .refreshCounts s = execRefreshCounts s := rfl
theorem exec_clearStuck (s : State) : exec .clearStuck s = execClearStuck s := rfl
theorem exec_presenceHoldExpiry (i : Nat) (s : State) : exec (.presenceHoldExpiry i) s = execPresenceHoldExpiry i s := rfl
theorem exec_sensorStuck (i : Nat) (s : State) : exec (.sensorStuck i) s = execSensorStuck i s := rfl
theorem exec_trackDrop (k : Nat) (s : State) : exec (.trackDrop k) s = execTrackDrop k s := rfl

/-- An event of which nothing is left but a count of BAD_EVENT (R213). -/
def CountsBad (rest : List (Nat × Ev)) (b c : Body) : Prop :=
  c.ofe.fifo = rest ∧ c.get OFE.COUNT_C.BAD_EVENT = min (b.get OFE.COUNT_C.BAD_EVENT + 1) 0xFFFF

theorem countsBad_taken (rest : List (Nat × Ev)) (b : Body) : CountsBad rest b (ofeBad (ofeTaken rest b)) :=
  ⟨rfl, get_bump16 (by decide) rfl rfl⟩

/-! ### BAY (R234) -/

theorem bayOk_iff (b : Body) (p : Nat) :
    bayOk b p = true ↔ (p / 2 ^ 15 % 2 ^ 17 = 0 ∧ p / 2 ^ 12 % 4 ≠ 3) ∧ bayUnit b (p % 2 ^ 12) = true := by
  unfold bayOk
  rw [Bool.and_eq_true, decide_eq_true_iff, bits_zero]
  rfl

theorem bayOk_false {b : Body} {p : Nat} (h : p / 2 ^ 15 % 2 ^ 17 ≠ 0 ∨ p / 2 ^ 12 % 4 = 3 ∨ bayUnit b (p % 2 ^ 12) = false) :
    bayOk b p = false := Bool.eq_false_iff.2 fun hok => by
  obtain ⟨⟨hres, hst⟩, hunit⟩ := (bayOk_iff b p).1 hok
  rcases h with h | h | h
  · exact h hres
  · exact hst h
  · exact absurd (h.symm.trans hunit) (by decide)

theorem ofeBay_bad {b : Body} {p : Nat} (h : bayOk b p = false) : ofeBay p b = ofeBad b := if_pos (by rw [h]; rfl)

/-- The bay state of an event that has a token (R218). -/
def bayStored (i st : Nat) (b : Body) : Body :=
  let x := sensorOf b i
  setSensor b i { x with tokens := (tokensNow b x).1 - 1, tokAt := (tokensNow b x).2, bay := st }

theorem ofeBay_stores {b : Body} {p : Nat} (hok : bayOk b p = true) (hin : inRange b (p / 2 ^ 32 % 2 ^ 32) = true)
    (htoken : 0 < (tokensNow b (sensorOf b (sensorIndex (p % 2 ^ 12)))).1) :
    ofeBay p b = bayStored (sensorIndex (p % 2 ^ 12)) (p / 2 ^ 12 % 4) (clearLost (sensorIndex (p % 2 ^ 12)) b) := by
  rw [← clearLost_tokens, ← bits_zero p 12] at htoken
  rw [← bits_zero p 12]
  refine (if_neg (by rw [hok]; decide)).trans ((if_neg ?_).trans (if_neg (Nat.pos_iff_ne_zero.1 htoken)))
  rw [show inRange b (bits p 32 32) = true from hin]
  decide

theorem bayStored_shows (i st : Nat) (b : Body) : (bayStored i st (clearLost i b)).ofe.fifo = b.ofe.fifo ∧
    (sensorOf (bayStored i st (clearLost i b)) i).bay = st ∧ (bayStored i st (clearLost i b)).ofe.tracks = b.ofe.tracks := by
  have hstored : Discards i (clearLost i b) (bayStored i st (clearLost i b)) := .setSensor rfl
  have hlost := (clearLost_discards i b).trans hstored
  exact ⟨hlost.fifo, congrArg Sensor.bay (sensorOf_setSensor_same _ _ _), hlost.tracks⟩

/-! ### CONTROL (R214) -/

section Control

variable {b : Body} {e : Ev} {rest : List (Nat × Ev)} (hfifo : b.ofe.fifo = (2, e) :: rest) (hrun : b.flag OFE.CTL.RUN = true)
  (hruns : runsRules b = true)
include hfifo hrun hruns

/-- A row of CONTROL takes an event of its OP, and one of no OP. -/
theorem controlRow_takes {op : Nat} (hop : e.payload % 2 ^ 8 = op ∨ e.payload % 2 ^ 8 ∉ [1, 2, 3, 4]) (f : Nat → Body → Body) :
    controlRow op f b = if controlOk e.payload op then f e.payload (ofeTaken rest b) else ofeBad (ofeTaken rest b) := by
  rw [← bits_zero e.payload 8] at hop
  refine ofeTake_acts hfifo hrun (Bool.and_eq_true_iff.2 ⟨rfl, Bool.or_eq_true_iff.2 ?_⟩) hruns _
  exact hop.imp decide_eq_true decide_eq_true

theorem controlRow_ok {op : Nat} (hok : controlOk e.payload op = true) (f : Nat → Body → Body) :
    controlRow op f b = f e.payload (ofeTaken rest b) := by
  have hop : e.payload % 2 ^ 8 = op := by
    unfold controlOk at hok
    simp only [Bool.and_eq_true, decide_eq_true_iff, bits_zero] at hok
    exact hok.1.1.1
  exact (controlRow_takes hfifo hrun hruns (.inl hop) f).trans (if_pos hok)

theorem controlRow_bad {op : Nat} (hop : e.payload % 2 ^ 8 = op ∨ e.payload % 2 ^ 8 ∉ [1, 2, 3, 4])
    (hok : controlOk e.payload op = false) (f : Nat → Body → Body) : controlRow op f b = ofeBad (ofeTaken rest b) :=
  (controlRow_takes hfifo hrun hruns hop f).trans (if_neg (Bool.eq_false_iff.1 hok))

end Control

/-- A payload of no OP is none of R213. -/
theorem controlOk_unknown {p op : Nat} (hop : op ∈ [1, 2, 3, 4]) (h : p % 2 ^ 8 ∉ [1, 2, 3, 4]) : controlOk p op = false := by
  have hne : ¬ bits p 0 8 = op := fun heq => h (bits_zero p 8 ▸ heq ▸ hop)
  unfold controlOk
  rw [decide_eq_false hne]
  rfl

/-- A bit just set reads so, and no other register is written. -/
theorem setBit_shows {f : Fld} (hw : f.lo + f.w ≤ 32) {k : Nat} (hk : k < f.w) (v : Bool) (b : Body) :
    (b.setBit f k v).bit f k = v ∧ RegsKept (· = f.at 0 0) b (b.setBit f k v) :=
  ⟨Body.bit_setBit_same b f hk hw v 0 0, .put_at rfl b _⟩

theorem laZone_low {p : Nat} (h : p / 2 ^ 8 % 64 < 32) (b : Body) : (laZone p b).bit OFE.LA_ZONE_LO.EN (p / 2 ^ 8 % 64) =
    decide (p / 2 ^ 14 % 2 = 1) ∧ RegsKept (· = OFE.LA_ZONE_LO.word.addr) b (laZone p b) := by
  have hzone : laZone p b = b.setBit OFE.LA_ZONE_LO.EN (p / 2 ^ 8 % 64) (decide (p / 2 ^ 14 % 2 = 1)) := if_pos h
  rw [hzone]
  exact setBit_shows (by decide) h _ b

theorem laZone_high {p : Nat} (h : 32 ≤ p / 2 ^ 8 % 64) (b : Body) : (laZone p b).bit OFE.LA_ZONE_HI.EN (p / 2 ^ 8 % 64 - 32) =
    decide (p / 2 ^ 14 % 2 = 1) ∧ RegsKept (· = OFE.LA_ZONE_HI.word.addr) b (laZone p b) := by
  have hzone : laZone p b = b.setBit OFE.LA_ZONE_HI.EN (p / 2 ^ 8 % 64 - 32) (decide (p / 2 ^ 14 % 2 = 1)) := if_neg (not_lt.2 h)
  have hbit : p / 2 ^ 8 % 64 - 32 < 32 := by omega
  rw [hzone]
  exact setBit_shows (by decide) hbit _ b

/-- A track that is not live stays so while others end. -/
theorem endTrack_keeps_ended {j : Nat} (k : Nat) {b : Body} (h : (trackOf b j).live = false) : (trackOf (endTrack k b) j).live = false := by
  obtain ⟨hended, hother⟩ := endTrack_tracks k b
  by_cases hj : j = k
  · rw [hj, hended]
  · rw [hother j hj, h]

/-- A pass over tracks ends each of them. -/
theorem each_endTrack (l : List Nat) (b : Body) {j : Nat} (hj : j ∈ l) : (trackOf (b.each l fun b k => endTrack k b) j).live = false := by
  induction l generalizing b with
  | nil => exact absurd hj List.not_mem_nil
  | cons k l ih =>
    rcases List.mem_cons.1 hj with rfl | hj
    · exact Body.each_keeps (P := fun c => (trackOf c j).live = false) (fun k _ hc => endTrack_keeps_ended k hc) l (endTrack_tracks j b).1
    · exact ih (endTrack k b) hj

/-! ### The timers (R220, R221, R227) -/

theorem ofeCheck_due {c : Body → Bool} {b : Body} (hruns : runsRules b = true) (h : c b = true) (f : Body → Body) :
    ofeCheck c f b = f (ungate b) := if_pos (by rw [hruns, h]; rfl)

theorem ofeCheck_early {c : Body → Bool} {b : Body} (h : runsRules b = false ∨ c b = false) (f : Body → Body) : ofeCheck c f b = b := by
  refine if_neg fun hand => ?_
  obtain ⟨hruns, hdue⟩ := Bool.and_eq_true_iff.1 hand
  rcases h with h | h
  · exact absurd (hruns.symm.trans h) (by decide)
  · exact absurd (hdue.symm.trans h) (by decide)

/-- A check that is not due, or that a standby makes, completes and leaves OFE. -/
theorem does_ofeCheck_early {c : Instr} {s : State} {due : Body → Bool} {f : Body → Body} (hexec : exec c s = onBody (ofeCheck due f) s)
    (hp : powered s.body = true) (h : runsRules s.body = false ∨ due s.body = false) : Does c s (fun b => b.ofe = s.body.ofe) :=
  does_of_unpinned hexec hp (congrArg Body.ofe (ofeCheck_early h f)) fun _ h => h

/-! ### The obligation -/

section DoesControl

variable {s : State} {e : Ev} {rest : List (Nat × Ev)} (hp : powered s.body = true) (hrun : s.body.flag OFE.CTL.RUN = true)
  (hfifo : s.body.ofe.fifo = (2, e) :: rest) (hruns : runsRules s.body = true)
include hp hrun hfifo hruns

theorem does_control {c : Instr} {op : Nat} {f : Nat → Body → Body} {P : Body → Prop} (hexec : exec c s = onBody (controlRow op f) s)
    (hok : controlOk e.payload op = true) (h : P (f e.payload (ofeTaken rest s.body))) (hpins : ∀ b, P b → P (settle b)) : Does c s P :=
  does_of_unpinned hexec hp ((controlRow_ok hfifo hrun hruns hok f).symm ▸ h) hpins

theorem does_control_bad {c : Instr} {op : Nat} {f : Nat → Body → Body} (hexec : exec c s = onBody (controlRow op f) s)
    (hop : e.payload % 2 ^ 8 = op ∨ e.payload % 2 ^ 8 ∉ [1, 2, 3, 4]) (hok : controlOk e.payload op = false) :
    Does c s (CountsBad rest s.body) :=
  does_of_unpinned hexec hp ((controlRow_bad hfifo hrun hruns hop hok f).symm ▸ countsBad_taken rest s.body) fun _ h => h

end DoesControl

/-- Settles O40: a BAY event is `ofeBay_stores`, an operation of CONTROL what `controlRow_ok` runs, a timer `ofeCheck_due`. -/
theorem baysControlsAndOccupancyTimers : Obligations.BaysControlsAndOccupancyTimers := by
  intro s e rest i k hp hi hk p u counted rests
  have hmod : k % 256 = k := Nat.mod_eq_of_lt hk
  have hdrop : exec (.trackDrop k) s = onBody (ofeCheck (dropDue · k) (endTrack k)) s := by
    rw [exec_trackDrop, execTrackDrop, hmod]
  refine ⟨fun hruns hrun hfifo => ⟨fun hres hst hunit hin htoken => ?_, fun hbad => ?_⟩, fun hruns hrun hfifo => ?_,
    fun hruns => ⟨fun hdue => ?_, fun hdue => ?_, fun hdue => ?_⟩, does_ofeCheck_early (exec_presenceHoldExpiry i s) hp,
    does_ofeCheck_early (exec_sensorStuck i s) hp, does_ofeCheck_early hdrop hp⟩
  · have hstores := ofeBay_stores (b := ofeTaken rest s.body) ((bayOk_iff _ p).2 ⟨⟨hres, hst⟩, hunit⟩) hin htoken
    refine does_of_unpinned (exec_bay s) hp ?_ fun _ h => h
    rw [ofeTake_acts hfifo hrun rfl hruns, hstores]
    exact bayStored_shows _ _ _
  · refine does_of_unpinned (exec_bay s) hp ?_ fun _ h => h
    rw [ofeTake_acts hfifo hrun rfl hruns, ofeBay_bad (bayOk_false (b := ofeTaken rest s.body) hbad)]
    exact countsBad_taken _ _
  · have does_ok := @does_control s e rest hp hrun hfifo hruns
    have does_bad := @does_control_bad s e rest hp hrun hfifo hruns
    refine ⟨fun hok => ⟨fun hz => ?_, fun hz => ?_⟩, fun hok => ?_, fun hok => ?_, fun hok => ?_,
      fun hop => does_bad (exec_laZone s) (.inl hop), fun hop => does_bad (exec_dropTracks s) (.inl hop),
      fun hop => does_bad (exec_refreshCounts s) (.inl hop), fun hop => does_bad (exec_clearStuck s) (.inl hop), fun hop => ?_⟩
    · exact does_ok (exec_laZone s) hok (laZone_low hz (ofeTaken rest s.body)) fun _ h => h
    · exact does_ok (exec_laZone s) hok (laZone_high hz (ofeTaken rest s.body)) fun _ h => h
    · exact does_ok (exec_dropTracks s) hok (fun j hj => each_endTrack _ _ (List.mem_range.2 hj)) fun _ h => h
    · exact does_ok (exec_refreshCounts s) hok ⟨rfl, rfl, .of_regs rfl⟩ fun _ h => h
    · exact does_ok (exec_clearStuck s) hok (setStuck_stuck _ _ _) fun _ h => h
    · exact ⟨does_bad (exec_laZone s) (.inr hop) (controlOk_unknown (by decide) hop),
        does_bad (exec_dropTracks s) (.inr hop) (controlOk_unknown (by decide) hop),
        does_bad (exec_refreshCounts s) (.inr hop) (controlOk_unknown (by decide) hop),
        does_bad (exec_clearStuck s) (.inr hop) (controlOk_unknown (by decide) hop)⟩
  · refine does_of_unpinned (exec_presenceHoldExpiry i s) hp ?_ fun _ h => h
    rw [ofeCheck_due hruns hdue, sensorOf_setSensor_same]
    exact ⟨rfl, rfl, rfl⟩
  · refine does_of_unpinned (exec_sensorStuck i s) hp ?_ fun _ h => h
    rw [ofeCheck_due hruns hdue]
    exact ⟨setStuck_stuck _ _ _, fun hfree => setStuck_absent (b := ungate s.body) hfree⟩
  · refine does_of_unpinned hdrop hp ?_ fun _ h => h
    rw [ofeCheck_due hruns hdue]
    exact endTrack_tracks k (ungate s.body)

end Sys2Proof.Machine
end

section
/-! SUPPORT. Scope: O33, the queues of transmit timestamps (R259 to R261): what they read as after a change, and what stands too long. -/

namespace Sys2Proof.Machine

theorem exec_txqEntryStale (p : Nat) (s : State) : exec (.txqEntryStale p) s = execTxqEntryStale p s := rfl

@[simp] theorem txqOf_setTxq_same (b : Body) (p : Nat) (l : List TxTs) : txqOf (setTxq b p l) p = l := tabGet_tabSet_same _ _ _

theorem txqOf_setTxq_other (b : Body) {p q : Nat} (l : List TxTs) (h : q ≠ p) : txqOf (setTxq b p l) q = txqOf b q :=
  tabGet_tabSet_other _ _ h

@[simp] theorem txqOf_put (b : Body) (f : Fld) (v i j p : Nat) : txqOf (b.put f v i j) p = txqOf b p := rfl
@[simp] theorem txqOf_mark (b : Body) (f : Fld) (v : Bool) (i j p : Nat) : txqOf (b.mark f v i j) p = txqOf b p := rfl

/-- An entry has stood in its queue for 2^31 ns, at 26 MHz (R261). -/
def stoodLong (b : Body) (e : TxTs) : Bool := decide (2 ^ 31 * 26 ≤ (b.clock.cyc - e.at_) * 1000)

theorem txqStale_discards {p : Nat} {b : Body} (h : (txqOf b p).any (stoodLong b) = true) :
    txqStale p b = (setTxq b p ((txqOf b p).filter fun e => !stoodLong b e)).mark TB.TXQ_STAT.STALE true p := if_pos h

theorem txqStale_young {p : Nat} {b : Body} (h : (txqOf b p).any (stoodLong b) = false) : txqStale p b = b :=
  if_neg (Bool.eq_false_iff.1 h)

/-- Settles O33: the queue is `txqStale_discards` where an entry has stood for 2^31 ns, and stands by `txqStale_young` where none has. -/
theorem staleTransmitTimestampsAreDiscarded : Obligations.StaleTransmitTimestampsAreDiscarded := by
  intro s p hp hport old
  have hexec : exec (.txqEntryStale p) s = onBody (txqStale p) s := by
    rw [exec_txqEntryStale, execTxqEntryStale, Nat.mod_eq_of_lt hport]
  refine ⟨fun hold => ?_, fun hyoung => ?_⟩
  · refine does_of_unpinned hexec hp ?_ fun _ h => h
    rw [txqStale_discards hold]
    refine ⟨?_, Body.flag_mark_same _ TB.TXQ_STAT.STALE true p 0 rfl (by decide),
      fun r hr => (txqOf_mark _ _ _ _ _ _).trans (txqOf_setTxq_other _ _ hr),
      RegsKept.trans (.of_regs rfl) (.put_at (f := TB.TXQ_STAT.STALE) rfl _ _)⟩
    rw [txqOf_mark, txqOf_setTxq_same]
    rfl
  · refine does_of_unpinned hexec hp ?_ fun _ h => h
    rw [txqStale_young hyoung]
    exact ⟨rfl, .refl s.body⟩

end Sys2Proof.Machine
end

section
/-! SUPPORT. Scope: steps of network time (R262, R265, R266): what a record and a late wake leave alone, and what a step sets. -/

namespace Sys2Proof.Machine

/-! ### What leaves network time alone -/

/-- A register of block TB. -/
abbrev timeReg (a : Nat) : Prop := 0x40200000 ≤ a ∧ a < 0x40300000

/-- From `b` to `c` network time, what TB and the always-on domain hold, and the registers of TB stand. -/
structure NetKept (b c : Body) : Prop where
  tb : c.tb = b.tb
  aon : c.aon = b.aon
  net : c.clock.net = b.clock.net
  regs : RegsKept (fun a => ¬ timeReg a) b c

theorem NetKept.refl (b : Body) : NetKept b b := ⟨rfl, rfl, rfl, .refl b⟩

theorem NetKept.trans {b c e : Body} (h : NetKept b c) (g : NetKept c e) : NetKept b e :=
  ⟨g.tb.trans h.tb, g.aon.trans h.aon, g.net.trans h.net, h.regs.trans g.regs⟩

theorem NetKept.each {α : Type} {f : Body → α → Body} (h : ∀ x c, NetKept c (f c x)) (l : List α) (b : Body) :
    NetKept b (b.each l f) :=
  Body.each_keeps (P := NetKept b) (fun x c hc => hc.trans (h x c)) l (.refl b)

theorem NetKept.put {f : Fld} {i j : Nat} (hf : ¬ timeReg (f.at i j)) (b : Body) (v : Nat) : NetKept b (b.put f v i j) :=
  ⟨rfl, rfl, rfl, .put hf b v⟩

theorem NetKept.air (b : Body) (x : Air) : NetKept b { b with air := x } := ⟨rfl, rfl, rfl, .of_regs rfl⟩

theorem NetKept.late (b : Body) (l : List Nat) (x : Air) :
    NetKept b { b with clock := { b.clock with lateTimes := l }, air := x } := ⟨rfl, rfl, rfl, .of_regs rfl⟩

theorem NetKept.get {b c : Body} (h : NetKept b c) {f : Fld} {i j : Nat} (hf : timeReg (f.at i j)) : c.get f i j = b.get f i j :=
  h.regs.get (not_not.2 hf)

theorem NetKept.flag {b c : Body} (h : NetKept b c) {f : Fld} {i j : Nat} (hf : timeReg (f.at i j)) : c.flag f i j = b.flag f i j :=
  h.regs.flag (not_not.2 hf)

/-- What is told of an error moves neither TB, the always-on domain nor the clock. -/
theorem Told.netKept {b c : Body} (h : Told b c) (hregs : RegsKept errorReg b c) : NetKept b c := by
  have hclock : c.clock = b.clock := h.stands.clock
  obtain ⟨r, x, n, y, k, o, rfl⟩ := h
  exact ⟨rfl, rfl, hclock ▸ rfl, hregs.mono fun a ha hin => by omega⟩

theorem record_netKept (code a0 a1 : Nat) (b : Body) : NetKept b (record code a0 a1 b) :=
  (record_told code a0 a1 b).netKept (record_frame code a0 a1 b).2

/-- A late wake counts in SYS and may raise an error that is not fatal (R83, R89). -/
theorem lateWake_netKept (r : Nat) (b : Body) : NetKept b (lateWake r b) := by
  have hcounted : NetKept b (b.bump SYS.WAKE_LATE.COUNT) := .put (by decide) b _
  have hsev : ∀ a0, severityOf 0x0015 a0 < 3 := fun _ => (by decide : 1 < 3)
  have hslip : ∀ (c : Body) (a0 : Nat), NetKept c (raise 0x0015 a0 0 (c.mark SYS.CLK_FAULT.WAKE_SLIP true)) := fun c a0 =>
    NetKept.trans (.put (by decide) c _) ((raise_told (hsev _) _ _).netKept (raise_frame (hsev _) _ _).2)
  unfold lateWake
  dsimp only
  split
  · exact (hcounted.trans (.late _ _ _)).trans (hslip _ _)
  · exact hcounted.trans (.late _ _ _)

theorem stepWake_netKept (old : Nat) (b : Body) (r : Nat) : NetKept b (stepWake old b r) := by
  unfold stepWake
  dsimp only
  split
  · split
    · exact (lateWake_netKept r b).trans (.air _ _)
    · exact (lateWake_netKept r b).trans (.air _ _)
  · exact .refl b

/-! ### A step -/

/-- Network time after a step of `d` ns, in 2^−40 ns, within the 48 bits of seconds (R262). -/
def netStepped (d : Int) (b : Body) : Nat :=
  (((b.clock.net : Int) + d * 2 ^ 40) % ((2 ^ 48 * 10 ^ 9 * 2 ^ 40 : Nat) : Int)).toNat

def netMoved (d : Int) (b : Body) : Body := { b with clock := { b.clock with net := netStepped d b } }

theorem netMoved_net (d : Int) (b : Body) : (netMoved d b).clock.net = netStepped d b := rfl

theorem netMoved_aon (d : Int) (b : Body) : (netMoved d b).aon = b.aon := rfl

/-- Every queue of timestamps is marked flushed. -/
def flushMarked (b : Body) : Body := b.each [0, 1, 2] fun b p => b.mark TB.TXQ_STAT.FLUSHED true p

/-- The queues of timestamps are empty, and the step's second is noted (R266). -/
def queuesEmptied (b : Body) : Body := { b with tb := { b.tb with txq := [], stepSec := some (tSec b) } }

theorem queuesEmptied_kept {p : Nat → Prop} (b : Body) : RegsKept p b (queuesEmptied b) := .of_regs rfl

theorem queuesEmptied_clock (b : Body) : (queuesEmptied b).clock = b.clock := rfl

theorem queuesEmptied_aon (b : Body) : (queuesEmptied b).aon = b.aon := rfl

/-- Network time has moved by `d` ns and the queues of timestamps are flushed; the record and the wakes are still to come. -/
def stepTaken (d : Int) (b : Body) : Body := (queuesEmptied (flushMarked (netMoved d b))).bump TB.STEPS.COUNT

theorem timeStep_netKept (d : Int) (b : Body) : NetKept (stepTaken d b) (timeStep d b) := by
  have hrecord : NetKept (stepTaken d b) (record 0x0281 (uns 32 d) (uns 64 d / 2 ^ 32) (stepTaken d b)) := record_netKept _ _ _ _
  unfold timeStep
  dsimp only
  split
  · exact (hrecord.trans (.air _ _)).trans (.each (fun r c => stepWake_netKept _ c r) _ _)
  · exact hrecord.trans (.air _ _)

/-- A mark once set stands while others of its kind are set. -/
theorem flag_mark_true_keeps {f : Fld} {b : Body} {r : Nat} (h1 : f.w = 1) (hw : f.lo + f.w ≤ 32) (h : b.flag f r = true) (p : Nat) :
    (b.mark f true p).flag f r = true := by
  by_cases hat : f.at r 0 = f.at p 0
  · have hsame : (b.mark f true p).flag f r = (b.mark f true p).flag f p := by unfold Body.flag Body.get; rw [hat]
    rw [hsame, Body.flag_mark_same b f true p 0 h1 hw]
  · rw [Body.flag_mark_other _ _ _ _ _ _ _ _ hat, h]

/-- A pass that marks the entries of a list leaves each of them marked. -/
theorem each_mark_flag {f : Fld} (h1 : f.w = 1) (hw : f.lo + f.w ≤ 32) (l : List Nat) (b : Body) {r : Nat} (hr : r ∈ l) :
    (b.each l fun b p => b.mark f true p).flag f r = true := by
  induction l generalizing b with
  | nil => exact absurd hr List.not_mem_nil
  | cons p l ih =>
    rcases List.mem_cons.1 hr with rfl | hr
    · exact Body.each_keeps (P := fun c => c.flag f r = true) (fun p _ hc => flag_mark_true_keeps h1 hw hc p) l
        (Body.flag_mark_same b f true r 0 h1 hw)
    · exact ih _ hr

/-- Beside the count of steps, the step leaves the registers as the marks left them. -/
theorem stepTaken_kept (d : Int) (b : Body) : RegsKept (· = TB.STEPS.word.addr) (flushMarked (netMoved d b)) (stepTaken d b) :=
  (queuesEmptied_kept _).trans (.put_at (f := TB.STEPS.COUNT) (i := 0) (j := 0) rfl (queuesEmptied (flushMarked (netMoved d b))) _)

theorem flushMarked_kept (b : Body) : RegsKept (· ≠ TB.STEPS.word.addr) b (flushMarked b) :=
  .each (fun p c => .put (by simp only [Fld.at]; omega) c _) _ b

theorem stepTaken_flushed (d : Int) (b : Body) {r : Nat} (hr : r < 3) : (stepTaken d b).flag TB.TXQ_STAT.FLUSHED r = true := by
  have hapart : TB.TXQ_STAT.FLUSHED.at r 0 ≠ TB.STEPS.word.addr := by simp only [Fld.at]; omega
  have hmem : r ∈ [0, 1, 2] := by simp only [List.mem_cons]; omega
  rw [(stepTaken_kept d b).flag hapart]
  exact each_mark_flag rfl (by decide) [0, 1, 2] (netMoved d b) hmem

theorem stepTaken_steps (d : Int) (b : Body) : (stepTaken d b).get TB.STEPS.COUNT = min (b.get TB.STEPS.COUNT + 1) 0xFFFF := by
  have hcount : (queuesEmptied (flushMarked (netMoved d b))).get TB.STEPS.COUNT = b.get TB.STEPS.COUNT :=
    ((flushMarked_kept (netMoved d b)).trans (queuesEmptied_kept _)).get (by decide)
  rw [stepTaken, Body.get_bump_same _ _ _ _ (by decide), hcount]
  rfl

theorem flushMarked_aon (b : Body) : (flushMarked b).aon = b.aon :=
  Body.each_keeps (P := fun c => c.aon = b.aon) (fun p c hc => (Body.mark_aon c _ true p 0).trans hc) _ rfl

theorem flushMarked_clock (b : Body) : (flushMarked b).clock = b.clock := Body.each_clock (fun p c => Body.mark_clock c _ true p 0) _ b

theorem stepTaken_aon (d : Int) (b : Body) : (stepTaken d b).aon = b.aon := by
  rw [stepTaken, Body.bump_aon, queuesEmptied_aon, flushMarked_aon, netMoved_aon]

theorem stepTaken_net (d : Int) (b : Body) : (stepTaken d b).clock.net = netStepped d b := by
  rw [stepTaken, Body.bump_clock, queuesEmptied_clock, flushMarked_clock, netMoved_net]

/-- What a step leaves: time moved, the queues empty and flushed, one more step, and the always-on domain alone (R262, R265). -/
theorem timeStep_shows (d : Int) (b : Body) : (timeStep d b).clock.net = netStepped d b ∧ (timeStep d b).tb.txq = [] ∧
    (∀ r, r < 3 → (timeStep d b).flag TB.TXQ_STAT.FLUSHED r = true) ∧
    (timeStep d b).get TB.STEPS.COUNT = min (b.get TB.STEPS.COUNT + 1) 0xFFFF ∧ (timeStep d b).aon = b.aon := by
  have h := timeStep_netKept d b
  refine ⟨h.net.trans (stepTaken_net d b), by rw [h.tb]; rfl, fun r hr => ?_, (h.get (by decide)).trans (stepTaken_steps d b),
    h.aon.trans (stepTaken_aon d b)⟩
  have hin : timeReg (TB.TXQ_STAT.FLUSHED.at r 0) := by simp only [Fld.at]; omega
  rw [h.flag hin, stepTaken_flushed d b hr]

/-- Where the stepped time stays within its range, it moves by `d` ns. -/
theorem tnNs_netStepped {d : Int} {b : Body} (hlow : 0 ≤ (b.clock.net : Int) + d * 2 ^ 40)
    (hhigh : (b.clock.net : Int) + d * 2 ^ 40 < (2 ^ 88 * 10 ^ 9 : Nat)) : ((netStepped d b / 2 ^ 40 : Nat) : Int) = tnNs b + d := by
  unfold netStepped tnNs
  rw [Int.emod_eq_of_lt hlow (by norm_num at hhigh ⊢; omega)]
  norm_num at hlow hhigh ⊢
  omega

end Sys2Proof.Machine
end

section
/-! SUPPORT. Scope: O34, what passes to the next LFXO edge (R247, R423), and captures at it (R267, R268). -/

namespace Sys2Proof.Machine

/-! ### To the next LFXO edge -/

/-- From `b` to `c` RAW and the saved correlation record stand. -/
def RawKept (b c : Body) : Prop := c.aon.raw = b.aon.raw ∧ c.aon.corr = b.aon.corr

theorem RawKept.refl (b : Body) : RawKept b b := ⟨rfl, rfl⟩

theorem RawKept.trans {b c e : Body} (h : RawKept b c) (g : RawKept c e) : RawKept b e := ⟨g.1.trans h.1, g.2.trans h.2⟩

theorem RawKept.of_aon {b c : Body} (h : c.aon = b.aon) : RawKept b c := ⟨congrArg Aon.raw h, congrArg Aon.corr h⟩

theorem RawKept.each {α : Type} {f : Body → α → Body} (h : ∀ x c, RawKept c (f c x)) (l : List α) (b : Body) :
    RawKept b (b.each l f) :=
  Body.each_keeps (P := RawKept b) (fun x c hc => hc.trans (h x c)) l (.refl b)

theorem aonRaise_rawKept (i : Nat) (b : Body) : RawKept b (aonRaise i b) := by
  unfold aonRaise
  split
  · exact .refl b
  · exact ⟨rfl, rfl⟩

theorem almFire_rawKept (late : Bool) (b : Body) (i : Nat) : RawKept b (almFire late b i) := by
  have htail : ∀ c : Body, RawKept c (if mainPower c = true then aonRaise i c else c.mark AON.ALM_CTL.OFF true i) := by
    intro c
    split
    · exact aonRaise_rawKept i c
    · exact .of_aon (Body.mark_aon _ _ _ _ _)
  refine RawKept.trans (.of_aon ?_) (htail _)
  cases late with
  | false => exact (Body.mark_aon _ _ _ _ _).trans (Body.mark_aon _ _ _ _ _)
  | true => exact (Body.mark_aon _ _ _ _ _).trans ((Body.mark_aon _ _ _ _ _).trans (Body.mark_aon _ _ _ _ _))

/-- The alarms of an edge fire, whichever of them `due` names. -/
theorem almsFire_rawKept (due late : Body → Nat → Bool) (l : List Nat) (b : Body) :
    RawKept b (b.each l fun b i => if due b i = true then almFire (late b i) b i else b) := by
  refine .each (fun i c => ?_) l b
  split
  · exact almFire_rawKept _ _ _
  · exact .refl c

/-- An edge advances RAW by 1, whatever becomes of TICK and the alarms (R423). -/
theorem lfxoEdge_raw (b : Body) : (lfxoEdge b).aon.raw = (b.aon.raw + 1) % 2 ^ 48 ∧ (lfxoEdge b).aon.corr = b.aon.corr := by
  have halarms := fun c : Body => almsFire_rawKept (fun b i => almLive b i && decide (almVal b i ≤ b.aon.tick))
    (fun b i => decide (almVal b i < b.aon.tick)) [0, 1, 2, 3] c
  have hrecord : ∀ (c : Body) (a0 a1 : Nat),
      RawKept c (record 0x0181 a0 a1 ((c.mark AON.STAT.ADJ_PEND false).wrap AON.ADJ_STAT.COUNT)) := fun c a0 a1 =>
    .of_aon ((record_netKept _ _ _ _).aon.trans ((Body.wrap_aon _ _ _ _).trans (Body.mark_aon _ _ _ _ _)))
  unfold lfxoEdge
  dsimp only
  refine ⟨(halarms _).1.trans ?_, (halarms _).2.trans ?_⟩
  · split
    · rfl
    · exact (hrecord _ _ _).1
  · split
    · rfl
    · exact (hrecord _ _ _).2

/-- LFXO edges arrive: it runs, and its domain is not held in reset (R423, R436). -/
theorem edgesArrive_iff (b : Body) : edgesArrive b = true ↔ b.flag AON.STAT.LFXO_RUN = true ∧ b.aon.held = false := by
  unfold edgesArrive
  rw [Bool.and_eq_true, Bool.not_eq_true']

/-- The alarms that `due` names fire, on time. -/
def alarmsFire (due : Body → Nat → Bool) (b : Body) : Body :=
  b.each [0, 1, 2, 3] fun b i => if due b i = true then almFire false b i else b

theorem alarmsFire_rawKept (due : Body → Nat → Bool) (b : Body) : RawKept b (alarmsFire due b) :=
  almsFire_rawKept due (fun _ _ => false) [0, 1, 2, 3] b

/-- The periodic wake falls on one of the edges, or not (R433). -/
def wakeRaised (wake : Bool) (b : Body) : Body :=
  if wake then (if mainPower b then aonRaise 4 b else b).mark AON.STAT.PWAKE true else b

theorem wakeRaised_rawKept (wake : Bool) (b : Body) : RawKept b (wakeRaised wake b) := by
  unfold wakeRaised
  split
  · refine RawKept.trans ?_ (.of_aon (Body.mark_aon _ _ _ _ _))
    split
    · exact aonRaise_rawKept _ _
    · exact .refl b
  · exact .refl b

/-- `k` further edges move both counters. -/
def edgesCounted (k : Nat) (b : Body) : Body :=
  { b with aon := { b.aon with raw := (b.aon.raw + k) % 2 ^ 48, tick := (b.aon.tick + k) % 2 ^ 48 } }

/-- One edge that arrives: its own work, alarms again, and the periodic wake. -/
theorem lfxoEdges_of_one {b : Body} (h : edgesArrive b = true) : lfxoEdges 1 b = wakeRaised (pwakeDue b b.aon.raw 1)
    (alarmsFire (fun c i => c.flag AON.ALM_CTL.ARM i && decide (almVal c i ≤ (lfxoEdge b).aon.tick + 0))
      (edgesCounted 0 (lfxoEdge b))) := by
  obtain ⟨hrun, hheld⟩ := (edgesArrive_iff b).1 h
  unfold lfxoEdges
  rw [hrun, hheld, if_neg (by decide)]
  rfl

/-- One edge that arrives advances RAW by 1 and leaves the saved correlation. -/
theorem lfxoEdges_one {b : Body} (h : edgesArrive b = true) :
    (lfxoEdges 1 b).aon.raw = (b.aon.raw + 1) % 2 ^ 48 ∧ (lfxoEdges 1 b).aon.corr = b.aon.corr := by
  obtain ⟨hraw, hcorr⟩ := lfxoEdge_raw b
  have hcounted : RawKept (lfxoEdge b) (edgesCounted 0 (lfxoEdge b)) := by
    refine ⟨?_, rfl⟩
    have hcount : (edgesCounted 0 (lfxoEdge b)).aon.raw = (lfxoEdge b).aon.raw % 2 ^ 48 := rfl
    rw [hcount, hraw, Nat.mod_mod]
  have hall : RawKept (lfxoEdge b) (lfxoEdges 1 b) := by
    rw [lfxoEdges_of_one h]
    exact hcounted.trans ((alarmsFire_rawKept _ _).trans (wakeRaised_rawKept _ _))
  exact ⟨hall.1.trans hraw, hall.2.trans hcorr⟩

/-! ### Frames that leave meanwhile -/

theorem noteSpan_aon (t0 : Nat) (b : Body) : (noteSpan t0 b).aon = b.aon := by
  unfold noteSpan
  split <;> rfl

theorem noteSpan_regs (t0 : Nat) (b : Body) : (noteSpan t0 b).regs = b.regs := by
  unfold noteSpan
  split <;> rfl

theorem txStamp_aon (p mtype seq tn cyc : Nat) (b : Body) : (txStamp p mtype seq tn cyc b).aon = b.aon := by
  unfold txStamp
  split
  · rfl
  · dsimp only
    split
    · rw [Body.wrap_aon, Body.mark_aon]
    · rfl

theorem frameLeaves_aon (x : Egress) (start : Nat) (b : Body) : (frameLeaves x start b).aon = b.aon := by
  unfold frameLeaves
  split
  · split <;> rfl
  · dsimp only
    split
    · exact txStamp_aon _ _ _ _ _ _
    · rfl

theorem servePort_aon (n p : Nat) (b : Body) : (servePort n p b).aon = b.aon := by
  induction n generalizing b with
  | zero => rfl
  | succ n ih =>
    unfold servePort
    dsimp only
    split
    · rfl
    · split
      · rfl
      · exact (ih _).trans (frameLeaves_aon _ _ _)

theorem servePorts_aon (b : Body) : (servePorts b).aon = b.aon := by
  unfold servePorts
  split
  · rfl
  · exact Body.each_keeps (P := fun c => c.aon = b.aon) (fun p c hc => (servePort_aon _ p c).trans hc) _ rfl

/-- The cycles to the next edge bring exactly one (R247). -/
theorem cyclesToEdge_one (phase : Nat) :
    (phase % 26000000 + (26000000 - phase % 26000000 + 32767) / 32768 * 32768) / 26000000 = 1 := by
  have hlt : phase % 26000000 < 26000000 := Nat.mod_lt _ (by decide)
  generalize phase % 26000000 = r at hlt ⊢
  omega

/-- TCXO has counted to `cyc`, network time has moved to `net` and the phase of LFXO to `phase`; edges and frames are still to come. -/
def timePassed (cyc net phase : Nat) (b : Body) : Body :=
  { b with clock := { b.clock with cyc := cyc, net := net }, aon := { b.aon with phase := phase } }

theorem timePassed_aon (cyc net phase : Nat) (b : Body) : (timePassed cyc net phase b).aon.raw = b.aon.raw ∧
    (timePassed cyc net phase b).aon.corr = b.aon.corr ∧ (timePassed cyc net phase b).aon.held = b.aon.held := ⟨rfl, rfl, rfl⟩

theorem advance_eq (n : Nat) (b : Body) : ∃ cyc net phase, advance n b =
    servePorts (lfxoEdges ((b.aon.phase % 26000000 + n * 32768) / 26000000) (noteSpan (tnNs b) (timePassed cyc net phase b))) :=
  ⟨_, _, _, rfl⟩

theorem edgesArrive_congr {b c : Body} (hregs : c.regs = b.regs) (hheld : c.aon.held = b.aon.held) : edgesArrive c = edgesArrive b := by
  unfold edgesArrive Body.flag
  rw [Body.get_congr hregs, hheld]

/-- Cycles that bring one edge advance RAW by 1 and leave the saved correlation (R423). -/
theorem advance_raw {n : Nat} {b : Body} (hone : (b.aon.phase % 26000000 + n * 32768) / 26000000 = 1) (h : edgesArrive b = true) :
    (advance n b).aon.raw = (b.aon.raw + 1) % 2 ^ 48 ∧ (advance n b).aon.corr = b.aon.corr := by
  obtain ⟨cyc, net, phase, heq⟩ := advance_eq n b
  obtain ⟨hpassed, hsaved, hheld⟩ := timePassed_aon cyc net phase b
  have haon := noteSpan_aon (tnNs b) (timePassed cyc net phase b)
  have harrive : edgesArrive (noteSpan (tnNs b) (timePassed cyc net phase b)) = true :=
    (edgesArrive_congr (noteSpan_regs _ (timePassed cyc net phase b)) ((congrArg Aon.held haon).trans hheld)).trans h
  obtain ⟨hraw, hcorr⟩ := lfxoEdges_one harrive
  rw [heq, servePorts_aon, hone, hraw, hcorr, haon, hpassed, hsaved]
  exact ⟨rfl, rfl⟩

/-- The time to the next edge advances RAW by 1 and leaves the saved correlation (R267, R423). -/
theorem toEdge_raw {b : Body} (h : edgesArrive b = true) :
    (toEdge b).aon.raw = (b.aon.raw + 1) % 2 ^ 48 ∧ (toEdge b).aon.corr = b.aon.corr := by
  unfold toEdge
  split
  · exact advance_raw (cyclesToEdge_one _) h
  · exact lfxoEdges_one h

end Sys2Proof.Machine
end

section
/-! SUPPORT. Scope: O34, captures (R267, R268) and what the runtime learns from them. -/

namespace Sys2Proof.Machine

/-! ### A capture -/

/-- From `b` to `c` the clock, RAW, the phase, the saved correlation and every register but RTC_RATE and AON.STAT stand. -/
structure Learnt (b c : Body) : Prop where
  clock : c.clock = b.clock
  raw : c.aon.raw = b.aon.raw
  phase : c.aon.phase = b.aon.phase
  corr : c.aon.corr = b.aon.corr
  regs : RegsKept (fun a => a = TB.RTC_RATE.word.addr ∨ a = AON.STAT.word.addr) b c

theorem Learnt.refl (b : Body) : Learnt b b := ⟨rfl, rfl, rfl, rfl, .refl b⟩

theorem Learnt.trans {b c e : Body} (h : Learnt b c) (g : Learnt c e) : Learnt b e :=
  ⟨g.clock.trans h.clock, g.raw.trans h.raw, g.phase.trans h.phase, g.corr.trans h.corr, h.regs.trans g.regs⟩

theorem Learnt.tb (b : Body) (x : Tb) : Learnt b { b with tb := x } := ⟨rfl, rfl, rfl, rfl, .of_regs rfl⟩

theorem learnRate_learnt (b : Body) : Learnt b (learnRate b) := by
  unfold learnRate
  dsimp only
  split
  · exact .tb b _
  · split
    · exact .refl b
    · split
      · exact .tb b _
      · exact (Learnt.tb b _).trans ⟨rfl, rfl, rfl, rfl, .put (.inl rfl) _ _⟩

/-- The registers of the correlation hold RAW and the network time of the last edge (R267). -/
def corrTaken (b : Body) : Body :=
  let tn := edgeNs b
  let c := (b.put TB.CORR_TICK_LO.TICK (b.aon.raw % 2 ^ 32)).put TB.CORR_TICK_HI.TICK (b.aon.raw / 2 ^ 32)
  let c := ((c.put TB.CORR_SEC_LO.SEC (tn / 10 ^ 9 % 2 ^ 32)).put TB.CORR_SEC_HI.SEC (tn / 10 ^ 9 / 2 ^ 32)).put TB.CORR_NS.NS (tn % 10 ^ 9)
  c.mark TB.CORR_CTL.VALID true

/-- The registers of a capture. -/
abbrev corrReg (a : Nat) : Prop := TB.CORR_CTL.word.addr ≤ a ∧ a ≤ TB.CORR_NS.word.addr

theorem corrTaken_kept (b : Body) : RegsKept corrReg b (corrTaken b) :=
  (((((RegsKept.put (by decide) b _).trans (.put (by decide) _ _)).trans (.put (by decide) _ _)).trans (.put (by decide) _ _)).trans
    (.put (by decide) _ _)).trans (.put (by decide) _ _)

theorem corrTaken_aon (b : Body) : (corrTaken b).aon = b.aon := rfl

theorem corrTaken_reads (b : Body) : (corrTaken b).flag TB.CORR_CTL.VALID = true ∧
    (corrTaken b).get TB.CORR_TICK_LO.TICK = b.aon.raw % 2 ^ 32 ∧ (corrTaken b).get TB.CORR_TICK_HI.TICK = b.aon.raw / 2 ^ 32 % 2 ^ 16 ∧
    (corrTaken b).get TB.CORR_NS.NS = edgeNs b % 10 ^ 9 ∧ (corrTaken b).get TB.CORR_SEC_LO.SEC = edgeNs b / 10 ^ 9 % 2 ^ 32 := by
  have hns : edgeNs b % 10 ^ 9 % 2 ^ 32 = edgeNs b % 10 ^ 9 := Nat.mod_eq_of_lt ((Nat.mod_lt _ (by decide)).trans (by decide))
  refine ⟨Body.flag_mark_same _ TB.CORR_CTL.VALID true 0 0 rfl (by decide), ?_, ?_, ?_, ?_⟩
  all_goals
    unfold corrTaken Body.mark
    simp (disch := decide) only [Body.get_put_other, Body.get_put_same, Nat.mod_mod, hns]

theorem edgeNs_congr {b c : Body} (hclock : c.clock = b.clock) (hphase : c.aon.phase = b.aon.phase)
    (hadj : c.get TB.ADJ_FREQ.ADJ = b.get TB.ADJ_FREQ.ADJ) : edgeNs c = edgeNs b := by
  unfold edgeNs
  rw [hclock, hphase, hadj]

theorem edgeNs_le (b : Body) : edgeNs b ≤ tnNs b := Nat.div_le_div_right (Nat.sub_le _ _)

/-- A capture is its registers, and then what the runtime learns and OSF makes of it. -/
theorem capture_learnt (b : Body) : Learnt (corrTaken b) (capture b) := by
  have hlearnt := learnRate_learnt (corrTaken b)
  unfold capture
  dsimp only
  split
  · refine hlearnt.trans ⟨rfl, rfl, rfl, rfl, ?_⟩
    exact RegsKept.trans (.put (f := AON.STAT.OSF) (.inr rfl) _ _) (.of_regs rfl)
  · exact hlearnt

/-- The registers that a capture fills hold RAW and the network time of the last edge (R267). -/
def Captured (c : Body) : Prop :=
  c.flag TB.CORR_CTL.VALID = true ∧ c.get TB.CORR_TICK_LO.TICK + c.get TB.CORR_TICK_HI.TICK * 2 ^ 32 = c.aon.raw ∧
  c.get TB.CORR_NS.NS = edgeNs c % 10 ^ 9 ∧ c.get TB.CORR_SEC_LO.SEC = edgeNs c / 10 ^ 9 % 2 ^ 32

theorem capture_captured {b : Body} (hraw : b.aon.raw < 2 ^ 48) : Captured (capture b) := by
  obtain ⟨hvalid, hlo, hhi, hns, hsec⟩ := corrTaken_reads b
  have h := capture_learnt b
  have hedge : edgeNs (capture b) = edgeNs b :=
    edgeNs_congr h.clock h.phase ((h.regs.get (by decide)).trans ((corrTaken_kept b).get (by decide)))
  have hword : b.aon.raw % 2 ^ 32 + b.aon.raw / 2 ^ 32 % 2 ^ 16 * 2 ^ 32 = b.aon.raw := by omega
  refine ⟨(h.regs.flag (by decide)).trans hvalid, ?_, ?_, ?_⟩
  · rw [h.regs.get (by decide), h.regs.get (by decide), hlo, hhi, h.raw, hword]
    rfl
  · rw [h.regs.get (by decide), hns, hedge]
  · rw [h.regs.get (by decide), hsec, hedge]

/-- A capture at the next LFXO edge, as the two commands have it (R267). -/
theorem captureAtEdge_shows {b : Body} (h : edgesArrive b = true) : Captured (capture (toEdge b)) ∧
    (capture (toEdge b)).aon.raw = (b.aon.raw + 1) % 2 ^ 48 ∧ (capture (toEdge b)).aon.corr = b.aon.corr := by
  obtain ⟨hraw, hcorr⟩ := toEdge_raw h
  have hlearnt := capture_learnt (toEdge b)
  refine ⟨capture_captured (by rw [hraw]; exact Nat.mod_lt _ (by decide)), ?_, ?_⟩
  · rw [hlearnt.raw, corrTaken_aon, hraw]
  · rw [hlearnt.corr, corrTaken_aon, hcorr]

end Sys2Proof.Machine
end

section
/-! SUPPORT. Scope: O34, steps, reads of time, timestamps and correlations as commands (R248, R255, R259 to R268). -/

namespace Sys2Proof.Machine

theorem exec_timeStep (s : State) : exec .timeStep s = execTimeStep s := rfl
theorem exec_timeCap (s : State) : exec .timeCap s = execTimeCap s := rfl
theorem exec_txTimestamp (p mt seq : Nat) (s : State) : exec (.txTimestamp p mt seq) s = execTxTimestamp p mt seq s := rfl
theorem exec_txqPop (p : Nat) (s : State) : exec (.txqPop p) s = execTxqPop p s := rfl
theorem exec_corrCap (s : State) : exec .corrCap s = execCorrCap s := rfl
theorem exec_corrAutoCapture (s : State) : exec .corrAutoCapture s = execCorrAutoCapture s := rfl
theorem exec_corrSave (s : State) : exec .corrSave s = execCorrSave s := rfl

/-- While CCLK is locked the runtime's cores do what a row of theirs says (R89). -/
theorem does_onRuntime {c : Instr} {s : State} {f : Body → Body} {P : Body → Prop} (hexec : exec c s = onRuntime f s)
    (hp : powered s.body = true) (hlock : s.body.flag SYS.CLK_STAT.CCLK_LOCK = true) (h : P (f s.body))
    (hpins : ∀ b, P b → P (settle b)) : Does c s P :=
  does_of_unpinned (f := fun b => if b.flag SYS.CLK_STAT.CCLK_LOCK then f b else b) hexec hp
    (by rw [if_pos hlock]; exact h) hpins

/-! ### A step by command -/

/-- The step that STEP_SEC and STEP_NS name (R265). -/
def namedStep (b : Body) : Int := sgn 32 (b.get TB.STEP_SEC.SEC) * 10 ^ 9 + sgn 32 (b.get TB.STEP_NS.NS)

theorem clampI_of_mem {x lo hi : Int} (hlo : lo ≤ x) (hhi : x ≤ hi) : clampI x lo hi = x := by
  unfold clampI
  rw [min_eq_left hhi, max_eq_right hlo]

theorem stepGo_eq {b : Body} (h : (sgn 32 (b.get TB.STEP_NS.NS)).natAbs < 10 ^ 9) : stepGo b = timeStep (namedStep b) b := by
  unfold stepGo namedStep
  rw [clampI_of_mem (by omega) (by omega)]

/-! ### A read of TIME_CAP -/

/-- The read freezes the seconds and the fraction beside the nanoseconds it answers (R265). -/
theorem timeCap_reads (b : Body) : (timeCap b).1 = tNs b ∧ (timeCap b).2.get TB.TIME_SEC_LO.SEC_LO = tSec b % 2 ^ 32 ∧
    (timeCap b).2.get TB.TIME_SEC_HI.SEC_HI = tSec b / 2 ^ 32 % 2 ^ 16 ∧ (timeCap b).2.get TB.TIME_FRAC.FRAC = tFrac b ∧
    (timeCap b).2.clock = b.clock := by
  have hfrac : tFrac b % 2 ^ 16 = tFrac b := by unfold tFrac; omega
  refine ⟨rfl, ?_, ?_, ?_, rfl⟩
  all_goals
    unfold timeCap
    simp (disch := decide) only [Body.get_put_other, Body.get_put_same, Nat.mod_mod, hfrac]

/-! ### Timestamps -/

section Stamp

variable {p : Nat} {b : Body} (hport : p < 3) (hrun : b.flag TB.CTL.RUN = true) (hen : b.bit TB.CTL.PORT_EN p = true) (mt seq : Nat)
include hport hrun hen

/-- A timestamped frame that leaves an enabled port while TB runs: its stamp finds room, or is dropped and counted (R259). -/
theorem txTimestamp_on : txTimestamp p mt seq b =
    if 8 ≤ (txqOf b p).length then (b.mark TB.TXQ_STAT.OVF true p).wrap TB.TXQ_STAT.DROPPED p
    else setTxq b p (txqOf b p ++ [⟨txId mt seq, uns 32 (outStamp b p), b.clock.cyc⟩]) := by
  have hguard : (!b.flag TB.CTL.RUN || decide (p ≥ 3) || !b.bit TB.CTL.PORT_EN p) = false := by
    rw [hrun, hen, decide_eq_false (not_le.2 hport)]
    rfl
  unfold txTimestamp txStamp
  rw [hguard]
  rfl

theorem txTimestamp_room (hroom : (txqOf b p).length < 8) : txTimestamp p mt seq b =
    setTxq b p (txqOf b p ++ [⟨txId mt seq, uns 32 (outStamp b p), b.clock.cyc⟩]) :=
  (txTimestamp_on hport hrun hen mt seq).trans (if_neg (not_le.2 hroom))

theorem txTimestamp_full (hfull : 8 ≤ (txqOf b p).length) : txTimestamp p mt seq b =
    (b.mark TB.TXQ_STAT.OVF true p).wrap TB.TXQ_STAT.DROPPED p :=
  (txTimestamp_on hport hrun hen mt seq).trans (if_pos hfull)

end Stamp

/-- A stamp that is dropped sets OVF and counts (R259). -/
theorem stampDropped_shows (p : Nat) (b : Body) :
    ((b.mark TB.TXQ_STAT.OVF true p).wrap TB.TXQ_STAT.DROPPED p).flag TB.TXQ_STAT.OVF p = true ∧
    ((b.mark TB.TXQ_STAT.OVF true p).wrap TB.TXQ_STAT.DROPPED p).get TB.TXQ_STAT.DROPPED p =
      (b.get TB.TXQ_STAT.DROPPED p + 1) % 2 ^ 16 := by
  constructor
  · rw [Body.wrap, Body.flag_put_bits _ TB.TXQ_STAT.DROPPED TB.TXQ_STAT.OVF _ _ _ _ _ rfl (by decide) (by decide),
      Body.flag_mark_same b TB.TXQ_STAT.OVF true p 0 rfl (by decide)]
  · rw [Body.wrap, Body.get_put_same _ TB.TXQ_STAT.DROPPED _ _ _ (by decide), Body.mark,
      Body.get_put_bits b TB.TXQ_STAT.OVF TB.TXQ_STAT.DROPPED _ _ _ _ _ rfl (by decide) (by decide)]

theorem uns_cast (i : Int) : (uns 32 i : Int) = i % (2 ^ 32 : Nat) := by
  unfold uns
  omega

/-- The oldest stamp is answered, leaves its queue and shows its time (R259). -/
theorem txqPop_takes {p : Nat} {b : Body} {e : TxTs} {t : List TxTs} (h : txqOf b p = e :: t) : (txqPop p b).1 = 2 ^ 31 + e.id ∧
    txqOf (txqPop p b).2 p = t ∧ (txqPop p b).2.get TB.TXQ_TS.TS32 p = e.ts % 2 ^ 32 := by
  have hqueue : txqOf ((setTxq b p t).put TB.TXQ_TS.TS32 e.ts p) p = t := by rw [txqOf_put, txqOf_setTxq_same]
  have hread : ((setTxq b p t).put TB.TXQ_TS.TS32 e.ts p).get TB.TXQ_TS.TS32 p = e.ts % 2 ^ 32 :=
    Body.get_put_same _ TB.TXQ_TS.TS32 _ _ _ (by decide)
  unfold txqPop
  rw [h]
  dsimp only
  refine ⟨rfl, ?_⟩
  split
  · split
    · exact ⟨hqueue, hread⟩
    · exact ⟨hqueue, hread⟩
  · exact ⟨hqueue, hread⟩

theorem txqPop_empty {p : Nat} {b : Body} (h : txqOf b p = []) : txqPop p b = (0, b) := by
  unfold txqPop
  rw [h]

/-! ### Captures by command -/

theorem corrCap_captures {b : Body} (hntv : ntv b = true) (h : edgesArrive b = true) : corrCap b = capture (toEdge b) :=
  if_pos (by rw [hntv, h]; rfl)

theorem corrCap_idle {b : Body} (h : ntv b = false ∨ b.flag AON.STAT.LFXO_RUN = false ∨ b.aon.held = true) : corrCap b = b := by
  refine if_neg fun hand => ?_
  obtain ⟨hntv, harrive⟩ := Bool.and_eq_true_iff.1 hand
  obtain ⟨hrun, hheld⟩ := (edgesArrive_iff b).1 harrive
  simp [hntv, hrun, hheld] at h

theorem corrAuto_captures {b : Body} (hauto : b.flag TB.CORR_CTL.AUTO = true) (hstate : b.get TB.STAT.STATE = 3)
    (hstep : b.tb.stepSec ≠ some (tSec b)) (h : edgesArrive b = true) : corrAuto b = capture (toEdge b) :=
  if_pos (by rw [hauto, h, decide_eq_true hstate, decide_eq_true hstep]; rfl)

theorem Body.withAon_get (b : Body) (x : Aon) (f : Fld) (i j : Nat) : { b with aon := x }.get f i j = b.get f i j := rfl

/-- The record and its rate stand in retention SRAM, under its tag (R268, R434). -/
def corrStored (b : Body) : Body :=
  { b.put AON.RET_TAG.TAG 0x4B414F4E with
    aon := { b.aon with corr := some ((corrNow b).1, (corrNow b).2, b.get TB.RTC_RATE.RATE) } }

theorem corrSave_stores {b : Body} (hheld : b.aon.held = false) (hvalid : b.flag TB.CORR_CTL.VALID = true) :
    corrSave b = corrStored b := by
  unfold corrSave onAon
  rw [hvalid, hheld]
  rfl

theorem corrStored_tag (b : Body) : (corrStored b).get AON.RET_TAG.TAG = 0x4B414F4E := by
  have hfits : 0x4B414F4E % 2 ^ AON.RET_TAG.TAG.w = 0x4B414F4E := by norm_num
  rw [corrStored, Body.withAon_get, Body.get_put_same _ _ _ _ _ (by decide), hfits]

/-- Settles O34: a step is `timeStep_shows`, a read `timeCap_reads`, the queues are `txTimestamp_room`, `txTimestamp_full` and
`txqPop_takes`, and either capture is `captureAtEdge_shows`. -/
theorem networkTimeStepsAndCaptures : Obligations.NetworkTimeStepsAndCaptures := by
  intro s p mt seq hp hport
  have hpop : exec (.txqPop p) s = onBody (fun b => (txqPop p b).2.answer (txqPop p b).1) s := by
    rw [exec_txqPop, execTxqPop, Nat.mod_eq_of_lt hport]
  refine ⟨fun hns hlow hhigh => ?_, ?_, fun hrun hen => ⟨fun hroom => ?_, fun hfull => ?_⟩, fun e t hqueue => ?_, fun hqueue => ?_,
    fun hlfxo hheld => ?_, fun hidle => ?_, fun hlock hheld hvalid => ?_⟩
  · obtain ⟨hnet, hqueues, hflushed, hsteps, haon⟩ := timeStep_shows (namedStep s.body) s.body
    refine does_of_unpinned (exec_timeStep s) hp ?_ fun _ h => h
    rw [stepGo_eq hns]
    refine ⟨?_, hqueues, hflushed, hsteps, haon⟩
    unfold tnNs
    rw [hnet]
    exact tnNs_netStepped hlow hhigh
  · exact does_of_unpinned (exec_timeCap s) hp ⟨rfl, (timeCap_reads s.body).2⟩ fun _ h => h
  · refine does_of_unpinned (exec_txTimestamp p mt seq s) hp ?_ fun _ h => h
    rw [txTimestamp_room hport hrun hen mt seq hroom]
    exact ⟨_, txqOf_setTxq_same _ _ _, rfl, uns_cast _⟩
  · refine does_of_unpinned (exec_txTimestamp p mt seq s) hp ?_ fun _ h => h
    rw [txTimestamp_full hport hrun hen mt seq hfull]
    exact ⟨(Body.wrap_tb _ _ _ _).trans (Body.mark_tb _ _ _ _ _), stampDropped_shows p s.body⟩
  · exact does_of_unpinned hpop hp ⟨congrArg some (txqPop_takes hqueue).1, (txqPop_takes hqueue).2⟩ fun _ h => h
  · refine does_of_unpinned hpop hp ?_ fun _ h => h
    rw [txqPop_empty hqueue]
    exact ⟨rfl, rfl⟩
  · have harrive := (edgesArrive_iff s.body).2 ⟨hlfxo, hheld⟩
    obtain ⟨⟨hvalid, htick, hns, hsec⟩, hraw, hcorr⟩ := captureAtEdge_shows harrive
    refine ⟨fun hntv => ?_, fun hauto hstate hstep => ?_⟩
    · refine does_of_unpinned (exec_corrCap s) hp ?_ fun _ h => h
      rw [corrCap_captures hntv harrive]
      exact ⟨hvalid, hraw, htick, hns, hsec, edgeNs_le _, hcorr⟩
    · refine does_of_unpinned (exec_corrAutoCapture s) hp ?_ fun _ h => h
      rw [corrAuto_captures hauto hstate hstep harrive]
      exact ⟨hvalid, hraw, htick, hns, hsec, edgeNs_le _, hcorr⟩
  · refine does_of_unpinned (exec_corrCap s) hp ?_ fun _ h => h
    rw [corrCap_idle hidle]
    exact .refl s.body
  · refine does_onRuntime (exec_corrSave s) hp hlock ?_ fun _ h => h
    rw [corrSave_stores hheld hvalid]
    exact ⟨corrStored_tag s.body, rfl⟩

end Sys2Proof.Machine
end

section
/-! SUPPORT. Scope: O35, the clock state (R263, R428), and the offsets that move it (R257, R258, R264). -/

namespace Sys2Proof.Machine

/-! ### The delta that valid time asks for (R428) -/

/-- A register of block AON. -/
abbrev aonReg (a : Nat) : Prop := 0x40100000 ≤ a ∧ a < 0x40200000

/-- From `b` to `c` the clock, what TB holds, and every register outside AON stand. -/
structure AonOnly (b c : Body) : Prop where
  tb : c.tb = b.tb
  clock : c.clock = b.clock
  regs : RegsKept aonReg b c

theorem AonOnly.refl (b : Body) : AonOnly b b := ⟨rfl, rfl, .refl b⟩

theorem AonOnly.trans {b c e : Body} (h : AonOnly b c) (g : AonOnly c e) : AonOnly b e :=
  ⟨g.tb.trans h.tb, g.clock.trans h.clock, h.regs.trans g.regs⟩

theorem AonOnly.put {f : Fld} (hf : aonReg (f.at 0 0)) (b : Body) (v : Nat) : AonOnly b (b.put f v) := ⟨rfl, rfl, .put hf b v⟩

theorem AonOnly.aon (b : Body) (x : Aon) : AonOnly b { b with aon := x } := ⟨rfl, rfl, .of_regs rfl⟩

theorem adjGo_aonOnly (b : Body) : AonOnly b (adjGo b) := by
  unfold adjGo onAon
  split
  · exact .refl b
  · dsimp only
    split
    · exact .put (f := AON.ADJ_STAT.REJ) (by decide) b _
    · exact (AonOnly.put (f := AON.STAT.ADJ_PEND) (by decide) b _).trans (.aon _ _)

theorem osfDelta_aonOnly (b : Body) : AonOnly b (osfDelta b) := by
  have hwrite : ∀ c : Body, AonOnly c (writeDelta c) := by
    intro c
    unfold writeDelta onAon
    split
    · exact .refl c
    · exact ((AonOnly.put (f := AON.ADJ_LO.DELTA) (by decide) c _).trans (.put (f := AON.ADJ_HI.word) (by decide) _ _)).trans
        (adjGo_aonOnly _)
  unfold osfDelta
  split
  · exact (AonOnly.aon b _).trans (hwrite _)
  · exact .refl b

/-! ### The clock state (R263) -/

/-- TB.STAT shows state `n`, with network time valid from ACQUIRE on and RTC time in state RTC alone. -/
def InState (n : Nat) (c : Body) : Prop := c.get TB.STAT.STATE = n ∧ ntv c = decide (2 ≤ n) ∧ rtcv c = decide (n = 1)

theorem InState.of_kept {n : Nat} {b c : Body} (h : InState n b) (hkept : RegsKept (· ≠ TB.STAT.word.addr) b c) : InState n c := by
  obtain ⟨hstate, hntv, hrtcv⟩ := h
  exact ⟨(hkept.get (by decide)).trans hstate, (hkept.flag (f := TB.STAT.NTV) (i := 0) (j := 0) (by decide)).trans hntv,
    (hkept.flag (f := TB.STAT.RTCV) (i := 0) (j := 0) (by decide)).trans hrtcv⟩

/-- The marks of TB.STAT for state `n`. -/
def stateMarked (n : Nat) (b : Body) : Body :=
  ((b.put TB.STAT.STATE n).mark TB.STAT.NTV (decide (n ≥ 2))).mark TB.STAT.RTCV (decide (n = 1))

theorem stateMarked_inState {n : Nat} (hn : n < 8) (b : Body) : InState n (stateMarked n b) := by
  have hfits : n % 2 ^ 3 = n := Nat.mod_eq_of_lt hn
  unfold stateMarked
  refine ⟨?_, ?_, Body.flag_mark_same _ TB.STAT.RTCV _ 0 0 rfl (by decide)⟩
  · unfold Body.mark
    rw [Body.get_put_bits _ TB.STAT.RTCV TB.STAT.STATE _ _ _ _ _ rfl (by decide) (by decide),
      Body.get_put_bits _ TB.STAT.NTV TB.STAT.STATE _ _ _ _ _ rfl (by decide) (by decide), Body.get_put_same _ _ _ _ _ (by decide), hfits]
  · rw [ntv, Body.flag_mark_bits _ TB.STAT.RTCV TB.STAT.NTV _ _ _ _ _ rfl (by decide) (by decide),
      Body.flag_mark_same _ TB.STAT.NTV _ 0 0 rfl (by decide)]

theorem stateMarked_kept (n : Nat) (b : Body) : RegsKept (· = TB.STAT.word.addr) b (stateMarked n b) :=
  ((RegsKept.put_at (f := TB.STAT.STATE) (i := 0) (j := 0) rfl b _).trans (.put_at (f := TB.STAT.NTV) (i := 0) (j := 0) rfl _ _)).trans
    (.put_at (f := TB.STAT.RTCV) (i := 0) (j := 0) rfl _ _)

/-- A change of state shows it, and leaves the clock, what TB holds, and the registers beside TB.STAT and AON (R263). -/
theorem setTimeState_shows {n : Nat} (hn : n < 8) (b : Body) : InState n (setTimeState n b) ∧ (setTimeState n b).tb = b.tb ∧
    (setTimeState n b).clock = b.clock ∧ RegsKept (fun a => a = TB.STAT.word.addr ∨ aonReg a) b (setTimeState n b) := by
  have h : AonOnly (stateMarked n b) (setTimeState n b) := osfDelta_aonOnly _
  refine ⟨(stateMarked_inState hn b).of_kept (h.regs.mono fun a ha => ?_), h.tb, h.clock,
    ((stateMarked_kept n b).mono fun _ ha => .inl ha).trans (h.regs.mono fun _ ha => .inr ha)⟩
  have hstat : ¬ aonReg TB.STAT.word.addr := by decide
  exact fun heq => hstat (heq ▸ ha)

theorem osfDelta_inState {n : Nat} {b : Body} (h : InState n b) : InState n (osfDelta b) := by
  refine h.of_kept ((osfDelta_aonOnly b).regs.mono fun a ha heq => ?_)
  have hstat : ¬ aonReg TB.STAT.word.addr := by decide
  exact hstat (heq ▸ ha)

end Sys2Proof.Machine
end

section
/-! SUPPORT. Scope: O35, offsets and the servo (R257, R258, R264), and the times that move the clock state (R263, R269). -/

namespace Sys2Proof.Machine

/-! ### Signed words -/

theorem sgn_uns32 {x : Int} (hlow : -2147483648 ≤ x) (hhigh : x < 2147483648) : sgn 32 (uns 32 x) = x := by
  unfold sgn uns
  norm_num
  split <;> omega

theorem sgn32_bounds (n : Nat) : -2147483648 ≤ sgn 32 n ∧ sgn 32 n < 2147483648 := by
  unfold sgn
  norm_num
  split <;> omega

theorem uns32_sub_congr (v t : Int) : uns 32 ((uns 32 v : Nat) - t) = uns 32 (v - t) := by
  unfold uns
  norm_num
  omega

/-- A time within 2^31 ns of now is read back from its 32 bits (R258). -/
theorem extendTs_uns {b : Body} {v : Int} (hlow : -2147483648 ≤ v - tnNs b) (hhigh : v - tnNs b < 2147483648) :
    extendTs b (uns 32 v) = v := by
  unfold extendTs
  rw [uns32_sub_congr, sgn_uns32 hlow hhigh]
  omega

/-- A latency of 32 bits in ps moves a stamp by less than 2^31 ns (R255). -/
theorem extendTs_outStamp (b : Body) (p : Nat) : extendTs b (uns 32 (outStamp b p)) = outStamp b p := by
  obtain ⟨hlow, hhigh⟩ := sgn32_bounds (b.get TB.EGR_LAT.PS p)
  refine extendTs_uns ?_ ?_
  all_goals
    unfold outStamp outStampAt
    omega

theorem clampI_bounds {x w : Int} (hw : 0 ≤ w) : -w ≤ clampI x (-w) w ∧ clampI x (-w) w ≤ w := by
  unfold clampI
  omega

theorem clampI_comm (x lo hi : Int) : clampI x lo hi = max lo (min hi x) := by
  unfold clampI
  rw [min_comm]

/-! ### The servo (R264) -/

/-- From `b` to `c` the clock, the integrator and every register but TB.STAT and AON stand. -/
structure Steered (b c : Body) : Prop where
  clock : c.clock = b.clock
  servoI : c.tb.servoI = b.tb.servoI
  regs : RegsKept (fun a => a = TB.STAT.word.addr ∨ aonReg a) b c

theorem Steered.refl (b : Body) : Steered b b := ⟨rfl, rfl, .refl b⟩

theorem Steered.trans {b c e : Body} (h : Steered b c) (g : Steered c e) : Steered b e :=
  ⟨g.clock.trans h.clock, g.servoI.trans h.servoI, h.regs.trans g.regs⟩

theorem setTimeState_steered {n : Nat} (hn : n < 8) (b : Body) : Steered b (setTimeState n b) := by
  obtain ⟨-, htb, hclock, hregs⟩ := setTimeState_shows hn b
  exact ⟨hclock, congrArg Tb.servoI htb, hregs⟩

theorem osfDelta_steered (b : Body) : Steered b (osfDelta b) :=
  ⟨(osfDelta_aonOnly b).clock, congrArg Tb.servoI (osfDelta_aonOnly b).tb, (osfDelta_aonOnly b).regs.mono fun _ h => .inr h⟩

/-- `c` with these runs of offsets within and out of bound (R263). -/
def withRuns (good bad : Nat) (c : Body) : Body := { c with tb := { c.tb with goodRun := good, badRun := bad } }

theorem withRuns_steered (good bad : Nat) (c : Body) : Steered c (withRuns good bad c) := ⟨rfl, rfl, .of_regs rfl⟩

/-- The state machine of R263 once the runs are counted. -/
def stateMoved (good bad : Nat) (c : Body) : Body := match c.get TB.STAT.STATE with
  | 4 => setTimeState 2 c
  | 2 => if good ≥ 16 then { setTimeState 3 c with tb := { c.tb with badRun := 0 } } else c
  | 3 => if bad ≥ 4 then { setTimeState 2 c with tb := { c.tb with goodRun := 0 } } else c
  | _ => c

theorem offsetState_eq (o : Int) (b : Body) : ∃ good bad, offsetState o b = stateMoved good bad (withRuns good bad b) :=
  ⟨if o.natAbs ≤ 1000 then b.tb.goodRun + 1 else 0, if o.natAbs > 10000 then b.tb.badRun + 1 else 0, rfl⟩

/-- A change of state with what TB holds put back but for its runs. -/
theorem stateSet_steered {n : Nat} (hn : n < 8) (c : Body) {x : Tb} (hx : x.servoI = c.tb.servoI) :
    Steered c { setTimeState n c with tb := x } :=
  have h := setTimeState_steered hn c
  ⟨h.clock, hx, h.regs.trans (.of_regs rfl)⟩

theorem stateMoved_steered (good bad : Nat) (c : Body) : Steered c (stateMoved good bad c) := by
  unfold stateMoved
  split
  · exact setTimeState_steered (by decide) _
  · split
    · exact stateSet_steered (n := 3) (by decide) c rfl
    · exact .refl _
  · split
    · exact stateSet_steered (n := 2) (by decide) c rfl
    · exact .refl _
  · exact .refl _

/-- An offset that was not stepped may move the state, and leaves the clock and the integrator (R263). -/
theorem offsetState_steered (o : Int) (b : Body) : Steered b (offsetState o b) := by
  obtain ⟨good, bad, h⟩ := offsetState_eq o b
  rw [h]
  exact (withRuns_steered good bad b).trans (stateMoved_steered good bad _)

/-- The limit of the servo's rate, in ppb. -/
def slewOf (b : Body) : Int := b.get TB.STEP_LIM.SLEW_PPM * 1000

/-- The integral and the whole rate that the servo answers to offset `o`, in ppb (R264). -/
def servoRate (o : Int) (b : Body) : Int × Int :=
  let i := clampI (b.tb.servoI - Int.tdiv ((b.get TB.SERVO.KI : Int) * o) 65536) (-slewOf b) (slewOf b)
  (i, clampI (i - Int.tdiv ((b.get TB.SERVO.KP : Int) * o) 65536) (-slewOf b) (slewOf b))

/-- The whole rate is the integral and the proportional part, within the limit. -/
theorem servoRate_snd (o : Int) (b : Body) : (servoRate o b).2 =
    clampI ((servoRate o b).1 - Int.tdiv ((b.get TB.SERVO.KP : Int) * o) 65536) (-slewOf b) (slewOf b) := rfl

/-- The rate is set and the integral kept. -/
def rateSet (o : Int) (b : Body) : Body :=
  { b.put TB.ADJ_FREQ.ADJ (uns 32 (clampI ((servoRate o b).2 * 1024) (-1024000000) 1024000000)) with
    sha := { b.sha with lastOfs := o }, tb := { b.tb with servoI := (servoRate o b).1 } }

theorem servo_slews {o : Int} {b : Body} (hstate : 2 ≤ b.get TB.STAT.STATE)
    (hsmall : o.natAbs ≤ b.get TB.STEP_LIM.STEP_US * 1000) : servo o b = offsetState o (rateSet o b) :=
  if_neg fun h => h.elim (fun h => absurd hstate (not_le.2 (Nat.lt_succ_of_le h))) fun h => absurd hsmall (not_le.2 h)

/-- Within 1,000 ppm the register holds the rate in 2^−10 ppb. -/
theorem rateSet_adj {o : Int} {b : Body} (hslew : b.get TB.STEP_LIM.SLEW_PPM ≤ 1000) :
    sgn 32 ((rateSet o b).get TB.ADJ_FREQ.ADJ) = 1024 * (servoRate o b).2 := by
  have hlimit : 0 ≤ slewOf b ∧ slewOf b ≤ 1000000 := by
    unfold slewOf
    omega
  obtain ⟨hlow, hhigh⟩ : -slewOf b ≤ (servoRate o b).2 ∧ (servoRate o b).2 ≤ slewOf b := clampI_bounds hlimit.1
  have hget : (rateSet o b).get TB.ADJ_FREQ.ADJ = uns 32 (clampI ((servoRate o b).2 * 1024) (-1024000000) 1024000000) := by
    refine (Body.get_put_same b TB.ADJ_FREQ.ADJ _ 0 0 (by decide)).trans (Nat.mod_eq_of_lt (uns_lt 32 _))
  rw [hget, clampI_of_mem (by omega) (by omega), sgn_uns32 (by omega) (by omega), mul_comm]

/-- A small offset sets ADJ_FREQ and the integral by the servo, and leaves the time (R264). -/
theorem servo_small {o : Int} {b : Body} (hstate : 2 ≤ b.get TB.STAT.STATE) (hsmall : o.natAbs ≤ b.get TB.STEP_LIM.STEP_US * 1000)
    (hslew : b.get TB.STEP_LIM.SLEW_PPM ≤ 1000) : (servo o b).clock = b.clock ∧ (servo o b).tb.servoI = (servoRate o b).1 ∧
    sgn 32 ((servo o b).get TB.ADJ_FREQ.ADJ) = 1024 * (servoRate o b).2 := by
  rw [servo_slews hstate hsmall]
  obtain ⟨hclock, hservo, hregs⟩ := offsetState_steered o (rateSet o b)
  exact ⟨hclock, hservo, by rw [hregs.get (by decide), rateSet_adj hslew]⟩

/-- The step of offset `o` that the runtime takes, and the state it enters (R263, R265). -/
def steppedTo (n : Nat) (d : Int) (b : Body) : Body := setTimeState n (runtimeStep d b)

/-- What a step by the runtime and its state leave: the state, the stepped time, and no timestamps. -/
theorem steppedTo_shows {n : Nat} (hn : n < 8) (d : Int) (b : Body) : InState n (steppedTo n d b) ∧
    (steppedTo n d b).clock.net = netStepped d b ∧ (steppedTo n d b).tb.txq = [] := by
  obtain ⟨hstate, htb, hclock, -⟩ := setTimeState_shows hn (runtimeStep d b)
  obtain ⟨hnet, hempty, -⟩ := timeStep_shows d ((b.put TB.STEP_SEC.SEC (uns 32 (Int.tdiv d (10 ^ 9)))).put TB.STEP_NS.NS
    (uns 32 (Int.tmod d (10 ^ 9))))
  exact ⟨hstate, (congrArg Clock.net hclock).trans hnet, (congrArg Tb.txq htb).trans hempty⟩

theorem servo_steps {o : Int} {b : Body} (hstate : b.get TB.STAT.STATE ≤ 1) :
    InState 2 (servo o b) ∧ (servo o b).tb.txq = [] := by
  have hcond : b.get TB.STAT.STATE ≤ 1 ∨ o.natAbs > b.get TB.STEP_LIM.STEP_US * 1000 := .inl hstate
  obtain ⟨hin, -, hempty⟩ := steppedTo_shows (n := 2) (by decide) (-o) { b with sha := { b.sha with lastOfs := o } }
  have hservo : servo o b = { steppedTo 2 (-o) { b with sha := { b.sha with lastOfs := o } } with
      tb := { (steppedTo 2 (-o) { b with sha := { b.sha with lastOfs := o } }).tb with goodRun := 0, badRun := 0 } } := if_pos hcond
  rw [hservo]
  exact ⟨hin.of_kept (.of_regs rfl), hempty⟩

end Sys2Proof.Machine
end

section
/-! SUPPORT. Scope: O35, accepted pairs, the end of an exchange, and the times that move the clock state (R257, R263, R269). -/

namespace Sys2Proof.Machine

/-! ### Accepted messages -/

/-- What a message of the profile from the master followed is checked for, passed (R249, R257). -/
def FromMaster (b : Body) (port srcId srcPort domain : Nat) : Prop :=
  ptpOn b port domain true = true ∧ fromParent b port srcId srcPort = true

/-- The latest Sync is noted. -/
def syncNoted (m : SyncPair) (b : Body) : Body :=
  { b with tb := { b.tb with lastSync := some ((m.t1 : Int), extendTs b m.rx, m.corr) } }

/-- The offset from the master, of an accepted pair and mean path delay `mpd` (R257). -/
def pairOffset (m : SyncPair) (mpd : Int) (b : Body) : Int :=
  extendTs b m.rx - m.t1 - m.corr - mpd - Int.tdiv (sgn 32 (b.get TB.ASYM.PS m.port)) 1000

theorem syncFollowUp_old {m : SyncPair} {b : Body} (h : 2000 < m.queuedMs) : syncFollowUp m b = b :=
  if_pos (by rw [decide_eq_true h, Bool.or_true])

/-- What becomes of an accepted pair: without a mean path delay its Sync is noted, with one it gives an offset (R257). -/
def pairTaken (m : SyncPair) (b : Body) : Option Int → Body
  | none => syncNoted m b
  | some mpd => osfDelta (servo (pairOffset m mpd b) (syncNoted m b))

theorem syncFollowUp_taken {m : SyncPair} {b : Body} (hprofile : m.profile = true)
    (hfrom : FromMaster b m.port m.srcId m.srcPort m.domain) (hyoung : m.queuedMs ≤ 2000) :
    syncFollowUp m b = pairTaken m b (b.tb.mpd.orElse fun _ => if b.tb.window then some 0 else none) := by
  obtain ⟨hon, hparent⟩ := hfrom
  have hguard : (!ptpOn b m.port m.domain m.profile || !fromParent b m.port m.srcId m.srcPort || decide (m.queuedMs > 2000)) = false := by
    rw [hprofile, hon, hparent, decide_eq_false (not_lt.2 hyoung)]
    rfl
  unfold syncFollowUp
  rw [hguard, if_neg Bool.false_ne_true]
  dsimp only
  generalize (b.tb.mpd.orElse fun _ => if b.tb.window then some 0 else none) = delay
  cases delay <;> rfl

theorem syncFollowUp_accepted {m : SyncPair} {b : Body} {mpd : Int} (hprofile : m.profile = true)
    (hfrom : FromMaster b m.port m.srcId m.srcPort m.domain) (hyoung : m.queuedMs ≤ 2000) (hmpd : b.tb.mpd = some mpd) :
    syncFollowUp m b = osfDelta (servo (pairOffset m mpd b) (syncNoted m b)) := by
  rw [syncFollowUp_taken hprofile hfrom hyoung, hmpd]
  rfl

/-- An accepted pair in FREE or RTC steps the time and enters ACQUIRE (R263, R264). -/
theorem syncFollowUp_acquires {m : SyncPair} {b : Body} {mpd : Int} (hprofile : m.profile = true)
    (hfrom : FromMaster b m.port m.srcId m.srcPort m.domain) (hyoung : m.queuedMs ≤ 2000) (hmpd : b.tb.mpd = some mpd)
    (hstate : b.get TB.STAT.STATE ≤ 1) : InState 2 (syncFollowUp m b) ∧ (syncFollowUp m b).tb.txq = [] := by
  obtain ⟨hin, hempty⟩ := servo_steps (o := pairOffset m mpd b) (b := syncNoted m b) hstate
  rw [syncFollowUp_accepted hprofile hfrom hyoung hmpd]
  exact ⟨osfDelta_inState hin, (congrArg Tb.txq (osfDelta_aonOnly _).tb).trans hempty⟩

/-- A small offset of an accepted pair from ACQUIRE on sets the rate and leaves the time (R264). -/
theorem syncFollowUp_steers {m : SyncPair} {b : Body} {mpd : Int} (hprofile : m.profile = true)
    (hfrom : FromMaster b m.port m.srcId m.srcPort m.domain) (hyoung : m.queuedMs ≤ 2000) (hmpd : b.tb.mpd = some mpd)
    (hstate : 2 ≤ b.get TB.STAT.STATE) (hsmall : (pairOffset m mpd b).natAbs ≤ b.get TB.STEP_LIM.STEP_US * 1000)
    (hslew : b.get TB.STEP_LIM.SLEW_PPM ≤ 1000) : (syncFollowUp m b).clock = b.clock ∧
    (syncFollowUp m b).tb.servoI = (servoRate (pairOffset m mpd b) b).1 ∧
    sgn 32 ((syncFollowUp m b).get TB.ADJ_FREQ.ADJ) = 1024 * (servoRate (pairOffset m mpd b) b).2 := by
  obtain ⟨hclock, hservo, hadj⟩ := servo_small (o := pairOffset m mpd b) (b := syncNoted m b) hstate hsmall hslew
  have hend := osfDelta_steered (servo (pairOffset m mpd b) (syncNoted m b))
  rw [syncFollowUp_accepted hprofile hfrom hyoung hmpd]
  exact ⟨hend.clock.trans hclock, hend.servoI.trans hservo, by rw [hend.regs.get (by decide), hadj]; rfl⟩

/-- A Delay_Resp to the exchange that waits, with its transmit time and a Sync before it, gives the mean path delay (R257). -/
theorem delayResp_completes {m : DelayResp} {b : Body} {t3 : Nat} {t1 t2 c : Int} (hprofile : m.profile = true)
    (hfrom : FromMaster b m.port m.srcId m.srcPort m.domain) (hid : m.reqId = clockId b) (hreq : m.reqPort = m.port + 1)
    (hdreq : b.tb.dreq = some ⟨m.seq, some t3, some (t1, t2, c)⟩) : delayResp m b = { b with tb := { b.tb with
      dreq := none, logMinDreq := m.logMin, mpd := some (Int.tdiv (t2 - t1 - c + (m.t4 - t3 - m.corr)) 2) } } := by
  obtain ⟨hon, hparent⟩ := hfrom
  have hguard : (!ptpOn b m.port m.domain m.profile || !fromParent b m.port m.srcId m.srcPort ||
      decide (m.reqId ≠ clockId b ∨ m.reqPort ≠ m.port + 1)) = false := by
    rw [hprofile, hon, hparent, decide_eq_false (by rintro (h | h) <;> contradiction)]
    rfl
  unfold delayResp
  rw [hguard, hdreq]
  dsimp only [takeT3]
  rw [if_neg (by decide), if_neg (not_not.2 rfl)]

/-! ### The master chosen -/

/-- The master on port `p` is followed, or none. -/
def followed (p : Nat) (a? : Option AnnounceMsg) (b : Body) : Body :=
  { b.put TB.STAT.SLAVE_PORT p with tb := { b.tb with parent := a? } }

/-- Another master starts without a path delay. -/
def delayForgotten (b : Body) : Body := { b with tb := { b.tb with mpd := none, lastSync := none, dreq := none } }

/-- The choice follows what `chooseMaster` names, and may forget the delay. -/
theorem reselect_cases (b : Body) : ∃ p a?, (∀ q a, chooseMaster b = some (q, a) → p = q ∧ a? = some a) ∧
    (reselect b = followed p a? b ∨ reselect b = delayForgotten (followed p a? b)) := by
  cases h : chooseMaster b with
  | none =>
    refine ⟨3, none, fun _ _ hsome => absurd hsome (Option.some_ne_none _).symm, ?_⟩
    unfold reselect
    rw [h]
    exact ite_eq_or_eq _ _ _
  | some g =>
    obtain ⟨p, a⟩ := g
    refine ⟨p, some a, fun q c hsome => ?_, ?_⟩
    · cases hsome
      exact ⟨rfl, rfl⟩
    · unfold reselect
      rw [h]
      exact ite_eq_or_eq _ _ _

/-- The choice of a master leaves the state that TB.STAT shows. -/
theorem reselect_state (b : Body) : (reselect b).get TB.STAT.STATE = b.get TB.STAT.STATE := by
  have hport : ∀ p, (b.put TB.STAT.SLAVE_PORT p).get TB.STAT.STATE = b.get TB.STAT.STATE := fun p =>
    Body.get_put_bits b TB.STAT.SLAVE_PORT TB.STAT.STATE p 0 0 0 0 rfl (by decide) (by decide)
  obtain ⟨p, a?, -, h | h⟩ := reselect_cases b <;> rw [h]
  · exact hport p
  · exact hport p

/-- The choice follows the master that `chooseMaster` names. -/
theorem reselect_chosen {b : Body} {p : Nat} {a : AnnounceMsg} (h : chooseMaster b = some (p, a)) :
    (reselect b).tb.parent = some a ∧ (reselect b).get TB.STAT.SLAVE_PORT = p % 2 ^ 2 ∧ (reselect b).aon = b.aon := by
  have hport : (b.put TB.STAT.SLAVE_PORT p).get TB.STAT.SLAVE_PORT = p % 2 ^ 2 := Body.get_put_same b TB.STAT.SLAVE_PORT p 0 0 (by decide)
  obtain ⟨q, a?, hchosen, heq⟩ := reselect_cases b
  obtain ⟨rfl, rfl⟩ := hchosen p a h
  obtain heq | heq := heq <;> rw [heq]
  · exact ⟨rfl, hport, rfl⟩
  · exact ⟨rfl, hport, rfl⟩

/-! ### Time-driven moves of the state (R263, R269) -/

/-- Sync loss in ACQUIRE or LOCKED: HOLDOVER. -/
theorem syncTimeout_holds {b : Body} (h : b.get TB.STAT.STATE = 2 ∨ b.get TB.STAT.STATE = 3) : InState 4 (syncTimeout b) := by
  set c := reselect { b with tb := { b.tb with
    foreign := b.tb.foreign.filter fun f => f.times.any fun t => decide (b.clock.cyc - t < 3 * 26000000) } } with hc
  have hstate : c.get TB.STAT.STATE = 2 ∨ c.get TB.STAT.STATE = 3 := by
    rw [hc, reselect_state]
    exact h
  have hin := (setTimeState_shows (n := 4) (by decide) (c.put TB.ADJ_FREQ.ADJ (uns 32 (c.tb.servoI * 1024)))).1
  unfold syncTimeout
  dsimp only
  rw [← hc, if_pos hstate]
  exact hin.of_kept (.of_regs rfl)

theorem holdoverExpiry_due {b : Body} {t : Nat} (hat : b.sha.holdAt = some t) (hstate : b.get TB.STAT.STATE = 4)
    (hdue : t + 26000 * 60000 * b.get TB.LIMITS.HOLD_MIN ≤ b.clock.cyc) : holdoverExpiry b = setTimeState 1 b := by
  have hcyc : t + msCyc (60000 * b.get TB.LIMITS.HOLD_MIN) ≤ b.clock.cyc := by
    unfold msCyc
    omega
  unfold holdoverExpiry
  rw [hat]
  exact if_pos ⟨hstate, hcyc⟩

theorem holdoverExpiry_early {b : Body} {t : Nat} (hat : b.sha.holdAt = some t)
    (hearly : b.clock.cyc < t + 26000 * 60000 * b.get TB.LIMITS.HOLD_MIN) : holdoverExpiry b = b := by
  have hcyc : b.clock.cyc < t + msCyc (60000 * b.get TB.LIMITS.HOLD_MIN) := by
    unfold msCyc
    omega
  unfold holdoverExpiry
  rw [hat]
  exact if_neg fun h => absurd h.2 (not_le.2 hcyc)

/-- The acquisition window is closed. -/
def windowClosed (b : Body) : Body := { b with tb := { b.tb with window := false } }

/-- The module is seeded in state RTC, or stays in FREE (R269). -/
def seedTaken (b : Body) : Option Nat → Body
  | some ns => steppedTo 1 ((ns : Int) - tnNs b) (windowClosed b)
  | none => windowClosed b

theorem windowClose_free {b : Body} (hopen : b.tb.window = true) (hstate : b.get TB.STAT.STATE = 0) :
    windowClose b = seedTaken b (rtcSeed b) := by
  have hfree : ¬ (windowClosed b).get TB.STAT.STATE ≠ 0 := not_not.2 hstate
  unfold windowClose
  rw [hopen, if_neg (by decide)]
  refine (if_neg hfree).trans ?_
  split
  · next ns hseed => exact (congrArg (seedTaken b) hseed).symm
  · next hseed => exact (congrArg (seedTaken b) hseed).symm

/-- A valid seed becomes the time, in state RTC (R269). -/
theorem steppedTo_seed {b : Body} {ns : Nat} (hns : ns < 2 ^ 48 * 10 ^ 9) :
    tnNs (steppedTo 1 ((ns : Int) - tnNs b) (windowClosed b)) = ns := by
  obtain ⟨-, hnet, -⟩ := steppedTo_shows (n := 1) (by decide) ((ns : Int) - tnNs b) (windowClosed b)
  have hnow : tnNs (windowClosed b) = tnNs b := rfl
  have hsplit : tnNs b * 2 ^ 40 ≤ b.clock.net ∧ b.clock.net < tnNs b * 2 ^ 40 + 2 ^ 40 := by
    unfold tnNs
    omega
  have hmoved := tnNs_netStepped (d := (ns : Int) - tnNs b) (b := windowClosed b)
    (show 0 ≤ (b.clock.net : Int) + ((ns : Int) - tnNs b) * 2 ^ 40 by omega)
    (show (b.clock.net : Int) + ((ns : Int) - tnNs b) * 2 ^ 40 < (2 ^ 88 * 10 ^ 9 : Nat) by norm_num at hns ⊢; omega)
  rw [tnNs, hnet]
  omega

end Sys2Proof.Machine
end

section
/-! SUPPORT. Scope: O35, the messages of a master and of the slave port (R249, R250, R257, R258, R399), and the first Announce of the
acquisition window (R246, R253). -/

namespace Sys2Proof.Machine

/-! ### Master ports -/

/-- A message that counts came in on an enabled port. -/
theorem ptpOn_enabled {b : Body} {p dom : Nat} (h : ptpOn b p dom true = true) : b.bit TB.CTL.PORT_EN p = true := by
  unfold ptpOn at h
  simp only [Bool.and_eq_true] at h
  exact h.1.2

/-- A ring port that is a master port belongs to a boundary clock, and is enabled while TB runs (R250, R251). -/
theorem portMaster_ring {b : Body} {p : Nat} (hp : p < 2) (h : portMaster b p = true) :
    b.flag TB.CTL.RUN = true ∧ b.bit TB.CTL.PORT_EN p = true ∧ b.flag TB.CTL.BC = true := by
  have hne : p ≠ 2 := by omega
  unfold portMaster at h
  rw [if_neg hne] at h
  simp only [Bool.and_eq_true] at h
  obtain ⟨⟨⟨hrun, hen⟩, -⟩, ⟨⟨-, hbc⟩, -⟩, -⟩ := h
  exact ⟨hrun, hen, hbc⟩

/-- Without a master followed no port is a master port: the module never acts as grandmaster (R250). -/
theorem portMaster_alone {b : Body} (h : b.tb.parent = none) (p : Nat) : portMaster b p = false := by
  unfold portMaster
  rw [h, Option.isSome_none, Bool.and_false, Bool.false_and]

/-! ### The stamp of a Sync, taken again (R260) -/

theorem takeStamp_absent {b : Body} {p id : Nat} (h : ∀ x ∈ txqOf b p, x.id ≠ id) : takeStamp b p id = (none, b) := by
  have hfind : ((txqOf b p).find? fun e => decide (e.id = id)) = none := List.find?_eq_none.2 fun x hx => by simpa using h x hx
  unfold takeStamp
  rw [hfind]

/-- A stamp that has just joined is the one taken where its identifier is new. -/
theorem takeStamp_last {b : Body} {p id : Nat} {l : List TxTs} {e : TxTs} (hqueue : txqOf b p = l ++ [e]) (he : e.id = id)
    (h : ∀ x ∈ l, x.id ≠ id) : takeStamp b p id = (some (extendTs b e.ts).toNat, setTxq b p ((l ++ [e]).erase e)) := by
  have hfind : ((l ++ [e]).find? fun e => decide (e.id = id)) = some e := by
    have hnone : (l.find? fun e => decide (e.id = id)) = none := List.find?_eq_none.2 fun x hx => by simpa using h x hx
    rw [List.find?_append, hnone, Option.none_or, List.find?_singleton, if_pos (decide_eq_true he)]
  unfold takeStamp
  rw [hqueue, hfind]

/-! ### Sync and Follow_Up (R249, R260) -/

/-- The module's Sync on port `p` has left, with the next sequenceId. -/
def syncSent (p : Nat) (b : Body) : Body :=
  { b with tb := { b.tb with seqSync := (b.tb.seqSync + 1) % 65536 } }.emit
    (.ptp p (b.get TB.CTL.DOMAIN) (.sync b.tb.seqSync (sgn 4 (b.get TB.CTL.LOG_SYNC))))

/-- The Follow_Up of Sync `n` leaves where its stamp was found. -/
def followUpSent (p dom n : Nat) (int : Int) : Option Nat × Body → Body
  | (some t, b) => b.emit (.ptp p dom (.followUp n t int))
  | (none, b) => b

theorem syncSend_master {b : Body} {p : Nat} (h : portMaster b p = true) : syncSend p b =
    followUpSent p (b.get TB.CTL.DOMAIN) b.tb.seqSync (sgn 4 (b.get TB.CTL.LOG_SYNC))
      (takeStamp (txTimestamp p 0 b.tb.seqSync (syncSent p b)) p (txId 0 b.tb.seqSync)) := by
  unfold syncSend
  rw [h, if_neg (by decide)]
  dsimp only
  split
  · next t c htaken => exact (congrArg (followUpSent _ _ _ _) htaken).symm
  · next c htaken => exact (congrArg (followUpSent _ _ _ _) htaken).symm

theorem syncSend_idle {b : Body} {p : Nat} (h : portMaster b p = false) : syncSend p b = b := if_pos (by rw [h]; rfl)

theorem txId_sync (n : Nat) : txId 0 n = n % 4096 := by
  unfold txId
  omega

section Sync

variable {b : Body} {p : Nat} (hp : p < 2) (hmaster : portMaster b p = true) (hnew : ∀ e ∈ txqOf b p, e.id ≠ b.tb.seqSync % 4096)
include hp hmaster hnew

/-- With room in the queue the Sync is followed by a Follow_Up with its corrected transmit time. -/
theorem syncSend_room (hroom : (txqOf b p).length < 8) : (syncSend p b).out = b.out ++
    [.ptp p (b.get TB.CTL.DOMAIN) (.sync b.tb.seqSync (sgn 4 (b.get TB.CTL.LOG_SYNC))),
     .ptp p (b.get TB.CTL.DOMAIN) (.followUp b.tb.seqSync (outStamp b p).toNat (sgn 4 (b.get TB.CTL.LOG_SYNC)))] := by
  obtain ⟨hrun, hen, -⟩ := portMaster_ring hp hmaster
  have hport : p < 3 := by omega
  have hstamped := txTimestamp_room (b := syncSent p b) hport hrun hen 0 b.tb.seqSync hroom
  have hqueue : txqOf (txTimestamp p 0 b.tb.seqSync (syncSent p b)) p =
      txqOf b p ++ [⟨txId 0 b.tb.seqSync, uns 32 (outStamp (syncSent p b) p), b.clock.cyc⟩] := by
    rw [hstamped, txqOf_setTxq_same]
    rfl
  have hback : ∀ l, extendTs (setTxq (syncSent p b) p l) (uns 32 (outStamp (syncSent p b) p)) = outStamp b p :=
    fun _ => extendTs_outStamp (syncSent p b) p
  rw [syncSend_master hmaster, takeStamp_last hqueue rfl fun x hx => by rw [txId_sync]; exact hnew x hx, hstamped, followUpSent, hback]
  exact List.append_assoc _ _ _

/-- With the queue full the stamp is dropped, and the Sync has no Follow_Up. -/
theorem syncSend_full (hfull : 8 ≤ (txqOf b p).length) : (syncSend p b).out = b.out ++
    [.ptp p (b.get TB.CTL.DOMAIN) (.sync b.tb.seqSync (sgn 4 (b.get TB.CTL.LOG_SYNC)))] ∧
    (syncSend p b).flag TB.TXQ_STAT.OVF p = true := by
  obtain ⟨hrun, hen, -⟩ := portMaster_ring hp hmaster
  have hport : p < 3 := by omega
  have hstamped := txTimestamp_full (b := syncSent p b) hport hrun hen 0 b.tb.seqSync hfull
  have hqueue : txqOf (txTimestamp p 0 b.tb.seqSync (syncSent p b)) p = txqOf b p := by
    rw [hstamped, Body.wrap, txqOf_put, txqOf_mark]
    rfl
  have htaken := takeStamp_absent (b := txTimestamp p 0 b.tb.seqSync (syncSent p b)) (p := p) (id := txId 0 b.tb.seqSync)
    fun x hx => by rw [txId_sync]; exact hnew x (hqueue ▸ hx)
  rw [syncSend_master hmaster, htaken, hstamped]
  exact ⟨(Body.wrap_out _ _ _ _).trans (Body.mark_out _ _ _ _ _), (stampDropped_shows p (syncSent p b)).1⟩

end Sync

/-! ### The other messages -/

/-- A boundary clock's master port sends the data set it follows, one step further (R250). -/
theorem announceSend_out {b : Body} {p : Nat} {a : AnnounceMsg} (hp : p < 2) (hmaster : portMaster b p = true)
    (hparent : b.tb.parent = some a) : (announceSend p b).out = b.out ++ [.ptp p (b.get TB.CTL.DOMAIN)
      (.announce b.tb.seqAnn 0 { a with steps := a.steps + 1, srcId := clockId b, srcPort := p + 1 })] := by
  obtain ⟨-, -, hbc⟩ := portMaster_ring hp hmaster
  unfold announceSend
  rw [hparent]
  dsimp only
  rw [hmaster, hbc, if_neg (by decide)]
  rfl

theorem announceSend_alone {b : Body} {p : Nat} (h : b.tb.parent = none) : announceSend p b = b := by
  unfold announceSend
  rw [h]

/-- A Delay_Req on a master port is answered with its receive time (R258). -/
theorem delayReq_answered {m : DelayReq} {b : Body} (hprofile : m.profile = true) (hon : ptpOn b m.port m.domain true = true)
    (hmaster : portMaster b m.port = true) (hyoung : m.queuedMs ≤ 2000) : (delayReq m b).out = b.out ++
    [.ptp m.port (b.get TB.CTL.DOMAIN) (.delayResp m.seq m.reqId m.reqPort (extendTs b m.rx).toNat m.corr
      (sgn 4 (b.get TB.CTL.LOG_DREQ)))] := by
  have hguard : (!ptpOn b m.port m.domain m.profile || !portMaster b m.port || decide (m.queuedMs > 2000)) = false := by
    rw [hprofile, hon, hmaster, decide_eq_false (not_lt.2 hyoung)]
    rfl
  unfold delayReq
  rw [hguard]
  rfl

/-- The guard of DELAY_REQ_SEND on an enabled slave port, while TB runs: a blocked port of an ordinary clock (R399). -/
theorem delayReqSend_guard {b : Body} (hport : b.get TB.STAT.SLAVE_PORT < 3) (hrun : b.flag TB.CTL.RUN = true)
    (hen : b.bit TB.CTL.PORT_EN (b.get TB.STAT.SLAVE_PORT) = true) :
    (!b.flag TB.CTL.RUN || decide (b.get TB.STAT.SLAVE_PORT ≥ 3) || !b.bit TB.CTL.PORT_EN (b.get TB.STAT.SLAVE_PORT) ||
      (b.flag SW.PORT_STAT.BLOCKED (b.get TB.STAT.SLAVE_PORT) && !b.flag TB.CTL.BC)) =
    (b.flag SW.PORT_STAT.BLOCKED (b.get TB.STAT.SLAVE_PORT) && !b.flag TB.CTL.BC) := by
  rw [hrun, hen, decide_eq_false (not_le.2 hport)]
  rfl

section DelayReq

variable {b : Body} {p : Nat} (hslave : b.get TB.STAT.SLAVE_PORT = p) (hport : p < 3) (hrun : b.flag TB.CTL.RUN = true)
  (hen : b.bit TB.CTL.PORT_EN p = true)
include hslave hport hrun hen

/-- A new exchange starts from the slave port (R257). -/
theorem delayReqSend_starts (h : b.flag SW.PORT_STAT.BLOCKED p = false ∨ b.flag TB.CTL.BC = true) :
    (delayReqSend b).out = b.out ++ [.ptp p (b.get TB.CTL.DOMAIN) (.delayReq b.tb.seqDelay)] ∧
    (delayReqSend b).tb.dreq = some ⟨b.tb.seqDelay, none, b.tb.lastSync⟩ := by
  subst hslave
  have hopen : (b.flag SW.PORT_STAT.BLOCKED (b.get TB.STAT.SLAVE_PORT) && !b.flag TB.CTL.BC) = false := by
    rcases h with h | h <;> rw [h]
    · rfl
    · exact Bool.and_false _
  unfold delayReqSend
  dsimp only
  rw [delayReqSend_guard hport hrun hen, hopen]
  exact ⟨rfl, rfl⟩

/-- An ordinary clock sends none from a blocked port (R399). -/
theorem delayReqSend_blocked (hblocked : b.flag SW.PORT_STAT.BLOCKED p = true) (hbc : b.flag TB.CTL.BC = false) : delayReqSend b = b := by
  subst hslave
  unfold delayReqSend
  dsimp only
  rw [delayReqSend_guard hport hrun hen, hblocked, hbc]
  rfl

end DelayReq

/-! ### The first Announce of the acquisition window (R253) -/

/-- The Announce of a foreign master heard for the first time, with no other known. -/
def heardFirst (p : Nat) (a : AnnounceMsg) (b : Body) : Body :=
  { b with tb := { b.tb with foreign := [⟨p, a, [b.clock.cyc]⟩] } }

/-- Within the window it qualifies at once, on its own port. -/
theorem mastersOn_heardFirst {p : Nat} {a : AnnounceMsg} {b : Body} (hwindow : b.tb.window = true) (q : Nat) :
    mastersOn (heardFirst p a b) q = if p = q then [(p, a)] else [] := by
  have hwin : (heardFirst p a b).tb.window = true := hwindow
  have hclock : (heardFirst p a b).clock = b.clock := rfl
  have hforeign : (heardFirst p a b).tb.foreign = [⟨p, a, [b.clock.cyc]⟩] := rfl
  unfold mastersOn qualified
  rw [hwin, hclock, hforeign]
  by_cases h : p = q <;> simp [h]

theorem chooseMaster_heardFirst {p : Nat} {a : AnnounceMsg} {b : Body} (hp : p < 2) (hen : b.bit TB.CTL.PORT_EN p = true)
    (hwindow : b.tb.window = true) (hseam : seamTime b = false) : chooseMaster (heardFirst p a b) = some (p, a) := by
  have hseam' : seamTime (heardFirst p a b) = false := hseam
  have hbit : ∀ k, (heardFirst p a b).bit TB.CTL.PORT_EN k = b.bit TB.CTL.PORT_EN k := fun _ => rfl
  unfold chooseMaster
  rw [hseam', Bool.false_and, if_neg (by decide)]
  have hports : ([0, 1].filter fun k => (heardFirst p a b).bit TB.CTL.PORT_EN k).flatMap (mastersOn (heardFirst p a b)) = [(p, a)] := by
    have hcases : p = 0 ∨ p = 1 := by omega
    simp only [List.filter_cons, List.filter_nil, hbit]
    rcases hcases with rfl | rfl
    · rw [if_pos hen]
      split <;> simp [mastersOn_heardFirst hwindow]
    · rw [if_pos hen]
      split <;> simp [mastersOn_heardFirst hwindow]
  rw [hports]
  rfl

/-- The followed master's offset to UTC and flagged leap second are kept (R246, R426). -/
def utcKept (a : AnnounceMsg) (b : Body) : Body :=
  onAon (fun b => (b.put AON.UTC_OFS.OFS a.utcOffset).put AON.UTC_OFS.LEAP (if a.leap61 then 1 else if a.leap59 then 2 else 0)) b

theorem utcKept_shows (a : AnnounceMsg) (b : Body) : (utcKept a b).tb = b.tb ∧
    (utcKept a b).get TB.STAT.SLAVE_PORT = b.get TB.STAT.SLAVE_PORT ∧
    (b.aon.held = false → (utcKept a b).get AON.UTC_OFS.OFS = a.utcOffset % 2 ^ 16) := by
  unfold utcKept onAon
  split
  · next hheld => exact ⟨rfl, rfl, fun h => absurd (h.symm.trans hheld) (by decide)⟩
  · refine ⟨(Body.put_tb _ _ _ _ _).trans (Body.put_tb _ _ _ _ _), ?_, fun _ => ?_⟩
    · rw [Body.get_put_other _ _ _ _ _ _ _ _ (by decide), Body.get_put_other _ _ _ _ _ _ _ _ (by decide)]
    · rw [Body.get_put_bits _ AON.UTC_OFS.LEAP AON.UTC_OFS.OFS _ _ _ _ _ rfl (by decide) (by decide),
        Body.get_put_same _ _ _ _ _ (by decide)]

/-- What the master now followed says of UTC is kept when this Announce is its own, on the slave port. -/
def announceKept (p : Nat) (a : AnnounceMsg) (b : Body) : Body := match b.tb.parent with
  | some q => if q.srcId = a.srcId ∧ q.srcPort = a.srcPort ∧ b.get TB.STAT.SLAVE_PORT = p then utcKept a b else b
  | none => b

section Announce

variable {p : Nat} {a : AnnounceMsg} {b : Body} (hp : p < 2) (hprofile : a.profile = true)
  (hon : ptpOn b p (b.get TB.CTL.DOMAIN) true = true) (hsteps : a.steps < 255) (hown : a.srcId ≠ clockId b)
  (hparent : b.tb.parent = none) (hforeign : b.tb.foreign = [])
include hp hprofile hon hsteps hown hparent hforeign

theorem announce_heardFirst : announce p (b.get TB.CTL.DOMAIN) a b = announceKept p a (reselect (heardFirst p a b)) := by
  have hguard : (!ptpOn b p (b.get TB.CTL.DOMAIN) a.profile || decide (a.steps ≥ 255) || decide (a.srcId = clockId b) ||
      (decide (p = 2) && !seamTime b)) = false := by
    have hne : p ≠ 2 := by omega
    rw [hprofile, hon, decide_eq_false (not_le.2 hsteps), decide_eq_false hown, decide_eq_false hne]
    rfl
  have hheard : heardAgain b.clock.cyc p a b.tb.foreign = [⟨p, a, [b.clock.cyc]⟩] := by rw [hforeign]; rfl
  have hheld : (b.tb.window && b.tb.parent.isSome) = false := by rw [hparent, Option.isSome_none, Bool.and_false]
  unfold announce
  rw [hguard, if_neg (by decide)]
  dsimp only
  rw [hheard, hheld, if_neg (by decide)]
  rfl

/-- The first Announce of the window that keeps to the profile is followed, and its offset to UTC kept (R246, R253). -/
theorem announce_first (hwindow : b.tb.window = true) (hseam : seamTime b = false) :
    (announce p (b.get TB.CTL.DOMAIN) a b).tb.parent = some a ∧ (announce p (b.get TB.CTL.DOMAIN) a b).get TB.STAT.SLAVE_PORT = p ∧
    (b.aon.held = false → (announce p (b.get TB.CTL.DOMAIN) a b).get AON.UTC_OFS.OFS = a.utcOffset % 2 ^ 16) := by
  obtain ⟨hfollow, hslave, haon⟩ := reselect_chosen (chooseMaster_heardFirst (a := a) hp (ptpOn_enabled hon) hwindow hseam)
  have hslave' : (reselect (heardFirst p a b)).get TB.STAT.SLAVE_PORT = p := hslave.trans (Nat.mod_eq_of_lt (by omega))
  have hkept : announceKept p a (reselect (heardFirst p a b)) = utcKept a (reselect (heardFirst p a b)) := by
    unfold announceKept
    rw [hfollow]
    exact if_pos ⟨rfl, rfl, hslave'⟩
  obtain ⟨htb, hport, hofs⟩ := utcKept_shows a (reselect (heardFirst p a b))
  rw [announce_heardFirst hp hprofile hon hsteps hown hparent hforeign, hkept]
  exact ⟨(congrArg Tb.parent htb).trans hfollow, hport.trans hslave', fun hheld => hofs ((congrArg Aon.held haon).trans hheld)⟩

end Announce

end Sys2Proof.Machine
end

section
/-! SUPPORT. Scope: O35, the rows of PTP (R246 to R269, R399), command by command. -/

namespace Sys2Proof.Machine

theorem exec_announce (p dom : Nat) (a : AnnounceMsg) (s : State) : exec (.announce p dom a) s = execAnnounce p dom a s := rfl
theorem exec_announceSend (p : Nat) (s : State) : exec (.announceSend p) s = execAnnounceSend p s := rfl
theorem exec_syncSend (p : Nat) (s : State) : exec (.syncSend p) s = execSyncSend p s := rfl
theorem exec_syncFollowUp (m : SyncPair) (s : State) : exec (.syncFollowUp m) s = execSyncFollowUp m s := rfl
theorem exec_delayReqSend (s : State) : exec .delayReqSend s = execDelayReqSend s := rfl
theorem exec_delayReq (m : DelayReq) (s : State) : exec (.delayReq m) s = execDelayReq m s := rfl
theorem exec_delayResp (m : DelayResp) (s : State) : exec (.delayResp m) s = execDelayResp m s := rfl
theorem exec_syncTimeout (s : State) : exec .syncTimeout s = execSyncTimeout s := rfl
theorem exec_holdoverExpiry (s : State) : exec .holdoverExpiry s = execHoldoverExpiry s := rfl
theorem exec_timeAcqWindowClose (s : State) : exec .timeAcqWindowClose s = execTimeAcqWindowClose s := rfl

section Rows

variable {s : State} (hp : powered s.body = true) (hlock : s.body.flag SYS.CLK_STAT.CCLK_LOCK = true)
include hp hlock

/-- A runtime's row that changes nothing leaves the body as it was. -/
theorem does_onRuntime_idle {c : Instr} {f : Body → Body} {P : Body → Prop} (hexec : exec c s = onRuntime f s)
    (h : f s.body = s.body) (hself : P s.body) (hpins : ∀ b, P b → P (settle b)) : Does c s P :=
  does_onRuntime hexec hp hlock (h.symm ▸ hself) hpins

/-- Without a master followed nothing leaves a port (R250). -/
theorem does_send_alone (hparent : s.body.tb.parent = none) (p : Nat) : Does (.announceSend p) s (fun b => b.out = s.body.out) ∧
    Does (.syncSend p) s (fun b => b.out = s.body.out) :=
  ⟨does_onRuntime_idle hp hlock (exec_announceSend p s) (announceSend_alone hparent) rfl fun _ h => h,
   does_onRuntime_idle hp hlock (exec_syncSend p s) (syncSend_idle (portMaster_alone hparent p)) rfl fun _ h => h⟩

/-- Sync loss (R263). -/
theorem does_syncTimeout (h : s.body.get TB.STAT.STATE = 2 ∨ s.body.get TB.STAT.STATE = 3) :
    Does .syncTimeout s (fun b => b.get TB.STAT.STATE = 4 ∧ ntv b = true) :=
  have hin := syncTimeout_holds h
  does_onRuntime (exec_syncTimeout s) hp hlock ⟨hin.1, hin.2.1⟩ fun _ h => h

/-- The end of HOLDOVER, and a check before it (R263). -/
theorem does_holdoverExpiry {t : Nat} (hstate : s.body.get TB.STAT.STATE = 4) (hat : s.body.sha.holdAt = some t) :
    (t + 26000 * 60000 * s.body.get TB.LIMITS.HOLD_MIN ≤ s.body.clock.cyc →
      Does .holdoverExpiry s (fun b => b.get TB.STAT.STATE = 1 ∧ ntv b = false ∧ rtcv b = true)) ∧
    (s.body.clock.cyc < t + 26000 * 60000 * s.body.get TB.LIMITS.HOLD_MIN →
      Does .holdoverExpiry s (fun b => b.get TB.STAT.STATE = 4)) := by
  refine ⟨fun hdue => ?_, fun hearly => ?_⟩
  · refine does_onRuntime (exec_holdoverExpiry s) hp hlock ?_ fun _ h => h
    rw [holdoverExpiry_due hat hstate hdue]
    exact (setTimeState_shows (n := 1) (by decide) s.body).1
  · exact does_onRuntime_idle hp hlock (exec_holdoverExpiry s) (holdoverExpiry_early hat hearly) hstate fun _ h => h

/-- The window closes without PTP time: in RTC on a valid seed, else in FREE (R269). -/
theorem does_windowClose (hopen : s.body.tb.window = true) (hstate : s.body.get TB.STAT.STATE = 0) :
    (rtcSeed s.body = none → Does .timeAcqWindowClose s (fun b => b.tb.window = false ∧ b.get TB.STAT.STATE = 0)) ∧
    (∀ ns, rtcSeed s.body = some ns → ns < 2 ^ 48 * 10 ^ 9 → Does .timeAcqWindowClose s (fun b =>
      b.get TB.STAT.STATE = 1 ∧ rtcv b = true ∧ tnNs b = ns)) := by
  have hclose := windowClose_free hopen hstate
  refine ⟨fun hseed => ?_, fun ns hseed hns => ?_⟩
  · refine does_onRuntime (exec_timeAcqWindowClose s) hp hlock ?_ fun _ h => h
    rw [hclose, hseed]
    exact ⟨rfl, hstate⟩
  · obtain ⟨⟨hrtc, -, hrtcv⟩, -⟩ := steppedTo_shows (n := 1) (by decide) ((ns : Int) - tnNs s.body) (windowClosed s.body)
    refine does_onRuntime (exec_timeAcqWindowClose s) hp hlock ?_ fun _ h => h
    rw [hclose, hseed]
    exact ⟨hrtc, hrtcv, steppedTo_seed hns⟩

end Rows

/-- Settles O35: each row is its own lemma above, by what its message or time finds. The Follow_Up that leaves with its Sync is the
model's choice (log entry 106); what the stamp's queue holds by then decides whether there is one. -/
theorem ptpFollowsTheMasterOfTheNetwork : Obligations.PtpFollowsTheMasterOfTheNetwork := by
  intro s p a m r q hp hlock hring dom int n
  refine ⟨fun hprofile hon hsteps hown hwindow hparent hforeign hseam => ?_, fun hparent => does_send_alone hp hlock hparent p,
    fun hmaster => ⟨fun hnew => ⟨fun hroom => ?_, fun hfull => ?_⟩, fun hparent => ?_, fun hprofile hon hport hyoung => ?_⟩,
    fun hslave hrun hen => ⟨fun hopen => ?_, fun hblocked hbc => ?_⟩,
    fun t1 t2 c t3 hprofile hon hfrom hid hreq hdreq => ?_, fun hprofile hon hfrom => ⟨fun hold => ?_, fun mpd hyoung hmpd => ?_⟩,
    does_syncTimeout hp hlock, fun t hstate hat => does_holdoverExpiry hp hlock hstate hat, does_windowClose hp hlock⟩
  · exact does_onRuntime (exec_announce p dom a s) hp hlock
      (announce_first hring hprofile hon hsteps hown hparent hforeign hwindow hseam) fun _ h => h
  · exact does_onRuntime (exec_syncSend p s) hp hlock (syncSend_room hring hmaster hnew hroom) fun _ h => h
  · exact does_onRuntime (exec_syncSend p s) hp hlock (syncSend_full hring hmaster hnew hfull) fun _ h => h
  · exact does_onRuntime (exec_announceSend p s) hp hlock (announceSend_out hring hmaster hparent) fun _ h => h
  · subst hport
    exact does_onRuntime (exec_delayReq q s) hp hlock (delayReq_answered hprofile hon hmaster hyoung) fun _ h => h
  · exact does_onRuntime (exec_delayReqSend s) hp hlock (delayReqSend_starts hslave (by omega) hrun hen hopen) fun _ h => h
  · exact does_onRuntime_idle hp hlock (exec_delayReqSend s) (delayReqSend_blocked hslave (by omega) hrun hen hblocked hbc) ⟨rfl, rfl⟩
      fun _ h => h
  · refine does_onRuntime (exec_delayResp r s) hp hlock ?_ fun _ h => h
    rw [delayResp_completes hprofile ⟨hon, hfrom⟩ hid hreq hdreq]
    exact ⟨rfl, rfl, .of_regs rfl⟩
  · exact does_onRuntime_idle hp hlock (exec_syncFollowUp m s) (syncFollowUp_old hold) ⟨rfl, rfl⟩ fun _ h => h
  · intro o slew i adj
    refine ⟨fun hstate => ?_, fun hstate hsmall hslew => ?_⟩
    · obtain ⟨⟨hacquire, hntv, -⟩, hempty⟩ := syncFollowUp_acquires hprofile ⟨hon, hfrom⟩ hyoung hmpd hstate
      exact does_onRuntime (exec_syncFollowUp m s) hp hlock ⟨hacquire, hntv, hempty⟩ fun _ h => h
    · have hi : i = (servoRate o s.body).1 := (clampI_comm _ _ _).symm
      have hadj : adj = (servoRate o s.body).2 := by
        rw [servoRate_snd, ← hi]
        exact (clampI_comm _ _ _).symm
      rw [hi, hadj]
      exact does_onRuntime (exec_syncFollowUp m s) hp hlock
        (syncFollowUp_steers hprofile ⟨hon, hfrom⟩ hyoung hmpd hstate hsmall hslew) fun _ h => h

end Sys2Proof.Machine
end
